-- ==== Sys2Proof/Word.lean ====
section
/-! DEFINITION. The words of the LT460: bytes, symbol numbers, 16-bit sequence numbers. Every other quantity of the
manual is a count, a signed integer in qdB or a name, and has its own type. -/

namespace Sys2Proof

/-- One byte, as carried in a byte slot, a frame or a service message. -/
abbrev Byte := BitVec 8

/-- A symbol number: the 32-bit symbol counter of 00_scope.md, which wraps. -/
abbrev Symbol := BitVec 32

/-- A fault record's sequence, 0 to 65535, which wraps (R149). -/
abbrev Seq := BitVec 16

end Sys2Proof
end

