-- ==== Sys2Proof/Syntax.lean ====
section
/-! DEFINITION. The commands of the LT460: one constructor of `Instr` per row of spec/opcode_table.json, with the
operands the row's rule names. Catalogue commands (R194, 12.5) come in an envelope; `Command` is the record that an
OPERATOR_COMMAND carries (R199). -/

namespace Sys2Proof

/-- The two sources of commands and writes (00_scope.md, Sources): LOCAL and OPERATOR. -/
inductive Source where
  | loc | operator
  deriving DecidableEq, Repr

/-- How a command's body stands to its kind: it fits; it does not fit, or holds a value of the wrong kind (MALFORMED by
the owner's check of form); or the frame's body length is above 1020 (R202). -/
inductive BodyForm where
  | fits | illFitting | overlong
  deriving DecidableEq, Repr

/-- What carries a catalogue command: its source, the tag echoed in the reply (R201) and the form of its body. -/
structure Envelope where
  src  : Source
  tag  : Byte
  form : BodyForm
  deriving DecidableEq, Repr

/-- The telephone ports. -/
inductive PortId where
  | a | b
  deriving DecidableEq, Repr

/-- A port field as a command carries it: port A, port B, or some other value (answered RANGE, R87). -/
inductive PortArg where
  | a | b | other
  deriving DecidableEq, Repr

/-- Directions of a band window (R2). -/
inductive Dir where
  | down | up
  deriving DecidableEq, Repr

/-- Classes of a band window (R2). -/
inductive WClass where
  | carry | quiet
  deriving DecidableEq, Repr

/-- A window record as written by SET_BAND_WINDOW (R8). An enumerated field is none when its value is not one of the
field's names. -/
structure WindowArg where
  number : Nat
  enable : Option Bool
  base   : Nat
  size   : Nat
  dir    : Option Dir
  cls    : Option WClass
  deriving DecidableEq, Repr

/-- The subset of profile fields a SET_PROFILE carries (R42). `upshift` is `some none` when carried with a value other
than OFF or ON. -/
structure ProfileFields where
  gap     : Option Int
  margin  : Option Int
  minMargin : Option Int
  maxBits : Option Int
  floor   : Option Int
  upshift : Option (Option Bool)
  loss    : Option Int
  deriving DecidableEq, Repr

/-- The object classes of R193. -/
inductive ObjClass where
  | lineProfile | portConfig | faultLog | diag | stats | supplyConfig | linkControl
  deriving DecidableEq, Repr

/-- Severities, lowest first (R147). -/
inductive Severity where
  | info | minor | major | critical
  deriving DecidableEq, Repr

/-- The three diagnostic tests (R163). -/
inductive TestKind where
  | loopTest | noiseScan | portTest
  deriving DecidableEq, Repr

/-- The seven flags of 12.3. -/
inductive FlagName where
  | planConflict | accessLocal | accessOperator | noticesLost | snapshotNew | logLost | hostSilent
  deriving DecidableEq, Repr

/-- The tables of READ_TABLE (R207). -/
inductive TableName where
  | loadDown | loadUp | snr | attenuation | noise | faultLog
  deriving DecidableEq, Repr

/-- The scopes of RESET (R209). -/
inductive Scope where
  | full | line
  deriving DecidableEq, Repr

/-- The checks a table or move can fail (R57, R58), coded in R210. -/
inductive Check where
  | role | bits | gain | zeroGain | gainSum | capacity | duplicate
  deriving DecidableEq, Repr

/-- The reshape reasons of R72. -/
inductive Reason where
  | margin | upshift | moveFailed | notch | supply | operator | loc | farEnd
  deriving DecidableEq, Repr

/-- The kinds a TONE message names (R97). An unknown kind is taken as NONE. -/
inductive CallTone where
  | dial | busy | ringback | congestion | nothing
  deriving DecidableEq, Repr

/-- The digits of R93 and R94. -/
inductive Digit where
  | num (n : Fin 10) | star | hash
  deriving DecidableEq, Repr

/-- A load-table entry (R39): b bits, g qdB of fine gain. -/
structure LoadEntry where
  b : Nat
  g : Int
  deriving DecidableEq, Repr

/-- One entry of a MOVE (R58): the tone and its new entry. -/
structure MoveEntry where
  tone  : Nat
  entry : LoadEntry
  deriving DecidableEq, Repr

/-- A MOVE from the exchange unit (R71). -/
structure MoveMsg where
  number   : Byte
  dir      : Dir
  switchAt : Symbol
  entries  : List MoveEntry
  deriving DecidableEq, Repr

/-- What the receiver gives for one downstream symbol in service: whether far-end sync was recognised, how many loaded
tones showed a decision error beyond threshold (R60), the P bytes decoded (R120), and the SNR measurement of each tone
in 1/64 qdB (R47). -/
structure DownSymbol where
  sync    : Bool
  errored : Nat
  bytes   : List Byte
  snr     : List Int
  deriving DecidableEq, Repr

/-- What the receiver gives for one scan symbol of the noise phase (R172): how many of tones 6 to 447 showed an impulse,
and the noise measured on each tone, in 1/64 qdB. -/
structure ScanSymbol where
  impulseTones : Nat
  noise        : List Int
  deriving DecidableEq, Repr

/-- Why a written frame is not taken (R202). -/
inductive NotTaken where
  | incomplete | overlong | tagZero | heldOff
  deriving DecidableEq, Repr

/-- What comes of a frame that the stream port offers (R143): its first byte, or its last byte, with the frame whole. A
frame stands for the arrival of its last byte. -/
abbrev FrameArrival := Option (List Byte)

/-- A command record of the catalogue (12.5) without its envelope, as carried by OPERATOR_COMMAND (R199). -/
inductive Command where
  | lineStart | lineStop
  | setProfile (f : ProfileFields) | getProfile
  | setBandWindow (w : WindowArg) | getBandMap
  | setStrictPlan (v : Option Bool)
  | requestReshape | getLineStatus | getSnapshot
  | portEnable (p : PortArg) | portDisable (p : PortArg) | ringLocal (p : PortArg)
  | intercom (src dst : PortArg) | join | part | getPortStatus (p : PortArg)
  | runDiag (t : Option TestKind) (p : Option PortArg) | abortDiag
  | getDiagResult (t : Option TestKind) (p : Option PortArg)
  | clearLog | setReportThreshold (v : Option Severity)
  | getSupply | setSupplyLimits (low cutoff : Option Int)
  | grant (c : Option ObjClass) | withhold (c : Option ObjClass) | getAccess
  | setSilenceTimer (v : Nat) | getFlags | ackFlags (names : List (Option FlagName))
  | setStatsPeriod (v : Nat)
  | readTable (t : Option TableName) (start count : Nat)
  | reset (scope : Option Scope)
  | unknown (kind : Byte)
  deriving DecidableEq, Repr

/-- One command per row of spec/opcode_table.json. `e` is the envelope of a catalogue command, `p` a port. -/
inductive Instr where
  -- resets and the link
  | powerOn (mainsPresent : Bool) (battery : Nat)
  | coreSupplyCollapse
  | frameNotTaken (why : NotTaken)
  | unknownKindCommand (e : Envelope) (kind : Byte)
  | readTransaction (whole : Bool)
  -- the catalogue
  | lineStart (e : Envelope)
  | lineStop (e : Envelope)
  | setProfile (e : Envelope) (f : ProfileFields)
  | getProfile (e : Envelope)
  | setBandWindow (e : Envelope) (w : WindowArg)
  | getBandMap (e : Envelope)
  | setStrictPlan (e : Envelope) (v : Option Bool)
  | requestReshape (e : Envelope)
  | getLineStatus (e : Envelope)
  | getSnapshot (e : Envelope)
  | portEnable (e : Envelope) (p : PortArg)
  | portDisable (e : Envelope) (p : PortArg)
  | ringLocal (e : Envelope) (p : PortArg)
  | intercom (e : Envelope) (src dst : PortArg)
  | join (e : Envelope)
  | part (e : Envelope)
  | getPortStatus (e : Envelope) (p : PortArg)
  | runDiag (e : Envelope) (t : Option TestKind) (p : Option PortArg)
  | abortDiag (e : Envelope)
  | getDiagResult (e : Envelope) (t : Option TestKind) (p : Option PortArg)
  | clearLog (e : Envelope)
  | setReportThreshold (e : Envelope) (v : Option Severity)
  | getSupply (e : Envelope)
  | setSupplyLimits (e : Envelope) (low cutoff : Option Int)
  | grant (e : Envelope) (c : Option ObjClass)
  | withhold (e : Envelope) (c : Option ObjClass)
  | getAccess (e : Envelope)
  | setSilenceTimer (e : Envelope) (v : Nat)
  | getFlags (e : Envelope)
  | ackFlags (e : Envelope) (names : List (Option FlagName))
  | setStatsPeriod (e : Envelope) (v : Nat)
  | readTable (e : Envelope) (t : Option TableName) (start count : Nat)
  | resetFull (e : Envelope)
  | resetLine (e : Envelope)
  | operatorCommand (tag : Byte) (form : BodyForm) (c : Command)
  -- the service channel and bring-up
  | serviceMessageError
  | enterSounding
  | wakeToneEnd
  | callWindowExpiry
  | answer
  | measurementEnd
  | upTable (number : Byte) (segment : Nat) (entries : List Byte)
  | tableReject (number : Byte) (check : Check) (tone : Nat)
  | switchAck (at_ : Symbol)
  | switchSymbolWithoutAck
  | loadingTimeout
  | enterCarrying
  | holdoffExpiry
  | retryExpiry
  | drop
  -- in service
  | downstreamSymbol (d : DownSymbol)
  | upstreamSymbolFill
  | syncLoss
  | monitoringPeriodEnd
  | erasureWindowClose
  | moveAck (number : Byte) (at_ : Symbol)
  | moveRefuse (number : Byte)
  | moveAnswerTimeout
  | moveSwitch
  | move (m : MoveMsg)
  | upstreamMoveSwitch
  | reshapeOffer (reasons : List Reason)
  | reshapeTimeout
  | reshapeSwitch
  | channelSwitch
  | holdTimeout (p : PortId)
  -- the telephone ports
  | offHook (p : PortId)
  | onHook (p : PortId)
  | breakEnd (p : PortId) (ms : Nat)
  | digitEnd (p : PortId)
  | toneDigit (p : PortId) (d : Digit)
  | dialTimeout (p : PortId)
  | connect (p : PortId)
  | release (p : PortId)
  | tone (p : PortId) (k : CallTone)
  | howlerTimeout (p : PortId)
  | howlerStep (p : PortId)
  | ring (p : PortId) (cadence : Nat)
  | ringStop (p : PortId)
  | ringCadencePhase (p : PortId)
  | localRingTimeout (p : PortId)
  | ringTrip (p : PortId)
  | ringOvercurrent (p : PortId)
  | heatStep (p : PortId)
  | cooldownEnd (p : PortId)
  -- the fault log's delivery
  | reportAck (seq : Seq)
  | reportAckTimeout
  | lastReportDone
  -- the supply
  | mainsSenseChange (present : Bool)
  | batteryThresholdCrossing (level : Nat)
  | enterBattery
  | batteryRecovered
  | enterBatteryLow
  | enterMains
  | enterCutoff
  | shutdownRecovery
  -- the link's timers
  | hostSilenceTimeout
  | statsPeriodExpiry
  -- diagnostics
  | loopTestDone (attenuation : List Int)
  | noisePhaseEnd (scan : List ScanSymbol)
  | noiseScanDone
  | scanImpulseEvent (start : Symbol)
  | portTestDone (ringLoad leakage : Int)
  -- the stream port and the clocks
  | upstreamFrameArrival (frame : FrameArrival)
  | streamPortTakesFrame
  | slowFramingSymbol (byte : Byte) (snr : List Int)
  | sampleTime (a b : Int)
  | timeCounterSecond
  deriving DecidableEq, Repr

end Sys2Proof
end

