-- ==== Sys2Proof/Machine/State.lean ====
section
/-! DEFINITION. The state of the LT460 as plain data: one record per block of 00_scope.md (Block Overview), the records
the part sends (replies, notices, service messages, fault records), the queue of waiting commands, and the state after
POWER_ON with the mains present. Absent values are `none`. Timers that the manual gives in ms or s hold remaining ms;
debounce timers hold elapsed ms; deadlines given in symbols hold a symbol number. -/

namespace Sys2Proof.Machine

/-! ### Names -/

/-- The eight line states (section 2.1), coded in R210. -/
inductive LineState where
  | quiet | sounding | measuring | loading | carrying | reshape | dropped | fallback
  deriving DecidableEq, Repr

/-- The two positions of the relay, and the two values of the relay request (R19, R187). -/
inductive RelayPos where
  | through | part
  deriving DecidableEq, Repr

/-- Why a tone is QUIET, by the step of R4 that applied (R12). -/
inductive QuietCause where
  | fixed | overlay | notch
  deriving DecidableEq, Repr

/-- The resolved role of a tone (R1). QUIET keeps its cause, which queries report (R12). -/
inductive Role where
  | downCarry | upCarry | quiet (why : QuietCause) | unused
  deriving DecidableEq, Repr

/-- Failure and drop causes (R31, R34), coded in R210. -/
inductive Cause where
  | noAnswer | measureFail | lowRate | tableRejected | loadingTimeout | farEnd
  | lossOfSignal | lossOfQuality | reshapeFailed | supply
  deriving DecidableEq, Repr

/-- Causes of an abandoned reshape (R79), coded in R210. -/
inductive AbandonCause where
  | noPayload | rejectedUp | rejectedDown | timeout | supply
  deriving DecidableEq, Repr

/-- The kinds of fault record (R148), coded in R210. -/
inductive FaultKind where
  | lineDrop | trainingFailed | fallbackEntered | reshapeAbandoned | lowRateInService | fenceLocked | fenceLost
  | planConflict | longLoop | ringOvercurrent | ringThermal | portLockedOut | wetWiring | capacityHold | onBattery
  | batteryLow | mainsRestored | supplyCutoff | hostSilent | hostBack | accessRefused
  deriving DecidableEq, Repr

/-- The source field of a fault record (R147). -/
inductive FaultSource where
  | line | portA | portB | supply | access | link
  deriving DecidableEq, Repr

/-- Delivery states of a fault record (R147). -/
inductive Delivery where
  | localOnly | toSend | sent | delivered | undelivered
  deriving DecidableEq, Repr

/-- Voice codec modes (R116): two bytes or one byte per symbol per direction. -/
inductive Mode where
  | full | half
  deriving DecidableEq, Repr

/-- The port states of R85. -/
inductive PortState where
  | disabled | idle | ringing | dialling | connected | held | intercom | joined | parked | tripped | cooldown
  | lockedOut | shed | through
  deriving DecidableEq, Repr

/-- Hook as last declared (R91). -/
inductive Hook where
  | onHook | offHook
  deriving DecidableEq, Repr

/-- Origin of a ring (R85): LINE or LOCAL. -/
inductive Origin where
  | line | loc
  deriving DecidableEq, Repr

/-- The kinds a tone generator plays (R128). `silent` is NONE. -/
inductive ToneKind where
  | dial | busy | ringback | congestion | noService | howler | silent
  deriving DecidableEq, Repr

/-- What a port hears (R97): silence, a tone, the line (with the mix of R125 where joined), or the other port. -/
inductive Heard where
  | silence | tone (k : ToneKind) | line | otherPort
  deriving DecidableEq, Repr

/-- The supply states (R176). -/
inductive SupplyState where
  | mains | battery | batteryLow | cutoff | shutdown
  deriving DecidableEq, Repr

/-- Status codes of a reply (R206). -/
inductive Status where
  | ok | okClamped | okAdjusted | started | busy | wrongState | lineActive | notPermitted | range | planConflict
  | malformed | unknownKind | shed
  deriving DecidableEq, Repr

/-- What the transmitter sends (section 2.1): nothing, the wake tone, slow framing, or in-service symbols. -/
inductive Transmitter where
  | off | wake | framing | service
  deriving DecidableEq, Repr

/-- One tone that the transmitter drives: its number, the bits it carries in the symbol (0 where it carries no data), and
its level against nominal in qdB, none where the manual states no level. -/
structure ToneDrive where
  tone  : Nat
  bits  : Nat
  level : Option Int
  deriving DecidableEq, Repr

/-- What the transmitter drives (R15): nothing, the tones named, or the slow framing, whose tones the manual does not
name (log entry 50). -/
inductive Drive where
  | silent | tones (xs : List ToneDrive) | framing
  deriving DecidableEq, Repr

/-- Tracker states (R80). -/
inductive TrackerState where
  | idle | searching | locked
  deriving DecidableEq, Repr

/-- Signals of a SIGNAL message (R95 to R141). -/
inductive Signal where
  | offHook | onHook | digit (d : Digit) | flash | dialError | capacityHold | capacityResume | ringLimited
  | channel (mode : Option Mode) (at_ : Symbol)
  deriving DecidableEq, Repr

/-! ### Records of the line -/

/-- One band window record (R2). -/
structure Window where
  enable : Bool
  base   : Nat
  size   : Nat
  dir    : Dir
  cls    : WClass
  deriving DecidableEq, Repr

/-- The line profile (R41). -/
structure Profile where
  gap       : Int
  margin    : Int
  minMargin : Int
  maxBits   : Nat
  floor     : Int
  upshift   : Bool
  loss      : Int
  deriving DecidableEq, Repr

/-- The session figures of R16. Seconds in CARRYING follow from `symbols`, 4000 a second. -/
structure Session where
  symbols  : Nat
  severe   : Nat
  reshapes : Nat
  deriving DecidableEq, Repr

/-- A named switch symbol (R29, R77): `placed` says SWITCH was placed in the queue, `acked` that its SWITCH_ACK was taken
in time, `passed` that the symbol went by without one. -/
structure Switch where
  at_    : Symbol
  placed : Bool
  acked  : Bool
  passed : Bool
  deriving DecidableEq, Repr

/-- The UP_TABLE segments held (R23). -/
structure Segments where
  number : Byte
  seg0   : Option (List Byte)
  seg1   : Option (List Byte)
  deriving DecidableEq, Repr

/-- The tone move in flight (R66): built by the part, with the deadline of its answer timer and its switch symbol once
acknowledged; or the exchange unit's, awaiting its switch symbol. -/
inductive MoveFlight where
  | own (number : Byte) (entries : List MoveEntry) (deadline : Symbol) (switchAt : Option Symbol)
  | far (number : Byte) (entries : List MoveEntry) (switchAt : Symbol)
  deriving DecidableEq, Repr

/-- The open reshape (R75 to R77). -/
structure Reshape where
  reasons  : List Reason
  deadline : Symbol
  upTaken  : Bool
  deriving DecidableEq, Repr

/-- The line controller's record (R16), the tables it holds (R40), the exchanges under way and the reshape reasons. -/
structure Line where
  state           : LineState
  attempts        : Nat
  holdoff         : Option Nat
  retry           : Option Nat
  startPending    : Bool
  callsSent       : Nat
  rejections      : Nat
  loadingDeadline : Option Symbol
  segs            : Option Segments
  upValid         : Bool
  switch          : Option Switch
  wakeTone        : Option (List Nat)
  wakeLeft        : Option Nat
  callWindow      : Option Nat
  lastFailure     : Option (Cause × Int)
  session         : Option Session
  request         : RelayPos
  transmitter     : Transmitter
  symbol          : Symbol
  downInForce     : Option (List LoadEntry)
  upInForce       : Option (List LoadEntry)
  downOffered     : Option (List LoadEntry)
  upOffered       : Option (List LoadEntry)
  nextTable       : Byte
  nextMove        : Byte
  move            : Option MoveFlight
  lateMove        : Option Byte
  reasons         : List Reason
  reshape         : Option Reshape
  abandoned       : Nat
  deriving DecidableEq, Repr

/-- The drop snapshot (R36). -/
structure Snapshot where
  cause      : Cause
  seconds    : Nat
  downRate   : Nat
  upRate     : Nat
  worst      : Option Int
  average    : Option Int
  tracker    : TrackerState
  period     : Option Nat
  severe     : Nat
  reshapes   : Nat
  sinceRead  : Nat
  deriving DecidableEq, Repr

/-- The load engine: averages (R45), profiles (R41), and the sums the averages are formed from (R46, R47). -/
structure Load where
  averages        : List (Option Int)
  setProfile      : Profile
  profileInForce  : Profile
  offeredProfile  : Option Profile
  measureSums     : List Int
  measureCount    : Nat
  periodSums      : List Int
  periodCount     : Nat
  deriving DecidableEq, Repr

/-- The band map (R2 to R10). -/
structure Band where
  windows       : List Window
  strict        : Bool
  overlay       : Bool
  conflictFlag  : Bool
  conflictCount : Nat
  offeredMap    : Option (List Role)
  mapInForce    : Option (List Role)
  deriving DecidableEq, Repr

/-- Class counts of a monitoring period (R62). -/
structure ClassCounts where
  clean   : Nat
  errored : Nat
  impulse : Nat
  erased  : Nat
  deriving DecidableEq, Repr

/-- The margin monitor's record (R62) with the decoder's sync-loss run (R61). -/
structure Monitor where
  counts       : ClassCounts
  lastCounts   : Option ClassCounts
  worst        : Option (Int × Nat)
  average      : Option Int
  severeRun    : Nat
  lowRun       : Nat
  highRun      : Nat
  moveFailures : Nat
  syncRun      : Nat
  deriving DecidableEq, Repr

/-- The impulse tracker's record (R80). An event is its start and last IMPULSE symbol; a window its first symbol and
whether it has had its hit. -/
structure Tracker where
  state   : TrackerState
  history : List Symbol
  event   : Option (Symbol × Symbol)
  period  : Option Nat
  next    : Option Symbol
  window  : Option (Symbol × Bool)
  absence : Nat
  stray   : Nat
  deriving DecidableEq, Repr

/-! ### Records of the telephones -/

/-- A ring (R85): cadence, index of the phase (even phases are on), remaining ms of the phase, origin, the caller of a
local ring, and the local ring timer. -/
structure Ring where
  cadence   : Nat
  phase     : Nat
  phaseLeft : Nat
  origin    : Origin
  partner   : Option PortId
  localLeft : Option Nat
  deriving DecidableEq, Repr

/-- A port record (R85), with the TONE last taken in DIALLING (R97) and whether it was taken while the port was the caller
of a local ring, so that its cadence is yet to begin (R130). -/
structure Port where
  state       : PortState
  enable      : Bool
  hook        : Hook
  digit       : Option Nat
  dialTimer   : Option Nat
  announced   : Bool
  heard       : Heard
  lastTone    : Option (CallTone × Bool)
  ring        : Option Ring
  heat        : Nat
  ringAcc     : Nat
  coolAcc     : Nat
  ringLoad    : Nat
  trip        : Option Nat
  cooldown    : Option Nat
  howler      : Option Nat
  shedPending : Bool
  deriving DecidableEq, Repr

/-- A channel record (R116), less its port. -/
structure Channel where
  mode      : Mode
  active    : Bool
  last      : Int × Int
  erasedRun : Nat
  deriving DecidableEq, Repr

/-- A tone generator (R128, R129): kind, sample times since the kind began, howler peak. -/
structure Generator where
  kind : ToneKind
  pos  : Nat
  peak : Nat
  deriving DecidableEq, Repr

/-- The voice path (R116 to R131). -/
structure Voice where
  chanA      : Option Channel
  chanB      : Option Channel
  joinLink   : Bool
  genA       : Generator
  genB       : Generator
  concealedA : Nat
  concealedB : Nat
  micA       : Int × Int
  micB       : Int × Int
  upA        : Int × Int
  upB        : Int × Int
  lineA      : List Int
  lineB      : List Int
  playA      : Int
  playB      : Int
  deriving DecidableEq, Repr

/-- A port's place in the arrangement of voice bytes (R138): none, the live channel's, or that of a channel that has
ended and keeps its slots until its channel switch symbol. -/
inductive Slot where
  | empty | live | ended (mode : Mode) (active : Bool)
  deriving DecidableEq, Repr

/-- What a channel switch symbol does to its port's slot (R138): the channel enters; a channel that ended before its own
switch symbol enters as an ended channel; the slot is given up. -/
inductive SwitchEvent where
  | begin | beginEnded (mode : Mode) (active : Bool) | finish
  deriving DecidableEq, Repr

/-- A channel switch symbol the part has named (R138). -/
structure ChanSwitch where
  port : PortId
  at_  : Symbol
  what : SwitchEvent
  deriving DecidableEq, Repr

/-- The burst queue (R132, R134): the bytes of the message now being sent, and the record a FAULT_REPORT carries. -/
structure Burst where
  bytes  : List Byte
  report : Option Seq
  deriving DecidableEq, Repr

/-- The downstream frame record being assembled (R146): between records; discarding up to the next fill value; the high
length byte taken; or the length known and bytes gathered. The mark says a byte came in an erased symbol. -/
inductive Assembly where
  | idle | skip | high (hi : Byte) (erased : Bool) | body (len : Nat) (bytes : List Byte) (erased : Bool)
  deriving DecidableEq, Repr

/-- The upstream frame in arrival at the stream port (R143): none; one whose last byte it will be taken by; one that the
line's leaving service or a reset has doomed, to be counted at its last byte; one that the closure of the port has cut
off and counted already. -/
inductive Arrival where
  | idle | begun | doomed | cut
  deriving DecidableEq, Repr

/-- The upstream scheduler's record (R132, R138), with the frame in arrival (R143) and the last upstream symbol: its bytes
and what the transmitter drove. -/
structure Sched where
  slotA         : Slot
  slotB         : Slot
  switches      : List ChanSwitch
  burst         : Burst
  lastReport    : Option (List Byte)
  holdA         : Option Nat
  holdB         : Option Nat
  upQueue       : List (List Byte)
  headPlaced    : Nat
  arrival       : Arrival
  downBuffer    : List (List Byte × Bool)
  assembly      : Assembly
  framesLost    : Nat
  framesRefused : Nat
  framesDropped : Nat
  framingErrors : Nat
  framesErased  : Nat
  upSymbol      : List Byte
  upDrive       : Drive
  streamOut     : Option (List Byte × Bool)
  deriving DecidableEq, Repr

/-! ### Fault log and service messages -/

/-- A fault record (R147). -/
structure FaultRecord where
  seq       : Seq
  time      : Nat
  kind      : FaultKind
  severity  : Severity
  source    : FaultSource
  lineState : LineState
  details   : List Int
  delivery  : Delivery
  sends     : Nat
  deriving DecidableEq, Repr

/-- The fault log (R147), with the last report handed to the scheduler (R161). -/
structure Log where
  records    : List FaultRecord
  next       : Seq
  threshold  : Severity
  lost       : Nat
  inFlight   : Option Seq
  ackTimer   : Option Nat
  lastSeq    : Option Seq
  lastPlaced : Bool
  deriving DecidableEq, Repr

/-- A service message the part sends (R22). -/
inductive Msg where
  | confirm
  | downTable (number : Byte) (segment : Nat) (entries : List Byte)
  | tableReject (number : Byte) (check : Check) (tone : Nat)
  | switch (at_ : Symbol)
  | reshapeOffer (reasons : List Reason) (cutback : Nat)
  | move (number : Byte) (entries : List MoveEntry)
  | moveAck (number : Byte) (at_ : Symbol)
  | moveRefuse (number : Byte)
  | signal (p : PortId) (s : Signal)
  | faultReport (r : FaultRecord)
  | operatorReply (tag : Byte) (part : Nat) (final : Bool) (bytes : List Byte)
  deriving DecidableEq, Repr

/-- The service channel (R20, R21): the outbound queue, its counts, the message in arrival (bytes, and whether one came
erased), the message last completed (bytes, and whether it was good), and the symbol of the SWITCH named last where a
SIGNAL displaced it from the queue (R29, R77). -/
structure Service where
  outQ     : List Msg
  rxErrors : Nat
  discards : Nat
  rx       : List Byte × Bool
  rxDone   : Option (List Byte × Bool)
  switchLost : Option Symbol
  deriving DecidableEq, Repr

/-! ### Diagnostics -/

/-- Abort causes of R165. -/
inductive AbortCause where
  | command | offHook | portState | supply | reset
  deriving DecidableEq, Repr

/-- A passing lock test (R82): period in symbols and tolerance. -/
structure Lock where
  period    : Nat
  tolerance : Nat
  deriving DecidableEq, Repr

/-- Values of a DONE result (R170, R173, R175). -/
inductive DiagValues where
  | loop (length : Nat) (a64 a256 : Int) (loss : Int) (clamped : Nat)
  | noise (periodic : Option Lock) (periodMs : Option Nat) (events impulses : Nat) (lowest mean highest : Int)
  | port (ringLoad leakage : Nat) (previous : Nat)
  deriving DecidableEq, Repr

/-- Status and content of a result (R166). -/
inductive DiagOutcome where
  | done (v : DiagValues) | aborted (why : AbortCause)
  deriving DecidableEq, Repr

/-- A result record (R166). -/
structure DiagResult where
  test     : TestKind
  port     : Option PortId
  source   : Source
  outcome  : DiagOutcome
  start    : Nat
  duration : Nat
  deriving DecidableEq, Repr

/-- The running test (R163) with the scan's own working state (R172, R173): `impulse` is the last impulse symbol of the
event taken last. -/
structure RunningTest where
  test     : TestKind
  port     : Option PortId
  source   : Source
  start    : Nat
  elapsed  : Nat
  extended : Bool
  working  : List Int
  impulses : Nat
  history  : List Symbol
  impulse  : Option Symbol
  events   : Nat
  lock     : Option Lock
  deriving DecidableEq, Repr

/-- The diagnostic engine (R163). A table is its 448 entries and the start time of its run. -/
structure Diag where
  running     : Option RunningTest
  loop        : Option DiagResult
  noise       : Option DiagResult
  portA       : Option DiagResult
  portB       : Option DiagResult
  attenuation : Option (List Int × Nat)
  noiseTable  : Option (List Int × Nat)
  deriving DecidableEq, Repr

/-! ### Supply and access -/

/-- The supply record (R176). `mains` is true for PRESENT; `relay` true for ENERGISED (at PART). -/
structure Supply where
  state       : SupplyState
  mains       : Bool
  battery     : Nat
  low         : Nat
  cutoff      : Nat
  lowReturn   : Nat
  tAbsence    : Option Nat
  tPresence   : Option Nat
  tLow        : Option Nat
  tCutoff     : Option Nat
  tReturn     : Option Nat
  tRecovery   : Option Nat
  mainsLostAt : Option Nat
  budget      : Nat
  cutback     : Nat
  hold        : Bool
  relay       : Bool
  deriving DecidableEq, Repr

/-- One row of the permission table (R193). -/
structure ClassPerm where
  locRead  : Bool
  locWrite : Bool
  opRead   : Bool
  opWrite  : Bool
  deriving DecidableEq, Repr

/-- The permission table (R193), one row per object class. -/
structure Perms where
  lineProfile  : ClassPerm
  portConfig   : ClassPerm
  faultLog     : ClassPerm
  diag         : ClassPerm
  stats        : ClassPerm
  supplyConfig : ClassPerm
  linkControl  : ClassPerm
  deriving DecidableEq, Repr

/-- A violation record (R193). -/
structure Violation where
  flag  : Bool
  count : Nat
  last  : Option ObjClass
  deriving DecidableEq, Repr

/-- The access table (R193). -/
structure Access where
  perms   : Perms
  locViol : Violation
  opViol  : Violation
  deriving DecidableEq, Repr

/-! ### Replies and notices -/

/-- A run of a resolution (R12). -/
structure Run where
  first : Nat
  last  : Nat
  role  : Role
  deriving DecidableEq, Repr

/-- The seven flags (12.3). -/
structure Flags where
  planConflict   : Bool
  accessLocal    : Bool
  accessOperator : Bool
  noticesLost    : Bool
  snapshotNew    : Bool
  logLost        : Bool
  hostSilent     : Bool
  deriving DecidableEq, Repr

/-- The scheduler's figures of R142. -/
structure SchedFigures where
  u : Option Nat
  p : Option Nat
  c : Option Nat
  v : Nat
  allocA : Nat
  allocB : Nat
  framesLost : Nat
  framesRefused : Nat
  framesDropped : Nat
  framingErrors : Nat
  framesErased : Nat
  upFrames : Nat
  downFrames : Nat
  deriving DecidableEq, Repr

/-- GET_LINE_STATUS's fields (R37, R142). Times in seconds. -/
structure LineStatus where
  state : LineState
  attempts : Nat
  startPending : Bool
  holdoff : Option Nat
  retry : Option Nat
  request : RelayPos
  relay : RelayPos
  callsSent : Nat
  rejections : Nat
  lastFailure : Option (Cause × Int)
  downRate : Option Nat
  upRate : Option Nat
  seconds : Option Nat
  rxErrors : Nat
  discards : Nat
  sched : SchedFigures
  deriving DecidableEq, Repr

/-- GET_PORT_STATUS's fields (R115, R131, R142). Times in ms. -/
structure PortStatus where
  state : PortState
  enable : Bool
  hook : Hook
  digit : Option Nat
  dial : Option Nat
  cooldown : Option Nat
  howler : Option Nat
  announced : Bool
  heard : Heard
  ring : Option (Nat × Origin × Option PortId × Option Nat)
  heat : Nat
  ringLoad : Nat
  trip : Option Nat
  joinLink : Bool
  shedPending : Bool
  mode : Option Mode
  active : Option Bool
  erasedRun : Option Nat
  tone : ToneKind
  howlerPeak : Option Nat
  concealed : Nat
  hold : Option Nat
  deriving DecidableEq, Repr

/-- The debounce timers, by name (R177). -/
inductive DebounceName where
  | absence | presence | low | cutoff | return_ | recovery
  deriving DecidableEq, Repr

/-- GET_SUPPLY's fields (R190). -/
structure SupplyStatus where
  state : SupplyState
  mains : Bool
  battery : Nat
  low : Nat
  cutoff : Nat
  lowReturn : Nat
  budget : Nat
  cutback : Nat
  overlay : Bool
  dataOpen : Bool
  supplyHold : Bool
  silenceHold : Bool
  drive : Bool
  relay : RelayPos
  sinceLost : Option Nat
  timers : List (DebounceName × Nat)
  deriving DecidableEq, Repr

/-- The header fields of a READ_TABLE reply (R207). -/
inductive TableHeader where
  | load (present : Bool)
  | snr
  | measured (present : Bool) (start : Option Nat)
  | log (held : Nat) (next : Seq) (lost : Nat) (threshold : Severity) (inFlight : Option Seq)
  deriving DecidableEq, Repr

/-- The fields of a reply behind its status byte, as each command's rule names them. -/
inductive ReplyBody where
  | none
  | profile (p : Profile)
  | profiles (setP inForce : Profile) (offered : Option Profile)
  | window (w : Window)
  | bandMap (windows : List Window) (strict overlay flag : Bool) (count : Nat) (configured : List Run)
      (inForce : Option (List Run))
  | lineStatus (s : LineStatus)
  | snapshot (slot : Option Snapshot)
  | portStatus (s : PortStatus)
  | diagResult (slot : Option DiagResult) (running : Option Nat)
  | removed (n : Nat)
  | threshold (previous : Severity)
  | supply (s : SupplyStatus)
  | limits (low cutoff lowReturn : Nat)
  | permission (before after : Bool)
  | access (perms : Perms) (grantable : List ObjClass) (loc op : Violation)
  | flags (f : Flags) (noticesLost framingErrors replies notices : Nat)
  | flagsCleared (names : List FlagName) (f : Flags)
  | table (t : TableName) (start count : Nat) (header : TableHeader) (entries : List (List Byte))
  | reset (scope : Scope) (time : Nat)
  deriving DecidableEq, Repr

/-- A reply (R201, R206). -/
structure Reply where
  tag    : Byte
  kind   : Byte
  status : Status
  body   : ReplyBody
  deriving DecidableEq, Repr

/-- The events of a PORT_EVENT notice (R115). -/
inductive PortEvent where
  | state (old new : PortState) | offHook | onHook | digit (d : Digit) (pulse : Bool) | flash | dialError
  deriving DecidableEq, Repr

/-- The figures of a STATS notice (R208). -/
structure Stats where
  monitor : Option Monitor
  sched : SchedFigures
  concealedA : Nat
  concealedB : Nat
  localOnly : Nat
  toSend : Nat
  sent : Nat
  delivered : Nat
  undelivered : Nat
  lost : Nat
  supply : SupplyState
  battery : Nat
  dataOpen : Bool
  supplyHold : Bool
  silenceHold : Bool
  locViol : Violation
  opViol : Violation
  noticesLost : Nat
  framingErrors : Nat
  deriving DecidableEq, Repr

/-- A notice (R204), with the fields its owner's rule gives. -/
inductive Notice where
  | lineState (new old : LineState) (attempts : Nat) (cause : Option Cause) (reasons : List Reason)
  | bandMap (changed : Nat)
  | rateChange (down up : Nat) (modeA modeB : Option Mode)
  | portEvent (p : PortId) (e : PortEvent) (line : LineState) (mode : Option Mode)
  | fault (r : FaultRecord) (kept : Bool)
  | diagDone (r : DiagResult)
  | supplyState (old : Option SupplyState) (new : SupplyState) (battery budget cutback : Nat)
      (dataOpen supplyHold silenceHold : Bool)
  | fence (s : TrackerState) (period : Option Nat)
  | ringLimited (p : PortId) (ringLoad budget : Nat)
  | stats (s : Stats)
  deriving DecidableEq, Repr

/-- The frame a read transaction returns (R203). -/
inductive OutFrame where
  | reply (r : Reply) | notice (n : Notice) | empty
  deriving DecidableEq, Repr

/-- The message link (R191, R192, R202 to R208). The model's own `writeStatus` and `out` show what the host last read: the
link status byte of a write transaction (R202) and the frame of a read transaction (R203). -/
structure Link where
  replies          : List Reply
  notices          : List Notice
  noticesLost      : Bool
  snapshotNew      : Bool
  logLost          : Bool
  hostSilent       : Bool
  noticesLostCount : Nat
  framingErrors    : Nat
  silenceSetting   : Nat
  silenceTimer     : Option Nat
  silenceCount     : Nat
  lastFrameAt      : Nat
  silenceHold      : Bool
  statsPeriod      : Nat
  statsTimer       : Option Nat
  writeStatus      : Option Byte
  out              : Option OutFrame
  deriving DecidableEq, Repr

/-! ### The part and the machine -/

/-- Everything the part holds: one field per block of 00_scope.md. `running` is false after a collapse of the core supply
(R186); `time` is the time counter (R147). -/
structure Part where
  running  : Bool
  time     : Nat
  line     : Line
  snapshot : Option Snapshot
  load     : Load
  band     : Band
  monitor  : Monitor
  tracker  : Tracker
  portA    : Port
  portB    : Port
  voice    : Voice
  sched    : Sched
  svc      : Service
  log      : Log
  diag     : Diag
  supply   : Supply
  access   : Access
  link     : Link
  deriving DecidableEq, Repr

/-- The machine: the part, and the commands waiting for it, first in, first out. -/
structure State where
  pending : List Instr
  part    : Part
  deriving DecidableEq, Repr

/-- Reasons the machine stops for good. The manual names none: no meaning raises this. Safe. -/
inductive Fault where
  /-- Raised by nobody: the spec gives the block no condition that stops it without a next state. Safe. -/
  | noneNamed
  deriving DecidableEq, Repr

/-- Reasons a command is refused by the model. -/
inductive Refusal where
  /-- Raised only by an arm of `exec` whose command has no meaning yet, by its mnemonic. Safe. -/
  | notModelled (mnemonic : String)
  deriving DecidableEq, Repr

/-! ### The state after POWER_ON -/

/-- The default profile (R41). -/
def Profile.default : Profile where
  gap := 38
  margin := 24
  minMargin := 4
  maxBits := 12
  floor := 256
  upshift := true
  loss := 60

/-- The line record after every kind of reset, with both counters at 0 (R16, R23, R68). -/
def Line.initial : Line where
  state := .quiet
  attempts := 0
  holdoff := none
  retry := none
  startPending := false
  callsSent := 0
  rejections := 0
  loadingDeadline := none
  segs := none
  upValid := false
  switch := none
  wakeTone := none
  wakeLeft := none
  callWindow := none
  lastFailure := none
  session := none
  request := .through
  transmitter := .off
  symbol := 0
  downInForce := none
  upInForce := none
  downOffered := none
  upOffered := none
  nextTable := 0
  nextMove := 0
  move := none
  lateMove := none
  reasons := []
  reshape := none
  abandoned := 0

/-- No average for any of the 448 tones (R45). -/
def noAverages : List (Option Int) := List.replicate 448 none

/-- The load engine after POWER_ON (R41, R45). -/
def Load.initial : Load where
  averages := noAverages
  setProfile := .default
  profileInForce := .default
  offeredProfile := none
  measureSums := []
  measureCount := 0
  periodSums := []
  periodCount := 0

/-- The reset plan (R3). -/
def resetPlan : List Window :=
  [⟨true, 0, 32, .up, .carry⟩, ⟨true, 32, 32, .down, .carry⟩, ⟨true, 64, 64, .down, .carry⟩,
   ⟨true, 128, 128, .down, .carry⟩, ⟨true, 256, 256, .down, .carry⟩,
   ⟨false, 0, 4, .down, .quiet⟩, ⟨false, 0, 4, .down, .quiet⟩, ⟨false, 0, 4, .down, .quiet⟩]

/-- The band map after POWER_ON (R3). -/
def Band.initial : Band where
  windows := resetPlan
  strict := false
  overlay := false
  conflictFlag := false
  conflictCount := 0
  offeredMap := none
  mapInForce := none

/-- No symbol counted. -/
def ClassCounts.zero : ClassCounts := ⟨0, 0, 0, 0⟩

/-- The cleared monitor record (R62). -/
def Monitor.initial : Monitor where
  counts := .zero
  lastCounts := none
  worst := none
  average := none
  severeRun := 0
  lowRun := 0
  highRun := 0
  moveFailures := 0
  syncRun := 0

/-- The tracker outside service (R80). -/
def Tracker.initial : Tracker where
  state := .idle
  history := []
  event := none
  period := none
  next := none
  window := none
  absence := 0
  stray := 0

/-- A port record after POWER_ON, in the given state (R86). -/
def Port.initial (st : PortState) : Port where
  state := st
  enable := false
  hook := .onHook
  digit := none
  dialTimer := none
  announced := false
  heard := .silence
  lastTone := none
  ring := none
  heat := 0
  ringAcc := 0
  coolAcc := 0
  ringLoad := 3
  trip := none
  cooldown := none
  howler := none
  shedPending := false

/-- A silent generator (R116). -/
def Generator.silent : Generator := ⟨.silent, 0, 500⟩

/-- The voice path after POWER_ON (R116, R131). -/
def Voice.initial : Voice where
  chanA := none
  chanB := none
  joinLink := false
  genA := .silent
  genB := .silent
  concealedA := 0
  concealedB := 0
  micA := (0, 0)
  micB := (0, 0)
  upA := (0, 0)
  upB := (0, 0)
  lineA := []
  lineB := []
  playA := 0
  playB := 0

/-- The scheduler after POWER_ON (R132). -/
def Sched.initial : Sched where
  slotA := .empty
  slotB := .empty
  switches := []
  burst := ⟨[], none⟩
  lastReport := none
  holdA := none
  holdB := none
  upQueue := []
  headPlaced := 0
  arrival := .idle
  downBuffer := []
  assembly := .idle
  framesLost := 0
  framesRefused := 0
  framesDropped := 0
  framingErrors := 0
  framesErased := 0
  upSymbol := []
  upDrive := .silent
  streamOut := none

/-- The service channel after POWER_ON (R21). -/
def Service.initial : Service where
  outQ := []
  rxErrors := 0
  discards := 0
  rx := ([], false)
  rxDone := none
  switchLost := none

/-- The fault log after POWER_ON (R147). -/
def Log.initial : Log where
  records := []
  next := 1
  threshold := .minor
  lost := 0
  inFlight := none
  ackTimer := none
  lastSeq := none
  lastPlaced := false

/-- The diagnostic engine after POWER_ON (R163). -/
def Diag.initial : Diag where
  running := none
  loop := none
  noise := none
  portA := none
  portB := none
  attenuation := none
  noiseTable := none

/-- The supply record in MAINS with the default thresholds (R176, R179), for the sensed inputs given. -/
def Supply.initial (mains : Bool) (battery : Nat) : Supply where
  state := .mains
  mains := mains
  battery := battery
  low := 1120
  cutoff := 1050
  lowReturn := 1160
  tAbsence := none
  tPresence := none
  tLow := none
  tCutoff := none
  tReturn := none
  tRecovery := none
  mainsLostAt := none
  budget := 10
  cutback := 0
  hold := false
  relay := false

/-- The permission table after POWER_ON (R193). -/
def Perms.initial : Perms where
  lineProfile := ⟨true, true, true, true⟩
  portConfig := ⟨true, true, true, false⟩
  faultLog := ⟨true, false, true, true⟩
  diag := ⟨true, true, true, true⟩
  stats := ⟨true, false, true, false⟩
  supplyConfig := ⟨true, true, true, true⟩
  linkControl := ⟨true, true, false, false⟩

/-- A clear violation record (R193). -/
def Violation.clear : Violation := ⟨false, 0, none⟩

/-- The access table after POWER_ON (R193). -/
def Access.initial : Access := ⟨.initial, .clear, .clear⟩

/-- The message link after POWER_ON (R191, R192, R204, R208). -/
def Link.initial : Link where
  replies := []
  notices := []
  noticesLost := false
  snapshotNew := false
  logLost := false
  hostSilent := false
  noticesLostCount := 0
  framingErrors := 0
  silenceSetting := 30
  silenceTimer := some 30000
  silenceCount := 0
  lastFrameAt := 0
  silenceHold := false
  statsPeriod := 0
  statsTimer := none
  writeStatus := none
  out := none

/-- Every block at its power-on values, the supply in MAINS, before the resampling of R178 acts on the sensed inputs. -/
def Part.initial (mains : Bool) (battery : Nat) : Part where
  running := true
  time := 0
  line := .initial
  snapshot := none
  load := .initial
  band := .initial
  monitor := .initial
  tracker := .initial
  portA := .initial .through
  portB := .initial .disabled
  voice := .initial
  sched := .initial
  svc := .initial
  log := .initial
  diag := .initial
  supply := .initial mains battery
  access := .initial
  link := .initial

/-- The machine right after POWER_ON with the mains present and the battery read at 12.40 V (DESIGN CHOICE, log entry
9: the manual gives the inputs no value), with no command waiting. -/
def State.reset : State := ⟨[], Part.initial true 1240⟩

end Sys2Proof.Machine
end

