-- ==== Sys2Proof/Config.lean ====
section
/-! DEFINITION. The values the manual leaves open, as constants without a body: nothing can be proved of them, so every
claim holds whatever they are (log entries 4 to 8, 10, 11, 64 and 75). -/

namespace Sys2Proof.Config

open Sys2Proof.Machine

/-- The linear sample of a tone of the given frequency (Hz) and peak at a sample time since its phase began. R128 gives
frequency and peak and no phase; the user of it holds the value within the peak. (Log entry 4.) -/
opaque toneSample (freq peak pos : Nat) : Int

/-- The bytes of the body of a service message whose layout the manual does not give (R210). (Log entry 5.) -/
opaque messageBody (m : Msg) : List Byte

/-- The byte of an OPERATOR_REPLY's final mark (R199). (Log entry 75.) -/
opaque finalMark (final : Bool) : Byte

/-- The bytes of a MOVE's body ahead of its entries, which carry its number and its direction (R68), and the bytes of the
entry at an index ahead of and behind its table entry byte, which carry its tone (R210). (Log entry 64.) -/
opaque moveHead (number : Byte) (entries : List MoveEntry) : List Byte

@[inherit_doc moveHead]
opaque moveAround (number : Byte) (entries : List MoveEntry) (index : Nat) : List Byte × List Byte

/-- The bytes of a notice's fields, where the manual gives no layout (R204, R210). (Log entry 64.) -/
opaque noticeFields (n : Notice) : List Byte

/-- The bytes that mark a FAULT notice's record as kept or not, ahead of its 29 bytes (R149, R210). (Log entry 64.) -/
opaque keptMark (kept : Bool) : List Byte

/-- The bytes of a reply's fields behind the status, where the manual gives no layout (R201, R210). (Log entry 6.) -/
opaque replyFields (b : ReplyBody) : List Byte

/-- Whether an exact half rounds up, where a rule says nearest without R49's halves (R169, R175). (Log entry 7.) -/
opaque halfRoundsUp (x : Int) : Bool

/-- The entry that READ_TABLE returns for a tone of an absent ATTENUATION or NOISE table (R163, R207). (Log entry 8.) -/
opaque absentEntry (t : TableName) (index : Nat) : Int

/-- Whether a begun second of a remaining time counts as one in a report in seconds (R37). (Log entry 10.) -/
opaque begunSecondCounts (ms : Nat) : Bool

/-- The average that stands for an absent one in the margin of a loaded tone (R64). (Log entry 11.) -/
opaque absentAverage (tone : Nat) : Int

end Sys2Proof.Config
end

