-- ==== Sys2Proof/Machine/Num.lean ====
section
/-! DEFINITION. The small arithmetic of the manual: saturating counters, clamping, the two roundings, comparison of
symbol numbers, and lists indexed by tone. -/

namespace Sys2Proof.Machine

/-- A counter that saturates at `max` (00_scope.md, Counters). -/
def satAdd (max n k : Nat) : Nat := min max (n + k)

/-- `x` held in `lo` to `hi`. -/
def clamp (lo hi x : Int) : Int := max lo (min hi x)

/-- A 1/64 qdB figure rounded to the nearest qdB, halves away from zero (R49). -/
def roundQdb (x : Int) : Int := if 0 ≤ x then (x + 32) / 64 else -((-x + 32) / 64)

/-- A 1/64 figure rounded to the nearest unit where the rule does not say what a half does: a free choice. -/
def roundNearest (x : Int) : Int :=
  let low := x / 64
  let rest := x - 64 * low
  if rest < 32 then low else if 32 < rest then low + 1 else if Config.halfRoundsUp x then low + 1 else low

/-- `a` is later than `b`: (a - b) mod 2^32 lies in 1 to 2^31 - 1 (00_scope.md, The symbol counter). -/
def later (a b : Symbol) : Bool := 1 ≤ (a - b).toNat && (a - b).toNat < 2 ^ 31

/-- How far `a` lies ahead of the present symbol `now`, or none where it is not later. -/
def ahead (a now : Symbol) : Option Nat := if later a now then some (a - now).toNat else none

/-- A switch symbol at least 40 and at most 8000 symbols ahead of `now` (R68, R71). -/
def inMoveRange (a now : Symbol) : Bool :=
  match ahead a now with
  | some d => 40 ≤ d && d ≤ 8000
  | none => false

/-- The number of tones (00_scope.md, Tones). -/
abbrev numTones : Nat := 448

/-- The tone numbers 0 to 447. -/
def tones : List Nat := List.range numTones

/-- A list of one entry per tone. -/
def perTone {α : Type} (f : Nat → α) : List α := tones.map f

/-- The sum of a list of integers. -/
def sumInt (xs : List Int) : Int := xs.foldr (· + ·) 0

/-- The sum of a list of counts. -/
def sumNat (xs : List Nat) : Nat := xs.foldr (· + ·) 0

/-- Adds `ys` to the running sums `xs`, entry by entry, for the 448 tones. -/
def addSums (xs ys : List Int) : List Int := perTone fun t => xs.getD t 0 + ys.getD t 0

/-- A timer's remaining time after one millisecond. -/
def tickDown (t : Option Nat) : Option Nat := t.map (· - 1)

/-- Remaining ms reported in whole seconds; whether a begun second counts is a free choice (log entry 10). -/
def msToSeconds (ms : Nat) : Nat := ms / 1000 + if ms % 1000 ≠ 0 ∧ Config.begunSecondCounts ms = true then 1 else 0

/-- The two bytes of a 16-bit number, high byte first (R201). -/
def bytes16 (n : BitVec 16) : List Byte := [n.extractLsb' 8 8, n.extractLsb' 0 8]

/-- The four bytes of a 32-bit number, high byte first (R201). -/
def bytes32 (n : BitVec 32) : List Byte :=
  [n.extractLsb' 24 8, n.extractLsb' 16 8, n.extractLsb' 8 8, n.extractLsb' 0 8]

end Sys2Proof.Machine
end

