-- ==== Sys2Proof/Machine/Bands.lean ====
section
/-! DEFINITION. The band map's pure part: coverage, resolution, conflicts, notches, runs (chapter 1). -/

namespace Sys2Proof.Machine

/-- An enabled window covers its tones, clipped at 447 (R2). -/
def Window.covers (w : Window) (t : Nat) : Bool :=
  w.enable && decide (w.base ≤ t) && decide (t < w.base + w.size) && decide (t < numTones)

/-- The resolution of tone `t` (R4). `overlay` false leaves step 2 out, as the measurable set does (R11). -/
def resolve (overlay : Bool) (ws : List Window) (t : Nat) : Role :=
  if t ≤ 5 then .quiet .fixed
  else if overlay && decide (256 ≤ t) then .quiet .overlay
  else if ws.any (fun w => w.covers t && w.cls == .quiet) then .quiet .notch
  else
    match ws.find? (fun w => w.covers t && w.cls == .carry) with
    | some w => if w.dir = .down then .downCarry else .upCarry
    | none => .unused

/-- The configured map (R4, R5). -/
def Band.configured (b : Band) : List Role := perTone (resolve b.overlay b.windows)

/-- The measurable set (R11), as a role per tone. -/
def Band.measurable (b : Band) (t : Nat) : Bool := resolve false b.windows t == .downCarry

/-- A role without its cause: QUIET is one role whatever closed the tone (R1). -/
def Role.plain : Role → Role
  | .quiet _ => .quiet .fixed
  | r => r

/-- How many tones have different roles in two resolutions (R13). -/
def rolesChanged (xs ys : List Role) : Nat :=
  (tones.filter fun t => (xs.getD t .unused).plain != (ys.getD t .unused).plain).length

/-- Tones that carry down in a map. -/
def isDown (m : List Role) (t : Nat) : Bool := m.getD t .unused == .downCarry

/-- Tones that carry up in a map. -/
def isUp (m : List Role) (t : Nat) : Bool := m.getD t .unused == .upCarry

/-- An enabled CARRY window of the given direction covers the tone. -/
def Window.carries (w : Window) (d : Dir) (t : Nat) : Bool := w.covers t && w.cls == .carry && w.dir == d

/-- The tones in conflict (R6), in ascending order. -/
def conflictTones (ws : List Window) : List Nat :=
  tones.filter fun t => ws.any (·.carries .down t) && ws.any (·.carries .up t)

/-- The details of a PLAN_CONFLICT record (R6): lowest conflicting tone, how many, and the lowest-numbered DOWN and UP
CARRY windows over that tone. -/
def conflictDetails (ws : List Window) : List Int :=
  let c := conflictTones ws
  let t := c.headD 0
  [(t : Int), (c.length : Int), (ws.findIdx (·.carries .down t) : Int), (ws.findIdx (·.carries .up t) : Int)]

/-- The base aligned down to a multiple of the size (R8). -/
def alignBase (base size : Nat) : Nat := base / size * size

/-- The sizes a window may have (R2). -/
def windowSizes : List Nat := [4, 8, 16, 32, 64, 128, 256]

/-- The written window adds QUIET coverage and nothing else (R9). -/
def addsQuietOnly (stored written : Window) : Bool :=
  written.enable && written.cls == .quiet &&
    (!stored.enable ||
      (stored.cls == .quiet && tones.all (fun t => !stored.covers t || written.covers t) &&
        tones.any (fun t => written.covers t && !stored.covers t)))

/-- Groups roles into runs, from tone `t` on (R12). -/
def runsFrom : Nat → List Role → List Run
  | _, [] => []
  | t, r :: rs =>
    match runsFrom (t + 1) rs with
    | [] => [⟨t, t, r⟩]
    | q :: qs => if q.role = r then ⟨t, q.last, r⟩ :: qs else ⟨t, t, r⟩ :: q :: qs

/-- The runs of a resolution (R12). -/
def runsOf (m : List Role) : List Run := runsFrom 0 m

end Sys2Proof.Machine
end

