-- ==== Sys2Proof/Machine/Tables.lean ====
section
/-! DEFINITION. Load tables: entries and their byte, sums and payloads, the downstream computation (R50 to R55), the
validation of upstream tables and moves (R57, R58), margins and the building of a tone move (R64, R67). -/

namespace Sys2Proof.Machine

/-- An entry that carries nothing (R39). -/
def entryOff : LoadEntry := ⟨0, 0⟩

/-- The byte of an entry: b in bits 7 to 4, g in bits 3 to 0 as two's complement (R210). -/
def entryToByte (e : LoadEntry) : Byte := BitVec.ofNat 4 e.b ++ BitVec.ofInt 4 e.g

/-- The entry of a byte (R210). -/
def entryOfByte (x : Byte) : LoadEntry := ⟨(x.extractLsb' 4 4).toNat, (x.extractLsb' 0 4).toInt⟩

/-- The total bits of a table (R55, R59). -/
def totalBits (t : List LoadEntry) : Nat := sumNat (t.map (·.b))

/-- Payload bytes per symbol of a table: P or U (R55, R59). -/
def payload (t : List LoadEntry) : Nat := totalBits t / 8

/-- The gain sum N of a table (R54, R57). -/
def gainSum (t : List LoadEntry) : Int := sumInt (t.map (·.g))

/-- The number of loaded tones of a table (R39). -/
def loadedTones (t : List LoadEntry) : Nat := (t.filter (·.b != 0)).length

/-- The rate of a payload, in kbit/s (00_scope.md, Rate). -/
def rateOf (payload : Nat) : Nat := payload * 32

/-! ### The downstream computation -/

/-- The working record of a tone (R50), from b_raw on. -/
structure Work where
  braw    : Nat
  left    : Int
  entry   : LoadEntry
  boosted : Bool
  deriving DecidableEq, Repr

/-- The working record of a tone that gets nothing. -/
def Work.off : Work := ⟨0, 0, entryOff, false⟩

/-- The input S of a tone (R51): the rounded average, referred to nominal level by the gain in force, clamped. -/
def inputOf (average gainInForce : Int) : Int := clamp (-40) 240 (roundQdb average - gainInForce)

/-- R52 and R53 for one input. -/
def settleTone (p : Profile) (S : Int) : Work :=
  let H := S - p.gap - p.margin
  if H < 0 then .off
  else
    let braw := (H / 12).toNat
    let left := H - 12 * braw
    let w : Work :=
      if p.maxBits ≤ braw then ⟨braw, left, ⟨p.maxBits, -(min (H - 12 * p.maxBits) 8)⟩, false⟩
      else if 9 ≤ left then ⟨braw, left, ⟨braw + 1, 12 - left⟩, true⟩
      else ⟨braw, left, ⟨braw, -(min left 8)⟩, false⟩
    if w.entry.b ≤ 1 then { w with entry := entryOff, boosted := false } else w

/-- A tone whose boost is withdrawn (R54). -/
def Work.withdraw (w : Work) : Work :=
  if w.braw ≤ 1 then { w with entry := entryOff, boosted := false }
  else { w with entry := ⟨w.braw, -(min w.left 8)⟩, boosted := false }

/-- Withdraws boosts from the highest tone down while the gain sum is above 0 (R54). The list runs from the highest tone
to the lowest; `n` is the gain sum. -/
def withdrawBoosts : Int → List Work → List Work
  | _, [] => []
  | n, w :: ws =>
    if 0 < n ∧ w.boosted then w.withdraw :: withdrawBoosts (n - w.entry.g + w.withdraw.entry.g) ws
    else w :: withdrawBoosts n ws

/-- The downstream table over a snapshot, a profile and the averages (R50 to R54). `inForce` is the downstream table in
force in a reshape, empty in LOADING. -/
def computeDown (map : List Role) (p : Profile) (averages : List (Option Int)) (inForce : List LoadEntry) :
    List LoadEntry :=
  let works := perTone fun t =>
    if isDown map t then
      match averages.getD t none with
      | some a => settleTone p (inputOf a (inForce.getD t entryOff).g)
      | none => .off
    else .off
  ((withdrawBoosts (sumInt (works.map (·.entry.g))) works.reverse).reverse).map (·.entry)

/-! ### Validation -/

/-- The lowest tone of a table that fails `ok`. -/
def firstFailing (table : List LoadEntry) (ok : Nat → LoadEntry → Bool) : Option Nat :=
  tones.find? fun t => !ok t (table.getD t entryOff)

/-- R57: the first check the table fails and its tone, or none where the table is valid. -/
def validateTable (map : List Role) (maxBits : Nat) (table : List LoadEntry) : Option (Check × Nat) :=
  match firstFailing table (fun t e => e.b == 0 || isUp map t) with
  | some t => some (.role, t)
  | none =>
  match firstFailing table (fun _ e => e.b == 0 || (decide (2 ≤ e.b) && decide (e.b ≤ maxBits))) with
  | some t => some (.bits, t)
  | none =>
  match firstFailing table (fun _ e => decide (-8 ≤ e.g) && decide (e.g ≤ 3)) with
  | some t => some (.gain, t)
  | none =>
  match firstFailing table (fun _ e => e.b != 0 || e.g == 0) with
  | some t => some (.zeroGain, t)
  | none =>
  if 0 < gainSum table then some (.gainSum, 0)
  else if totalBits table < 8 then some (.capacity, 0)
  else none

/-- The table with a move's entries put in (R58, R69, R71). -/
def applyMove (table : List LoadEntry) (es : List MoveEntry) : List LoadEntry :=
  es.foldl (fun t e => t.set e.tone e.entry) table

/-- A move names one tone twice (R58, check DUPLICATE). -/
def hasDuplicate (es : List MoveEntry) : Bool := !decide ((es.map (·.tone)).Nodup)

/-- R58: the first check a MOVE from the exchange unit fails, or none where it is valid. -/
def validateMove (map : List Role) (maxBits : Nat) (table : List LoadEntry) (es : List MoveEntry) :
    Option (Check × Nat) :=
  if hasDuplicate es then some (.duplicate, 0) else validateTable map maxBits (applyMove table es)

/-- A MOVE body that does not fit its kind (R58): no entry, more than 3, a tone above 447 or the direction DOWN. -/
def moveFits (m : MoveMsg) : Bool :=
  m.dir == .up && decide (1 ≤ m.entries.length) && decide (m.entries.length ≤ 3) &&
    m.entries.all (fun e => decide (e.tone < numTones))

/-! ### Margins and tone moves -/

/-- A loaded tone with its margin. -/
structure Margin where
  tone  : Nat
  entry : LoadEntry
  m     : Int
  deriving DecidableEq, Repr

/-- The margins of the loaded tones, in tone order (R64). The manual states no margin of a loaded tone without an average,
which no run reaches: a free value in the averages' range stands for the average (log entry 11). -/
def marginsOf (gap : Int) (averages : List (Option Int)) (table : List LoadEntry) : List Margin :=
  (tones.filter fun t => (table.getD t entryOff).b != 0).map fun t =>
    let e := table.getD t entryOff
    ⟨t, e, roundQdb ((averages.getD t none).getD (clamp (-2560) 15360 (Config.absentAverage t))) - gap - 12 * e.b⟩

/-- The first of the list with the lowest margin. -/
def lowest : List Margin → Option Margin
  | [] => none
  | x :: xs =>
    match lowest xs with
    | some y => if y.m < x.m then some y else some x
    | none => some x

/-- The first of the list with the highest margin. -/
def highest : List Margin → Option Margin
  | [] => none
  | x :: xs =>
    match highest xs with
    | some y => if x.m < y.m then some y else some x
    | none => some x

/-- The average margin (R64): the sum over the loaded tones divided by their number, truncated toward zero. -/
def averageMargin (ms : List Margin) : Int := (sumInt (ms.map (·.m))).tdiv ms.length

/-- The first `n` recipients by highest margin, ties to the lowest index (R67); none where fewer are eligible. -/
def takeRecipients : Nat → List Margin → Option (List Margin)
  | 0, _ => some []
  | n + 1, ms =>
    match highest ms with
    | none => none
    | some r => (takeRecipients n (ms.filter fun x => x.tone != r.tone)).map (r :: ·)

/-- The candidate move of R67 for the donor `d`, or none where no move is made (steps 3 and 4). -/
def buildMove (p : Profile) (table : List LoadEntry) (ms : List Margin) (d : Margin) : Option (List MoveEntry) :=
  let gives := if 2 < d.entry.b then 1 else 2
  let donor : MoveEntry := if 2 < d.entry.b then ⟨d.tone, ⟨d.entry.b - 1, d.entry.g⟩⟩ else ⟨d.tone, entryOff⟩
  let eligible := ms.filter fun x =>
    x.tone != d.tone && decide (2 ≤ x.entry.b) && decide (x.entry.b < p.maxBits) && decide (p.margin + 12 ≤ x.m)
  match takeRecipients gives eligible with
  | none => none
  | some rs =>
    let es := donor :: rs.map fun r => ⟨r.tone, ⟨r.entry.b + 1, r.entry.g⟩⟩
    if 0 < gainSum (applyMove table es) then none else some es

end Sys2Proof.Machine
end

