-- ==== Sys2Proof/Machine/Layouts.lean ====
section
/-! DEFINITION. Codes and byte layouts of R210, and the bytes of a service message (R20). -/

namespace Sys2Proof.Machine

/-- Severity codes (R210). -/
def severityCode : Severity → Nat
  | .info => 0 | .minor => 1 | .major => 2 | .critical => 3

/-- Object class codes (R210). -/
def classCode : ObjClass → Nat
  | .lineProfile => 0 | .portConfig => 1 | .faultLog => 2 | .diag => 3 | .stats => 4 | .supplyConfig => 5
  | .linkControl => 6

/-- Check codes (R210). -/
def checkCode : Check → Nat
  | .role => 1 | .bits => 2 | .gain => 3 | .zeroGain => 4 | .gainSum => 5 | .capacity => 6 | .duplicate => 7

/-- Fault kind codes (R210). -/
def FaultKind.code : FaultKind → Nat
  | .lineDrop => 1 | .trainingFailed => 2 | .fallbackEntered => 3 | .reshapeAbandoned => 4 | .lowRateInService => 5
  | .fenceLocked => 6 | .fenceLost => 7 | .planConflict => 8 | .longLoop => 9 | .ringOvercurrent => 10
  | .ringThermal => 11 | .portLockedOut => 12 | .wetWiring => 13 | .capacityHold => 14 | .onBattery => 15
  | .batteryLow => 16 | .mainsRestored => 17 | .supplyCutoff => 18 | .hostSilent => 19 | .hostBack => 20
  | .accessRefused => 21

/-- The fixed severity of each kind (R148). -/
def FaultKind.severity : FaultKind → Severity
  | .lineDrop | .fallbackEntered | .ringOvercurrent | .portLockedOut | .wetWiring | .batteryLow | .hostSilent => .major
  | .trainingFailed | .reshapeAbandoned | .lowRateInService | .planConflict | .ringThermal | .capacityHold | .onBattery
  | .accessRefused => .minor
  | .fenceLocked | .fenceLost | .longLoop | .mainsRestored | .hostBack => .info
  | .supplyCutoff => .critical

/-- Fault source codes (R210). -/
def FaultSource.code : FaultSource → Nat
  | .line => 0 | .portA => 1 | .portB => 2 | .supply => 3 | .access => 4 | .link => 5

/-- Line state codes (R210). -/
def LineState.code : LineState → Nat
  | .quiet => 0 | .sounding => 1 | .measuring => 2 | .loading => 3 | .carrying => 4 | .reshape => 5 | .dropped => 6
  | .fallback => 7

/-- Delivery codes (R210). -/
def Delivery.code : Delivery → Nat
  | .localOnly => 0 | .toSend => 1 | .sent => 2 | .delivered => 3 | .undelivered => 4

/-- Failure and drop cause codes (R210). -/
def Cause.code : Cause → Nat
  | .noAnswer => 1 | .measureFail => 2 | .lowRate => 3 | .tableRejected => 4 | .loadingTimeout => 5 | .farEnd => 6
  | .lossOfSignal => 7 | .lossOfQuality => 8 | .reshapeFailed => 9 | .supply => 10

/-- Reshape abandon cause codes (R210). -/
def AbandonCause.code : AbandonCause → Nat
  | .noPayload => 1 | .rejectedUp => 2 | .rejectedDown => 3 | .timeout => 4 | .supply => 5

/-- Status codes (R206). -/
def Status.code : Status → Nat
  | .ok => 0 | .okClamped => 1 | .okAdjusted => 2 | .started => 3 | .busy => 4 | .wrongState => 5 | .lineActive => 6
  | .notPermitted => 7 | .range => 8 | .planConflict => 9 | .malformed => 10 | .unknownKind => 11 | .shed => 12

/-- The fault source of a port (R148). -/
def portSource : PortId → FaultSource
  | .a => .portA
  | .b => .portB

/-- The sixteen detail bytes of a fault record: four details, the missing ones 0 (R210). -/
def detailBytes (ds : List Int) : List Byte :=
  bytes32 (BitVec.ofInt 32 (ds.getD 0 0)) ++ bytes32 (BitVec.ofInt 32 (ds.getD 1 0)) ++
    bytes32 (BitVec.ofInt 32 (ds.getD 2 0)) ++ bytes32 (BitVec.ofInt 32 (ds.getD 3 0))

/-- The fault record body of 29 bytes (R210). A detail outside the signed 32 bits of R147, which only a number of seconds can
be, goes out as its low 32 bits (DESIGN CHOICE, log entry 90). -/
def FaultRecord.bytes (r : FaultRecord) : List Byte :=
  bytes16 r.seq ++ bytes32 (BitVec.ofNat 32 r.time) ++
    [BitVec.ofNat 8 r.kind.code, BitVec.ofNat 8 (severityCode r.severity), BitVec.ofNat 8 r.source.code,
     BitVec.ofNat 8 r.lineState.code, BitVec.ofNat 8 r.delivery.code, BitVec.ofNat 8 r.sends,
     BitVec.ofNat 8 r.details.length] ++ detailBytes r.details

/-- The service message kinds, of either direction (R210). -/
inductive ServiceKind where
  | call | answer | confirm | downTable | upTable | tableReject | switch | switchAck | reshapeOffer | move | moveAck
  | moveRefuse | signal | ring | ringStop | connect | release | tone | faultReport | reportAck | operatorCommand
  | operatorReply | drop
  deriving DecidableEq, Repr

/-- Service message kind codes (R210). -/
def ServiceKind.code : ServiceKind → Nat
  | .call => 1 | .answer => 2 | .confirm => 3 | .downTable => 4 | .upTable => 5 | .tableReject => 6 | .switch => 7
  | .switchAck => 8 | .reshapeOffer => 9 | .move => 10 | .moveAck => 11 | .moveRefuse => 12 | .signal => 13 | .ring => 14
  | .ringStop => 15 | .connect => 16 | .release => 17 | .tone => 18 | .faultReport => 19 | .reportAck => 20
  | .operatorCommand => 21 | .operatorReply => 22 | .drop => 23

/-- The kind of a message the part sends. -/
def Msg.kind : Msg → ServiceKind
  | .confirm => .confirm | .downTable .. => .downTable | .tableReject .. => .tableReject | .switch _ => .switch
  | .reshapeOffer .. => .reshapeOffer | .move .. => .move | .moveAck .. => .moveAck | .moveRefuse _ => .moveRefuse
  | .signal .. => .signal | .faultReport _ => .faultReport | .operatorReply .. => .operatorReply

/-- The kind code of a message the part sends (R210). -/
def Msg.kindCode (m : Msg) : Nat := m.kind.code

/-- The body of a MOVE: each entry carries the byte of its table entry, in order (R210); what stands around those bytes
is open (log entry 64). -/
def moveBody (number : Byte) (es : List MoveEntry) : List Byte :=
  (Config.moveHead number es).take 8 ++
    (es.mapIdx fun i e =>
      let around := Config.moveAround number es i
      around.1.take 8 ++ entryToByte e.entry :: around.2.take 8).flatten

/-- The body of a message: the layouts of R23, R152 and R199; a MOVE's entry bytes; CONFIRM, whose rule names no field,
is empty; every other body is open (log entry 5), of at most 250 bytes (R20). An OPERATOR_REPLY is its tag, its part
number and its final mark, one byte each, and its piece; the byte of the mark is open (DEDUCED, log entry 75). -/
def Msg.body : Msg → List Byte
  | .confirm => []
  | .downTable n seg es => n :: BitVec.ofNat 8 seg :: es
  | .faultReport r => r.bytes
  | .move n es => (moveBody n es).take 250
  | .operatorReply tag part final bs => tag :: BitVec.ofNat 8 part :: Config.finalMark final :: bs
  | m => (Config.messageBody m).take 250

/-- The check byte that brings a sum of bytes to 0 modulo 256 (R20). -/
def checkByte (bs : List Byte) : Byte := -(bs.foldr (· + ·) 0)

/-- The bytes of a message on the management stream: kind, length, body, check (R20). -/
def Msg.bytes (m : Msg) : List Byte :=
  let head := BitVec.ofNat 8 m.kindCode :: BitVec.ofNat 8 m.body.length :: m.body
  head ++ [checkByte head]

/-- A received message's check holds (R20). -/
def checkHolds (bs : List Byte) : Bool := bs.foldr (· + ·) 0 == (0 : Byte)

/-- The bytes of a reply record, status first (R201, R199). A table's entries are laid out as R207 gives them. The fields
ahead of them are open: R207 counts 11 bytes for a FAULT_LOG page and none for the other tables, whose fields have an open
length within the 1020 bytes of a body (R201; DESIGN CHOICE, log entry 6). Every other layout is open in the same way. -/
def replyRecord (st : Status) (body : ReplyBody) : List Byte :=
  BitVec.ofNat 8 st.code ::
    (match body with
     | .none => []
     | .table t _ _ _ entries =>
       let fields := Config.replyFields body
       (if t = .faultLog then (fields ++ List.replicate 11 0).take 11
         else fields.take (1019 - entries.flatten.length)) ++ entries.flatten
     | b => (Config.replyFields b).take 1019)

/-! ### Frames of the message link -/

/-- Notice kind codes (R210); a change of the band map is a LINE_STATE notice (R13). -/
def Notice.kindCode : Notice → Nat
  | .lineState .. => 64 | .bandMap _ => 64 | .rateChange .. => 65 | .portEvent .. => 66 | .fault .. => 67 | .diagDone _ => 68
  | .supplyState .. => 69 | .fence .. => 70 | .ringLimited .. => 71 | .stats _ => 72

/-- The body of a notice: FAULT is its kept mark and the record's 29 bytes (R210); every other body is open (log entry
64), of at most 1020 bytes (R201). -/
def Notice.body : Notice → List Byte
  | .fault r kept => (Config.keptMark kept).take 8 ++ r.bytes
  | n => (Config.noticeFields n).take 1020

/-- A frame of the message link (R201): the header of kind, tag and body length, and the body. -/
def frameBytes (kind tag : Byte) (body : List Byte) : List Byte :=
  kind :: tag :: bytes16 (BitVec.ofNat 16 body.length) ++ body

/-- The bytes of the frame that a read transaction returns (R201, R203): a reply carries the kind and tag of its command,
a notice tag 0, the empty frame kind 0, tag 0 and no body. -/
def OutFrame.bytes : OutFrame → List Byte
  | .reply r => frameBytes r.kind r.tag (replyRecord r.status r.body)
  | .notice n => frameBytes (BitVec.ofNat 8 n.kindCode) 0 n.body
  | .empty => frameBytes 0 0 []

end Sys2Proof.Machine
end

