-- ==== Sys2Proof/WellFormed.lean ====
section
/-! DEFINITION. The checks an operand must pass to be what its rule says it is: tables and measurements of 448 tones,
ranges of the sensed inputs, one record per row. A command that fails a check is still given a meaning by the machine. -/

namespace Sys2Proof

/-- A list of one entry per tone. -/
def onTones {α : Type} (xs : List α) : Bool := xs.length == 448

/-- An envelope of the link carries a tag of 1 to 255 (R201); tag 0 is FRAME_NOT_TAKEN's (R202). -/
def Envelope.wellFormed (e : Envelope) : Bool := !(e.src == .loc && e.tag == 0)

/-- A kind code that is not in the catalogue (R210). -/
def isUnknownKind (k : Byte) : Bool := k.toNat == 0 || decide (33 < k.toNat)

/-- A move entry names a tone, with bits and gain as its byte can express them (R58, R210). -/
def MoveEntry.wellFormed (e : MoveEntry) : Bool :=
  decide (e.tone < 448) && decide (e.entry.b ≤ 15) && decide (-8 ≤ e.entry.g) && decide (e.entry.g ≤ 7)

/-- A MOVE fits its kind (R58, R71). -/
def MoveMsg.wellFormed (m : MoveMsg) : Bool :=
  m.dir == .up && decide (1 ≤ m.entries.length) && decide (m.entries.length ≤ 3) && m.entries.all (·.wellFormed)

/-- A downstream symbol: a measurement of every tone, and no more errored tones than tones. -/
def DownSymbol.wellFormed (d : DownSymbol) : Bool := onTones d.snr && decide (d.errored ≤ 448)

/-- A scan symbol: a measurement of every tone, and no more tones with an impulse than tones 6 to 447 (R172). -/
def ScanSymbol.wellFormed (x : ScanSymbol) : Bool := onTones x.noise && decide (x.impulseTones ≤ 442)

/-- A command record inside an OPERATOR_COMMAND: an unknown kind is one. -/
def Command.wellFormed : Command → Bool
  | .unknown k => isUnknownKind k
  | _ => true

/-- A sample of a converter (R118). -/
def isSample (x : Int) : Bool := decide (-4079 ≤ x) && decide (x ≤ 4079)

/-- The operands of a command are what its rule says they are. -/
def Instr.wellFormed : Instr → Bool
  | .powerOn _ battery => decide (battery ≤ 2000)
  | .batteryThresholdCrossing level => decide (level ≤ 2000)
  | .unknownKindCommand e k => e.wellFormed && isUnknownKind k
  | .lineStart e | .lineStop e | .setProfile e _ | .getProfile e | .setBandWindow e _ | .getBandMap e
  | .setStrictPlan e _ | .requestReshape e | .getLineStatus e | .getSnapshot e | .portEnable e _ | .portDisable e _
  | .ringLocal e _ | .intercom e _ _ | .join e | .part e | .getPortStatus e _ | .runDiag e _ _ | .abortDiag e
  | .getDiagResult e _ _ | .clearLog e | .setReportThreshold e _ | .getSupply e | .setSupplyLimits e _ _ | .grant e _
  | .withhold e _ | .getAccess e | .setSilenceTimer e _ | .getFlags e | .ackFlags e _ | .setStatsPeriod e _
  | .readTable e _ _ _ | .resetFull e | .resetLine e => e.wellFormed
  | .operatorCommand _ _ c => c.wellFormed
  | .upTable _ segment entries => decide (segment ≤ 1) && decide (entries.length = 224)
  | .tableReject _ _ t => decide (t < 448)
  | .downstreamSymbol d => d.wellFormed
  | .move m => m.wellFormed
  | .reshapeOffer reasons => decide reasons.Nodup
  | .breakEnd _ ms => decide (ms < 300)
  | .loopTestDone attenuation => onTones attenuation
  | .noisePhaseEnd scan => !scan.isEmpty && scan.all (·.wellFormed)
  | .slowFramingSymbol _ snr => onTones snr
  | .sampleTime a b => isSample a && isSample b
  | .coreSupplyCollapse | .frameNotTaken _ | .readTransaction _ | .serviceMessageError | .enterSounding | .wakeToneEnd
  | .callWindowExpiry | .answer | .measurementEnd | .switchAck _ | .switchSymbolWithoutAck | .loadingTimeout
  | .enterCarrying | .holdoffExpiry | .retryExpiry | .drop | .upstreamSymbolFill | .syncLoss | .monitoringPeriodEnd
  | .erasureWindowClose | .moveAck _ _ | .moveRefuse _ | .moveAnswerTimeout | .moveSwitch | .upstreamMoveSwitch
  | .reshapeTimeout | .reshapeSwitch | .channelSwitch | .holdTimeout _ | .offHook _ | .onHook _ | .digitEnd _
  | .toneDigit _ _ | .dialTimeout _ | .connect _ | .release _ | .tone _ _ | .howlerTimeout _ | .howlerStep _
  | .ring _ _ | .ringStop _ | .ringCadencePhase _ | .localRingTimeout _ | .ringTrip _ | .ringOvercurrent _
  | .heatStep _ | .cooldownEnd _ | .reportAck _ | .reportAckTimeout | .lastReportDone | .mainsSenseChange _
  | .enterBattery | .batteryRecovered | .enterBatteryLow | .enterMains | .enterCutoff | .shutdownRecovery
  | .hostSilenceTimeout | .statsPeriodExpiry | .noiseScanDone | .scanImpulseEvent _ | .portTestDone _ _
  | .upstreamFrameArrival _ | .streamPortTakesFrame | .timeCounterSecond => true

end Sys2Proof
end

