-- ==== Sys2Proof/Decode.lean ====
section
/-! DEFINITION. The words of the command table, of which none gives bits; and what the manual does lay out of the bytes
that carry commands: the header of a frame written on the message link (R201, R202), with the catalogue's kind codes, and
the kind code of a service message (R210). The fields behind a command's header have no layout in the manual. -/

namespace Sys2Proof

open Sys2Proof.Machine

/-- The command that a word of `nbits` bits spells: none, since no row of the table gives bits. -/
def decodeTableWord (_nbits _w : Nat) : Option Instr := none

/-- The catalogue command of a kind whose rule names no field, by its code (R210); none for a kind with fields. -/
def bareCommand (e : Envelope) (kind : Byte) : Option Instr :=
  match kind.toNat with
  | 1 => some (.lineStart e)
  | 2 => some (.lineStop e)
  | 4 => some (.getProfile e)
  | 6 => some (.getBandMap e)
  | 8 => some (.requestReshape e)
  | 9 => some (.getLineStatus e)
  | 10 => some (.getSnapshot e)
  | 15 => some (.join e)
  | 16 => some (.part e)
  | 19 => some (.abortDiag e)
  | 21 => some (.clearLog e)
  | 23 => some (.getSupply e)
  | 27 => some (.getAccess e)
  | 29 => some (.getFlags e)
  | _ => none

/-- How a body of `n` bytes stands to a kind whose rule names no field (R202). -/
def bareForm (n : Nat) : BodyForm := if 1020 < n then .overlong else if n = 0 then .fits else .illFitting

/-- The catalogue command of a kind with fields, by its code (R210), in a frame whose body is above 1020 bytes: it is
answered MALFORMED with its body unread (R202), so its operands stand for nothing. None for any other kind. -/
def overlongCommand (e : Envelope) (kind : Byte) : Option Instr :=
  match kind.toNat with
  | 3 => some (.setProfile e ⟨none, none, none, none, none, none, none⟩)
  | 5 => some (.setBandWindow e ⟨0, none, 0, 0, none, none⟩)
  | 7 => some (.setStrictPlan e none)
  | 11 => some (.portEnable e .other)
  | 12 => some (.portDisable e .other)
  | 13 => some (.ringLocal e .other)
  | 14 => some (.intercom e .other .other)
  | 17 => some (.getPortStatus e .other)
  | 18 => some (.runDiag e none none)
  | 20 => some (.getDiagResult e none none)
  | 22 => some (.setReportThreshold e none)
  | 24 => some (.setSupplyLimits e none none)
  | 25 => some (.grant e none)
  | 26 => some (.withhold e none)
  | 28 => some (.setSilenceTimer e 0)
  | 30 => some (.ackFlags e [])
  | 31 => some (.setStatsPeriod e 0)
  | 32 => some (.readTable e none 0 0)
  | 33 => some (.resetFull e)
  | _ => none

/-- A write transaction read as its command (R202): the bytes shifted in, and whether the hold-off marker was given.
None where the frame is taken, its body is of at most 1020 bytes and its kind has fields, which the manual gives no
layout. -/
def readFrame (heldOff : Bool) (bytes : List Byte) : Option Instr :=
  match bytes with
  | kind :: tag :: hi :: lo :: body =>
    let n := hi.toNat * 256 + lo.toNat
    if body.length < n then some (.frameNotTaken .incomplete)
    else if n < body.length then some (.frameNotTaken .overlong)
    else if tag = 0 then some (.frameNotTaken .tagZero)
    else if heldOff then some (.frameNotTaken .heldOff)
    else if isUnknownKind kind then some (.unknownKindCommand ⟨.loc, tag, bareForm n⟩ kind)
    else
      match bareCommand ⟨.loc, tag, bareForm n⟩ kind with
      | some i => some i
      | none => if 1020 < n then overlongCommand ⟨.loc, tag, .overlong⟩ kind else none
  | _ => some (.frameNotTaken .incomplete)

/-- The kind of the service message that carries a command (R22, R210); none for a command no service message carries. -/
def Instr.serviceKind : Instr → Option ServiceKind
  | .answer => some .answer
  | .upTable .. => some .upTable
  | .tableReject .. => some .tableReject
  | .switchAck _ => some .switchAck
  | .reshapeOffer _ => some .reshapeOffer
  | .move _ => some .move
  | .moveAck .. => some .moveAck
  | .moveRefuse _ => some .moveRefuse
  | .ring .. => some .ring
  | .ringStop _ => some .ringStop
  | .connect _ => some .connect
  | .release _ => some .release
  | .tone .. => some .tone
  | .reportAck _ => some .reportAck
  | .operatorCommand .. => some .operatorCommand
  | .drop => some .drop
  | _ => none

end Sys2Proof
end

