-- ==== Sys2Proof/Machine/Compander.lean ====
section
/-! DEFINITION. The voice path's arithmetic: compression, expansion, half codes, saturation, concealment (R118 to R127). -/

namespace Sys2Proof.Machine

/-- The largest linear magnitude (chapter 6). -/
abbrev maxSample : Int := 4079

/-- A linear value saturated to -4079 to +4079 (R118, R124, R125). -/
def saturate (x : Int) : Int := clamp (-maxSample) maxSample x

/-- The segment of a magnitude: the largest s from 0 to 7 with 16 * 2^s - 16 ≤ m (R121). -/
def segmentOf (m : Nat) : Nat :=
  if 2032 ≤ m then 7 else if 1008 ≤ m then 6 else if 496 ≤ m then 5 else if 240 ≤ m then 4
  else if 112 ≤ m then 3 else if 48 ≤ m then 2 else if 16 ≤ m then 1 else 0

/-- An 8-bit code (R119): sign, segment, step. -/
structure Code where
  negative : Bool
  segment  : Nat
  step     : Nat
  deriving DecidableEq, Repr

/-- Compression (R121). -/
def compress (x : Int) : Code :=
  let m := min x.natAbs 4079
  let s := segmentOf m
  ⟨decide (x < 0), s, (m + 16) / 2 ^ s - 16⟩

/-- Expansion (R122). -/
def Code.expand (c : Code) : Int :=
  let m : Int := (16 + c.step) * 2 ^ c.segment - 16 + (2 ^ c.segment : Nat) / 2
  if c.negative then -m else m

/-- Expansion of the half code of the same sign and segment: the middle of the segment (R123). -/
def Code.expandHalf (c : Code) : Int := Code.expand { c with step := 8 }

/-- The byte of an 8-bit code: sign in bit 7, segment in bits 6 to 4, step in bits 3 to 0 (R119). -/
def Code.toByte (c : Code) : Byte :=
  BitVec.ofBool c.negative ++ BitVec.ofNat 3 c.segment ++ BitVec.ofNat 4 c.step

/-- The code of a byte (R119). -/
def Code.ofByte (x : Byte) : Code :=
  ⟨x.extractLsb' 7 1 == 1, (x.extractLsb' 4 3).toNat, (x.extractLsb' 0 4).toNat⟩

/-- The half code of a code: its sign and segment, in 4 bits (R119, R123). -/
def Code.half (c : Code) : BitVec 4 := BitVec.ofBool c.negative ++ BitVec.ofNat 3 c.segment

/-- The code a half code stands for, with step 8 (R123). -/
def Code.ofHalf (x : BitVec 4) : Code := ⟨x.extractLsb' 3 1 == 1, (x.extractLsb' 0 3).toNat, 8⟩

/-- The voice bytes of a pair of samples in a mode (R119). -/
def voiceBytes (m : Mode) (pair : Int × Int) : List Byte :=
  match m with
  | .full => [(compress pair.1).toByte, (compress pair.2).toByte]
  | .half => [(compress pair.1).half ++ (compress pair.2).half]

/-- How many voice bytes a mode takes in a symbol (R119). -/
def Mode.bytes : Mode → Nat
  | .full => 2
  | .half => 1

/-- The pair of samples of a channel's bytes in a mode (R119, R120, R122, R123). -/
def voicePair (m : Mode) (bs : List Byte) : Int × Int :=
  match m with
  | .full => ((Code.ofByte (bs.getD 0 0)).expand, (Code.ofByte (bs.getD 1 0)).expand)
  | .half =>
    ((Code.ofHalf ((bs.getD 0 0).extractLsb' 4 4)).expand, (Code.ofHalf ((bs.getD 0 0).extractLsb' 0 4)).expand)

/-- A channel after an erased symbol (R127), with the replacement pair as its last samples. -/
def Channel.conceal (c : Channel) : Channel :=
  let run := min 3 (c.erasedRun + 1)
  { c with erasedRun := run, last := if run < 3 then (c.last.1.tdiv 2, c.last.2.tdiv 2) else (0, 0) }

/-- A channel after a symbol that is not erased (R120). -/
def Channel.receive (c : Channel) (bs : List Byte) : Channel :=
  { c with erasedRun := 0, last := voicePair c.mode bs }

end Sys2Proof.Machine
end

