-- ==== Sys2Proof/Machine/Ops.lean ====
section
/-! DEFINITION. The named operations every meaning is built from: the two ports and what each holds, the notice queue
(R204), the outbound service queue (R21), the fault log (R149 to R157), the end of a diagnostic test (R166), the data
port's holds and flushes (R145, R146, R188), and the wrapper that runs a command on the part. -/

namespace Sys2Proof.Machine

/-! ### Running a command -/

/-- A command's effect on the part: none at all while the part is stopped by a collapse of the core supply (R186). -/
def State.act (f : Part → Part) (s : State) : Host.Outcome State Fault Refusal :=
  .next (if s.part.running then { s with part := f s.part } else s)

/-! ### The two ports -/

/-- The other port. -/
def other : PortId → PortId
  | .a => .b
  | .b => .a

/-- A port's record. -/
def Part.port (s : Part) : PortId → Port
  | .a => s.portA
  | .b => s.portB

/-- A port's record replaced. -/
def Part.setPort (s : Part) (p : PortId) (r : Port) : Part :=
  match p with
  | .a => { s with portA := r }
  | .b => { s with portB := r }

/-- A port's record changed. -/
def Part.modPort (s : Part) (p : PortId) (f : Port → Port) : Part := s.setPort p (f (s.port p))

/-- A port's channel record (R116). -/
def Part.chan (s : Part) : PortId → Option Channel
  | .a => s.voice.chanA
  | .b => s.voice.chanB

/-- A port's channel record replaced. -/
def Part.setChan (s : Part) (p : PortId) (c : Option Channel) : Part :=
  match p with
  | .a => { s with voice := { s.voice with chanA := c } }
  | .b => { s with voice := { s.voice with chanB := c } }

/-- A port's codec mode: that of its channel record, or none (R116). -/
def Part.mode (s : Part) (p : PortId) : Option Mode := (s.chan p).map (·.mode)

/-- A port's tone generator (R128). -/
def Part.gen (s : Part) : PortId → Generator
  | .a => s.voice.genA
  | .b => s.voice.genB

/-- A port's tone generator replaced. -/
def Part.setGen (s : Part) (p : PortId) (g : Generator) : Part :=
  match p with
  | .a => { s with voice := { s.voice with genA := g } }
  | .b => { s with voice := { s.voice with genB := g } }

/-- A port's slot in the arrangement (R138). -/
def Part.slot (s : Part) : PortId → Slot
  | .a => s.sched.slotA
  | .b => s.sched.slotB

/-- A port's slot replaced. -/
def Part.setSlot (s : Part) (p : PortId) (x : Slot) : Part :=
  match p with
  | .a => { s with sched := { s.sched with slotA := x } }
  | .b => { s with sched := { s.sched with slotB := x } }

/-- A port's hold timer (R132). -/
def Part.hold (s : Part) : PortId → Option Nat
  | .a => s.sched.holdA
  | .b => s.sched.holdB

/-- A port's hold timer set. -/
def Part.setHold (s : Part) (p : PortId) (t : Option Nat) : Part :=
  match p with
  | .a => { s with sched := { s.sched with holdA := t } }
  | .b => { s with sched := { s.sched with holdB := t } }

/-! ### Where the line stands -/

/-- In service: CARRYING and RESHAPE (chapter 4). -/
def LineState.inService (l : LineState) : Bool := l == .carrying || l == .reshape

/-- The line is in service. -/
def Part.inService (s : Part) : Bool := s.line.state.inService

/-- The states in which service messages travel downstream (R20, R22). -/
def LineState.messagesTravel (l : LineState) : Bool :=
  l == .sounding || l == .measuring || l == .loading || l == .carrying || l == .reshape

/-- The relay's position: through when de-energised (R187). -/
def Part.relayPos (s : Part) : RelayPos := if s.supply.relay then .part else .through

/-- U of the upstream table in force (R59, R132). -/
def Part.capU (s : Part) : Option Nat := s.line.upInForce.map payload

/-- P of the downstream table in force (R55, R132). -/
def Part.capP (s : Part) : Option Nat := s.line.downInForce.map payload

/-- The voice capacity C = min(U, P) (R136), 0 where no table is in force. -/
def Part.capC (s : Part) : Nat := min (s.capU.getD 0) (s.capP.getD 0)

/-- Whole seconds of the session, 4000 symbols a second (R36). -/
def Part.sessionSeconds (s : Part) : Nat := (s.line.session.map (·.symbols)).getD 0 / 4000

/-! ### Notices -/

/-- A STATS notice. -/
def Notice.isStats : Notice → Bool
  | .stats _ => true
  | _ => false

/-- A notice joins the notice queue, or settles with a full one (R204). -/
def Link.post (l : Link) (n : Notice) : Link :=
  if l.notices.length < 16 then { l with notices := l.notices ++ [n] }
  else
    { l with
      noticesLost := true
      noticesLostCount := satAdd 65535 l.noticesLostCount 1
      notices := if l.notices.any (·.isStats) then l.notices.eraseP (·.isStats) ++ [n] else l.notices }

/-- A block posts a notice (R204). -/
def Part.post (n : Notice) (s : Part) : Part := { s with link := s.link.post n }

/-- ATTN (R203): asserted while either queue holds a frame. -/
def Part.attn (s : Part) : Bool := !s.link.replies.isEmpty || !s.link.notices.isEmpty

/-- The link status byte of a write transaction (R202). -/
def Part.linkStatus (s : Part) : Byte := if 8 ≤ s.link.replies.length then 0x02 else 0x01

/-- The bytes shifted out in a write transaction of `n` bytes that begins with the link status byte `b`: 00h from the
second on (R202). -/
def writeBytes (b : Byte) (n : Nat) : List Byte := (b :: List.replicate n 0x00).take n

/-- A write transaction that gave out the link status byte `b` (R202; log entry 76). -/
def Part.gaveOut (b : Byte) (s : Part) : Part := { s with link := { s.link with writeStatus := some b } }

/-- A PORT_EVENT notice (R115), with the codec mode where R137 or R142 has it carried. -/
def Part.portEvent (p : PortId) (e : PortEvent) (mode : Option Mode) (s : Part) : Part :=
  s.post (.portEvent p e s.line.state mode)

/-! ### Fault records by sequence -/

/-- The records with the one of sequence `q` changed. -/
def Log.modify (l : Log) (q : Seq) (f : FaultRecord → FaultRecord) : Log :=
  { l with records := l.records.map fun r => if r.seq = q then f r else r }

/-- The record in flight returns to TO_SEND with its send taken back (R155, R162). -/
def Log.retract (l : Log) (q : Seq) : Log :=
  { l.modify q (fun r => { r with delivery := .toSend, sends := r.sends - 1 }) with inFlight := none, ackTimer := none }

/-- How a record is settled by its sends (R154). -/
def FaultRecord.settled (r : FaultRecord) : FaultRecord :=
  { r with delivery := if r.sends < 3 then .toSend else .undelivered }

/-- The record in flight is settled by its sends and cleared (R154, R155). -/
def Log.settle (l : Log) : Log :=
  match l.inFlight with
  | some q => { l.modify q FaultRecord.settled with inFlight := none, ackTimer := none }
  | none => l

/-! ### The outbound service queue -/

/-- A SIGNAL message. -/
def Msg.isSignal : Msg → Bool
  | .signal .. => true
  | _ => false

/-- A message takes its place: SIGNALs ahead of every other kind, each in the order of joining (R21). -/
def insertMsg (m : Msg) (q : List Msg) : List Msg :=
  if m.isSignal then q.takeWhile (·.isSignal) ++ m :: q.dropWhile (·.isSignal) else q ++ [m]

/-- One more discarded message (R21). -/
def Service.discard (v : Service) : Service := { v with discards := satAdd 65535 v.discards 1 }

/-- The queue without its newest non-SIGNAL message. -/
def dropNewest (q : List Msg) : List Msg := (q.reverse.eraseP (!·.isSignal)).reverse

/-- The newest non-SIGNAL message. -/
def newestOther (q : List Msg) : Option Msg := q.reverse.find? (!·.isSignal)

/-- The service channel once the message `x` has been displaced from the queue: it is counted, and the symbol of a SWITCH
is kept, which is then as one discarded (R21, R29, R77). -/
def Service.displaced (v : Service) (x : Msg) : Service :=
  match x with
  | .switch at_ => { v.discard with switchLost := some at_ }
  | _ => v.discard

/-- The log once the message `x` has been displaced from the queue: the FAULT_REPORT in flight has its send taken back
(R155). -/
def Log.displaced (l : Log) (x : Msg) : Log :=
  match x with
  | .faultReport r => if l.inFlight = some r.seq then l.retract r.seq else l
  | _ => l

/-- A message is offered to the outbound service queue (R21). The owner of a message that a SIGNAL displaces is told. -/
def Part.enqueue (m : Msg) (s : Part) : Part :=
  if s.svc.outQ.length < 16 then { s with svc := { s.svc with outQ := insertMsg m s.svc.outQ } }
  else
    match m with
    | .faultReport _ => s
    | .signal .. =>
      match newestOther s.svc.outQ with
      | none => { s with svc := s.svc.discard }
      | some x =>
        { s with
          svc := { s.svc.displaced x with outQ := insertMsg m (dropNewest s.svc.outQ) }
          log := s.log.displaced x }
    | _ => { s with svc := s.svc.discard }

/-! ### Offering reports -/

/-- The first of the TO_SEND records with the highest severity: the oldest among equals (R152). -/
def chooseReport : List FaultRecord → Option FaultRecord
  | [] => none
  | r :: rs =>
    match chooseReport rs with
    | none => if r.delivery = .toSend then some r else none
    | some x =>
      if r.delivery = .toSend ∧ severityCode x.severity ≤ severityCode r.severity then some r else some x

/-- A record as it goes out: SENT, one send more (R152). -/
def FaultRecord.offered (r : FaultRecord) : FaultRecord := { r with delivery := .sent, sends := r.sends + 1 }

/-- The fault log tries to offer a report (R152). -/
def Part.tryOffer (s : Part) : Part :=
  if s.inService && s.log.inFlight.isNone && s.sched.lastReport.isNone && decide (s.svc.outQ.length < 16) then
    match chooseReport s.log.records with
    | none => s
    | some r =>
      Part.enqueue (.faultReport r.offered)
        { s with log := { s.log.modify r.seq FaultRecord.offered with inFlight := some r.seq, ackTimer := none } }
  else s

/-! ### Making a record -/

/-- A record that case 1 of R157 may remove. -/
def FaultRecord.expendable (r : FaultRecord) : Bool :=
  r.delivery == .delivered || r.delivery == .localOnly || r.delivery == .undelivered

/-- A record that case 2 of R157 may remove for a new one of severity `sev`. -/
def FaultRecord.yieldsTo (r : FaultRecord) (inFlight : Option Seq) (sev : Severity) : Bool :=
  decide (inFlight ≠ some r.seq) && decide (severityCode r.severity < severityCode sev)

/-- A new record enters the log or is discarded (R149 step 4, R157): the records after it, whether it was kept, and
whether something was lost. -/
def Log.makeRoom (l : Log) (r : FaultRecord) : List FaultRecord × Bool × Bool :=
  if l.records.length < 32 then (l.records ++ [r], true, false)
  else if l.records.any (·.expendable) then (l.records.eraseP (·.expendable) ++ [r], true, true)
  else if l.records.any (·.yieldsTo l.inFlight r.severity) then
    (l.records.eraseP (·.yieldsTo l.inFlight r.severity) ++ [r], true, true)
  else (l.records, false, true)

/-- The record a block hands over, as R149 makes it (steps 1 to 3). -/
def Part.newRecord (s : Part) (k : FaultKind) (src : FaultSource) (ls : LineState) (ds : List Int) : FaultRecord where
  seq := s.log.next
  time := s.time
  kind := k
  severity := k.severity
  source := src
  lineState := ls
  details := ds
  delivery := if severityCode s.log.threshold ≤ severityCode k.severity then .toSend else .localOnly
  sends := 0

/-- R149 steps 1 to 5: the record is numbered, enters the log or is discarded, and its FAULT notice is posted. -/
def Part.storeRecord (s : Part) (r : FaultRecord) : Part :=
  let a := s.log.makeRoom r
  Part.post (.fault r a.2.1)
    { s with
      log := { s.log with
        records := a.1
        next := s.log.next + 1
        lost := if a.2.2 then satAdd 255 s.log.lost 1 else s.log.lost }
      link := { s.link with logLost := s.link.logLost || a.2.2 } }

/-- R149: a record is made, and a report is tried where it entered the log TO_SEND. -/
def Part.makeRecordAt (k : FaultKind) (src : FaultSource) (ls : LineState) (ds : List Int) (s : Part) : Part :=
  let r := s.newRecord k src ls ds
  let s' := s.storeRecord r
  if (s.log.makeRoom r).2.1 && r.delivery == .toSend then s'.tryOffer else s'

/-- R149 for a rule that names no line state: the line controller's state at the moment. -/
def Part.makeRecord (k : FaultKind) (src : FaultSource) (ds : List Int) (s : Part) : Part :=
  s.makeRecordAt k src s.line.state ds

/-! ### The end of a diagnostic test -/

/-- The result record of a running test at its end (R166). -/
def RunningTest.result (t : RunningTest) (o : DiagOutcome) (duration : Nat) : DiagResult where
  test := t.test
  port := t.port
  source := t.source
  outcome := o
  start := t.start
  duration := duration

/-- A result takes its slot (R163, R166). -/
def Diag.store (d : Diag) (r : DiagResult) : Diag :=
  match r.test with
  | .loopTest => { d with loop := some r }
  | .noiseScan => { d with noise := some r }
  | .portTest => if r.port = some .b then { d with portB := some r } else { d with portA := some r }

/-- The engine once the running test has ended (R166): its result stored, the running test cleared. -/
def Diag.finish (d : Diag) (o : DiagOutcome) (duration : Nat) : Diag :=
  match d.running with
  | none => d
  | some t => { d.store (t.result o duration) with running := none }

/-- The running test ends (R166): result, running test cleared, DIAG_DONE. A waiting entry to SOUNDING and the relay are
settled after it by the event that ends the test, in this order, so that DIAG_DONE stands ahead of port A's PORT_EVENT
(DESIGN CHOICE, log entry 67). -/
def Part.endTest (o : DiagOutcome) (duration : Nat) (s : Part) : Part :=
  match s.diag.running with
  | none => s
  | some t => Part.post (.diagDone (t.result o duration)) { s with diag := s.diag.finish o duration }

/-- How long the running test has run (R166). -/
def Diag.elapsed (d : Diag) : Nat := (d.running.map (·.elapsed)).getD 0

/-- The running test ends ABORTED (R165), with the time it has run. -/
def Part.abortTest (why : AbortCause) (s : Part) : Part := s.endTest (.aborted why) s.diag.elapsed

/-- The running test ends ABORTED by COMMAND_FULL (R163, R166): no notice is posted. -/
def Part.abortUntold (s : Part) : Part := { s with diag := s.diag.finish (.aborted .reset) s.diag.elapsed }

/-- A PORT_TEST is running on the port (R174). -/
def Part.underTest (s : Part) (p : PortId) : Bool :=
  match s.diag.running with
  | some t => t.test == .portTest && t.port == some p
  | none => false

/-- A LOOP_TEST is running (R168). -/
def Part.loopTesting (s : Part) : Bool :=
  match s.diag.running with
  | some t => t.test == .loopTest
  | none => false

/-! ### The transmitter -/

/-- A tone of the wake tone, or a loaded upstream tone, at nominal level plus its gain less the cutback (R59, R179). -/
def Supply.drives (v : Supply) (t : Nat) (e : LoadEntry) : ToneDrive := ⟨t, e.b, some (e.g - (v.cutback : Int))⟩

/-- The tones the transmitter drives at this moment (R15): the probe of a LOOP_TEST on tones 6 to 447 (R169), the wake
tone on its tones (R25), and in service each tone that is UP CARRY in the map in force and has bits in the upstream
table in force, with those bits (R59). The probe has no stated level, the slow framing no stated tones (log entry 50). -/
def Part.driven (s : Part) : Drive :=
  if !s.running then .silent
  else if s.loopTesting then .tones ((tones.filter (6 ≤ ·)).map fun t => ⟨t, 0, none⟩)
  else
    match s.line.transmitter with
    | .off => .silent
    | .wake => .tones ((s.line.wakeTone.getD []).map fun t => s.supply.drives t entryOff)
    | .framing => .framing
    | .service =>
      let table := s.line.upInForce.getD []
      let map := s.band.mapInForce.getD []
      .tones ((tones.filter fun t => isUp map t && (table.getD t entryOff).b != 0).map fun t =>
        s.supply.drives t (table.getD t entryOff))

/-! ### The data port -/

/-- The streaming data port is open while both holds are clear (R188). -/
def Part.dataOpen (s : Part) : Bool := !s.supply.hold && !s.link.silenceHold

/-- A frame record is being assembled (R146): from its first length byte on, so that a record of which no more has come as
the line leaves service, or at a reset, counts as a frame dropped (DESIGN CHOICE, log entry 83). -/
def Assembly.inFrame : Assembly → Bool
  | .high .. | .body .. => true
  | _ => false

/-- The stream port is held off, so that no new frame begins (R143). -/
def Part.streamHeld (s : Part) : Bool := !s.inService || !s.dataOpen || decide (24 ≤ s.sched.upQueue.length)

/-- A frame in arrival once the line leaves service or a reset is taken: it will be discarded at its last byte (R143). -/
def Arrival.doom : Arrival → Arrival
  | .begun => .doomed
  | a => a

/-- A frame is in arrival and not yet counted as lost (R143). -/
def Arrival.uncounted : Arrival → Bool
  | .begun | .doomed => true
  | .idle | .cut => false

/-- A frame in arrival once the data port closes: cut off (R143, R188). -/
def Arrival.close (a : Arrival) : Arrival := if a.uncounted then .cut else a

/-- The flush of both data paths when the line leaves service or at a reset, counted (R145, R146). -/
def Sched.flush (d : Sched) : Sched :=
  { d with
    arrival := d.arrival.doom
    upQueue := []
    headPlaced := 0
    framesLost := satAdd 0xFFFFFFFF d.framesLost d.upQueue.length
    assembly := .idle
    framesDropped := satAdd 0xFFFFFFFF d.framesDropped (if d.assembly.inFrame then 1 else 0) }

/-- The downstream buffer emptied, each frame counted as dropped (R146). -/
def Sched.emptyBuffer (d : Sched) : Sched :=
  { d with downBuffer := [], framesDropped := satAdd 0xFFFFFFFF d.framesDropped d.downBuffer.length }

/-- The closure of the data port (R143, R145, R146, R188): a head frame partly placed stays; a frame in arrival is
discarded and counted as lost. -/
def Sched.close (d : Sched) : Sched :=
  let kept := if d.headPlaced = 0 then 0 else 1
  Sched.emptyBuffer
    { d with
      upQueue := d.upQueue.take kept
      arrival := d.arrival.close
      framesLost := satAdd 0xFFFFFFFF d.framesLost
        ((d.upQueue.drop kept).length + if d.arrival.uncounted then 1 else 0) }

/-- The two holds of the data port take new values; a change from open to closed acts on the paths (R188). -/
def Part.setHolds (supplyHold silenceHold : Bool) (s : Part) : Part :=
  let closes := s.dataOpen && (supplyHold || silenceHold)
  { s with
    supply := { s.supply with hold := supplyHold }
    link := { s.link with silenceHold := silenceHold }
    sched := if closes then s.sched.close else s.sched }

end Sys2Proof.Machine
end

