-- ==== Sys2Proof/Machine/PortOps.lean ====
section
/-! DEFINITION. What happens to a telephone port, whatever causes it: signals and announcing (R95), state changes and
their notices (R115), channels (R117, R138), rings (R104 to R107), PARKED (R102), on-hook (R101), DIALLING (R96), the line
leaving service (R103), the through position (R90) and the relay's drive (R187), what a port hears (R97, R128). -/

namespace Sys2Proof.Machine

/-! ### Signals and states -/

/-- A SIGNAL for the port (R95). -/
def Part.signal (p : PortId) (x : Signal) (s : Part) : Part := s.enqueue (.signal p x)

/-- SIGNAL OFF_HOOK; announced becomes YES (R95), also where R21 discards the SIGNAL at a queue full of SIGNALs (DESIGN
CHOICE, log entry 78). -/
def Part.sayOffHook (p : PortId) (s : Part) : Part :=
  (s.signal p .offHook).modPort p fun r => { r with announced := true }

/-- SIGNAL ON_HOOK; announced becomes NO (R95), also where R21 discards the SIGNAL at a queue full of SIGNALs (DESIGN
CHOICE, log entry 78). -/
def Part.sayOnHook (p : PortId) (s : Part) : Part :=
  (s.signal p .onHook).modPort p fun r => { r with announced := false }

/-- SIGNAL ON_HOOK for a port that is announced while the line is in service (R98, R101, R112). -/
def Part.withdraw (p : PortId) (s : Part) : Part :=
  if (s.port p).announced && s.inService then s.sayOnHook p else s

/-- The port's state becomes `new` (R115). A PORT_TEST on a port that leaves IDLE and DISABLED is aborted (R165, R174): its
DIAG_DONE is posted behind the PORT_EVENT of the change (DESIGN CHOICE, log entry 92). -/
def Part.enterState (p : PortId) (new : PortState) (mode : Option Mode) (s : Part) : Part :=
  let old := (s.port p).state
  if old = new then s
  else
    let s' := (s.modPort p fun r => { r with state := new }).portEvent p (.state old new) mode
    if s'.underTest p && !(new == .idle || new == .disabled) then s'.abortTest .portState else s'

/-- The off-hook states (R85). -/
def PortState.offHook : PortState → Bool
  | .dialling | .connected | .held | .intercom | .joined | .parked => true
  | _ => false

/-- Port `p` is the caller of a local ring on the other port (R111). -/
def Part.isCaller (s : Part) (p : PortId) : Bool :=
  let o := s.port (other p)
  o.state == .ringing && (o.ring.map (·.partner)).getD none == some p

/-! ### Channels -/

/-- A channel record begins in the admitted mode and names its channel switch symbol (R117, R138). Its switch acts also
where R21 discards the SIGNAL CHANNEL that names it (DESIGN CHOICE, log entry 78). -/
def Part.beginChannel (p : PortId) (m : Mode) (s : Part) : Part :=
  let at_ := s.line.symbol + 2000
  let s' := s.setChan p (some ⟨m, true, (0, 0), 0⟩)
  Part.signal p (.channel (some m) at_)
    { s' with sched := { s'.sched with switches := s'.sched.switches ++ [⟨p, at_, .begin⟩] } }

/-- A channel that ends leaves its slots as an ended channel's (R138). -/
def Slot.finish (x : Slot) (c : Channel) : Slot :=
  match x with
  | .live => .ended c.mode c.active
  | x => x

/-- A beginning not yet reached becomes that of an ended channel (R138). -/
def ChanSwitch.finish (p : PortId) (c : Channel) (w : ChanSwitch) : ChanSwitch :=
  if w.port = p ∧ w.what = .begin then { w with what := .beginEnded c.mode c.active } else w

/-- A port's channel record ends while the line is in service (R117, R138). Its hold timer stops (R141). Its switch acts
also where R21 discards the SIGNAL CHANNEL that names it (DESIGN CHOICE, log entry 78). -/
def Part.endChannel (p : PortId) (s : Part) : Part :=
  match s.chan p with
  | none => s.setHold p none
  | some c =>
    let at_ := s.line.symbol + 2000
    let s1 := ((s.setChan p none).setHold p none).setSlot p ((s.slot p).finish c)
    let s2 : Part :=
      { s1 with sched := { s1.sched with switches := s1.sched.switches.map (·.finish p c) ++ [⟨p, at_, .finish⟩] } }
    s2.signal p (.channel none at_)

/-! ### Rings -/

/-- The phases of a cadence in ms, on and off in turn (R104). A number other than 0 to 3 is cadence 0. -/
def cadencePhases : Nat → List Nat
  | 1 => [1000, 2000]
  | 2 => [250, 250, 250, 250, 250, 2250]
  | 3 => [2000, 4000]
  | _ => [400, 200, 400, 2000]

/-- The cadence a RING names (R104). -/
def cadenceOf (n : Nat) : Nat := if n ≤ 3 then n else 0

/-- The driver is in an on phase (R104, R109). -/
def Port.driving (r : Port) : Bool :=
  r.state == .ringing && (match r.ring with | some g => g.phase % 2 == 0 | none => false)

/-- The ring loads of the ports in RINGING (R105). -/
def Part.ringingLoad (s : Part) : Nat :=
  (if s.portA.state = .ringing then s.portA.ringLoad else 0) +
    (if s.portB.state = .ringing then s.portB.ringLoad else 0)

/-- The ring budget allows a ring on the port (R105). -/
def Part.budgetAllows (s : Part) (p : PortId) : Bool := s.ringingLoad + (s.port p).ringLoad ≤ s.supply.budget

/-- The RING_LIMITED notice (R105, R182). -/
def Part.postRingLimited (p : PortId) (s : Part) : Part :=
  s.post (.ringLimited p (s.port p).ringLoad s.supply.budget)

/-- A ring starts in its first on phase (R104, R111). The caller of a local ring has its dial timer stopped (R98), and its
ringback is to begin its cadence with the ring, whatever its generator was playing (R128). -/
def Part.startRing (p : PortId) (cadence : Nat) (origin : Origin) (partner : Option PortId) (s : Part) : Part :=
  let g : Ring :=
    ⟨cadence, 0, (cadencePhases cadence).headD 0, origin, partner, if origin = .loc then some 60000 else none⟩
  let s' := (s.modPort p fun r => { r with ring := some g }).enterState p .ringing none
  match partner with
  | some q => (s'.modPort q fun r => { r with dialTimer := none }).setGen q .silent
  | none => s'

/-- A TONE held for the caller of a local ring is to begin its cadence now that the ring has ended (R130). -/
def Part.releaseTone (q : PortId) (s : Part) : Part :=
  match (s.port q).lastTone with
  | some (k, true) => (s.modPort q fun r => { r with lastTone := some (k, false) }).setGen q .silent
  | _ => s

/-- The caller of a local ring that ended without answer (R96, R107, R130): dial timer, the TONE held for it, and SIGNAL
OFF_HOOK where it was not announced. -/
def Part.callerBack (q : PortId) (s : Part) : Part :=
  if (s.port q).state = .dialling then
    let s' := (s.modPort q fun r => { r with dialTimer := some 30000 }).releaseTone q
    if s'.inService && !(s'.port q).announced then s'.sayOffHook q else s'
  else s

/-- A ring ends without answer and the port goes to `next` (R107). `byPart` has SIGNAL RING_LIMITED sent for a line
ring. -/
def Part.endRing (p : PortId) (byPart : Bool) (next : PortState) (s : Part) : Part :=
  match (s.port p).ring with
  | none => s
  | some g =>
    let s' := (s.modPort p fun r => { r with ring := none }).enterState p next none
    match g.origin with
    | .line => if byPart && s'.inService then s'.signal p .ringLimited else s'
    | .loc =>
      match g.partner with
      | some q => s'.callerBack q
      | none => s'

/-- A local ring of which `p` was caller stops, its caller having left DIALLING (R101, R107). -/
def Part.dropRungBy (p : PortId) (s : Part) : Part :=
  if s.isCaller p then s.endRing (other p) false .idle else s

/-! ### Calls -/

/-- Entry to PARKED (R102): the howler timer starts. -/
def Part.park (p : PortId) (s : Part) : Part :=
  ((s.modPort p fun r => { r with dialTimer := none, digit := none, howler := some 60000 }).enterState p .parked
    none).dropRungBy p

/-- The join link cleared. -/
def Part.unlink (s : Part) : Part := { s with voice := { s.voice with joinLink := false } }

/-- Port B in JOINED goes to PARKED with the join link cleared (R100, R101, R103, R114). -/
def Part.parkJoined (s : Part) : Part :=
  if s.portB.state = .joined then s.unlink.park .b else s

/-- DIALLING entered as for an off-hook in IDLE (R96). No digit is in progress in it, whatever port B had begun as JOINED
ahead of a PART, or a port ahead of its COOLDOWN's end (DESIGN CHOICE, log entry 56). -/
def Part.toDialling (p : PortId) (s : Part) : Part :=
  let s' := (s.modPort p fun r =>
    { r with dialTimer := some 30000, digit := none, lastTone := none, howler := none }).enterState p .dialling none
  if s'.inService then s'.sayOffHook p else s'

/-- What the other port does when `p` leaves a call it shared (R101, R112, R114). -/
def Part.leaveCall (p : PortId) (old : PortState) (s : Part) : Part :=
  let s1 := if old = .intercom ∧ (s.port (other p)).state = .intercom then s.park (other p) else s
  let s2 := if p = .a then s1.parkJoined else if old = .joined then s1.unlink else s1
  s2.dropRungBy p

/-- The effects of an on-hook on the port and its call (R101), the port going to `next`. -/
def Part.hangUp (p : PortId) (next : PortState) (s : Part) : Part :=
  let old := (s.port p).state
  let s1 := (s.withdraw p).endChannel p
  let s2 := (s1.modPort p fun r => { r with dialTimer := none, howler := none, digit := none, lastTone := none })
  (s2.enterState p next none).leaveCall p old

/-- One port as the line leaves service (R103); the line has left service already. -/
def Part.portLeavesService (p : PortId) (s : Part) : Part :=
  let r := s.port p
  let s' :=
    match r.state with
    | .connected | .held | .joined => s.park p
    | .ringing => if (r.ring.map Ring.origin) = some Origin.line then s.endRing p false .idle else s
    | .dialling => s.modPort p fun r => { r with dialTimer := if s.isCaller p then none else some 30000 }
    | _ => s
  s'.modPort p fun r => { r with announced := false }

/-- The voice channels and their arrangement end with the service (R103, R117, R132, R138). -/
def Part.channelsEnd (s : Part) : Part :=
  { s with
    voice := { s.voice with chanA := none, chanB := none, joinLink := false, lineA := [], lineB := [] }
    sched := { s.sched with slotA := .empty, slotB := .empty, switches := [], holdA := none, holdB := none } }

/-- Both ports as the line leaves service (R103). -/
def Part.portsLeaveService (s : Part) : Part := (s.channelsEnd.portLeavesService .a).portLeavesService .b

/-! ### The through position and the relay -/

/-- Port A enters THROUGH (R90). -/
def Part.enterThrough (s : Part) : Part :=
  let old := s.portA.state
  let s1 := s.endRing .a false .through
  let s2 := (s1.setChan .a none).setHold .a none
  let s3 := s2.modPort .a fun r =>
    { r with announced := false, digit := none, dialTimer := none, cooldown := none, howler := none, lastTone := none }
  (s3.enterState .a .through none).leaveCall .a old

/-- Port A leaves THROUGH for IDLE or DISABLED by its enable flag (R90). -/
def Part.leaveThrough (s : Part) : Part :=
  s.enterState .a (if s.portA.enable then .idle else .disabled) none

/-- Where the drive puts the relay: energised or not (R187). -/
def Part.relayTarget (s : Part) : Bool :=
  if s.supply.state = .shutdown then false
  else if s.loopTesting then true
  else if s.line.request = .through then false
  else s.supply.relay || s.portA.hook == .onHook

/-- The supervisor drives the relay, and port A follows its position (R90, R187). -/
def Part.settleRelay (s : Part) : Part :=
  let t := s.relayTarget
  if t = s.supply.relay then s
  else
    let s' : Part := { s with supply := { s.supply with relay := t } }
    if t then s'.leaveThrough else s'.enterThrough

/-! ### What a port hears -/

/-- The tone of a TONE kind (R97, R128). -/
def heardTone : CallTone → Heard
  | .dial => .tone .dial
  | .busy => .tone .busy
  | .ringback => .tone .ringback
  | .congestion => .tone .congestion
  | .nothing => .silence

/-- What a port hears (R97). -/
def Part.heardOf (s : Part) (p : PortId) : Heard :=
  let r := s.port p
  match r.state with
  | .dialling =>
    if s.isCaller p then .tone .ringback
    else if s.inService then
      match r.lastTone with
      | some k => heardTone k.1
      | none => .silence
    else .tone .noService
  | .connected => .line
  | .joined => if s.portA.state = .held then .otherPort else .line
  | .held => if p = .a ∧ s.portB.state = .joined then .otherPort else .silence
  | .intercom => .otherPort
  | .parked => if r.howler.isSome then .tone .howler else .silence
  | _ => .silence

/-- The kind a generator plays for what its port hears (R128). -/
def Heard.kind : Heard → ToneKind
  | .tone k => k
  | _ => .silent

/-- A kind is selected; a kind already playing goes on (R128). A howler starts at peak 500 (R129). -/
def Generator.select (g : Generator) (k : ToneKind) : Generator := if g.kind = k then g else ⟨k, 0, 500⟩

/-- The port controller selects what one port hears (R97, R128). -/
def Part.refreshPort (p : PortId) (s : Part) : Part :=
  let h := s.heardOf p
  (s.modPort p fun r => { r with heard := h }).setGen p ((s.gen p).select h.kind)

/-- The port controllers select what both ports hear, after anything that can change it (R97, R128). -/
def Part.refreshHeard (s : Part) : Part := (s.refreshPort .a).refreshPort .b

/-! ### Digits and port events -/

/-- Whether a digit, flash or dial error goes to the exchange unit (R95). -/
def Part.signalsDigits (s : Part) (p : PortId) : Bool :=
  let st := (s.port p).state
  s.inService && (st == .connected || (st == .dialling && !s.isCaller p))

/-- A FLASH or DIAL_ERROR event (R92, R95). -/
def Part.giveEvent (p : PortId) (e : PortEvent) (x : Signal) (s : Part) : Part :=
  let s' := s.portEvent p e none
  if s'.signalsDigits p then s'.signal p x else s'

/-- A DIGIT event (R93 to R95). In DIALLING it restarts the dial timer, but for the caller of a local ring (R98). -/
def Part.giveDigit (p : PortId) (d : Digit) (pulse : Bool) (s : Part) : Part :=
  let s1 := s.giveEvent p (.digit d pulse) (.digit d)
  if (s1.port p).state = .dialling ∧ s1.isCaller p = false then
    s1.modPort p fun r => { r with dialTimer := some 30000 }
  else s1

/-- A hook declaration (R91, R115). -/
def Part.declareHook (p : PortId) (h : Hook) (s : Part) : Part :=
  (s.modPort p fun r => { r with hook := h }).portEvent p (if h = .offHook then .offHook else .onHook) none

end Sys2Proof.Machine
end

