-- ==== Sys2Proof/Machine/Capacity.lean ====
section
/-! DEFINITION. The capacity rule of chapter 7: voice demand, admission (R137), shrink (R139), growth (R140), and the
notices and records that report them (R139, R142). -/

namespace Sys2Proof.Machine

/-- A port's place in the arrangement: mode and active flag (R138). -/
def Part.view (s : Part) (p : PortId) : Option (Mode × Bool) :=
  match s.slot p with
  | .empty => none
  | .live => (s.chan p).map fun c => (c.mode, c.active)
  | .ended m a => some (m, a)

/-- The voice bytes a mode and active flag take (R136). -/
def demandOf : Option (Mode × Bool) → Nat
  | some (m, true) => m.bytes
  | _ => 0

/-- The voice bytes per symbol given to a port (R132). -/
def Part.alloc (s : Part) (p : PortId) : Nat := demandOf (s.view p)

/-- The voice demand V of the arrangement (R136, R138). -/
def Part.demand (s : Part) : Nat := s.alloc .a + s.alloc .b

/-- The V an admission is judged against: that of the channels that exist (R137). -/
def Part.channelDemand (s : Part) : Nat :=
  demandOf ((s.chan .a).map fun c => (c.mode, c.active)) + demandOf ((s.chan .b).map fun c => (c.mode, c.active))

/-- Admission (R137): FULL, HALF, or not admitted. -/
def Part.admission (s : Part) : Option Mode :=
  if s.channelDemand + 3 ≤ s.capC then some .full
  else if s.channelDemand + 2 ≤ s.capC then some .half
  else none

/-- The demand is above C - 1 (R139). -/
def Part.overdrawn (s : Part) : Bool := s.capC < s.demand + 1

/-- One byte more fits (R140). -/
def Part.byteFits (s : Part) : Bool := s.demand + 2 ≤ s.capC

/-- A port's place takes a mode: the live channel's, or an ended channel's (R138 to R140). -/
def Part.setMode (p : PortId) (m : Mode) (s : Part) : Part :=
  match s.slot p with
  | .live => s.setChan p ((s.chan p).map fun c => { c with mode := m })
  | .ended _ a => s.setSlot p (.ended m a)
  | .empty => s

/-- Steps 3 and 4 of the shrink (R139): the port to HELD; an ended channel's slots only. -/
def Part.holdPort (p : PortId) (s : Part) : Part :=
  match s.slot p with
  | .live =>
    (((s.setChan p ((s.chan p).map fun c => { c with active := false })).enterState p .held none).signal p
      .capacityHold).setHold p (some 30000)
  | .ended m _ => s.setSlot p (.ended m false)
  | .empty => s

/-- Steps 1 and 2 of the growth (R140): the port back to CONNECTED in HALF; an ended channel's slots only. -/
def Part.resumePort (p : PortId) (s : Part) : Part :=
  match s.slot p with
  | .live =>
    (((s.setChan p ((s.chan p).map fun c => { c with mode := .half, active := true })).enterState p .connected
      (some .half)).setHold p none).signal p .capacityResume
  | .ended _ _ => s.setSlot p (.ended .half true)
  | .empty => s

/-- One step of the shrink, taken while the demand is too high and where it applies (R139). -/
def Part.shrinkStep (s : Part) (applies : Bool) (f : Part → Part) : Part :=
  if s.overdrawn && applies then f s else s

/-- The port has an active FULL channel in the arrangement (R139). -/
def Part.isFull (s : Part) (p : PortId) : Bool := s.view p == some (.full, true)

/-- The port has an active HALF channel in the arrangement (R140). -/
def Part.isHalf (s : Part) (p : PortId) : Bool := s.view p == some (.half, true)

/-- The port has an active channel in the arrangement (R139). -/
def Part.isActive (s : Part) (p : PortId) : Bool := s.isFull p || s.isHalf p

/-- The port has an inactive channel in the arrangement: it is HELD (R140). -/
def Part.isInactive (s : Part) (p : PortId) : Bool :=
  match s.view p with
  | some (_, false) => true
  | _ => false

/-- The shrink (R139), its four steps in order. -/
def Part.shrink (s : Part) : Part :=
  let s1 := s.shrinkStep (s.isFull .b) (·.setMode .b .half)
  let s2 := s1.shrinkStep (s1.isFull .a) (·.setMode .a .half)
  let s3 := s2.shrinkStep (s2.isActive .b) (·.holdPort .b)
  s3.shrinkStep (s3.isActive .a) (·.holdPort .a)

/-- The CAPACITY_HOLD record of a port the shrink has held (R139): U, P, V after the shrink, and its mode before. -/
def Part.recordHold (before : Part) (p : PortId) (s : Part) : Part :=
  match before.slot p, before.view p with
  | .live, some (m, true) =>
    if s.isInactive p then
      s.makeRecord .capacityHold (portSource p)
        [((s.capU.getD 0 : Nat) : Int), ((s.capP.getD 0 : Nat) : Int), (s.demand : Int), (m.bytes : Int)]
    else s
  | _, _ => s

/-- One step of the growth, taken where it applies and fits (R140). -/
def Part.growStep (s : Part) (applies : Bool) (f : Part → Part) : Part :=
  if applies && s.byteFits then f s else s

/-- The growth (R140), its four steps in order. A step that applies and does not fit ends it: no later one fits. -/
def Part.growth (s : Part) : Part :=
  let s1 := s.growStep (s.isInactive .a) (·.resumePort .a)
  let s2 := s1.growStep (s1.isInactive .b) (·.resumePort .b)
  let s3 := s2.growStep (s2.isHalf .a) (·.setMode .a .full)
  s3.growStep (s3.isHalf .b) (·.setMode .b .full)

/-- The capacity rule at a switch symbol (R136, R139, R140), as one command of the table applies it: where a symbol is the
switch symbol of two commands it runs once for each (DESIGN CHOICE, log entry 82). The CAPACITY_HOLD records of the ports
held are made behind all four steps of the shrink, port B's first (DESIGN CHOICE, log entry 89). -/
def Part.capacityRule (s : Part) : Part :=
  let t := s.shrink
  (Part.recordHold s .a (Part.recordHold s .b t)).growth

/-- The RATE_CHANGE notice with the rates in force and the codec modes (R30, R142). -/
def Part.postRates (s : Part) : Part :=
  s.post (.rateChange (rateOf (s.capP.getD 0)) (rateOf (s.capU.getD 0)) (s.mode .a) (s.mode .b))

/-- The capacity rule at a switch symbol that has no RATE_CHANGE of its own: one is posted where a mode changes (R142). -/
def Part.capacityRuleQuiet (s : Part) : Part :=
  let t := s.capacityRule
  if t.mode .a = s.mode .a ∧ t.mode .b = s.mode .b then t else t.postRates

/-- A port asks for admission and enters CONNECTED, or stays as `refused` says (R99, R106, R137). -/
def Part.askChannel (p : PortId) (refused : Part → Part) (s : Part) : Part :=
  match s.admission with
  | some m =>
    let s1 := if (s.port p).announced then s else s.sayOffHook p
    let s2 := (s1.beginChannel p m).modPort p fun r => { r with dialTimer := none }
    s2.enterState p .connected (some m)
  | none => refused s

/-- A channel switch symbol acts on its port's slot (R138). -/
def ChanSwitch.apply (w : ChanSwitch) (s : Part) : Part :=
  match w.what with
  | .begin => s.setSlot w.port .live
  | .beginEnded m a => s.setSlot w.port (.ended m a)
  | .finish => s.setSlot w.port .empty

/-- The named switches of the earliest channel switch symbol, and the later ones. -/
def dueSwitches : List ChanSwitch → List ChanSwitch × List ChanSwitch
  | [] => ([], [])
  | w :: ws => (w :: ws.takeWhile (·.at_ == w.at_), ws.dropWhile (·.at_ == w.at_))

end Sys2Proof.Machine
end

