-- ==== Sys2Proof/Machine/SupplyOps.lean ====
section
/-! DEFINITION. The supply supervisor's parts: judging the debounce timers (R177), the overlay (R5), stopping rings
(R182, R185), shedding port B (R183), and the SUPPLY_STATE notice (R190). -/

namespace Sys2Proof.Machine

/-- A debounce timer after its condition is judged: it goes on, starts at 0, or stands stopped (R177). -/
def judged (holds : Bool) (timer : Option Nat) : Option Nat := if holds then some (timer.getD 0) else none

/-- Every debounce timer judged in the present state against the inputs and thresholds (R177). -/
def Supply.retime (v : Supply) : Supply :=
  let onBattery := !v.mains
  { v with
    tAbsence := judged (v.state == .mains && onBattery) v.tAbsence
    tPresence := judged (v.state != .mains && v.mains) v.tPresence
    tLow := judged (v.state == .battery && onBattery && decide (v.battery < v.low)) v.tLow
    tCutoff := judged ((v.state == .battery || v.state == .batteryLow) && onBattery && decide (v.battery < v.cutoff))
      v.tCutoff
    tReturn := judged (v.state == .batteryLow && onBattery && decide (v.lowReturn ≤ v.battery)) v.tReturn
    tRecovery := judged (v.state == .shutdown && onBattery && decide (1160 ≤ v.battery)) v.tRecovery }

/-- The timers judged after a change of state, input or threshold. -/
def Part.retime (s : Part) : Part := { s with supply := s.supply.retime }

/-- The SUPPLY_STATE notice (R190), with the data port and each of its holds (R188). -/
def Part.postSupply (old : Option SupplyState) (s : Part) : Part :=
  s.post (.supplyState old s.supply.state s.supply.battery s.supply.budget s.supply.cutback s.dataOpen s.supply.hold
    s.link.silenceHold)

/-- The overlay is raised or lowered, and a change of the configured map is told (R5, R13). -/
def Part.setOverlay (on : Bool) (s : Part) : Part :=
  if s.band.overlay = on then s
  else
    let s' : Part := { s with band := { s.band with overlay := on } }
    let n := rolesChanged s.band.configured s'.band.configured
    if n = 0 then s' else s'.post (.bandMap n)

/-- Budget and cutback take new values (R179). -/
def Part.setBudget (budget cutback : Nat) (s : Part) : Part :=
  { s with supply := { s.supply with budget := budget, cutback := cutback } }

/-- One ring stops, as a ring ended by the part, and is told (R182). -/
def Part.stopRing (p : PortId) (s : Part) : Part :=
  if (s.port p).state = .ringing then (s.endRing p true .idle).postRingLimited p else s

/-- Rings above a lowered budget stop: port B first, then port A where it alone exceeds the budget (R182). -/
def Part.trimRings (s : Part) : Part :=
  if s.supply.budget < s.ringingLoad then
    let s' := s.stopRing .b
    if s'.supply.budget < s'.ringingLoad then s'.stopRing .a else s'
  else s

/-- Every ring stops (R185). -/
def Part.stopRings (s : Part) : Part := (s.stopRing .b).stopRing .a

/-- Port B enters SHED (R183). -/
def Part.shedPort (s : Part) : Part :=
  (s.modPort .b fun r =>
    { r with
      hook := .onHook, digit := none, dialTimer := none, howler := none, cooldown := none, lastTone := none
      shedPending := false }).enterState .b .shed none

/-- Port B at entry to BATTERY_LOW (R183). A ringing port B passes through IDLE on its way to SHED, two changes of state
(DESIGN CHOICE, log entry 60). -/
def Part.shedAtLow (s : Part) : Part :=
  if s.portB.state = .ringing then (s.endRing .b true .idle).shedPort
  else if s.portB.state.offHook then s.modPort .b fun r => { r with shedPending := true }
  else s.shedPort

/-- Port B at entry to SHUTDOWN: SHED from any state (R183). -/
def Part.shedAtShutdown (s : Part) : Part :=
  if s.portB.state = .ringing then (s.endRing .b true .idle).shedPort
  else
    let old := s.portB.state
    (s.shedPort.modPort .b fun r => { r with announced := false }).leaveCall .b old

/-- The shedding of port B ends (R183). -/
def Part.endShedding (s : Part) : Part :=
  let s' := s.modPort .b fun r => { r with shedPending := false }
  if s'.portB.state = .shed then s'.enterState .b (if s'.portB.enable then .idle else .disabled) none else s'

/-- Seconds since the mains was lost (R148, R184, R185). -/
def Part.sinceLost (s : Part) : Nat := s.time - s.supply.mainsLostAt.getD s.time

end Sys2Proof.Machine
end

