-- ==== Sys2Proof/Machine/LineOps.lean ====
section
/-! DEFINITION. The line controller's shared operations: leaving a line state (R16, R18, R34), the drop snapshot (R36),
drops and failed attempts (R31 to R35), SHUTDOWN's hold on the line (R186), entry to SOUNDING (R24), table sends and the
naming of a switch symbol (R23, R29, R77), and reshapes (R72 to R79). -/

namespace Sys2Proof.Machine

/-- The LINE_STATE notice of a change of state (R38, R75, R79). -/
def Part.postLine (old : LineState) (cause : Option Cause) (reasons : List Reason) (s : Part) : Part :=
  s.post (.lineState s.line.state old s.line.attempts cause reasons)

/-! ### Out of a bring-up or out of service -/

/-- The phase record cleared (R16). -/
def Line.clearPhase (l : Line) : Line :=
  { l with
    callsSent := 0, rejections := 0, loadingDeadline := none, segs := none, upValid := false, switch := none
    wakeTone := none, wakeLeft := none, callWindow := none }

/-- The line record on entry to QUIET, DROPPED or FALLBACK (R16, R18, R31, R34, R40, R72). -/
def Line.rest (st : LineState) (l : Line) : Line :=
  { l.clearPhase with
    state := st
    holdoff := none
    retry := none
    startPending := false
    session := none
    request := if st = .dropped then .part else .through
    transmitter := .off
    downInForce := none
    upInForce := none
    downOffered := none
    upOffered := none
    move := none
    reasons := []
    reshape := none }

/-- Entry to QUIET, DROPPED or FALLBACK, as far as the line, its maps, its monitor and its queues go (R10, R21, R40,
R62, R80, R132). -/
def Part.restLine (st : LineState) (s : Part) : Part :=
  { s with
    line := s.line.rest st
    band := { s.band with offeredMap := none, mapInForce := none }
    load := { s.load with offeredProfile := none, periodSums := [], periodCount := 0 }
    monitor := .initial
    tracker := .initial
    svc := { s.svc with outQ := [] }
    sched := { s.sched with burst := ⟨[], none⟩ } }

/-- The message in arrival is lost: counted where the end of service cut it off (R20). -/
def Service.cut (counted : Bool) (v : Service) : Service :=
  { v with
    rx := ([], false)
    rxErrors := if counted && !v.rx.1.isEmpty then satAdd 65535 v.rxErrors 1 else v.rxErrors }

/-- The record in flight and last-report mode as the line leaves service (R135, R155, R161): a last report with a byte
still to be placed ends unsent; one whose last byte is placed has been sent, and its record stays SENT. -/
def Part.logLeavesService (s : Part) : Part :=
  match s.sched.lastReport with
  | some (_ :: _) =>
    let log := match s.log.inFlight with
      | some q => s.log.modify q fun r => { r with delivery := .toSend }
      | none => s.log
    { s with
      log := { log with inFlight := none, ackTimer := none }
      sched := { s.sched with lastReport := none } }
  | some [] => { s with log := { s.log with lastPlaced := true }, sched := { s.sched with lastReport := none } }
  | none =>
  if s.log.lastPlaced && s.log.inFlight.isSome && s.log.inFlight == s.log.lastSeq then s
  else { s with log := s.log.settle }

/-- What the neighbours do after the line, that was in `was`, has left it for QUIET, DROPPED or FALLBACK. -/
def Part.afterLeaving (was : LineState) (s : Part) : Part :=
  if was.inService then
    (Part.logLeavesService { s with sched := s.sched.flush, svc := s.svc.cut true }).portsLeaveService
  else { s with svc := s.svc.cut false }

/-! ### Drops -/

/-- The drop snapshot of this moment (R36). -/
def Part.snapshotOf (s : Part) (cause : Cause) : Snapshot where
  cause := cause
  seconds := s.sessionSeconds
  downRate := rateOf (s.capP.getD 0)
  upRate := rateOf (s.capU.getD 0)
  worst := s.monitor.worst.map (·.1)
  average := s.monitor.average
  tracker := s.tracker.state
  period := s.tracker.period
  severe := (s.line.session.map (·.severe)).getD 0
  reshapes := (s.line.session.map (·.reshapes)).getD 0
  sinceRead := satAdd 255 ((s.snapshot.map (·.sinceRead)).getD 0) 1

/-- The snapshot slot is overwritten and SNAPSHOT_NEW set (R36). -/
def Part.writeSnapshot (cause : Cause) (s : Part) : Part :=
  { s with snapshot := some (s.snapshotOf cause), link := { s.link with snapshotNew := true } }

/-- The details of a LINE_DROP record (R34). -/
def Snapshot.dropDetails (x : Snapshot) : List Int :=
  [(x.cause.code : Int), (x.seconds : Int), (x.downRate : Int), (x.upRate : Int)]

/-- The line goes to QUIET (R18): with no cause as LINE_STOP does, with one as a drop from service (R35). -/
def Part.toQuiet (cause : Option Cause) (s : Part) : Part :=
  let was := s.line.state
  let s1 := match cause with
    | some c => s.writeSnapshot c
    | none => s
  let s2 := s1.restLine .quiet
  let s3 : Part := { s2 with line := { s2.line with attempts := 0 } }
  let s4 := match cause with
    | some c => s3.makeRecordAt .lineDrop .line was (s.snapshotOf c).dropDetails
    | none => s3
  let s5 := (s4.afterLeaving was).settleRelay
  if was = .quiet then s5 else s5.postLine was cause []

/-- The presence timer has run its 2 s (R177), the mains having been present ever since: an expiry in CUTOFF that an absence
of the mains followed is forgotten (DESIGN CHOICE, log entry 91). -/
def Supply.presenceExpired (v : Supply) : Bool :=
  match v.tPresence with
  | some n => decide (2000 ≤ n)
  | none => false

/-- Entry to SHUTDOWN (R35, R186). Where the presence timer has expired by then, the power-on reset follows at the entry;
the mains is present, so the resampled state is MAINS (R178). The cutback is left at its number (DESIGN CHOICE, log entry
59): the table of R179 gives SHUTDOWN none, only the transmitter off. The SUPPLY_STATE notice of this entry is posted last,
behind the FAULT and LINE_STATE notices of the drop and the PORT_EVENTs of both ports (DESIGN CHOICE, log entry 79).
That a command's own reply comes after such a power-on reset is log entry 85. -/
def Part.enterShutdown (s : Part) : Part :=
  let old := s.supply.state
  if s.supply.presenceExpired then Part.initial true s.supply.battery
  else
    let s1 : Part := { s with supply := { s.supply with state := .shutdown, budget := 0 } }
    let s2 := (s1.setHolds true s1.link.silenceHold).setOverlay false
    let s3 := s2.toQuiet (if s2.inService then some .supply else none)
    (s3.settleRelay.shedAtShutdown.retime).postSupply (some old)

/-- In CUTOFF, the line's departure from service under last-report mode ends the mode, the report sent or unsent, and
sends the supervisor on to SHUTDOWN (R135, R161, R185). `before` is the part ahead of the departure. A departure by
COMMAND_FULL or COMMAND_LINE sends it on in the same way, though R176 has the supply state kept at such a reset (DESIGN
CHOICE, log entry 84). -/
def Part.proceedIfReporting (before : Part) (s : Part) : Part :=
  if before.sched.lastReport.isSome && s.supply.state == .cutoff && !s.inService then s.enterShutdown else s

/-- A drop with a cause other than SUPPLY (R34). -/
def Part.dropLine (cause : Cause) (s : Part) : Part :=
  let was := s.line.state
  let s1 := (s.writeSnapshot cause).restLine .dropped
  let s2 : Part := { s1 with line := { s1.line with attempts := 1, holdoff := some 1000 } }
  let s3 := s2.makeRecordAt .lineDrop .line was (s.snapshotOf cause).dropDetails
  Part.proceedIfReporting s ((s3.afterLeaving was).postLine was (some cause) [])

/-! ### Failed attempts -/

/-- The holdoff in seconds after the failure that makes the attempt count `n` (R31). -/
def holdoffSeconds (n : Nat) : Nat := min 64 (2 ^ (n - 1))

/-- An attempt fails (R31, R33). -/
def Part.failAttempt (cause : Cause) (figure : Int) (s : Part) : Part :=
  let was := s.line.state
  let count := s.line.attempts
  if count < 8 then
    let secs := holdoffSeconds (count + 1)
    let s1 := s.restLine .dropped
    let s2 : Part :=
      { s1 with
        line := { s1.line with
          attempts := count + 1, holdoff := some (secs * 1000), lastFailure := some (cause, figure) } }
    let s3 := s2.makeRecordAt .trainingFailed .line was [(cause.code : Int), ((count + 1 : Nat) : Int), (secs : Int), figure]
    (s3.afterLeaving was).postLine was (some cause) []
  else
    let s1 := s.restLine .fallback
    let s2 : Part :=
      { s1 with line := { s1.line with attempts := 8, retry := some 300000, lastFailure := some (cause, figure) } }
    let s3 := s2.makeRecordAt .trainingFailed .line was [(cause.code : Int), 8, 0, figure]
    let s4 := s3.makeRecord .fallbackEntered .line [(cause.code : Int), 8]
    ((s4.afterLeaving was).settleRelay).postLine was (some cause) []

/-! ### Entry to SOUNDING -/

/-- A CALL begins (R25, R11). -/
def Part.beginCall (s : Part) : Part :=
  let m := s.band.configured
  { s with
    line := { s.line with
      callsSent := s.line.callsSent + 1
      wakeTone := some (tones.filter (isUp m))
      wakeLeft := some 100
      callWindow := some 2000
      transmitter := .wake } }

/-- Every condition of R24 holds. -/
def Part.mayStart (s : Part) : Bool :=
  s.line.startPending && s.diag.running.isNone && s.supply.state != .cutoff && s.supply.state != .shutdown &&
    (s.line.state == .dropped ||
      ((s.line.state == .quiet || s.line.state == .fallback) && s.portA.hook == .onHook))

/-- Entry to SOUNDING (R24). -/
def Part.enterSounding (s : Part) : Part :=
  let was := s.line.state
  let l := s.line.clearPhase
  let s1 : Part :=
    { s with
      line := { l with
        state := .sounding, startPending := false, holdoff := none, retry := none, request := .part
        attempts := if was = .dropped then l.attempts else 0 } }
  (s1.settleRelay.postLine was none []).beginCall

/-- The entry to SOUNDING where nothing holds it back (R24). -/
def Part.soundingIfReady (s : Part) : Part := if s.mayStart then s.enterSounding else s

/-- What follows an event that can release a waiting start, move the relay or change what a port hears (R24, R97, R187):
the relay follows the request as it stands after the entry to SOUNDING (R171). -/
def Part.settle (s : Part) : Part := (s.soundingIfReady.settleRelay).refreshHeard

/-! ### Tables and switches -/

/-- The two DOWN_TABLE segments are placed under a new table number (R23). A table of which R21 discards a segment at a
full outbound queue uses up its number all the same, and no segment of it is placed again (DESIGN CHOICE, log entry 77). -/
def Part.sendTable (t : List LoadEntry) (s : Part) : Part :=
  let n := s.line.nextTable
  let bs := t.map entryToByte
  ({ s with line := { s.line with nextTable := n + 1 } } : Part)
    |>.enqueue (.downTable n 0 (bs.take 224))
    |>.enqueue (.downTable n 1 ((bs.drop 224).take 224))

/-- The switch symbol is named 200 symbols ahead, and SWITCH placed where it falls before the deadline (R29, R77). -/
def Part.nameSwitch (deadline : Symbol) (s : Part) : Part :=
  let at_ := s.line.symbol + 200
  if later deadline at_ then
    ({ s with
        line := { s.line with switch := some ⟨at_, decide (s.svc.outQ.length < 16), false, false⟩ }
        svc := { s.svc with switchLost := none } } : Part).enqueue (.switch at_)
  else s

/-- A received UP_TABLE segment joins the segments held (R23). -/
def collectSegment (held : Option Segments) (number : Byte) (segment : Nat) (entries : List Byte) : Segments :=
  let base : Segments := match held with
    | some g => if g.number = number then g else ⟨number, none, none⟩
    | none => ⟨number, none, none⟩
  if segment = 0 then { base with seg0 := some entries } else { base with seg1 := some entries }

/-- The complete table of both segments, or none (R23). -/
def Segments.table (g : Segments) : Option (List LoadEntry) :=
  match g.seg0, g.seg1 with
  | some a, some b => some ((a ++ b).map entryOfByte)
  | _, _ => none

/-- The service channel counts a receive error where messages travel (R20, R22). -/
def Part.receiveError (s : Part) : Part :=
  if s.line.state.messagesTravel then { s with svc := { s.svc with rxErrors := satAdd 65535 s.svc.rxErrors 1 } } else s

/-! ### Reshapes -/

/-- A reason joins a set of reasons (R72, R73). -/
def addReason (r : Reason) (rs : List Reason) : List Reason := if rs.contains r then rs else rs ++ [r]

/-- Reasons join a set of reasons. -/
def addReasons (new rs : List Reason) : List Reason := new.foldl (fun acc r => addReason r acc) rs

/-- The offered tables, map and profile and the exchange under way are discarded (R79). -/
def Part.discardOffers (s : Part) : Part :=
  { s with
    line := { s.line with
      downOffered := none, upOffered := none, segs := none, upValid := false, switch := none, reshape := none }
    band := { s.band with offeredMap := none }
    load := { s.load with offeredProfile := none } }

/-- A reshape is abandoned (R79), short of what follows from its count. The RESHAPE_ABANDONED record is made, and its FAULT
notice posted, ahead of the return to CARRYING and its LINE_STATE notice (DESIGN CHOICE, log entry 80). -/
def Part.abandonCore (cause : AbandonCause) (check : Nat) (s : Part) : Part :=
  let count := if cause = .supply then s.line.abandoned else s.line.abandoned + 1
  let carried := (s.line.reshape.map (·.reasons.length)).getD 0
  let s1 := s.makeRecordAt .reshapeAbandoned .line .reshape
    [(cause.code : Int), (count : Int), (carried : Int), (check : Int)]
  let s2 := s1.discardOffers
  ({ s2 with line := { s2.line with state := .carrying, abandoned := count } } : Part).postLine .reshape none []

/-- The third counted abandonment drops the line (R79). -/
def Part.dropIfThird (s : Part) : Part := if 3 ≤ s.line.abandoned then s.dropLine .reshapeFailed else s

/-- The computation at the start of a reshape, and the DOWN_TABLE (R76). -/
def Part.computeReshape (s : Part) : Part :=
  let map := s.band.configured
  let p := s.load.setProfile
  let t := computeDown map p s.load.averages (s.line.downInForce.getD [])
  let s1 : Part :=
    { s with
      band := { s.band with offeredMap := some map }
      load := { s.load with offeredProfile := some p } }
  if payload t = 0 then (s1.abandonCore .noPayload 0).dropIfThird
  else ({ s1 with line := { s1.line with downOffered := some t } } : Part).sendTable t

/-- A reshape starts, with its set of reasons, offered by the part or by the exchange unit (R75, R76). Where R21 discards
the part's RESHAPE_OFFER it goes on all the same (DESIGN CHOICE, log entry 77). The offer carries the cutback in force as it
is placed in the outbound queue (R179), and keeps it while it waits there (DESIGN CHOICE, log entry 93). -/
def Part.startReshape (own : Bool) (set : List Reason) (s : Part) : Part :=
  let s1 : Part :=
    { s with
      line := { s.line with
        state := .reshape, reasons := [], reshape := some ⟨set, s.line.symbol + 8000, false⟩
        segs := none, upValid := false, switch := none } }
  let s2 := s1.postLine .carrying none set
  (if own then s2.enqueue (.reshapeOffer set s2.supply.cutback) else s2).computeReshape

/-- A reshape can start (R73). -/
def Part.canReshape (s : Part) : Bool :=
  s.line.state == .carrying && s.line.move.isNone && s.supply.state != .cutoff

/-- The next reshape starts where reasons are pending and nothing holds it back (R69, R73, R79). -/
def Part.startPending (s : Part) : Part :=
  if s.canReshape && !s.line.reasons.isEmpty then s.startReshape true s.line.reasons else s

/-- A reason is raised (R72, R73). -/
def Part.raise (r : Reason) (s : Part) : Part :=
  if s.inService then
    let set := addReason r s.line.reasons
    if s.canReshape then s.startReshape true set else { s with line := { s.line with reasons := set } }
  else s

/-- A reshape is abandoned, with what its count and the pending reasons bring (R79). -/
def Part.abandon (cause : AbandonCause) (check : Nat) (s : Part) : Part :=
  let s1 := s.abandonCore cause check
  if cause ≠ .supply ∧ 3 ≤ s1.line.abandoned then s1.dropLine .reshapeFailed else s1.startPending

/-! ### Moves -/

/-- The part's own move resolves without its switch: counted, and MOVE_FAILED raised at the third or where the ends
disagree (R68, R70), once where both hold, which R70 and R73 leave open (DESIGN CHOICE, log entry 87). A reshape waiting for
the move starts (R69). -/
def Part.moveFails (disagree : Bool) (s : Part) : Part :=
  let third := decide (3 ≤ s.monitor.moveFailures + 1)
  let s1 : Part :=
    { s with
      line := { s.line with move := none }
      monitor := { s.monitor with moveFailures := if third then 0 else s.monitor.moveFailures + 1 } }
  if third || disagree then s1.raise .moveFailed else s1.startPending

end Sys2Proof.Machine
end

