-- ==== Sys2Proof/Machine/Operands.lean ====
section
/-! DEFINITION. How a catalogue command's operands are read: the port a field names (R87), the table a READ_TABLE names
and its class (R194, R207), the sizes and the clamping of numbers. -/

namespace Sys2Proof.Machine

/-- The port a port field names, or none where it is answered RANGE (R87). -/
def portOf : PortArg → Option PortId
  | .a => some .a
  | .b => some .b
  | .other => none

/-- The class of a READ_TABLE (R194). -/
def tableClass : TableName → ObjClass
  | .loadDown | .loadUp => .lineProfile
  | .snr => .stats
  | .attenuation | .noise => .diag
  | .faultLog => .faultLog

/-- The window a SET_BAND_WINDOW writes, with its base aligned, or none where its form is bad (R8 checks 2 and 4). -/
def windowOf (w : WindowArg) : Option Window :=
  match w.enable, w.dir, w.cls with
  | some en, some d, some c => if windowSizes.contains w.size then some ⟨en, alignBase w.base w.size, w.size, d, c⟩ else none
  | _, _, _ => none

/-- The value OFF or ON of an upshift field: none where not carried (R42). -/
def upshiftOf : Option (Option Bool) → Option Bool
  | some v => v
  | none => none

/-- A silence setting: 0, or held in 5 to 600 (R191). -/
def silenceOf (v : Nat) : Nat := if v = 0 then 0 else max 5 (min 600 v)

/-- The names of an ACK_FLAGS, or none where one is no flag of the link (R197). -/
def flagNames : List (Option FlagName) → Option (List FlagName)
  | [] => some []
  | none :: _ => none
  | some f :: fs => (flagNames fs).map (f :: ·)

end Sys2Proof.Machine
end

