-- ==== Sys2Proof/Machine/Flags.lean ====
section
/-! DEFINITION. The seven flags of the message link (12.3): gathering them from their owners and clearing them by
ACK_FLAGS (R197, R205). -/

namespace Sys2Proof.Machine

/-- The seven flags as they stand (12.3). -/
def Part.flags (s : Part) : Flags where
  planConflict := s.band.conflictFlag
  accessLocal := s.access.locViol.flag
  accessOperator := s.access.opViol.flag
  noticesLost := s.link.noticesLost
  snapshotNew := s.link.snapshotNew
  logLost := s.link.logLost
  hostSilent := s.link.hostSilent

/-- One flag of the seven. -/
def Flags.get (f : Flags) : FlagName → Bool
  | .planConflict => f.planConflict
  | .accessLocal => f.accessLocal
  | .accessOperator => f.accessOperator
  | .noticesLost => f.noticesLost
  | .snapshotNew => f.snapshotNew
  | .logLost => f.logLost
  | .hostSilent => f.hostSilent

/-- The flags ACK_FLAGS clears for a source (R197). -/
def acknowledges (src : Source) (f : FlagName) : Bool :=
  match src, f with
  | .loc, .accessOperator => false
  | .loc, .hostSilent => false
  | .loc, _ => true
  | .operator, .accessOperator => true
  | .operator, _ => false

/-- One flag cleared at its owner. -/
def Part.clearFlag (f : FlagName) (s : Part) : Part :=
  match f with
  | .planConflict => { s with band := { s.band with conflictFlag := false } }
  | .accessLocal => { s with access := { s.access with locViol := { s.access.locViol with flag := false } } }
  | .accessOperator => { s with access := { s.access with opViol := { s.access.opViol with flag := false } } }
  | .noticesLost => { s with link := { s.link with noticesLost := false } }
  | .snapshotNew => { s with link := { s.link with snapshotNew := false } }
  | .logLost => { s with link := { s.link with logLost := false } }
  | .hostSilent => { s with link := { s.link with hostSilent := false } }

/-- All seven flags cleared, as POWER_ON and COMMAND_FULL do (12.3). -/
def Part.clearFlags (s : Part) : Part :=
  [.planConflict, .accessLocal, .accessOperator, .noticesLost, .snapshotNew, .logLost, .hostSilent].foldl
    (fun s f => s.clearFlag f) s

end Sys2Proof.Machine
end

