-- ==== Sys2Proof/Machine/Taking.lean ====
section
/-! DEFINITION. How a catalogue command is taken: the host's frame (R191, R192, R202), the access table's judgement and
refusal (R194 to R196), the owner's answer, and the reply on the link (R201) or in OPERATOR_REPLY parts (R199). -/

namespace Sys2Proof.Machine

/-- An owner's answer: the part after the command, the status and the reply's fields. -/
abbrev Answer := Part × Status × ReplyBody

/-- How a command is judged (R194, R198): not at all; by the permission of a class, to write or to read; or refused
whatever the table holds, against a class. -/
inductive Judged where
  | unjudged | permission (c : ObjClass) (write : Bool) | never (c : ObjClass)
  deriving DecidableEq, Repr

/-- A catalogue command as the part handles it: its kind code, its judgement, and its owner's action. -/
structure Handling where
  kind  : Byte
  judge : Judged
  own   : Part → Answer

/-- The row of a class (R193). -/
def Perms.row (p : Perms) : ObjClass → ClassPerm
  | .lineProfile => p.lineProfile
  | .portConfig => p.portConfig
  | .faultLog => p.faultLog
  | .diag => p.diag
  | .stats => p.stats
  | .supplyConfig => p.supplyConfig
  | .linkControl => p.linkControl

/-- The permission of a source for a class (R193). -/
def Perms.allows (p : Perms) (src : Source) (c : ObjClass) (write : Bool) : Bool :=
  match src, write with
  | .loc, false => (p.row c).locRead
  | .loc, true => (p.row c).locWrite
  | .operator, false => (p.row c).opRead
  | .operator, true => (p.row c).opWrite

/-- The class a command is refused against, or none where it is permitted (R195, R198). -/
def Perms.refuses (p : Perms) (src : Source) : Judged → Option ObjClass
  | .unjudged => none
  | .permission c w => if p.allows src c w then none else some c
  | .never c => some c

/-- A source's violation record (R193). -/
def Access.viol (a : Access) : Source → Violation
  | .loc => a.locViol
  | .operator => a.opViol

/-- A source's violation record replaced. -/
def Access.setViol (a : Access) (src : Source) (v : Violation) : Access :=
  match src with
  | .loc => { a with locViol := v }
  | .operator => { a with opViol := v }

/-- The code of a source in an ACCESS_REFUSED record (R148). -/
def sourceCode : Source → Nat
  | .loc => 0
  | .operator => 1

/-- A refusal (R196). -/
def Part.refuse (src : Source) (c : ObjClass) (s : Part) : Part :=
  let v := s.access.viol src
  let s1 : Part := { s with access := s.access.setViol src ⟨true, satAdd 65535 v.count 1, some c⟩ }
  if v.flag then s1 else s1.makeRecord .accessRefused .access [(sourceCode src : Int), (classCode c : Int)]

/-- Judgement, then the owner's check of form, then the owner (R195, R199). -/
def Part.answer (src : Source) (form : BodyForm) (h : Handling) (s : Part) : Answer :=
  match s.access.perms.refuses src h.judge with
  | some c => (s.refuse src c, .notPermitted, .none)
  | none => if form = .fits then h.own s else (s, .malformed, .none)

/-! ### The host's frames -/

/-- The silence timer's start value (R191): none where the setting is 0. -/
def silenceStart (setting : Nat) : Option Nat := if setting = 0 then none else some (setting * 1000)

/-- The host's return (R192). -/
def Part.hostBack (s : Part) : Part :=
  let s1 : Part := { s with link := { s.link with hostSilent := false } }
  let s2 := s1.makeRecord .hostBack .link [((s.time - s.link.lastFrameAt : Nat) : Int), (s.link.silenceCount : Int)]
  let s3 := s2.setHolds s2.supply.hold false
  { s3 with link := { s3.link with silenceCount := 0 } }

/-- A complete frame from the host: the link status byte it was met with, the return from a silence, and the silence
timer (R191, R192, R202). -/
def Part.frameSeen (s : Part) : Part :=
  let s0 := s.gaveOut s.linkStatus
  let s' := if s0.link.hostSilent then s0.hostBack else s0
  { s' with link := { s'.link with silenceTimer := silenceStart s'.link.silenceSetting, lastFrameAt := s'.time } }

/-- A frame counted as a framing error (R202). -/
def Part.framingError (s : Part) : Part :=
  { s with link := { s.link with framingErrors := satAdd 65535 s.link.framingErrors 1 } }

/-- A reply joins the reply queue (R202, R204). -/
def Part.reply (tag kind : Byte) (st : Status) (body : ReplyBody) (s : Part) : Part :=
  { s with link := { s.link with replies := s.link.replies ++ [⟨tag, kind, st, body⟩] } }

/-- A frame that arrives whole on the message link with a known length: counted at tag 0, left at a full reply queue,
otherwise taken and answered (R202). The reply of a command that itself leads to the power-on reset of R186 (a LINE_STOP or
a RESET in CUTOFF, with the presence timer expired) joins the reply queue that the reset has emptied (DESIGN CHOICE, log
entry 85). -/
def Part.takeFrame (tag kind : Byte) (f : Part → Answer) (s : Part) : Part :=
  let s' := s.frameSeen
  if tag = 0 then s'.framingError
  else if 8 ≤ s'.link.replies.length then s'
  else
    let a := f s'
    a.1.reply tag kind a.2.1 a.2.2

/-! ### Operator commands -/

/-- The parts a reply record is cut into (R199). -/
def replyParts (bs : List Byte) : List (List Byte) :=
  (List.range ((bs.length + 246) / 247)).map fun i => (bs.drop (247 * i)).take 247

/-- The parts join the outbound queue from part `k` on; the first that meets a full queue is discarded and counted, and
every later one with it (R199). -/
def Part.sendParts (tag : Byte) : Nat → List (List Byte) → Part → Part
  | _, [], s => s
  | k, x :: xs, s =>
    if s.svc.outQ.length < 16 then
      Part.sendParts tag (k + 1) xs (s.enqueue (.operatorReply tag k xs.isEmpty x))
    else { s with svc := { s.svc with discards := satAdd 65535 s.svc.discards (xs.length + 1) } }

/-- The answer to an operator command goes out, unless the command itself took the line out of the states in which
messages travel (R199). -/
def Part.operatorReply (tag : Byte) (st : Status) (body : ReplyBody) (s : Part) : Part :=
  if s.line.state.messagesTravel then s.sendParts tag 0 (replyParts (replyRecord st body)) else s

/-- An OPERATOR_COMMAND is taken and answered (R199). What the command itself queues, such as the FAULT_REPORT of a
refusal, joins the outbound queue ahead of the reply (DESIGN CHOICE, log entry 63). Tag 0 is answered MALFORMED also where
the record's kind is unknown (DESIGN CHOICE, log entry 68). -/
def Part.takeOperator (tag : Byte) (f : Part → Answer) (s : Part) : Part :=
  if s.line.state.messagesTravel then
    let a := if tag = 0 then (s, Status.malformed, ReplyBody.none) else f s
    a.1.operatorReply tag a.2.1 a.2.2
  else s

/-! ### Commands of either source -/

/-- A known command of the catalogue, from either source (R195, R199, R202). A body above 1020 bytes on the link is
answered MALFORMED without judgement. -/
def Part.take (e : Envelope) (h : Handling) (s : Part) : Part :=
  match e.src with
  | .loc =>
    s.takeFrame e.tag h.kind fun p =>
      if e.form = .overlong then (p, .malformed, .none) else p.answer .loc e.form h
  | .operator => s.takeOperator e.tag fun p => p.answer .operator e.form h

/-- A command of unknown kind, from either source (R194, R199, R202). On the link a body above 1020 bytes is answered
MALFORMED whatever the kind (DESIGN CHOICE, log entry 74). -/
def Part.takeUnknown (e : Envelope) (kind : Byte) (s : Part) : Part :=
  match e.src with
  | .loc =>
    s.takeFrame e.tag kind fun p => (p, if e.form = .overlong then .malformed else .unknownKind, .none)
  | .operator => s.takeOperator e.tag fun p => (p, .unknownKind, .none)

end Sys2Proof.Machine
end

