-- ==== Sys2Proof/Machine/LineCommands.lean ====
section
/-! DEFINITION. The owners' answers to the line commands: start, stop, profile, band windows, strict plan, reshape
request, status and snapshot (chapters 1 to 4). -/

namespace Sys2Proof.Machine

/-- LINE_START (R17). -/
def ownLineStart (s : Part) : Answer :=
  if s.supply.state = .cutoff ∨ s.supply.state = .shutdown then (s, .wrongState, .none)
  else if s.line.state = .quiet ∨ s.line.state = .fallback then
    (({ s with line := { s.line with startPending := true, retry := none } } : Part).settle, .started, .none)
  else (s, .wrongState, .none)

/-- The line goes to QUIET by a stop or a reset (R16, R18). -/
def Part.stopLine (s : Part) : Part := Part.proceedIfReporting s (s.toQuiet none)

/-- LINE_STOP (R18). -/
def ownLineStop (s : Part) : Answer := (s.stopLine.settle, .ok, .none)

/-- The set profile after R42's steps on the values carried. -/
def Profile.write (p : Profile) (f : ProfileFields) : Profile :=
  let m := clamp 0 60 (f.margin.getD p.margin)
  let fl := clamp 0 16000 (f.floor.getD p.floor)
  { gap := clamp 24 60 (f.gap.getD p.gap)
    margin := m
    minMargin := clamp 0 m (f.minMargin.getD p.minMargin)
    maxBits := (clamp 2 12 (f.maxBits.getD p.maxBits)).toNat
    floor := fl - fl % 32
    upshift := (upshiftOf f.upshift).getD p.upshift
    loss := clamp 20 200 (f.loss.getD p.loss) }

/-- A step of R42 changed a value, carried or not. -/
def Profile.clamps (p : Profile) (f : ProfileFields) : Bool :=
  let q := p.write f
  decide (q.gap ≠ f.gap.getD p.gap) || decide (q.margin ≠ f.margin.getD p.margin) ||
    decide (q.minMargin ≠ f.minMargin.getD p.minMargin) || decide ((q.maxBits : Int) ≠ f.maxBits.getD p.maxBits) ||
    decide (q.floor ≠ f.floor.getD p.floor) || decide (q.loss ≠ f.loss.getD p.loss)

/-- SET_PROFILE (R42). -/
def ownSetProfile (f : ProfileFields) (s : Part) : Answer :=
  if f.upshift = some none then (s, .malformed, .none)
  else
    let q := s.load.setProfile.write f
    ({ s with load := { s.load with setProfile := q } },
      if s.load.setProfile.clamps f then .okClamped else .ok, .profile q)

/-- GET_PROFILE (R44). -/
def ownGetProfile (s : Part) : Answer :=
  (s, .ok, .profiles s.load.setProfile s.load.profileInForce s.load.offeredProfile)

/-- The line state lets the write change the configured map (R9). -/
def LineState.takesWindow (l : LineState) (stored written : Window) : Bool :=
  match l with
  | .quiet | .dropped | .fallback => true
  | .carrying | .reshape => addsQuietOnly stored written
  | .sounding | .measuring | .loading => false

/-- Conflict detection at a commit (R6): flag, count, and a record where the flag was clear. -/
def Part.detectConflict (candidate : List Window) (s : Part) : Part :=
  if (conflictTones candidate).isEmpty then s
  else
    let s' : Part :=
      { s with band := { s.band with conflictFlag := true, conflictCount := satAdd 65535 s.band.conflictCount 1 } }
    if s.band.conflictFlag then s' else s'.makeRecord .planConflict .line (conflictDetails candidate)

/-- An accepted commit: the configured map changes and is told, and a notch in service is raised (R8, R13, R14). -/
def Part.acceptWindow (candidate : List Window) (s : Part) : Part :=
  let s' : Part := { s with band := { s.band with windows := candidate } }
  let n := rolesChanged s.band.configured s'.band.configured
  let s'' := if n = 0 then s' else s'.post (.bandMap n)
  if s''.inService then (s''.raise .notch).refreshHeard else s''

/-- SET_BAND_WINDOW (R8, R9), from the check of form on. -/
def ownSetBandWindow (w : WindowArg) (s : Part) : Answer :=
  match windowOf w with
  | none => (s, .malformed, .none)
  | some win =>
    if 7 < w.number ∨ 447 < w.base then (s, .range, .none)
    else
      let stored := s.band.windows.getD w.number win
      if !s.line.state.takesWindow stored win then (s, .lineActive, .window stored)
      else
        let candidate := s.band.windows.set w.number win
        let s' := s.detectConflict candidate
        if s.band.strict && !(conflictTones candidate).isEmpty then (s', .planConflict, .window stored)
        else
          (s'.acceptWindow candidate, if win.base = w.base then .ok else .okAdjusted, .window win)

/-- GET_BAND_MAP (R12). -/
def ownGetBandMap (s : Part) : Answer :=
  (s, .ok, .bandMap s.band.windows s.band.strict s.band.overlay s.band.conflictFlag s.band.conflictCount
    (runsOf s.band.configured) (s.band.mapInForce.map runsOf))

/-- SET_STRICT_PLAN (R7). -/
def ownSetStrictPlan (v : Option Bool) (s : Part) : Answer :=
  match v with
  | some b => ({ s with band := { s.band with strict := b } }, .ok, .none)
  | none => (s, .malformed, .none)

/-- REQUEST_RESHAPE (R74). -/
def ownRequestReshape (src : Source) (s : Part) : Answer :=
  if s.inService then
    ((s.raise (match src with | .loc => .loc | .operator => .operator)).refreshHeard, .ok, .none)
  else (s, .wrongState, .none)

/-- The scheduler's figures (R142). -/
def Part.schedFigures (s : Part) : SchedFigures where
  u := s.capU
  p := s.capP
  c := match s.capU, s.capP with
    | some u, some p => some (min u p)
    | _, _ => none
  v := s.demand
  allocA := s.alloc .a
  allocB := s.alloc .b
  framesLost := s.sched.framesLost
  framesRefused := s.sched.framesRefused
  framesDropped := s.sched.framesDropped
  framingErrors := s.sched.framingErrors
  framesErased := s.sched.framesErased
  upFrames := s.sched.upQueue.length
  downFrames := s.sched.downBuffer.length

/-- GET_LINE_STATUS's reply (R37, R142). -/
def Part.lineStatus (s : Part) : LineStatus where
  state := s.line.state
  attempts := s.line.attempts
  startPending := s.line.startPending
  holdoff := s.line.holdoff.map msToSeconds
  retry := s.line.retry.map msToSeconds
  request := s.line.request
  relay := s.relayPos
  callsSent := s.line.callsSent
  rejections := s.line.rejections
  lastFailure := s.line.lastFailure
  downRate := s.capP.map rateOf
  upRate := s.capU.map rateOf
  seconds := s.line.session.map fun x => x.symbols / 4000
  rxErrors := s.svc.rxErrors
  discards := s.svc.discards
  sched := s.schedFigures

/-- GET_LINE_STATUS (R37). -/
def ownGetLineStatus (s : Part) : Answer := (s, .ok, .lineStatus s.lineStatus)

/-- GET_SNAPSHOT (R36). -/
def ownGetSnapshot (s : Part) : Answer :=
  ({ s with snapshot := s.snapshot.map fun x => { x with sinceRead := 0 } }, .ok, .snapshot s.snapshot)

end Sys2Proof.Machine
end

