-- ==== Sys2Proof/Machine/Tracking.lean ====
section
/-! DEFINITION. Impulse events and the lock test (R81, R82), shared with the noise scan (R173), and the impulse tracker's
state (R80 to R83). -/

namespace Sys2Proof.Machine

/-- A raw class (R60). -/
inductive RawClass where
  | clean | errored | impulse
  deriving DecidableEq, Repr

/-- The raw class of a symbol against `loaded` loaded tones (R60). -/
def rawClassOf (loaded : Nat) (d : DownSymbol) : RawClass :=
  if !d.sync || decide (loaded < 4 * d.errored) then .impulse
  else if 1 ≤ d.errored then .errored
  else .clean

/-- An event's start symbol enters a history of eight (R81, R173). -/
def enterHistory (h : List Symbol) (x : Symbol) : List Symbol :=
  let h' := h ++ [x]
  h'.drop (h'.length - 8)

/-- The intervals between neighbouring start symbols, modulo 2^32 (R81, R82). -/
def intervals : List Symbol → List Nat
  | a :: b :: rest => (b - a).toNat :: intervals (b :: rest)
  | _ => []

/-- The lock test on four intervals (R82). -/
def lockOf (is : List Nat) : Option Lock :=
  let T := sumNat is
  let tol := max 4 (T / 200)
  if is.all (fun i => decide ((4 * (i : Int) - (T : Int)).natAbs ≤ 4 * tol)) && decide (8000 ≤ T) && decide (T ≤ 48000)
  then some ⟨(T + 2) / 4, tol⟩
  else none

/-- The lock test over the last five start symbols of a history; a history of fewer is not tested (R82, R173). -/
def lockTest (h : List Symbol) : Option Lock :=
  if h.length < 5 then none else lockOf (intervals (h.drop (h.length - 5)))

/-- Symbol `y` lies in the 13 symbols of the open window (R83). -/
def Tracker.inWindow (t : Tracker) (y : Symbol) : Bool :=
  match t.window with
  | some (f, _) => decide ((y - f).toNat < 13)
  | none => false

/-- The erasure window opens at predicted next - 6 (R83). -/
def Tracker.openWindow (t : Tracker) (y : Symbol) : Tracker :=
  match t.state, t.window, t.next with
  | .locked, none, some n => if y = n - 6 then { t with window := some (y, false) } else t
  | _, _, _ => t

/-- How a symbol touches the event in progress (R81): the record after it, and whether it opens a new event. -/
def Tracker.formEvent (t : Tracker) (y : Symbol) (impulse : Bool) : Tracker × Bool :=
  match t.event, impulse with
  | none, false => (t, false)
  | none, true => ({ t with event := some (y, y) }, true)
  | some (st, last), true =>
    if (y - last).toNat ≤ 5 then ({ t with event := some (st, y) }, false) else ({ t with event := some (y, y) }, true)
  | some (_, last), false => (if 5 ≤ (y - last).toNat then { t with event := none } else t, false)

/-- The tracker returns to SEARCHING (R83): 1 for absences, 2 for strays. -/
def Part.loseLock (why : Nat) (s : Part) : Part :=
  let t := s.tracker
  let p := t.period.getD 0
  let s1 : Part := { s with tracker := { t with state := .searching, next := none, window := none } }
  let s2 := s1.makeRecord .fenceLost .line [(why : Int), ((p / 4 : Nat) : Int), (t.history.length : Int)]
  s2.post (.fence .searching none)

/-- The tracker locks (R82). -/
def Part.gainLock (y : Symbol) (k : Lock) (s : Part) : Part :=
  let s1 : Part :=
    { s with
      tracker := { s.tracker with
        state := .locked, period := some k.period, next := some (y + BitVec.ofNat 32 k.period), window := none
        absence := 0, stray := 0 } }
  let s2 := s1.makeRecord .fenceLocked .line
    [((k.period / 4 : Nat) : Int), (k.period : Int), (k.tolerance : Int)]
  s2.post (.fence .locked (some k.period))

/-- A hit (R83): the period moves a quarter of the way to the measured interval. It is not held in the 2000 to 12000 that
R80 gives for its range (DESIGN CHOICE, log entry 61). -/
def Tracker.hit (t : Tracker) (y : Symbol) : Tracker :=
  let p := t.period.getD 0
  let measured : Int := ((y - (t.next.getD 0 - BitVec.ofNat 32 p)).toNat : Int)
  let p' := ((p : Int) + (measured - p).tdiv 4).toNat
  { t with
    period := some p'
    next := some (y + BitVec.ofNat 32 p')
    window := t.window.map fun w => (w.1, true)
    absence := 0
    stray := 0 }

/-- An event taken at symbol `y` (R81 to R83). -/
def Part.takeEvent (y : Symbol) (s : Part) : Part :=
  let t := { s.tracker with history := enterHistory s.tracker.history y }
  let s1 : Part := { s with tracker := t }
  match t.state with
  | .idle => s
  | .searching =>
    match lockTest t.history with
    | some k => s1.gainLock y k
    | none => s1
  | .locked =>
    if t.inWindow y then
      match t.window with
      | some (_, false) => { s with tracker := t.hit y }
      | _ => s1
    else
      let s2 : Part := { s with tracker := { t with stray := min 3 (t.stray + 1) } }
      if 3 ≤ t.stray + 1 then s2.loseLock 2 else s2

/-- A window closes (R83): an absence where it had no hit. -/
def Part.closeWindow (s : Part) : Part :=
  let t := s.tracker
  match t.window with
  | none => s
  | some (_, true) => { s with tracker := { t with window := none } }
  | some (_, false) =>
    let s1 : Part :=
      { s with
        tracker := { t with
          window := none
          absence := min 3 (t.absence + 1)
          next := t.next.map fun n => n + BitVec.ofNat 32 (t.period.getD 0) } }
    if 3 ≤ t.absence + 1 then s1.loseLock 1 else s1

end Sys2Proof.Machine
end

