-- ==== Sys2Proof/Machine/Diagnostics.lean ====
section
/-! DEFINITION. The diagnostic engine: the commands that start, abort and read a test (R164 to R166, R168, R172, R174),
and the events by which a test measures and ends (R169 to R175). -/

namespace Sys2Proof.Machine

/-- The line is where LOOP_TEST and NOISE_SCAN are taken (R168, R172). -/
def LineState.isDown (l : LineState) : Bool := l == .quiet || l == .dropped || l == .fallback

/-- A test starts (R164). -/
def Part.startTest (t : TestKind) (p : Option PortId) (src : Source) (s : Part) : Answer :=
  (Part.settle
    { s with
      diag := { s.diag with
        running := some
          { test := t, port := p, source := src, start := s.time, elapsed := 0, extended := false, working := []
            impulses := 0, history := [], impulse := none, events := 0, lock := none } } },
    .started, .none)

/-- Checks 4 and 5 of R164, then the test's own. -/
def Part.mayTest (s : Part) (own : Part → Answer) : Answer :=
  if s.diag.running.isSome then (s, .busy, .none)
  else if s.supply.state = .cutoff ∨ s.supply.state = .shutdown then (s, .wrongState, .none)
  else own s

/-- RUN_DIAG (R164, R168, R172, R174). A port field beside LOOP_TEST or NOISE_SCAN is not read, whatever it holds
(DESIGN CHOICE, log entry 58). -/
def ownRunDiag (src : Source) (t : Option TestKind) (p : Option PortArg) (s : Part) : Answer :=
  match t, p with
  | none, _ => (s, .malformed, .none)
  | some .portTest, none => (s, .malformed, .none)
  | some .portTest, some arg =>
    match portOf arg with
    | none => (s, .range, .none)
    | some q =>
      s.mayTest fun s =>
        let st := (s.port q).state
        if st = .shed then (s, .shed, .none)
        else if st = .idle ∨ st = .disabled then s.startTest .portTest (some q) src
        else (s, .wrongState, .none)
  | some .loopTest, _ =>
    s.mayTest fun s =>
      if s.line.state.isDown && s.portA.hook == .onHook then s.startTest .loopTest none src else (s, .wrongState, .none)
  | some .noiseScan, _ =>
    s.mayTest fun s => if s.line.state.isDown then s.startTest .noiseScan none src else (s, .wrongState, .none)

/-- ABORT_DIAG (R165). -/
def ownAbortDiag (s : Part) : Answer :=
  if s.diag.running.isSome then ((s.abortTest .command).settle, .ok, .none) else (s, .wrongState, .none)

/-- The result slot of a test (R163). -/
def Diag.slot (d : Diag) : TestKind → Option PortId → Option DiagResult
  | .loopTest, _ => d.loop
  | .noiseScan, _ => d.noise
  | .portTest, some .b => d.portB
  | .portTest, _ => d.portA

/-- The elapsed time of a test that is running now (R166). -/
def Diag.elapsedOf (d : Diag) (t : TestKind) (p : Option PortId) : Option Nat :=
  match d.running with
  | some r => if r.test = t ∧ r.port = p then some r.elapsed else none
  | none => none

/-- GET_DIAG_RESULT (R166). A port field beside LOOP_TEST or NOISE_SCAN is not read (DESIGN CHOICE, log entry 58). -/
def ownGetDiagResult (t : Option TestKind) (p : Option PortArg) (s : Part) : Answer :=
  match t, p with
  | none, _ => (s, .malformed, .none)
  | some .portTest, none => (s, .malformed, .none)
  | some .portTest, some arg =>
    match portOf arg with
    | none => (s, .range, .none)
    | some q => (s, .ok, .diagResult (s.diag.slot .portTest (some q)) (s.diag.elapsedOf .portTest (some q)))
  | some k, _ => (s, .ok, .diagResult (s.diag.slot k none) (s.diag.elapsedOf k none))

/-! ### LOOP_TEST -/

/-- The attenuation table of a run (R169): measurements in 1/64 qdB, one per tone. -/
def attenuationTable (measured : List Int) : List Int :=
  perTone fun t => if t ≤ 5 then 0 else clamp 0 400 (roundNearest (measured.getD t 0))

/-- The number of tones clamped at 400 (R170). -/
def clampedTones (measured : List Int) : Nat :=
  (tones.filter fun t => decide (6 ≤ t) && decide (400 < roundNearest (measured.getD t 0))).length

/-- The loop length in metres (R170). -/
def loopLength (a64 a256 loss : Int) : Nat :=
  if a256 ≤ a64 then 0 else (clamp 0 12000 ((a256 - a64) * 1000 / loss)).toNat

/-- The 3 s of a LOOP_TEST end (R169, R170, R171). -/
def Part.loopDone (measured : List Int) (s : Part) : Part :=
  let table := attenuationTable measured
  let loss := s.load.setProfile.loss
  let a64 := table.getD 64 0
  let a256 := table.getD 256 0
  let len := loopLength a64 a256 loss
  let start := (s.diag.running.map (·.start)).getD 0
  let s1 : Part := { s with diag := { s.diag with attenuation := some (table, start) } }
  let s2 := if 5000 < len then s1.makeRecord .longLoop .line [(len : Int), loss] else s1
  s2.endTest (.done (.loop len a64 a256 loss (clampedTones measured))) 3000

/-- LOOP_TEST_DONE (R169). -/
def execLoopTestDone (attenuation : List Int) (s : State) : Host.Outcome State Fault Refusal :=
  s.act fun p => if p.loopTesting then (p.loopDone attenuation).settle else p

/-! ### NOISE_SCAN -/

/-- A NOISE_SCAN is running. -/
def Part.scanning (s : Part) : Bool :=
  match s.diag.running with
  | some t => t.test == .noiseScan
  | none => false

/-- The scan symbol is an impulse symbol: more than a quarter of tones 6 to 447 (R172). -/
def scanImpulse (x : ScanSymbol) : Bool := decide (442 < 4 * x.impulseTones)

/-- A sum of `n` measurements in 1/64 qdB, as their mean rounded to the nearest qdB, halves away from zero (R49, R172). -/
def meanQdb (sum : Int) (n : Nat) : Int :=
  let d : Int := 64 * (max 1 n : Nat)
  if 0 ≤ sum then (2 * sum + d) / (2 * d) else -((2 * -sum + d) / (2 * d))

/-- The working noise table of a noise phase (R172). -/
def noiseTableOf (scan : List ScanSymbol) : List Int :=
  let quiet := scan.filter fun x => !scanImpulse x
  let used := if quiet.isEmpty then scan else quiet
  perTone fun t =>
    if t ≤ 5 then -40 else clamp (-40) 240 (meanQdb (sumInt (used.map fun x => x.noise.getD t 0)) used.length)

/-- The values of a DONE scan (R173): the period also in ms, symbols divided by 4 and truncated. -/
def RunningTest.noiseValues (t : RunningTest) : DiagValues :=
  let xs := t.working.drop 6
  .noise t.lock (t.lock.map (·.period / 4)) t.events t.impulses (xs.foldr min (xs.headD 0)) ((sumInt xs).tdiv xs.length) (xs.foldr max (xs.headD 0))

/-- The scan ends DONE (R172, R173). -/
def Part.scanDone (duration : Nat) (s : Part) : Part :=
  match s.diag.running with
  | none => s
  | some t =>
    Part.endTest (.done t.noiseValues) duration
      { s with diag := { s.diag with noiseTable := some (t.working, t.start) } }

/-- The end of the noise phase (R172, R173): the scan ends, or goes on to 17 s. -/
def Part.noisePhaseEnd (scan : List ScanSymbol) (s : Part) : Part :=
  match s.diag.running with
  | none => s
  | some t =>
    let t' := { t with
      working := noiseTableOf scan
      impulses := (scan.filter scanImpulse).length
      extended := decide (2 ≤ t.events) }
    let s' : Part := { s with diag := { s.diag with running := some t' } }
    if t.events < 2 then s'.scanDone 1000 else s'

/-- The running scan has its noise phase behind it. -/
def Part.scanExtended (s : Part) : Bool :=
  s.scanning && (match s.diag.running with | some t => t.extended | none => false)

/-- NOISE_PHASE_END (R172). -/
def execNoisePhaseEnd (scan : List ScanSymbol) (s : State) : Host.Outcome State Fault Refusal :=
  s.act fun p => if p.scanning && !p.scanExtended then (p.noisePhaseEnd scan).settle else p

/-- NOISE_SCAN_DONE (R173). -/
def execNoiseScanDone (s : State) : Host.Outcome State Fault Refusal :=
  s.act fun p => if p.scanExtended then (p.scanDone 17000).settle else p

/-- An impulse symbol belongs to the event taken last, with at most 4 other scan symbols since that event's last one
(R81, R173). -/
def RunningTest.continues (t : RunningTest) (y : Symbol) : Bool :=
  match t.impulse with
  | some last => decide ((y - last).toNat ≤ 5)
  | none => false

/-- An event of the scan is taken at its first impulse symbol (R173): history, count, and the lock test, a later pass
replacing an earlier one. -/
def RunningTest.takeEvent (t : RunningTest) (start : Symbol) : RunningTest :=
  let h := enterHistory t.history start
  { t with
    history := h
    impulse := some start
    events := t.events + 1
    lock := match lockTest h with
      | some k => some k
      | none => t.lock }

/-- An impulse symbol of the scan (R173): it belongs to the event taken last, or opens the next one. -/
def RunningTest.impulseSymbol (t : RunningTest) (y : Symbol) : RunningTest :=
  if t.continues y then { t with impulse := some y } else t.takeEvent y

/-- SCAN_IMPULSE_EVENT (R173): the scan symbol named is an impulse symbol (log entry 52). -/
def execScanImpulseEvent (symbol : Symbol) (s : State) : Host.Outcome State Fault Refusal :=
  s.act fun p =>
    if p.scanning then
      { p with diag := { p.diag with running := p.diag.running.map fun t => t.impulseSymbol symbol } }
    else p

/-! ### PORT_TEST -/

/-- The 2 s of a PORT_TEST end (R175); the measurements are in 1/64 of an RLU and of a kilohm. -/
def Part.portTestDone (p : PortId) (ringLoad leakage : Int) (s : Part) : Part :=
  let rl := (clamp 0 10 (roundNearest ringLoad)).toNat
  let lk := (clamp 0 1000 (roundNearest leakage)).toNat
  let previous := (s.port p).ringLoad
  let s1 := s.modPort p fun r => { r with ringLoad := rl }
  let s2 := if lk < 20 then s1.makeRecord .wetWiring (portSource p) [(lk : Int), (rl : Int)] else s1
  s2.endTest (.done (.port rl lk previous)) 2000

/-- PORT_TEST_DONE (R175). -/
def execPortTestDone (ringLoad leakage : Int) (s : State) : Host.Outcome State Fault Refusal :=
  s.act fun q =>
    match q.diag.running with
    | some t =>
      match t.test, t.port with
      | .portTest, some p => (q.portTestDone p ringLoad leakage).settle
      | _, _ => q
    | none => q

end Sys2Proof.Machine
end

