-- ==== Sys2Proof/Machine/LinkCommands.lean ====
section
/-! DEFINITION. The owners' answers to the link's own commands: the silence timer, the flags, the statistics period, the
table pages (R191, R197, R205, R207, R208), and the two resets that a command makes (R209). -/

namespace Sys2Proof.Machine

/-- SET_SILENCE_TIMER (R191). -/
def ownSetSilenceTimer (v : Nat) (s : Part) : Answer :=
  let x := silenceOf v
  ({ s with link := { s.link with silenceSetting := x, silenceTimer := silenceStart x } },
    if x = v then .ok else .okClamped, .none)

/-- GET_FLAGS (R205). -/
def ownGetFlags (s : Part) : Answer :=
  (s, .ok, .flags s.flags s.link.noticesLostCount s.link.framingErrors s.link.replies.length s.link.notices.length)

/-- ACK_FLAGS (R197). The reply lists the flags cleared in the order they were named, once for each time they were
named, without those that were already clear (DESIGN CHOICE, log entry 73). -/
def ownAckFlags (src : Source) (names : List (Option FlagName)) (s : Part) : Answer :=
  match flagNames names with
  | none => (s, .malformed, .none)
  | some fs =>
    let mine := fs.filter fun f => acknowledges src f
    let s' := mine.foldl (fun p f => p.clearFlag f) s
    (s', .ok, .flagsCleared (mine.filter fun f => s.flags.get f) s'.flags)

/-- SET_STATS_PERIOD (R208). -/
def ownSetStatsPeriod (v : Nat) (s : Part) : Answer :=
  let x := min 3600 v
  ({ s with link := { s.link with statsPeriod := x, statsTimer := if x = 0 then none else some (x * 1000) } },
    if x = v then .ok else .okClamped, .none)

/-! ### READ_TABLE -/

/-- How many entries a table has (R207). -/
def Part.tableLength (s : Part) : TableName → Nat
  | .faultLog => s.log.records.length
  | _ => numTones

/-- The two bytes of an average in qdB, or the mark that the tone has none (R49, R207). -/
def averageBytes : Option Int → List Byte
  | some a => bytes16 (BitVec.ofInt 16 (roundQdb a))
  | none => [0x80, 0x00]

/-- The two bytes of a measured entry; where the table is absent the manual states no entry (log entry 8). -/
def measuredBytes (t : TableName) (table : Option (List Int × Nat)) (i : Nat) : List Byte :=
  match table with
  | some (xs, _) => bytes16 (BitVec.ofInt 16 (xs.getD i 0))
  | none => bytes16 (BitVec.ofInt 16 (Config.absentEntry t i))

/-- One entry of a table (R40, R49, R158, R163, R207). -/
def Part.tableEntry (s : Part) (t : TableName) (i : Nat) : List Byte :=
  match t with
  | .loadDown => [entryToByte ((s.line.downInForce.getD []).getD i entryOff)]
  | .loadUp => [entryToByte ((s.line.upInForce.getD []).getD i entryOff)]
  | .snr => averageBytes (s.load.averages.getD i none)
  | .attenuation => measuredBytes t s.diag.attenuation i
  | .noise => measuredBytes t s.diag.noiseTable i
  | .faultLog => (s.log.records[i]?.map FaultRecord.bytes).getD []

/-- A table's header fields (R40, R158, R163, R207). -/
def Part.tableHeader (s : Part) : TableName → TableHeader
  | .loadDown => .load s.line.downInForce.isSome
  | .loadUp => .load s.line.upInForce.isSome
  | .snr => .snr
  | .attenuation => .measured s.diag.attenuation.isSome (s.diag.attenuation.map (·.2))
  | .noise => .measured s.diag.noiseTable.isSome (s.diag.noiseTable.map (·.2))
  | .faultLog => .log s.log.records.length s.log.next s.log.lost s.log.threshold s.log.inFlight

/-- READ_TABLE of a named table (R207). -/
def ownReadTable (t : Option TableName) (start count : Nat) (s : Part) : Answer :=
  match t with
  | none => (s, .malformed, .none)
  | some t =>
    if count < 1 ∨ 64 < count then (s, .malformed, .none)
    else if s.tableLength t ≤ start then (s, .range, .none)
    else
      let n := min count (s.tableLength t - start)
      (s, .ok, .table t start n (s.tableHeader t) ((List.range n).map fun i => s.tableEntry t (start + i)))

/-! ### Resets -/

/-- Port B after COMMAND_FULL (R86): DISABLED, or SHED where the supply keeps it shed. -/
def Part.portBAfterReset (s : Part) : PortState :=
  if s.supply.state = .batteryLow ∨ s.supply.state = .shutdown ∨ (s.supply.state = .cutoff ∧ s.supply.cutback = 16) then
    .shed
  else .disabled

/-- A port after COMMAND_FULL: as after POWER_ON, with its heat kept (R86). -/
def Port.afterReset (r : Port) (st : PortState) : Port :=
  { Port.initial st with heat := r.heat, ringAcc := r.ringAcc, coolAcc := r.coolAcc }

/-- COMMAND_FULL (R209): what every owner does, and the emptying of the queues (R204). The running test ends with cause
RESET before the line's stop can end it otherwise (R163), and untold (R166). A frame in arrival goes on to its last byte,
where it is discarded (R143). The port states that the reset itself sets are changes of R115 and post their PORT_EVENT
before the queues are emptied, so that at a full notice queue they raise the notices lost count, which is kept (DEDUCED,
log entry 66). In CUTOFF under last-report mode the line's stop sends the supervisor on to SHUTDOWN within the reset (DESIGN
CHOICE, log entry 84). The consecutive abandoned count and, out of service, the symbol counter keep their values (DESIGN
CHOICE, log entry 88). -/
def Part.commandFull (s : Part) : Part :=
  let s0 := s.abortUntold.stopLine
  let s1 := (s0.enterState .a .through none).enterState .b s0.portBAfterReset none
  let s2 : Part :=
    { s1 with
      line := { Line.initial with abandoned := s1.line.abandoned, symbol := s1.line.symbol }
      load := .initial
      band := { Band.initial with overlay := s1.supply.state == .batteryLow }
      monitor := .initial
      tracker := .initial
      portA := s1.portA.afterReset .through
      portB := s1.portB.afterReset s1.portBAfterReset
      voice := .initial
      sched := { Sched.initial with arrival := s1.sched.arrival.doom }
      svc := .initial
      supply := { s1.supply with relay := false } }
  let s3 := s2.clearFlags
  { s3 with link := { s3.link with replies := [], notices := [] } }

/-- COMMAND_LINE (R209). The running test ends with cause RESET before the line's stop can end it otherwise (R163), and
its DIAG_DONE notice stands ahead of the PORT_EVENTs and the LINE_STATE of the stop (DESIGN CHOICE, log entry 94). In
CUTOFF under last-report mode the line's stop sends the supervisor on to SHUTDOWN within the reset (DESIGN CHOICE, log
entry 84). The consecutive abandoned count and the symbol counter keep their values, as at LINE_STOP (DESIGN CHOICE, log
entry 88). -/
def Part.commandLine (s : Part) : Part :=
  let s1 := (s.abortTest .reset).stopLine
  let s2 : Part :=
    { s1 with
      line := { s1.line with lastFailure := none }
      load := { s1.load with averages := noAverages, offeredProfile := none, measureSums := [], measureCount := 0 }
      sched := s1.sched.flush.emptyBuffer }
  s2.settleRelay.refreshHeard

/-- RESET (R209), with scope FULL or LINE; any other scope is MALFORMED. -/
def ownReset (scope : Option Scope) (s : Part) : Answer :=
  match scope with
  | some .full => let s' := s.commandFull; (s', .ok, .reset .full s'.time)
  | some .line => let s' := s.commandLine; (s', .ok, .reset .line s'.time)
  | none => (s, .malformed, .none)

end Sys2Proof.Machine
end

