-- ==== Sys2Proof/Machine/LogCommands.lean ====
section
/-! DEFINITION. The owners' answers to the commands of the fault log, the supply supervisor and the access table
(R151, R159, R189, R190, R198, R200). -/

namespace Sys2Proof.Machine

/-- CLEAR_LOG (R159). -/
def ownClearLog (s : Part) : Answer :=
  let kept := s.log.records.filter fun r => !(r.delivery == .delivered || r.delivery == .localOnly)
  ({ s with log := { s.log with records := kept } }, .ok, .removed (s.log.records.length - kept.length))

/-- SET_REPORT_THRESHOLD (R151). -/
def ownSetReportThreshold (v : Option Severity) (s : Part) : Answer :=
  match v with
  | some x => ({ s with log := { s.log with threshold := x } }, .ok, .threshold s.log.threshold)
  | none => (s, .malformed, .none)

/-- The debounce timers that run, with their elapsed times (R190). -/
def Supply.running (v : Supply) : List (DebounceName × Nat) :=
  [(DebounceName.absence, v.tAbsence), (.presence, v.tPresence), (.low, v.tLow), (.cutoff, v.tCutoff),
   (.return_, v.tReturn), (.recovery, v.tRecovery)].filterMap fun x => x.2.map fun t => (x.1, t)

/-- GET_SUPPLY (R190). -/
def ownGetSupply (s : Part) : Answer :=
  (s, .ok, .supply
    { state := s.supply.state
      mains := s.supply.mains
      battery := s.supply.battery
      low := s.supply.low
      cutoff := s.supply.cutoff
      lowReturn := s.supply.lowReturn
      budget := s.supply.budget
      cutback := s.supply.cutback
      overlay := s.band.overlay
      dataOpen := s.dataOpen
      supplyHold := s.supply.hold
      silenceHold := s.link.silenceHold
      drive := s.supply.relay
      relay := s.relayPos
      sinceLost := s.supply.mainsLostAt.map fun t => s.time - t
      timers := s.supply.running })

/-- The low threshold after step 1 of R189. -/
def newLow (kept : Nat) (carried : Option Int) : Nat := (carried.map fun v => (clamp 1080 1180 v).toNat).getD kept

/-- The cutoff threshold after steps 2 and 3 of R189. -/
def newCutoff (low kept : Nat) (carried : Option Int) : Nat :=
  min ((carried.map fun v => (clamp 1000 1100 v).toNat).getD kept) (low - 30)

/-- SET_SUPPLY_LIMITS (R189). -/
def ownSetSupplyLimits (low cutoff : Option Int) (s : Part) : Answer :=
  let lo := newLow s.supply.low low
  let cu := newCutoff lo s.supply.cutoff cutoff
  let changed := decide ((lo : Int) ≠ low.getD s.supply.low) || decide ((cu : Int) ≠ cutoff.getD s.supply.cutoff)
  let s' : Part := { s with supply := { s.supply with low := lo, cutoff := cu, lowReturn := lo + 40 } }
  (s'.retime, if changed then .okClamped else .ok, .limits lo cu (lo + 40))

/-- The classes whose LOCAL write permission is grantable (R193, R198). -/
def grantable : ObjClass → Bool
  | .lineProfile | .diag | .supplyConfig => true
  | _ => false

/-- LOCAL's write permission for a grantable class set (R198). Every other entry keeps its value (R193). -/
def Perms.setLocWrite (p : Perms) (c : ObjClass) (v : Bool) : Perms :=
  match c with
  | .lineProfile => { p with lineProfile := { p.lineProfile with locWrite := v } }
  | .diag => { p with diag := { p.diag with locWrite := v } }
  | .supplyConfig => { p with supplyConfig := { p.supplyConfig with locWrite := v } }
  | _ => p

/-- GRANT and WITHHOLD from OPERATOR (R198). -/
def ownPermission (v : Bool) (c : Option ObjClass) (s : Part) : Answer :=
  match c with
  | some k =>
    if grantable k then
      let p := s.access.perms.setLocWrite k v
      ({ s with access := { s.access with perms := p } }, .ok,
        .permission (s.access.perms.row k).locWrite (p.row k).locWrite)
    else (s, .malformed, .none)
  | none => (s, .malformed, .none)

/-- The classes in the order of their codes (R210). -/
def objClasses : List ObjClass := [.lineProfile, .portConfig, .faultLog, .diag, .stats, .supplyConfig, .linkControl]

/-- GET_ACCESS (R200): the whole table, the classes whose LOCAL write permission is marked as grantable, and both
violation records. -/
def ownGetAccess (s : Part) : Answer :=
  (s, .ok, .access s.access.perms (objClasses.filter grantable) s.access.locViol s.access.opViol)

end Sys2Proof.Machine
end

