-- ==== Sys2Proof/Machine/Ports.lean ====
section
/-! DEFINITION. The events at the telephones (R91 to R112): hook, breaks, digits, the dial and howler timers, the exchange
unit's signalling, rings, overcurrent, heat and cooldown. -/

namespace Sys2Proof.Machine

/-! ### Hook -/

/-- The watched port's off-hook ends the test that watches it (R171, R175): DIAG_DONE, then the relay. -/
def Part.offHookAborts (p : PortId) (s : Part) : Part :=
  if s.underTest p || (s.loopTesting && p == .a) then (s.abortTest .offHook).settleRelay else s

/-- A ring trip (R106, R112). -/
def Part.ringTrip (p : PortId) (s : Part) : Part :=
  let s1 := s.declareHook p .offHook
  match (s.port p).ring with
  | none => s1
  | some g =>
    let s2 := s1.modPort p fun r => { r with ring := none, dialTimer := none, digit := none, lastTone := none }
    match g.origin, g.partner with
    | .line, _ =>
      if s2.inService then
        (s2.sayOffHook p).askChannel p fun q => (q.enterState p .dialling none).signal p .capacityHold
      else s2.toDialling p
    | .loc, some q =>
      if (s2.port q).state = .dialling then
        let s3 := ((s2.enterState p .intercom none).withdraw p).modPort q fun r => { r with dialTimer := none }
        (s3.enterState q .intercom none).withdraw q
      else s2.toDialling p
    | .loc, none => s2.toDialling p

/-- An off-hook declared on a port whose hook is ON_HOOK (R91, R96, R171, R175). A PORT_TEST watches the loop current of a
DISABLED port whatever its hook field holds from an earlier one (R175; log entry 65); in SHUTDOWN no hook is watched
(R186). At an abort PORT_EVENT OFF_HOOK is posted ahead of DIAG_DONE, and the port's own change of state behind both (DESIGN
CHOICE, log entry 22). On a DISABLED port A an off-hook of a LOOP_TEST ends the test, and is kept and notified, behind
DIAG_DONE, only where port A is then THROUGH (DESIGN CHOICE, log entries 22 and 72). -/
def Part.offHook (p : PortId) (s : Part) : Part :=
  let st := (s.port p).state
  if s.supply.state = .shutdown then s
  else if st = .disabled ∧ s.underTest p = true then (s.declareHook p .offHook).offHookAborts p
  else if (s.port p).hook = .offHook ∨ st = .shed then s
  else if st = .ringing then (s.ringTrip p).offHookAborts p
  else if st = .disabled then
    if s.loopTesting && p == .a then
      let s1 := s.offHookAborts p
      if s1.portA.state = .through then s1.declareHook p .offHook else s1
    else s
  else
    let s1 := (s.declareHook p .offHook).offHookAborts p
    if (s1.port p).state = .idle then s1.toDialling p else s1

/-- OFF_HOOK (R91). -/
def execOffHook (p : PortId) (s : State) : Host.Outcome State Fault Refusal :=
  s.act fun q => (q.offHook p).settle

/-- A port's hook is watched (R85, R186): not in SHED or in SHUTDOWN, and in DISABLED only by a PORT_TEST (R175). -/
def Part.watched (s : Part) (p : PortId) : Bool :=
  let st := (s.port p).state
  s.supply.state != .shutdown && st != .shed && (st != .disabled || s.underTest p)

/-- An on-hook declared on a port whose hook is OFF_HOOK (R91, R101): it ends a digit in progress (R92). A port B with
shed pending goes to SHED (R183). -/
def Part.onHook (p : PortId) (s : Part) : Part :=
  let st := (s.port p).state
  if (s.port p).hook = .onHook ∨ s.watched p = false then s
  else if st.offHook then
    let s1 := s.declareHook p .onHook
    if p = .b ∧ s.portB.shedPending = true then
      (s1.hangUp .b .shed).modPort .b fun r => { r with shedPending := false }
    else s1.hangUp p .idle
  else (s.declareHook p .onHook).modPort p fun r => { r with digit := none }

/-- ON_HOOK (R101). -/
def execOnHook (p : PortId) (s : State) : Host.Outcome State Fault Refusal :=
  s.act fun q => (q.onHook p).settle

/-! ### Breaks and digits -/

/-- What a break that ended before 300 ms is (R92). -/
inductive BreakKind where
  | ignored | pulse | flash | malformed
  deriving DecidableEq, Repr

/-- A break timed by its duration and by whether a digit is in progress (R92). -/
def breakKind (ms : Nat) (digit : Bool) : BreakKind :=
  if ms < 12 then .ignored
  else if 35 ≤ ms ∧ ms ≤ 80 then .pulse
  else if 95 ≤ ms ∧ ms ≤ 260 then (if digit then .malformed else .flash)
  else .malformed

/-- Breaks are timed and pulses counted (R85, R91, R92): in the off-hook states, and while the hook is OFF_HOOK in TRIPPED,
COOLDOWN and LOCKED_OUT (log entry 65). -/
def Port.pulses (r : Port) : Bool :=
  r.state.offHook || (r.hook == .offHook && (r.state == .tripped || r.state == .cooldown || r.state == .lockedOut))

/-- A break ends (R92). -/
def Part.breakEnds (p : PortId) (ms : Nat) (s : Part) : Part :=
  let r := s.port p
  if r.pulses && decide (ms < 300) then
    match breakKind ms r.digit.isSome with
    | .ignored => s
    | .pulse => s.modPort p fun r => { r with digit := some (r.digit.getD 0 + 1) }
    | .flash => s.giveEvent p .flash .flash
    | .malformed => (s.modPort p fun r => { r with digit := none }).giveEvent p .dialError .dialError
  else s

/-- BREAK_END (R92). -/
def execBreakEnd (p : PortId) (ms : Nat) (s : State) : Host.Outcome State Fault Refusal :=
  s.act fun q => q.breakEnds p ms

/-- The digit of a pulse count (R93). -/
def pulseDigit (n : Nat) : Option Digit :=
  if h : 1 ≤ n ∧ n ≤ 9 then some (.num ⟨n, by omega⟩) else if n = 10 then some (.num 0) else none

/-- A pulse digit ends (R93). -/
def Part.digitEnds (p : PortId) (s : Part) : Part :=
  match (s.port p).pulses, (s.port p).digit with
  | true, some n =>
    let s' := s.modPort p fun r => { r with digit := none }
    match pulseDigit n with
    | some d => s'.giveDigit p d true
    | none => s'.giveEvent p .dialError .dialError
  | _, _ => s

/-- DIGIT_END (R93). -/
def execDigitEnd (p : PortId) (s : State) : Host.Outcome State Fault Refusal := s.act fun q => q.digitEnds p

/-- A tone digit (R94). -/
def Part.toneDigit (p : PortId) (d : Digit) (s : Part) : Part :=
  let st := (s.port p).state
  if st = .dialling ∨ st = .connected then (s.modPort p fun r => { r with digit := none }).giveDigit p d false else s

/-- TONE_DIGIT (R94). -/
def execToneDigit (p : PortId) (d : Digit) (s : State) : Host.Outcome State Fault Refusal :=
  s.act fun q => q.toneDigit p d

/-- The dial timer expires (R98). -/
def Part.dialExpires (p : PortId) (s : Part) : Part :=
  if (s.port p).state = .dialling ∧ (s.port p).dialTimer.isSome then (s.withdraw p).park p else s

/-- DIAL_TIMEOUT (R98). -/
def execDialTimeout (p : PortId) (s : State) : Host.Outcome State Fault Refusal :=
  s.act fun q => (q.dialExpires p).refreshHeard

/-! ### The exchange unit's signalling -/

/-- A CONNECT (R99). -/
def Part.connect (p : PortId) (s : Part) : Part :=
  if s.inService && (s.port p).state == .dialling then
    (s.dropRungBy p).askChannel p fun q => (q.modPort p fun r => { r with dialTimer := none }).signal p .capacityHold
  else s

/-- CONNECT (R99). -/
def execConnect (p : PortId) (s : State) : Host.Outcome State Fault Refusal :=
  s.act fun q => (q.connect p).refreshHeard

/-- A RELEASE (R100). -/
def Part.release (p : PortId) (s : Part) : Part :=
  let st := (s.port p).state
  if s.inService && (st == .connected || st == .held || st == .dialling) then
    let s1 := (s.endChannel p).park p
    if p = .a then s1.parkJoined else s1
  else s

/-- RELEASE (R100). -/
def execRelease (p : PortId) (s : State) : Host.Outcome State Fault Refusal :=
  s.act fun q => (q.release p).refreshHeard

/-- A TONE (R97, R98); one for the caller of a local ring is held until the ring ends (R130). -/
def Part.callTone (p : PortId) (k : CallTone) (s : Part) : Part :=
  if s.inService && (s.port p).state == .dialling then
    let caller := s.isCaller p
    s.modPort p fun r =>
      { r with
        lastTone := some (k, caller)
        dialTimer :=
          if caller then r.dialTimer
          else if k = .dial then some 30000
          else if k = .ringback then none
          else r.dialTimer }
  else s

/-- TONE (R97). -/
def execTone (p : PortId) (k : CallTone) (s : State) : Host.Outcome State Fault Refusal :=
  s.act fun q => (q.callTone p k).refreshHeard

/-- HOWLER_TIMEOUT (R102, R129). -/
def execHowlerTimeout (p : PortId) (s : State) : Host.Outcome State Fault Refusal :=
  s.act fun q =>
    if (q.port p).state = .parked ∧ (q.port p).howler.isSome then
      (q.modPort p fun r => { r with howler := none }).refreshHeard
    else q

/-- The howler's peak doubles, up to 4000 (R129). -/
def Generator.louder (g : Generator) : Generator := { g with peak := min 4000 (2 * g.peak) }

/-- HOWLER_STEP (R129). -/
def execHowlerStep (p : PortId) (s : State) : Host.Outcome State Fault Refusal :=
  s.act fun q =>
    if (q.port p).howler.isSome ∧ (q.gen p).kind = .howler then q.setGen p (q.gen p).louder else q

/-! ### Rings -/

/-- A RING (R104, R105, R174). A port that is not IDLE, or is under test, is answered by its hook as R104 has it: a
DISABLED port under test whose hook stands OFF_HOOK with SIGNAL OFF_HOOK, though R174 names RING_LIMITED (DESIGN CHOICE,
log entry 57). -/
def Part.takeRing (p : PortId) (cadence : Nat) (s : Part) : Part :=
  let r := s.port p
  if !s.inService then s
  else if r.state = .ringing ∧ r.ring.map Ring.origin = some Origin.line then s
  else if r.state = .idle ∧ s.underTest p = false then
    if s.budgetAllows p then s.startRing p (cadenceOf cadence) .line none
    else (s.postRingLimited p).signal p .ringLimited
  else if r.hook = .offHook then s.sayOffHook p
  else s.signal p .ringLimited

/-- RING (R104). -/
def execRing (p : PortId) (cadence : Nat) (s : State) : Host.Outcome State Fault Refusal :=
  s.act fun q => (q.takeRing p cadence).refreshHeard

/-- The port is ringing with the given origin. -/
def Port.ringsFrom (r : Port) (o : Origin) : Bool :=
  r.state == .ringing && (match r.ring with | some g => g.origin == o | none => false)

/-- RING_STOP (R107). -/
def execRingStop (p : PortId) (s : State) : Host.Outcome State Fault Refusal :=
  s.act fun q => if q.inService && (q.port p).ringsFrom .line then (q.endRing p false .idle).refreshHeard else q

/-- The next phase of a cadence (R104). -/
def Ring.next (g : Ring) : Ring :=
  let ps := cadencePhases g.cadence
  let k := (g.phase + 1) % ps.length
  { g with phase := k, phaseLeft := ps.getD k 0 }

/-- RING_CADENCE_PHASE (R104). -/
def execRingCadencePhase (p : PortId) (s : State) : Host.Outcome State Fault Refusal :=
  s.act fun q =>
    if (q.port p).state = .ringing then q.modPort p fun r => { r with ring := r.ring.map Ring.next } else q

/-- LOCAL_RING_TIMEOUT (R107). -/
def execLocalRingTimeout (p : PortId) (s : State) : Host.Outcome State Fault Refusal :=
  s.act fun q => if (q.port p).ringsFrom .loc then (q.endRing p false .idle).refreshHeard else q

/-- RING_TRIP (R106); a LOOP_TEST that watches the port is aborted (R171), behind the trip's own notices (DESIGN CHOICE, log
entry 22). -/
def execRingTrip (p : PortId) (s : State) : Host.Outcome State Fault Refusal :=
  s.act fun q => if (q.port p).state = .ringing then ((q.ringTrip p).offHookAborts p).settle else q

/-- The code of a ring's origin (R108). -/
def originCode : Origin → Nat
  | .line => 0
  | .loc => 1

/-- Ring overcurrent (R108). -/
def Part.overcurrent (p : PortId) (s : Part) : Part :=
  let r := s.port p
  match r.ring with
  | none => s
  | some g =>
    let s1 := (s.endRing p true .tripped).modPort p fun r => { r with enable := false }
    s1.makeRecord .ringOvercurrent (portSource p)
      [(r.ringLoad : Int), (g.cadence : Int), (r.heat : Int), (originCode g.origin : Int)]

/-- RING_OVERCURRENT (R108). -/
def execRingOvercurrent (p : PortId) (s : State) : Host.Outcome State Fault Refusal :=
  s.act fun q => if (q.port p).driving then (q.overcurrent p).refreshHeard else q

/-! ### Heat -/

/-- A thermal trip (R110). -/
def Part.thermalTrip (p : PortId) (s : Part) : Part :=
  let r := s.port p
  match r.ring with
  | none => s
  | some g =>
    let since := (r.trip.map fun t => s.time - t).getD 0
    let again := r.trip.isSome && decide (since ≤ 600)
    let s1 := s.endRing p true (if again then .lockedOut else .cooldown)
    let s2 := s1.modPort p fun r =>
      { r with
        trip := some s.time
        enable := if again then false else r.enable
        cooldown := if again then none else some 30000 }
    s2.makeRecord (if again then .portLockedOut else .ringThermal) (portSource p)
      [(r.ringLoad : Int), (g.cadence : Int), (originCode g.origin : Int), (since : Int)]

/-- The accumulator a heat step draws on (R109): the one that has gathered its 100 ms, else that of the present phase. -/
def Port.heatsUp (r : Port) : Bool := if 100 ≤ r.ringAcc then true else if 100 ≤ r.coolAcc then false else r.driving

/-- One heat step (R109, R110). -/
def Part.heatStep (p : PortId) (s : Part) : Part :=
  let r := s.port p
  if r.heatsUp then
    let h := min 1000 (r.heat + 2 + r.ringLoad)
    let s' := s.modPort p fun r => { r with heat := h, ringAcc := r.ringAcc - 100 }
    if 1000 ≤ h ∧ r.state = .ringing then s'.thermalTrip p else s'
  else s.modPort p fun r => { r with heat := r.heat - 3, coolAcc := r.coolAcc - 100 }

/-- HEAT_STEP (R109). -/
def execHeatStep (p : PortId) (s : State) : Host.Outcome State Fault Refusal :=
  s.act fun q => (q.heatStep p).refreshHeard

/-- The cooldown timer expires (R110). -/
def Part.cooldownEnds (p : PortId) (s : Part) : Part :=
  let r := s.port p
  if r.state = .cooldown ∧ r.cooldown.isSome then
    let s' := s.modPort p fun r => { r with cooldown := none }
    if r.enable = false then (s'.modPort p fun r => { r with hook := .onHook, digit := none }).enterState p .disabled none
    else if r.hook = .offHook then s'.toDialling p
    else s'.enterState p .idle none
  else s

/-- COOLDOWN_END (R110). -/
def execCooldownEnd (p : PortId) (s : State) : Host.Outcome State Fault Refusal :=
  s.act fun q => (q.cooldownEnds p).settle

end Sys2Proof.Machine
end

