-- ==== Sys2Proof/Machine/PortCommands.lean ====
section
/-! DEFINITION. The owners' answers to the port commands (R87 to R89, R111, R113 to R115). -/

namespace Sys2Proof.Machine

/-- A command on one port: RANGE for a port other than A or B (R87). -/
def onPort (arg : PortArg) (f : PortId → Part → Answer) (s : Part) : Answer :=
  match portOf arg with
  | some p => f p s
  | none => (s, .range, .none)

/-- Port B is shed, and the command needs it powered (R87). -/
def Part.isShed (s : Part) (p : PortId) : Bool := (s.port p).state == .shed

/-- A tripped or locked-out port is enabled: IDLE, or DIALLING where its hook is OFF_HOOK (R88). -/
def Part.enableTripped (p : PortId) (s : Part) : Part :=
  if (s.port p).hook = .offHook then s.toDialling p else s.enterState p .idle none

/-- PORT_ENABLE (R88). -/
def ownPortEnable (arg : PortArg) : Part → Answer :=
  onPort arg fun p s =>
    let s1 := s.modPort p fun r => { r with enable := true }
    match (s.port p).state with
    | .disabled => (((s1.modPort p fun r => { r with hook := .onHook }).enterState p .idle none).settle, .ok, .none)
    | .tripped => ((s1.enableTripped p).settle, .ok, .none)
    | .lockedOut => (((s1.modPort p fun r => { r with trip := none }).enableTripped p).settle, .ok, .none)
    | .shed => (s1, .shed, .none)
    | _ => (s1, .ok, .none)

/-- PORT_DISABLE (R89). A disabled port's hook is not watched and stands ON_HOOK. -/
def Part.portDisable (p : PortId) (s : Part) : Part :=
  let s1 := s.modPort p fun r => { r with enable := false }
  let st := (s.port p).state
  if st = .idle ∨ st = .tripped ∨ st = .lockedOut then
    (s1.modPort p fun r => { r with hook := .onHook, digit := none }).enterState p .disabled none
  else if st = .ringing then s1.endRing p true .disabled
  else if st.offHook then
    let s2 := s1.hangUp p (if p = .b ∧ s.portB.shedPending = true then .shed else .disabled)
    s2.modPort p fun r => { r with hook := .onHook, shedPending := false }
  else s1

/-- PORT_DISABLE (R89). -/
def ownPortDisable (arg : PortArg) : Part → Answer := onPort arg fun p s => ((s.portDisable p).settle, .ok, .none)

/-- A local ring of `p` with the caller given, within the budget (R105, R111). -/
def Part.localRing (p : PortId) (caller : Option PortId) (s : Part) : Answer :=
  if s.budgetAllows p then ((s.startRing p 2 .loc caller).refreshHeard, .started, .none)
  else (s.postRingLimited p, .busy, .none)

/-- RING_LOCAL (R111, R174). -/
def ownRingLocal (arg : PortArg) : Part → Answer :=
  onPort arg fun p s =>
    if s.isShed p then (s, .shed, .none)
    else if s.underTest p then (s, .busy, .none)
    else if (s.port p).state ≠ .idle then (s, .wrongState, .none)
    else s.localRing p (if (s.port (other p)).state = .dialling then some (other p) else none)

/-- INTERCOM (R111, R174). The same port in both fields is MALFORMED; the same value in both that names neither port is
RANGE, as two different such values are (DEDUCED, log entry 32). -/
def ownIntercom (src dst : PortArg) (s : Part) : Answer :=
  if src = dst ∧ src ≠ .other then (s, .malformed, .none)
  else
    match portOf src, portOf dst with
    | some f, some t =>
      if s.isShed f || s.isShed t then (s, .shed, .none)
      else if s.underTest t then (s, .busy, .none)
      else if (s.port f).state ≠ .dialling ∨ (s.port t).state ≠ .idle then (s, .wrongState, .none)
      else s.localRing t (some f)
    | _, _ => (s, .range, .none)

/-- JOIN (R113). -/
def ownJoin (s : Part) : Answer :=
  if s.isShed .b then (s, .shed, .none)
  else if s.portA.state = .connected ∧ s.portB.state = .dialling then
    let s1 := (s.modPort .b fun r => { r with dialTimer := none }).withdraw .b
    let s2 := s1.enterState .b .joined none
    ((({ s2 with voice := { s2.voice with joinLink := true } } : Part).dropRungBy .b).refreshHeard, .ok, .none)
  else (s, .wrongState, .none)

/-- PART (R114). -/
def ownPart (s : Part) : Answer :=
  if s.portB.state = .joined then ((s.unlink.toDialling .b).refreshHeard, .ok, .none) else (s, .wrongState, .none)

/-- GET_PORT_STATUS's reply (R115, R131, R142). -/
def Part.portStatus (s : Part) (p : PortId) : PortStatus :=
  let r := s.port p
  let c := s.chan p
  let g := s.gen p
  { state := r.state
    enable := r.enable
    hook := r.hook
    digit := r.digit
    dial := r.dialTimer
    cooldown := r.cooldown
    howler := r.howler
    announced := r.announced
    heard := r.heard
    ring := r.ring.map fun x => (x.cadence, x.origin, x.partner, x.localLeft)
    heat := r.heat
    ringLoad := r.ringLoad
    trip := r.trip
    joinLink := s.voice.joinLink
    shedPending := r.shedPending
    mode := c.map (·.mode)
    active := c.map (·.active)
    erasedRun := c.map (·.erasedRun)
    tone := g.kind
    howlerPeak := if g.kind = .howler then some g.peak else none
    concealed := match p with
      | .a => s.voice.concealedA
      | .b => s.voice.concealedB
    hold := s.hold p }

/-- GET_PORT_STATUS (R115). -/
def ownGetPortStatus (arg : PortArg) : Part → Answer := onPort arg fun p s => (s, .ok, .portStatus (s.portStatus p))

end Sys2Proof.Machine
end

