-- ==== Sys2Proof/Machine/Catalogue.lean ====
section
/-! DEFINITION. The command catalogue (12.5): how each command is coded (R210), judged (R194, R198) and owned, and the
meaning of each catalogue row and of OPERATOR_COMMAND (R199). -/

namespace Sys2Proof.Machine

/-- GRANT and WITHHOLD (R198): refused from LOCAL against the class named, or LINK_CONTROL; from OPERATOR not judged. -/
def judgeGrant (src : Source) (c : Option ObjClass) : Judged :=
  match src with
  | .loc => .never (c.getD .linkControl)
  | .operator => .unjudged

/-- READ_TABLE has the class of its table, and none where it names no known table (R194). -/
def judgeTable (t : Option TableName) : Judged :=
  match t with
  | some t => .permission (tableClass t) false
  | none => .unjudged

/-- The kind code of a known command (R210). -/
def kindOf : Command → Byte
  | .lineStart => 1
  | .lineStop => 2
  | .setProfile _ => 3
  | .getProfile => 4
  | .setBandWindow _ => 5
  | .getBandMap => 6
  | .setStrictPlan _ => 7
  | .requestReshape => 8
  | .getLineStatus => 9
  | .getSnapshot => 10
  | .portEnable _ => 11
  | .portDisable _ => 12
  | .ringLocal _ => 13
  | .intercom _ _ => 14
  | .join => 15
  | .part => 16
  | .getPortStatus _ => 17
  | .runDiag _ _ => 18
  | .abortDiag => 19
  | .getDiagResult _ _ => 20
  | .clearLog => 21
  | .setReportThreshold _ => 22
  | .getSupply => 23
  | .setSupplyLimits _ _ => 24
  | .grant _ => 25
  | .withhold _ => 26
  | .getAccess => 27
  | .setSilenceTimer _ => 28
  | .getFlags => 29
  | .ackFlags _ => 30
  | .setStatsPeriod _ => 31
  | .readTable _ _ _ => 32
  | .reset _ => 33
  | .unknown k => k

/-- How a command of the catalogue is handled for its source (R194, R198, R210). -/
def handlingOf (src : Source) (cmd : Command) : Handling :=
  match cmd with
  | .lineStart => ⟨kindOf cmd, .permission .lineProfile true, ownLineStart⟩
  | .lineStop => ⟨kindOf cmd, .permission .lineProfile true, ownLineStop⟩
  | .setProfile f => ⟨kindOf cmd, .permission .lineProfile true, ownSetProfile f⟩
  | .getProfile => ⟨kindOf cmd, .permission .lineProfile false, ownGetProfile⟩
  | .setBandWindow w => ⟨kindOf cmd, .permission .lineProfile true, ownSetBandWindow w⟩
  | .getBandMap => ⟨kindOf cmd, .permission .lineProfile false, ownGetBandMap⟩
  | .setStrictPlan v => ⟨kindOf cmd, .permission .lineProfile true, ownSetStrictPlan v⟩
  | .requestReshape => ⟨kindOf cmd, .permission .lineProfile true, ownRequestReshape src⟩
  | .getLineStatus => ⟨kindOf cmd, .permission .stats false, ownGetLineStatus⟩
  | .getSnapshot => ⟨kindOf cmd, .permission .stats false, ownGetSnapshot⟩
  | .portEnable p => ⟨kindOf cmd, .permission .portConfig true, ownPortEnable p⟩
  | .portDisable p => ⟨kindOf cmd, .permission .portConfig true, ownPortDisable p⟩
  | .ringLocal p => ⟨kindOf cmd, .permission .portConfig true, ownRingLocal p⟩
  | .intercom x y => ⟨kindOf cmd, .permission .portConfig true, ownIntercom x y⟩
  | .join => ⟨kindOf cmd, .permission .portConfig true, ownJoin⟩
  | .part => ⟨kindOf cmd, .permission .portConfig true, ownPart⟩
  | .getPortStatus p => ⟨kindOf cmd, .permission .portConfig false, ownGetPortStatus p⟩
  | .runDiag t p => ⟨kindOf cmd, .permission .diag true, ownRunDiag src t p⟩
  | .abortDiag => ⟨kindOf cmd, .permission .diag true, ownAbortDiag⟩
  | .getDiagResult t p => ⟨kindOf cmd, .permission .diag false, ownGetDiagResult t p⟩
  | .clearLog => ⟨kindOf cmd, .permission .faultLog true, ownClearLog⟩
  | .setReportThreshold v => ⟨kindOf cmd, .permission .faultLog true, ownSetReportThreshold v⟩
  | .getSupply => ⟨kindOf cmd, .permission .supplyConfig false, ownGetSupply⟩
  | .setSupplyLimits l c => ⟨kindOf cmd, .permission .supplyConfig true, ownSetSupplyLimits l c⟩
  | .grant c => ⟨kindOf cmd, judgeGrant src c, ownPermission true c⟩
  | .withhold c => ⟨kindOf cmd, judgeGrant src c, ownPermission false c⟩
  | .getAccess => ⟨kindOf cmd, .unjudged, ownGetAccess⟩
  | .setSilenceTimer v => ⟨kindOf cmd, .permission .linkControl true, ownSetSilenceTimer v⟩
  | .getFlags => ⟨kindOf cmd, .unjudged, ownGetFlags⟩
  | .ackFlags ns => ⟨kindOf cmd, .unjudged, ownAckFlags src ns⟩
  | .setStatsPeriod v => ⟨kindOf cmd, .permission .linkControl true, ownSetStatsPeriod v⟩
  | .readTable t st n => ⟨kindOf cmd, judgeTable t, ownReadTable t st n⟩
  | .reset sc => ⟨kindOf cmd, .permission .linkControl true, ownReset sc⟩
  | .unknown _ => ⟨kindOf cmd, .unjudged, fun s => (s, .unknownKind, .none)⟩

/-- LINE_START (R17). -/
def execLineStart (e : Envelope) (s : State) : Host.Outcome State Fault Refusal :=
  s.act fun q => q.take e (handlingOf e.src .lineStart)

/-- LINE_STOP (R18). -/
def execLineStop (e : Envelope) (s : State) : Host.Outcome State Fault Refusal :=
  s.act fun q => q.take e (handlingOf e.src .lineStop)

/-- SET_PROFILE (R42). -/
def execSetProfile (e : Envelope) (f : ProfileFields) (s : State) : Host.Outcome State Fault Refusal :=
  s.act fun q => q.take e (handlingOf e.src (.setProfile f))

/-- GET_PROFILE (R44). -/
def execGetProfile (e : Envelope) (s : State) : Host.Outcome State Fault Refusal :=
  s.act fun q => q.take e (handlingOf e.src .getProfile)

/-- SET_BAND_WINDOW (R8). -/
def execSetBandWindow (e : Envelope) (w : WindowArg) (s : State) : Host.Outcome State Fault Refusal :=
  s.act fun q => q.take e (handlingOf e.src (.setBandWindow w))

/-- GET_BAND_MAP (R12). -/
def execGetBandMap (e : Envelope) (s : State) : Host.Outcome State Fault Refusal :=
  s.act fun q => q.take e (handlingOf e.src .getBandMap)

/-- SET_STRICT_PLAN (R7). -/
def execSetStrictPlan (e : Envelope) (v : Option Bool) (s : State) : Host.Outcome State Fault Refusal :=
  s.act fun q => q.take e (handlingOf e.src (.setStrictPlan v))

/-- REQUEST_RESHAPE (R74). -/
def execRequestReshape (e : Envelope) (s : State) : Host.Outcome State Fault Refusal :=
  s.act fun q => q.take e (handlingOf e.src .requestReshape)

/-- GET_LINE_STATUS (R37). -/
def execGetLineStatus (e : Envelope) (s : State) : Host.Outcome State Fault Refusal :=
  s.act fun q => q.take e (handlingOf e.src .getLineStatus)

/-- GET_SNAPSHOT (R36). -/
def execGetSnapshot (e : Envelope) (s : State) : Host.Outcome State Fault Refusal :=
  s.act fun q => q.take e (handlingOf e.src .getSnapshot)

/-- PORT_ENABLE (R88). -/
def execPortEnable (e : Envelope) (p : PortArg) (s : State) : Host.Outcome State Fault Refusal :=
  s.act fun q => q.take e (handlingOf e.src (.portEnable p))

/-- PORT_DISABLE (R89). -/
def execPortDisable (e : Envelope) (p : PortArg) (s : State) : Host.Outcome State Fault Refusal :=
  s.act fun q => q.take e (handlingOf e.src (.portDisable p))

/-- RING_LOCAL (R111). -/
def execRingLocal (e : Envelope) (p : PortArg) (s : State) : Host.Outcome State Fault Refusal :=
  s.act fun q => q.take e (handlingOf e.src (.ringLocal p))

/-- INTERCOM (R111). -/
def execIntercom (e : Envelope) (x y : PortArg) (s : State) : Host.Outcome State Fault Refusal :=
  s.act fun q => q.take e (handlingOf e.src (.intercom x y))

/-- JOIN (R113). -/
def execJoin (e : Envelope) (s : State) : Host.Outcome State Fault Refusal :=
  s.act fun q => q.take e (handlingOf e.src .join)

/-- PART (R114). -/
def execPart (e : Envelope) (s : State) : Host.Outcome State Fault Refusal :=
  s.act fun q => q.take e (handlingOf e.src .part)

/-- GET_PORT_STATUS (R115). -/
def execGetPortStatus (e : Envelope) (p : PortArg) (s : State) : Host.Outcome State Fault Refusal :=
  s.act fun q => q.take e (handlingOf e.src (.getPortStatus p))

/-- RUN_DIAG (R164). -/
def execRunDiag (e : Envelope) (t : Option TestKind) (p : Option PortArg)
    (s : State) : Host.Outcome State Fault Refusal :=
  s.act fun q => q.take e (handlingOf e.src (.runDiag t p))

/-- ABORT_DIAG (R165). -/
def execAbortDiag (e : Envelope) (s : State) : Host.Outcome State Fault Refusal :=
  s.act fun q => q.take e (handlingOf e.src .abortDiag)

/-- GET_DIAG_RESULT (R166). -/
def execGetDiagResult (e : Envelope) (t : Option TestKind) (p : Option PortArg)
    (s : State) : Host.Outcome State Fault Refusal :=
  s.act fun q => q.take e (handlingOf e.src (.getDiagResult t p))

/-- CLEAR_LOG (R159). -/
def execClearLog (e : Envelope) (s : State) : Host.Outcome State Fault Refusal :=
  s.act fun q => q.take e (handlingOf e.src .clearLog)

/-- SET_REPORT_THRESHOLD (R151). -/
def execSetReportThreshold (e : Envelope) (v : Option Severity) (s : State) : Host.Outcome State Fault Refusal :=
  s.act fun q => q.take e (handlingOf e.src (.setReportThreshold v))

/-- GET_SUPPLY (R190). -/
def execGetSupply (e : Envelope) (s : State) : Host.Outcome State Fault Refusal :=
  s.act fun q => q.take e (handlingOf e.src .getSupply)

/-- SET_SUPPLY_LIMITS (R189). -/
def execSetSupplyLimits (e : Envelope) (l c : Option Int) (s : State) : Host.Outcome State Fault Refusal :=
  s.act fun q => q.take e (handlingOf e.src (.setSupplyLimits l c))

/-- GRANT (R198). -/
def execGrant (e : Envelope) (c : Option ObjClass) (s : State) : Host.Outcome State Fault Refusal :=
  s.act fun q => q.take e (handlingOf e.src (.grant c))

/-- WITHHOLD (R198). -/
def execWithhold (e : Envelope) (c : Option ObjClass) (s : State) : Host.Outcome State Fault Refusal :=
  s.act fun q => q.take e (handlingOf e.src (.withhold c))

/-- GET_ACCESS (R200). -/
def execGetAccess (e : Envelope) (s : State) : Host.Outcome State Fault Refusal :=
  s.act fun q => q.take e (handlingOf e.src .getAccess)

/-- SET_SILENCE_TIMER (R191). -/
def execSetSilenceTimer (e : Envelope) (v : Nat) (s : State) : Host.Outcome State Fault Refusal :=
  s.act fun q => q.take e (handlingOf e.src (.setSilenceTimer v))

/-- GET_FLAGS (R205). -/
def execGetFlags (e : Envelope) (s : State) : Host.Outcome State Fault Refusal :=
  s.act fun q => q.take e (handlingOf e.src .getFlags)

/-- ACK_FLAGS (R197). -/
def execAckFlags (e : Envelope) (ns : List (Option FlagName)) (s : State) : Host.Outcome State Fault Refusal :=
  s.act fun q => q.take e (handlingOf e.src (.ackFlags ns))

/-- SET_STATS_PERIOD (R208). -/
def execSetStatsPeriod (e : Envelope) (v : Nat) (s : State) : Host.Outcome State Fault Refusal :=
  s.act fun q => q.take e (handlingOf e.src (.setStatsPeriod v))

/-- READ_TABLE (R207). -/
def execReadTable (e : Envelope) (t : Option TableName) (st n : Nat) (s : State) : Host.Outcome State Fault Refusal :=
  s.act fun q => q.take e (handlingOf e.src (.readTable t st n))

/-- RESET_FULL (R209). -/
def execResetFull (e : Envelope) (s : State) : Host.Outcome State Fault Refusal :=
  s.act fun p => p.take e (handlingOf e.src (.reset (some .full)))

/-- RESET_LINE (R209). -/
def execResetLine (e : Envelope) (s : State) : Host.Outcome State Fault Refusal :=
  s.act fun p => p.take e (handlingOf e.src (.reset (some .line)))

/-- OPERATOR_COMMAND (R199): the record in the message is answered before any judgement where its tag is 0 or its kind
is unknown, and otherwise as the same command from the catalogue with source OPERATOR. -/
def execOperatorCommand (tag : Byte) (form : BodyForm) (c : Command) (s : State) :
    Host.Outcome State Fault Refusal :=
  s.act fun q =>
    match c with
    | .unknown k => q.takeUnknown ⟨.operator, tag, form⟩ k
    | _ => q.take ⟨.operator, tag, form⟩ (handlingOf .operator c)

end Sys2Proof.Machine
end

