-- ==== Sys2Proof/Machine/Symbols.lean ====
section
/-! DEFINITION. The symbols of the line and the stream port: the downstream symbol handed on to its consumers (R60, R84,
R120, R127, R146), the fill of the upstream symbol (R133 to R135, R144), slow framing (R20, R26), the frames of the
stream port (R143, R146), and the events that count symbols (R61, R83). -/

namespace Sys2Proof.Machine

/-! ### The management byte downstream -/

/-- A byte of the downstream service stream joins the message in arrival (R20, R134). Idle zeros between messages are
skipped; a message is complete with its check byte. An erased byte frames by its decoded value like any other: as a kind,
as a length, or between messages as idle or as a kind; a length byte of 251 to 255, which no message of R20 has, is framed
like any other (both DESIGN CHOICE, log entry 54). -/
def Service.receiveByte (v : Service) (b : Byte) (erased : Bool) : Service :=
  if v.rx.1.isEmpty && b == 0 then v
  else
    let bs := v.rx.1 ++ [b]
    let mark := v.rx.2 || erased
    if 3 ≤ bs.length ∧ bs.length = 3 + (bs.getD 1 0).toNat then
      { v with rx := ([], false), rxDone := some (bs, !mark && checkHolds bs) }
    else { v with rx := (bs, mark) }

/-! ### Downstream voice and data -/

/-- One port's voice bytes of a downstream symbol (R120, R127, R138). -/
def Part.receiveVoice (p : PortId) (bs : List Byte) (erased : Bool) (s : Part) : Part :=
  match s.slot p, s.chan p with
  | .live, some c =>
    if c.active then
      let c' := if erased then c.conceal else c.receive bs
      let s1 := s.setChan p (some c')
      let k := if erased then 1 else 0
      match p with
      | .a =>
        { s1 with
          voice := { s1.voice with
            lineA := [c'.last.1, c'.last.2], concealedA := satAdd 0xFFFFFFFF s1.voice.concealedA k } }
      | .b =>
        { s1 with
          voice := { s1.voice with
            lineB := [c'.last.1, c'.last.2], concealedB := satAdd 0xFFFFFFFF s1.voice.concealedB k } }
    else s
  | _, _ => s

/-- A downstream frame completes (R146). -/
def Sched.frameDone (d : Sched) (isOpen : Bool) (frame : List Byte) (erased : Bool) : Sched :=
  let d1 := { d with framesErased := satAdd 0xFFFFFFFF d.framesErased (if erased then 1 else 0) }
  if isOpen && decide (d.downBuffer.length < 4) then { d1 with downBuffer := d.downBuffer ++ [(frame, erased)] }
  else { d1 with framesDropped := satAdd 0xFFFFFFFF d.framesDropped 1 }

/-- A byte of the downstream data slots (R144, R146). -/
def Sched.dataByte (isOpen erased : Bool) (d : Sched) (b : Byte) : Sched :=
  match d.assembly with
  | .idle => if b = 255 then d else { d with assembly := .high b erased }
  | .skip => if b = 255 then { d with assembly := .idle } else d
  | .high hi e =>
    let len := hi.toNat * 256 + b.toNat
    if 64 ≤ len ∧ len ≤ 1536 then { d with assembly := .body len [] (e || erased) }
    else { d with assembly := .skip, framingErrors := satAdd 0xFFFFFFFF d.framingErrors 1 }
  | .body len bs e =>
    let bs' := bs ++ [b]
    if len ≤ bs'.length then Sched.frameDone { d with assembly := .idle } isOpen bs' (e || erased)
    else { d with assembly := .body len bs' (e || erased) }

/-- The bytes of a downstream symbol handed on: management, voice of A, voice of B, data (R120, R136, R146). -/
def Part.handOn (bytes : List Byte) (erased : Bool) (s : Part) : Part :=
  let a := s.alloc .a
  let b := s.alloc .b
  let p := s.capP.getD 0
  let data := (bytes.take p).drop (1 + a + b)
  let isOpen := s.dataOpen
  let s1 := s.receiveVoice .a ((bytes.drop 1).take a) erased
  let s2 := s1.receiveVoice .b ((bytes.drop (1 + a)).take b) erased
  { s2 with
    svc := match bytes with
      | m :: _ => s2.svc.receiveByte m erased
      | [] => s2.svc
    sched := data.foldl (Sched.dataByte isOpen erased) s2.sched }

/-- A symbol counted by its counted class (R60, R62), and the sync-loss run (R61). -/
def Monitor.count (m : Monitor) (raw : RawClass) (erased sync : Bool) : Monitor :=
  let c := m.counts
  { m with
    counts :=
      if erased then { c with erased := c.erased + 1 }
      else match raw with
        | .clean => { c with clean := c.clean + 1 }
        | .errored => { c with errored := c.errored + 1 }
        | .impulse => { c with impulse := c.impulse + 1 }
    syncRun := if sync then 0 else min 2000 (m.syncRun + 1) }

/-- The symbol counter and the session go one symbol on. -/
def Line.nextSymbol (l : Line) : Line :=
  { l with
    symbol := l.symbol + 1
    session := l.session.map fun x => { x with symbols := x.symbols + 1 } }

/-- One downstream symbol in service (R60, R81 to R84). -/
def Part.downstream (d : DownSymbol) (s : Part) : Part :=
  let y := s.line.symbol
  let raw := rawClassOf (loadedTones (s.line.downInForce.getD [])) d
  let t0 := s.tracker.openWindow y
  let erased := t0.inWindow y
  let ev := t0.formEvent y (raw == .impulse)
  let s1 : Part :=
    { s with
      tracker := ev.1
      monitor := s.monitor.count raw erased d.sync
      load := if erased then s.load else
        { s.load with periodSums := addSums s.load.periodSums d.snr, periodCount := s.load.periodCount + 1 } }
  let s2 := if ev.2 && s.tracker.state != .idle then s1.takeEvent y else s1
  let s3 := s2.handOn d.bytes erased
  { s3 with line := s3.line.nextSymbol }

/-- DOWNSTREAM_SYMBOL (R60). -/
def execDownstreamSymbol (d : DownSymbol) (s : State) : Host.Outcome State Fault Refusal :=
  s.act fun p => if p.inService then p.downstream d else p

/-- ERASURE_WINDOW_CLOSE (R83). -/
def execErasureWindowClose (s : State) : Host.Outcome State Fault Refusal :=
  s.act fun p => p.closeWindow

/-- SYNC_LOSS (R61). -/
def execSyncLoss (s : State) : Host.Outcome State Fault Refusal :=
  s.act fun p => if p.inService then (p.dropLine .lossOfSignal).settle else p

/-! ### The upstream symbol -/

/-- The next byte of the service stream, the message at the queue's head leaving for the burst queue where it is empty
(R134); a report's last byte starts its timer (R152). -/
def Part.streamByte (s : Part) : Option Byte × Part :=
  let s1 : Part :=
    if s.sched.burst.bytes.isEmpty then
      match s.svc.outQ with
      | m :: q =>
        let report := match m with
          | .faultReport r => some r.seq
          | _ => none
        Part.tryOffer
          { s with svc := { s.svc with outQ := q }, sched := { s.sched with burst := ⟨m.bytes, report⟩ } }
      | [] => s
    else s
  match s1.sched.burst.bytes with
  | [] => (none, s1)
  | b :: rest =>
    let s2 : Part := { s1 with sched := { s1.sched with burst := ⟨rest, s1.sched.burst.report⟩ } }
    if rest.isEmpty then
      let ours := s1.sched.burst.report.isSome && s1.sched.burst.report == s1.log.inFlight
      (some b,
        { s2 with
          sched := { s2.sched with burst := ⟨[], none⟩ }
          log := if ours then { s2.log with ackTimer := some 2000 } else s2.log })
    else (some b, s2)

/-- The burst slots, one by one, up to `n` (R133, R134). -/
def Part.burstBytes : Nat → Part → List Byte × Part
  | 0, s => ([], s)
  | n + 1, s =>
    match s.streamByte with
    | (none, s') => ([], s')
    | (some b, s') =>
      let r := Part.burstBytes n s'
      (b :: r.1, r.2)

/-- The record of a frame: its length in two bytes, then its bytes (R144). -/
def frameRecord (f : List Byte) : List Byte := bytes16 (BitVec.ofNat 16 f.length) ++ f

/-- One data slot (R144). -/
def Sched.dataSlot (d : Sched) : Byte × Sched :=
  match d.upQueue with
  | [] => (255, d)
  | f :: fs =>
    let b := (frameRecord f).getD d.headPlaced 0
    if f.length + 2 ≤ d.headPlaced + 1 then (b, { d with upQueue := fs, headPlaced := 0 })
    else (b, { d with headPlaced := d.headPlaced + 1 })

/-- `n` data slots (R144). -/
def Sched.dataSlots : Nat → Sched → List Byte × Sched
  | 0, d => ([], d)
  | n + 1, d =>
    let x := d.dataSlot
    let r := Sched.dataSlots n x.2
    (x.1 :: r.1, r.2)

/-- A port's voice bytes upstream (R119, R133, R138). -/
def Part.upVoice (s : Part) (p : PortId) : List Byte :=
  let pair := match p with
    | .a => s.voice.upA
    | .b => s.voice.upB
  match s.slot p, s.chan p with
  | .live, some c => if c.active then voiceBytes c.mode pair else []
  | .ended m true, _ => List.replicate m.bytes 0
  | _, _ => []

/-- A symbol under last-report mode: the remainder of a begun message, the report, idle values (R135). -/
def Part.fillReport (report : List Byte) (u : Nat) (s : Part) : Part :=
  let begun := s.sched.burst.bytes
  let left := begun.drop u
  let placed := begun.take u
  let room := u - placed.length
  let now := report.take room
  { s with
    sched := { s.sched with
      burst := if left.isEmpty then ⟨[], none⟩ else ⟨left, s.sched.burst.report⟩
      lastReport := some (report.drop room)
      upSymbol := placed ++ now ++ List.replicate (room - now.length) 0
      upDrive := s.driven } }

/-- A symbol in the order of R133. -/
def Part.fillSymbol (u : Nat) (s : Part) : Part :=
  let m := s.streamByte
  let va := s.upVoice .a
  let vb := s.upVoice .b
  let used := 1 + va.length + vb.length
  let burst := Part.burstBytes (min 4 (u - used)) m.2
  let data := burst.2.sched.dataSlots (u - used - burst.1.length)
  let s' := burst.2
  { s' with sched := { data.2 with upSymbol := (m.1.getD 0 :: va) ++ vb ++ burst.1 ++ data.1, upDrive := s.driven } }

/-- UPSTREAM_SYMBOL_FILL (R133): the symbol's bytes, and the tones that carry it (R59). -/
def execUpstreamSymbolFill (s : State) : Host.Outcome State Fault Refusal :=
  s.act fun p =>
    if p.inService then
      match p.sched.lastReport with
      | some r => p.fillReport r (p.capU.getD 0)
      | none => p.fillSymbol (p.capU.getD 0)
    else p

/-! ### Slow framing -/

/-- SLOW_FRAMING_SYMBOL (R20, R26, R46): a byte in each direction, and in MEASURING a measurement of each tone. Where no
message waits the byte upstream is the idle value 0 that R134 gives the management byte (DESIGN CHOICE, log entry 53). -/
def Part.slowSymbol (byte : Byte) (snr : List Int) (s : Part) : Part :=
  let s1 : Part := { s with svc := s.svc.receiveByte byte false }
  let up : List Byte × Part :=
    if s1.line.state = .sounding then ([], s1)
    else
      let r := s1.streamByte
      ([r.1.getD 0], r.2)
  let s2 : Part := { up.2 with sched := { up.2.sched with upSymbol := up.1, upDrive := s.driven } }
  let s3 : Part :=
    if s2.line.state = .measuring then
      { s2 with
        load := { s2.load with
          measureSums := addSums s2.load.measureSums (snr.map (clamp (-2560) 15360))
          measureCount := s2.load.measureCount + 1 } }
    else s2
  if s3.line.state = .sounding then s3 else { s3 with line := { s3.line with symbol := s3.line.symbol + 1 } }

/-- SLOW_FRAMING_SYMBOL (R26). -/
def execSlowFramingSymbol (byte : Byte) (snr : List Int) (s : State) : Host.Outcome State Fault Refusal :=
  s.act fun p =>
    if p.line.state = .sounding ∨ p.line.state = .measuring ∨ p.line.state = .loading then p.slowSymbol byte snr else p

/-! ### The stream port -/

/-- A frame's first byte (R143): no frame begins while the port is held off, and frames come one at a time. -/
def Part.frameBegins (s : Part) : Part :=
  if s.streamHeld || s.sched.arrival != .idle then s else { s with sched := { s.sched with arrival := .begun } }

/-- A frame's last byte (R143). A frame that a closure cut off has been counted; one that the line's leaving service
doomed, or that comes with the line out of service or the port closed, is lost; any other is refused or queued by its
length. A last byte with no frame begun is a frame whose two bytes fall together (log entry 51), also while the port is held
off: out of service or closed it is counted lost, behind 24 queued frames a wrong length is counted refused, and a right one
waits outside and changes nothing (DESIGN CHOICE, log entry 51). -/
def Part.frameEnds (frame : List Byte) (s : Part) : Part :=
  let d := { s.sched with arrival := .idle }
  if s.sched.arrival = .cut then { s with sched := d }
  else if s.sched.arrival = .doomed ∨ s.inService = false ∨ s.dataOpen = false then
    { s with sched := { d with framesLost := satAdd 0xFFFFFFFF d.framesLost 1 } }
  else if frame.length < 64 ∨ 1536 < frame.length then
    { s with sched := { d with framesRefused := satAdd 0xFFFFFFFF d.framesRefused 1 } }
  else if 24 ≤ d.upQueue.length then s
  else { s with sched := { d with upQueue := d.upQueue ++ [frame] } }

/-- UPSTREAM_FRAME_ARRIVAL (R143): the first byte of a frame, or its last (log entry 51). -/
def execUpstreamFrameArrival (frame : FrameArrival) (s : State) : Host.Outcome State Fault Refusal :=
  s.act fun p =>
    match frame with
    | none => p.frameBegins
    | some f => p.frameEnds f

/-- STREAM_PORT_TAKES_FRAME (R146). -/
def execStreamPortTakesFrame (s : State) : Host.Outcome State Fault Refusal :=
  s.act fun p =>
    match p.sched.downBuffer with
    | x :: xs => { p with sched := { p.sched with downBuffer := xs, streamOut := some x } }
    | [] => p

end Sys2Proof.Machine
end

