-- ==== Sys2Proof/Machine/BringUp.lean ====
section
/-! DEFINITION. The events of bring-up (R24 to R33): sounding, measuring, loading, the switch into CARRYING, failures and
the timers that bring the next attempt. -/

namespace Sys2Proof.Machine

/-- ENTER_SOUNDING (R24). -/
def execEnterSounding (s : State) : Host.Outcome State Fault Refusal :=
  s.act fun p => if p.mayStart then p.enterSounding.refreshHeard else p

/-- WAKE_TONE_END (R25). -/
def execWakeToneEnd (s : State) : Host.Outcome State Fault Refusal :=
  s.act fun p =>
    if p.line.state = .sounding ∧ p.line.wakeLeft.isSome then
      { p with line := { p.line with wakeTone := none, wakeLeft := none, transmitter := .off } }
    else p

/-- CALL_WINDOW_EXPIRY (R25, R31). -/
def execCallWindowExpiry (s : State) : Host.Outcome State Fault Refusal :=
  s.act fun p =>
    if p.line.state = .sounding ∧ p.line.callWindow.isSome then
      if p.line.callsSent < 5 then p.beginCall
      else (p.failAttempt .noAnswer (p.line.callsSent : Int)).settle
    else p

/-- Entry to MEASURING (R25, R26, R45). Where R21 discards the CONFIRM it is entered all the same (DESIGN CHOICE, log entry
77). -/
def Part.enterMeasuring (s : Part) : Part :=
  let s1 := s.enqueue .confirm
  ({ s1 with
      line := { s1.line with
        state := .measuring, wakeTone := none, wakeLeft := none, callWindow := none, transmitter := .framing
        symbol := 0 }
      load := { s1.load with averages := noAverages, measureSums := [], measureCount := 0 } } : Part).postLine
    .sounding none []

/-- ANSWER (R25). -/
def execAnswer (s : State) : Host.Outcome State Fault Refusal :=
  s.act fun p => if p.line.state = .sounding then p.enterMeasuring else p

/-- The seed of a tone's average (R26, R46): the mean of its measurements, truncated toward zero; the floor where the far
end sent no reference symbol. -/
def Load.seed (l : Load) (t : Nat) : Int :=
  if l.measureCount = 0 then -2560 else (l.measureSums.getD t 0).tdiv l.measureCount

/-- The averages seeded over the measurable set (R11, R46). -/
def Part.seededAverages (s : Part) : List (Option Int) :=
  perTone fun t => if s.band.measurable t then some (s.load.seed t) else none

/-- How many tones have a seeded average above -40 qdB when rounded (R26). -/
def tonesHeard (averages : List (Option Int)) : Nat :=
  (averages.filter fun a => match a with
    | some x => decide (-40 < roundQdb x)
    | none => false).length

/-- Entry to LOADING and the downstream computation (R27, R43, R55, R56). -/
def Part.enterLoading (s : Part) : Part :=
  let s1 := ({ s with
    line := { s.line with
      state := .loading, loadingDeadline := some (s.line.symbol + 12000), rejections := 0, segs := none
      upValid := false, switch := none } } : Part).postLine .measuring none []
  let map := s1.band.configured
  let p := s1.load.setProfile
  let t := computeDown map p s1.load.averages []
  let s2 : Part := { s1 with load := { s1.load with profileInForce := p } }
  if payload t = 0 ∨ (rateOf (payload t) : Int) < p.floor then s2.failAttempt .lowRate (payload t : Int)
  else
    ({ s2 with
        line := { s2.line with downOffered := some t }
        band := { s2.band with offeredMap := some map } } : Part).sendTable t

/-- The end of the 4000th reference symbol (R26). -/
def Part.measurementEnd (s : Part) : Part :=
  let averages := s.seededAverages
  let heard := tonesHeard averages
  let s1 : Part := { s with load := { s.load with averages := averages, measureSums := [], measureCount := 0 } }
  if heard < 32 then s1.failAttempt .measureFail (heard : Int) else s1.enterLoading

/-- MEASUREMENT_END (R26). -/
def execMeasurementEnd (s : State) : Host.Outcome State Fault Refusal :=
  s.act fun p => if p.line.state = .measuring then p.measurementEnd.settle else p

/-- A complete UP_TABLE in LOADING (R28). Where R21 discards the TABLE_REJECT the rejection counts all the same (DESIGN
CHOICE, log entry 77). -/
def Part.loadingTable (number : Byte) (table : List LoadEntry) (s : Part) : Part :=
  if s.line.upValid then s
  else
    match validateTable (s.band.offeredMap.getD []) s.load.profileInForce.maxBits table with
    | none =>
      let s' : Part := { s with line := { s.line with upOffered := some table, upValid := true } }
      s'.nameSwitch (s.line.loadingDeadline.getD s.line.symbol)
    | some (c, t) =>
      let s1 := s.enqueue (.tableReject number c t)
      let s2 : Part := { s1 with line := { s1.line with rejections := s1.line.rejections + 1 } }
      if s.line.rejections < 2 then s2 else s2.failAttempt .tableRejected (s2.line.rejections : Int)

/-- The first complete UP_TABLE of a reshape (R76); later ones are ignored. Where R21 discards the TABLE_REJECT the reshape
is abandoned all the same (DESIGN CHOICE, log entry 77). -/
def Part.reshapeTable (number : Byte) (table : List LoadEntry) (s : Part) : Part :=
  match s.line.reshape with
  | none => s
  | some r =>
    if r.upTaken then s
    else
      let s0 : Part := { s with line := { s.line with reshape := some { r with upTaken := true } } }
      match validateTable (s.band.offeredMap.getD []) ((s.load.offeredProfile.map (·.maxBits)).getD 0) table with
      | none =>
        let s' : Part := { s0 with line := { s0.line with upOffered := some table, upValid := true } }
        s'.nameSwitch r.deadline
      | some (c, t) => (s0.enqueue (.tableReject number c t)).abandon .rejectedUp (checkCode c)

/-- An UP_TABLE segment (R23): malformed where its number or its length is wrong. -/
def Part.upTable (number : Byte) (segment : Nat) (entries : List Byte) (s : Part) : Part :=
  if 1 < segment ∨ entries.length ≠ 224 then s.receiveError
  else if s.line.state = .loading ∨ s.line.state = .reshape then
    let g := collectSegment s.line.segs number segment entries
    match g.table with
    | none => { s with line := { s.line with segs := some g } }
    | some t =>
      let s' : Part := { s with line := { s.line with segs := none } }
      if s'.line.state = .loading then s'.loadingTable number t else s'.reshapeTable number t
  else s

/-- UP_TABLE (R23, R28, R76). -/
def execUpTable (number : Byte) (segment : Nat) (entries : List Byte) (s : State) : Host.Outcome State Fault Refusal :=
  s.act fun p => (p.upTable number segment entries).settle

/-- TABLE_REJECT (R28, R76): the exchange unit's refusal of the part's DOWN_TABLE, whatever it names. -/
def execTableReject (_number : Byte) (_check : Check) (_tone : Nat) (s : State) : Host.Outcome State Fault Refusal :=
  s.act fun p =>
    if p.line.state = .loading then (p.failAttempt .tableRejected (p.line.rejections : Int)).settle
    else if p.line.state = .reshape then (p.abandon .rejectedDown 0).settle
    else p

/-- A SWITCH_ACK confirms the switch it names, where it comes before that symbol (R29, R77). -/
def Line.acknowledge (l : Line) (at_ : Symbol) : Line :=
  match l.switch with
  | some w =>
    if w.placed && !w.passed && decide (w.at_ = at_) && later at_ l.symbol then
      { l with switch := some { w with acked := true } }
    else l
  | none => l

/-- SWITCH_ACK (R29, R77): one that names a SWITCH displaced from the queue confirms nothing (log entry 25). -/
def execSwitchAck (at_ : Symbol) (s : State) : Host.Outcome State Fault Refusal :=
  s.act fun p =>
    if (p.line.state = .loading ∨ p.line.state = .reshape) ∧ p.svc.switchLost ≠ some at_ then
      { p with line := p.line.acknowledge at_ }
    else p

/-- SWITCH_SYMBOL_WITHOUT_ACK (R29, R77). -/
def execSwitchSymbolWithoutAck (s : State) : Host.Outcome State Fault Refusal :=
  s.act fun p =>
    if p.line.state = .loading ∨ p.line.state = .reshape then
      match p.line.switch with
      | some w => if w.acked then p else { p with line := { p.line with switch := some { w with passed := true } } }
      | none => p
    else p

/-- LOADING_TIMEOUT (R29). -/
def execLoadingTimeout (s : State) : Host.Outcome State Fault Refusal :=
  s.act fun p => if p.line.state = .loading then (p.failAttempt .loadingTimeout 0).settle else p

/-- The switch is confirmed and its symbol has not gone by. -/
def Line.confirmed (l : Line) : Bool :=
  match l.switch with
  | some w => w.acked && !w.passed
  | none => false

/-- The UNDELIVERED records of at least MAJOR return to TO_SEND with a fresh series (R156). -/
def Log.lineUp (l : Log) : Log :=
  { l with
    records := l.records.map fun r =>
      if r.delivery = .undelivered ∧ 2 ≤ severityCode r.severity then { r with delivery := .toSend, sends := 0 } else r }

/-- A port in DIALLING that has not been announced is taken as just off-hook in service (R96, R130). -/
def Part.dialsAnew (p : PortId) (s : Part) : Part :=
  let r := s.port p
  if r.state = .dialling ∧ r.announced = false ∧ s.isCaller p = false then
    (s.sayOffHook p).modPort p fun r => { r with dialTimer := some 30000, lastTone := none }
  else s

/-- Entry to CARRYING at the switch symbol (R30). The SIGNALs of the ports taken as just off-hook join the queue before the
fault log lines up its records and offers a report, against the order of R30's list (DESIGN CHOICE, log entry 86). -/
def Part.enterCarrying (s : Part) : Part :=
  let l := s.line.clearPhase
  let s1 : Part :=
    { s with
      line := { l with
        state := .carrying, attempts := 0, holdoff := none, session := some ⟨0, 0, 0⟩, transmitter := .service
        symbol := 0, downInForce := l.downOffered, upInForce := l.upOffered, downOffered := none, upOffered := none
        move := none, reasons := [], reshape := none, abandoned := 0 }
      band := { s.band with mapInForce := s.band.offeredMap, offeredMap := none }
      load := { s.load with periodSums := [], periodCount := 0 }
      monitor := .initial
      tracker := { Tracker.initial with state := .searching } }
  let s2 := (s1.postLine .loading none []).postRates
  let s3 := (s2.dialsAnew .a).dialsAnew .b
  Part.tryOffer { s3 with log := s3.log.lineUp }

/-- ENTER_CARRYING (R30). -/
def execEnterCarrying (s : State) : Host.Outcome State Fault Refusal :=
  s.act fun p =>
    if p.line.state = .loading ∧ p.line.confirmed = true then p.enterCarrying.refreshHeard else p

/-- HOLDOFF_EXPIRY (R32). -/
def execHoldoffExpiry (s : State) : Host.Outcome State Fault Refusal :=
  s.act fun p =>
    if p.line.state = .dropped ∧ p.line.holdoff.isSome then
      ({ p with line := { p.line with holdoff := none, startPending := true } } : Part).settle
    else p

/-- RETRY_EXPIRY (R33). -/
def execRetryExpiry (s : State) : Host.Outcome State Fault Refusal :=
  s.act fun p =>
    if p.line.state = .fallback ∧ p.line.retry.isSome then
      ({ p with line := { p.line with retry := none, startPending := true } } : Part).settle
    else p

/-- DROP (R31, R35). -/
def execDrop (s : State) : Host.Outcome State Fault Refusal :=
  s.act fun p =>
    if p.inService then (p.dropLine .farEnd).settle
    else if p.line.state = .sounding ∨ p.line.state = .measuring ∨ p.line.state = .loading then
      (p.failAttempt .farEnd 0).settle
    else p

/-- SERVICE_MESSAGE_ERROR (R20, R22). -/
def execServiceMessageError (s : State) : Host.Outcome State Fault Refusal := s.act fun p => p.receiveError

end Sys2Proof.Machine
end

