-- ==== Sys2Proof/Machine/InService.lean ====
section
/-! DEFINITION. The events of a line in service: the end of a monitoring period (R48, R63 to R67), tone moves (R68 to
R71), reshapes (R75 to R79) and the channel switch symbol (R138). -/

namespace Sys2Proof.Machine

/-- The averages at the end of a monitoring period (R45, R47, R48). An absent average has no difference to step by and
stays absent (DEDUCED, log entry 12). -/
def Load.update (l : Load) (map : List Role) : Load :=
  { l with
    averages := if l.periodCount = 0 then l.averages else
      perTone fun t =>
        match l.averages.getD t none with
        | some a =>
          if isDown map t then
            some (a + (clamp (-2560) 15360 ((l.periodSums.getD t 0).tdiv l.periodCount) - a).tdiv 8)
          else some a
        | none => none
    periodSums := []
    periodCount := 0 }

/-- The period is severe (R63). -/
def ClassCounts.severe (c : ClassCounts) : Bool := 300 < c.errored + c.impulse

/-- Severity at a period's end (R63): the runs and the session's count, and the class counts of the period completed. -/
def Part.judgePeriod (s : Part) : Part :=
  let bad := s.monitor.counts.severe
  { s with
    monitor := { s.monitor with
      severeRun := if bad then min 40 (s.monitor.severeRun + 1) else 0
      lastCounts := some s.monitor.counts
      counts := .zero }
    line := { s.line with
      session := s.line.session.map fun x => { x with severe := satAdd 65535 x.severe (if bad then 1 else 0) } } }

/-- The margins of the loaded tones at this moment (R64). -/
def Part.margins (s : Part) : List Margin :=
  marginsOf s.load.profileInForce.gap s.load.averages (s.line.downInForce.getD [])

/-- The monitor's figures and runs (R64, R65): the worst and average margin, and the two runs. -/
def Monitor.figures (m : Monitor) (ms : List Margin) (p : Profile) : Monitor :=
  let avg := averageMargin ms
  let low := if avg < p.minMargin then m.lowRun + 1 else 0
  let high := if p.margin + 24 < avg then m.highRun + 1 else 0
  { m with
    worst := (lowest ms).map fun x => (x.m, x.tone)
    average := some avg
    lowRun := if 8 ≤ low then 0 else low
    highRun := if 240 ≤ high then 0 else high }

/-- The reason R65 raises at this period's end, if any. -/
def Monitor.trigger (m : Monitor) (ms : List Margin) (p : Profile) : Option Reason :=
  let avg := averageMargin ms
  if avg < p.minMargin ∧ 8 ≤ m.lowRun + 1 then some .margin
  else if p.margin + 24 < avg ∧ 240 ≤ m.highRun + 1 ∧ p.upshift = true then some .upshift
  else none

/-- A move built by the part goes out (R68). It carries the counter's value, which then rises, so that the first MOVE after
POWER_ON carries number 0 (DESIGN CHOICE, log entry 55). A MOVE that a full outbound queue discards (R21) uses up its
number and is in flight all the same (DESIGN CHOICE, log entry 69). -/
def Part.sendMove (es : List MoveEntry) (s : Part) : Part :=
  let n := s.line.nextMove
  ({ s with
      line := { s.line with
        nextMove := n + 1, move := some (.own n es (s.line.symbol + 2000) none), lateMove := none } } : Part).enqueue
    (.move n es)

/-- The consideration of a tone move at a period's end (R66, R67). -/
def Part.considerMove (ms : List Margin) (s : Part) : Part :=
  match lowest ms with
  | none => s
  | some d =>
    if d.m < s.load.profileInForce.minMargin && s.line.move.isNone && s.line.reasons.isEmpty &&
        s.line.state == .carrying then
      match buildMove s.load.profileInForce (s.line.downInForce.getD []) ms d with
      | some es => s.sendMove es
      | none => s.raise .moveFailed
    else s

/-- The end of a monitoring period (R63). -/
def Part.periodEnd (s : Part) : Part :=
  let s0 : Part := { s with load := s.load.update (s.band.mapInForce.getD []) }
  let s1 := s0.judgePeriod
  if 40 ≤ s1.monitor.severeRun then s1.dropLine .lossOfQuality
  else
    let ms := s1.margins
    let p := s1.load.profileInForce
    let s2 : Part := { s1 with monitor := s1.monitor.figures ms p }
    match s1.monitor.trigger ms p with
    | some r => s2.raise r
    | none => s2.considerMove ms

/-- MONITORING_PERIOD_END (R63). -/
def execMonitoringPeriodEnd (s : State) : Host.Outcome State Fault Refusal :=
  s.act fun p => if p.inService then p.periodEnd.settle else p

/-! ### Moves -/

/-- A MOVE_ACK (R68, R70). -/
def Part.moveAck (number : Byte) (at_ : Symbol) (s : Part) : Part :=
  match s.line.move with
  | some (.own n es dl none) =>
    if n = number then
      if inMoveRange at_ s.line.symbol then { s with line := { s.line with move := some (.own n es dl (some at_)) } }
      else s.moveFails true
    else s
  | some _ => s
  | none => if s.line.lateMove = some number then s.raise .moveFailed else s

/-- MOVE_ACK (R68, R70). -/
def execMoveAck (number : Byte) (at_ : Symbol) (s : State) : Host.Outcome State Fault Refusal :=
  s.act fun p => if p.inService then (p.moveAck number at_).settle else p

/-- A MOVE_REFUSE (R68). -/
def Part.moveRefuse (number : Byte) (s : Part) : Part :=
  match s.line.move with
  | some (.own n _ _ none) => if n = number then s.moveFails false else s
  | _ => s

/-- MOVE_REFUSE (R68). -/
def execMoveRefuse (number : Byte) (s : State) : Host.Outcome State Fault Refusal :=
  s.act fun p => if p.inService then (p.moveRefuse number).settle else p

/-- The answer timer of the part's move expires (R68, R70). -/
def Part.moveTimeout (s : Part) : Part :=
  match s.line.move with
  | some (.own n _ _ none) => ({ s with line := { s.line with lateMove := some n } } : Part).moveFails false
  | _ => s

/-- MOVE_ANSWER_TIMEOUT (R68). -/
def execMoveAnswerTimeout (s : State) : Host.Outcome State Fault Refusal :=
  s.act fun p => if p.inService then p.moveTimeout.settle else p

/-- The switch symbol of the part's move (R69). The shrink and the growth apply also in last-report mode (DESIGN CHOICE,
log entry 71). -/
def Part.moveSwitch (s : Part) : Part :=
  match s.line.move with
  | some (.own _ es _ (some _)) =>
    let s' : Part :=
      { s with
        line := { s.line with move := none, downInForce := s.line.downInForce.map fun t => applyMove t es }
        monitor := { s.monitor with moveFailures := 0 } }
    s'.capacityRuleQuiet.startPending
  | _ => s

/-- MOVE_SWITCH (R69). -/
def execMoveSwitch (s : State) : Host.Outcome State Fault Refusal :=
  s.act fun p => if p.inService then p.moveSwitch.settle else p

/-- A MOVE from the exchange unit in CARRYING (R71). Where a full outbound queue discards the MOVE_ACK (R21), the move is
in flight all the same (DESIGN CHOICE, log entry 62). -/
def Part.takeMove (m : MoveMsg) (s : Part) : Part :=
  let bad := s.line.move.isSome || !inMoveRange m.switchAt s.line.symbol ||
    (validateMove (s.band.mapInForce.getD []) s.load.profileInForce.maxBits (s.line.upInForce.getD []) m.entries).isSome
  if bad then s.enqueue (.moveRefuse m.number)
  else
    Part.enqueue (.moveAck m.number m.switchAt)
      { s with line := { s.line with move := some (.far m.number m.entries m.switchAt) } }

/-- MOVE (R58, R71): a body that does not fit is a receive error; outside CARRYING a MOVE is ignored. -/
def execMove (m : MoveMsg) (s : State) : Host.Outcome State Fault Refusal :=
  s.act fun p =>
    if !moveFits m then p.receiveError
    else if p.line.state = .carrying then p.takeMove m
    else p

/-- The switch symbol of the exchange unit's move (R59, R71). The shrink and the growth apply also in last-report mode
(DESIGN CHOICE, log entry 71). -/
def Part.upstreamMoveSwitch (s : Part) : Part :=
  match s.line.move with
  | some (.far _ es _) =>
    let s1 : Part :=
      { s with line := { s.line with move := none, upInForce := s.line.upInForce.map fun t => applyMove t es } }
    let s2 := if s1.capU = s.capU then s1.capacityRuleQuiet else s1.capacityRule.postRates
    s2.startPending
  | _ => s

/-- UPSTREAM_MOVE_SWITCH (R71). -/
def execUpstreamMoveSwitch (s : State) : Host.Outcome State Fault Refusal :=
  s.act fun p => if p.inService then p.upstreamMoveSwitch.settle else p

/-! ### Reshapes -/

/-- A RESHAPE_OFFER (R75). -/
def Part.reshapeOffer (reasons : List Reason) (s : Part) : Part :=
  if s.line.state = .carrying then
    if s.canReshape then s.startReshape false (addReasons reasons (addReason .farEnd s.line.reasons))
    else { s with line := { s.line with reasons := addReason .farEnd s.line.reasons } }
  else if s.line.state = .reshape then
    match s.line.reshape with
    | some r =>
      if r.upTaken then { s with line := { s.line with reasons := addReason .farEnd s.line.reasons } }
      else { s with line := { s.line with reshape := some { r with reasons := addReasons reasons r.reasons } } }
    | none => s
  else s

/-- RESHAPE_OFFER (R75). -/
def execReshapeOffer (reasons : List Reason) (s : State) : Host.Outcome State Fault Refusal :=
  s.act fun p => (p.reshapeOffer reasons).settle

/-- RESHAPE_TIMEOUT (R77, R79). -/
def execReshapeTimeout (s : State) : Host.Outcome State Fault Refusal :=
  s.act fun p => if p.line.state = .reshape then (p.abandon .timeout 0).settle else p

/-- The LOW_RATE_IN_SERVICE record, where the new rate lies below the floor (R56). -/
def Part.recordLowRate (s : Part) : Part :=
  let rate : Int := (rateOf (s.capP.getD 0) : Int)
  if rate < s.load.profileInForce.floor then
    s.makeRecordAt .lowRateInService .line .carrying
      [rate, s.load.profileInForce.floor, (rateOf (s.capU.getD 0) : Int),
       (loadedTones (s.line.downInForce.getD []) : Int)]
  else s

/-- The switch symbol of a reshape (R78). The shrink and the growth, with their notices and records, stand ahead of the
LINE_STATE notice, and the RATE_CHANGE and the LOW_RATE_IN_SERVICE record behind it (DESIGN CHOICE, log entry 70). -/
def Part.reshapeSwitch (s : Part) : Part :=
  let s1 : Part :=
    { s with
      line := { s.line with
        state := .carrying, downInForce := s.line.downOffered, upInForce := s.line.upOffered
        downOffered := none, upOffered := none, segs := none, upValid := false, switch := none, reshape := none
        abandoned := 0
        session := s.line.session.map fun x => { x with reshapes := satAdd 255 x.reshapes 1 } }
      band := { s.band with mapInForce := s.band.offeredMap, offeredMap := none }
      load := { s.load with
        profileInForce := s.load.offeredProfile.getD s.load.profileInForce, offeredProfile := none }
      monitor := { s.monitor with lowRun := 0, highRun := 0, moveFailures := 0 } }
  let s2 := (s1.capacityRule.postLine .reshape none []).postRates
  s2.recordLowRate.startPending

/-- RESHAPE_SWITCH (R78). -/
def execReshapeSwitch (s : State) : Host.Outcome State Fault Refusal :=
  s.act fun p =>
    if p.line.state = .reshape ∧ p.line.confirmed = true then p.reshapeSwitch.settle else p

/-! ### The voice arrangement -/

/-- The earliest channel switch symbol (R138). The shrink and the growth apply also in last-report mode (DESIGN CHOICE,
log entry 71). Where it is also the switch symbol of a reshape or of a move, they run once for each of the commands, in the
order of the queue, so that a step can be taken twice at one symbol (DESIGN CHOICE, log entry 82). -/
def Part.channelSwitch (s : Part) : Part :=
  let d := dueSwitches s.sched.switches
  let s1 := d.1.foldl (fun p w => w.apply p) { s with sched := { s.sched with switches := d.2 } }
  s1.capacityRuleQuiet

/-- CHANNEL_SWITCH (R138). -/
def execChannelSwitch (s : State) : Host.Outcome State Fault Refusal :=
  s.act fun p => if p.inService && !p.sched.switches.isEmpty then p.channelSwitch.refreshHeard else p

/-- A HELD port is released locally (R141). -/
def Part.holdExpires (p : PortId) (s : Part) : Part :=
  let s1 := ((s.sayOnHook p).endChannel p).park p
  if p = .a then s1.parkJoined else s1

/-- HOLD_TIMEOUT (R141). -/
def execHoldTimeout (p : PortId) (s : State) : Host.Outcome State Fault Refusal :=
  s.act fun q =>
    if (q.port p).state = .held ∧ (q.hold p).isSome then (q.holdExpires p).refreshHeard else q

end Sys2Proof.Machine
end

