-- ==== Sys2Proof/Machine/SupplyEvents.lean ====
section
/-! DEFINITION. The supply supervisor's events (R177 to R186): the sensed inputs, the entries to the five states, POWER_ON
and the collapse of the core supply; and the last report (R161, R162). -/

namespace Sys2Proof.Machine

/-! ### Inputs -/

/-- MAINS_SENSE_CHANGE (R177). -/
def execMainsSenseChange (present : Bool) (s : State) : Host.Outcome State Fault Refusal :=
  s.act fun p => Part.retime { p with supply := { p.supply with mains := present } }

/-- BATTERY_THRESHOLD_CROSSING (R176, R177): the measured voltage, held in 0 to 2000. -/
def execBatteryThresholdCrossing (level : Nat) (s : State) : Host.Outcome State Fault Refusal :=
  s.act fun p => Part.retime { p with supply := { p.supply with battery := min 2000 level } }

/-! ### Entries -/

/-- The supply state changes. -/
def Part.toSupply (st : SupplyState) (s : Part) : Part := { s with supply := { s.supply with state := st } }

/-- Entry to BATTERY from MAINS (R180). -/
def Part.enterBattery (old : Option SupplyState) (s : Part) : Part :=
  let s1 := s.toSupply .battery
  let s2 : Part := { s1 with supply := { s1.supply with mainsLostAt := some s1.time } }
  let s3 := (s2.setBudget 4 8).trimRings
  let s4 := s3.makeRecord .onBattery .supply [(s3.supply.battery : Int)]
  ((s4.raise .supply).postSupply old).retime

/-- ENTER_BATTERY (R180). -/
def execEnterBattery (s : State) : Host.Outcome State Fault Refusal :=
  s.act fun p =>
    if p.supply.state = .mains ∧ p.supply.tAbsence.isSome then (p.enterBattery (some .mains)).settle else p

/-- Entry to BATTERY from BATTERY_LOW (R180). -/
def Part.recoverBattery (s : Part) : Part :=
  let s1 := (s.toSupply .battery).setOverlay false
  let s2 := (s1.setHolds false s1.link.silenceHold).endShedding
  (((s2.setBudget 4 8).raise .supply).postSupply (some .batteryLow)).retime

/-- BATTERY_RECOVERED (R180). -/
def execBatteryRecovered (s : State) : Host.Outcome State Fault Refusal :=
  s.act fun p =>
    if p.supply.state = .batteryLow ∧ p.supply.tReturn.isSome then p.recoverBattery.settle else p

/-- Entry to BATTERY_LOW (R181). -/
def Part.enterBatteryLow (old : Option SupplyState) (s : Part) : Part :=
  let s1 := ((s.toSupply .batteryLow).setOverlay true).shedAtLow
  let s2 := (s1.setBudget 2 16).trimRings
  let s3 := s2.setHolds true s2.link.silenceHold
  let s4 := s3.makeRecord .batteryLow .supply [(s3.supply.battery : Int), (s3.supply.low : Int)]
  ((s4.raise .supply).postSupply old).retime

/-- ENTER_BATTERY_LOW (R181). -/
def execEnterBatteryLow (s : State) : Host.Outcome State Fault Refusal :=
  s.act fun p =>
    if p.supply.state = .battery ∧ p.supply.tLow.isSome then (p.enterBatteryLow (some .battery)).settle else p

/-- Entry to MAINS from BATTERY or BATTERY_LOW (R184). -/
def Part.enterMains (s : Part) : Part :=
  let old := s.supply.state
  let s0 := s.toSupply .mains
  let s1 :=
    if old = .batteryLow then ((s0.setOverlay false).setHolds false s0.link.silenceHold).endShedding else s0
  let s2 := s1.setBudget 10 0
  let s3 := s2.makeRecord .mainsRestored .supply [(s2.sinceLost : Int), (s2.supply.battery : Int)]
  let s4 : Part := { s3 with supply := { s3.supply with mainsLostAt := none } }
  ((s4.raise .supply).postSupply (some old)).retime

/-- ENTER_MAINS (R184). In CUTOFF the expiry changes nothing but stands for the entry to SHUTDOWN (R185). -/
def execEnterMains (s : State) : Host.Outcome State Fault Refusal :=
  s.act fun p =>
    if p.supply.tPresence.isSome then
      match p.supply.state with
      | .battery | .batteryLow => p.enterMains.settle
      | .cutoff => { p with supply := { p.supply with tPresence := some 2000 } }
      | .mains | .shutdown => p
    else p

/-! ### The last report -/

/-- Its FAULT_REPORT waits whole in the outbound queue. -/
def Service.holdsReport (v : Service) (q : Seq) : Bool :=
  v.outQ.any fun m => match m with
    | .faultReport r => r.seq == q
    | _ => false

/-- Another record in flight is settled before the last report (R162). -/
def Part.settleOther (s : Part) : Part :=
  match s.log.inFlight with
  | some q => { s with log := if s.svc.holdsReport q then s.log.retract q else s.log.settle }
  | none => s

/-- The details of a SUPPLY_CUTOFF record (R148, R185). -/
def Part.cutoffDetails (s : Part) : List Int :=
  [(s.supply.battery : Int), (s.supply.cutoff : Int), (s.sinceLost : Int)]

/-- The SUPPLY_CUTOFF record becomes the record in flight and its report is handed to the scheduler (R135, R161). -/
def Part.startLastReport (s : Part) : Part :=
  let r := s.newRecord .supplyCutoff .supply s.line.state s.cutoffDetails
  let s2 := (s.storeRecord r).settleOther
  { s2 with
    log := { s2.log.modify r.seq FaultRecord.offered with
      inFlight := some r.seq, ackTimer := none, lastSeq := some r.seq, lastPlaced := false }
    sched := { s2.sched with lastReport := some (Msg.faultReport r.offered).bytes } }

/-- Entry to CUTOFF (R185, R161). The cutback stays as it is: that of the state it was entered from, and 0 where CUTOFF is
resampled at POWER_ON and was entered from none (DESIGN CHOICE, log entry 59). -/
def Part.enterCutoff (old : Option SupplyState) (s : Part) : Part :=
  let s0 := s.toSupply .cutoff
  let s1 := (s0.setBudget 0 s0.supply.cutback).stopRings
  let s2 := ((s1.setHolds true s1.link.silenceHold).setOverlay false).postSupply old
  let s3 := if s2.line.state = .reshape then s2.abandon .supply 0 else s2
  let s4 := (s3.abortTest .supply).retime
  if s4.inService then s4.startLastReport
  else (s4.storeRecord (s4.newRecord .supplyCutoff .supply s4.line.state s4.cutoffDetails)).enterShutdown

/-- ENTER_CUTOFF (R185). -/
def execEnterCutoff (s : State) : Host.Outcome State Fault Refusal :=
  s.act fun p =>
    if (p.supply.state = .battery ∨ p.supply.state = .batteryLow) ∧ p.supply.tCutoff.isSome then
      (p.enterCutoff (some p.supply.state)).settle
    else p

/-- LAST_REPORT_DONE (R135, R161, R185): the symbol that carries the report's last byte ends, the mode ends, and the
supervisor goes on to SHUTDOWN. A mode that ends unsent ends with the event that takes the line out of service. -/
def execLastReportDone (s : State) : Host.Outcome State Fault Refusal :=
  s.act fun p =>
    if p.sched.lastReport = some [] then
      (Part.enterShutdown
        { p with
          sched := { p.sched with lastReport := none }
          log := { p.log with lastPlaced := true } }).settle
    else p

/-! ### POWER_ON and collapse -/

/-- The part after POWER_ON (R178): power-on values, and the entry to the state resampled from the inputs. -/
def Part.powerOn (mains : Bool) (battery : Nat) : Part :=
  let s := Part.initial mains (min 2000 battery)
  if mains then s.retime
  else if s.supply.low ≤ s.supply.battery then s.enterBattery none
  else
    let t : Part := { s with supply := { s.supply with mainsLostAt := some 0 } }
    if s.supply.cutoff ≤ s.supply.battery then t.enterBatteryLow none else t.enterCutoff none

/-- POWER_ON (R178, R186): taken whether the part runs or not. The commands that wait stay waiting. -/
def execPowerOn (mains : Bool) (battery : Nat) (s : State) : Host.Outcome State Fault Refusal :=
  .next { s with part := Part.powerOn mains battery }

/-- SHUTDOWN_RECOVERY (R177, R186). -/
def execShutdownRecovery (s : State) : Host.Outcome State Fault Refusal :=
  s.act fun p =>
    if p.supply.state = .shutdown ∧ (p.supply.tPresence.isSome ∨ p.supply.tRecovery.isSome) then
      Part.powerOn p.supply.mains p.supply.battery
    else p

/-- CORE_SUPPLY_COLLAPSE (R186): the part stops, the relay falls through and the ports lose loop current. -/
def execCoreSupplyCollapse (s : State) : Host.Outcome State Fault Refusal :=
  s.act fun p =>
    { p with
      running := false
      supply := { p.supply with relay := false }
      portA := { p.portA with state := .through }
      line := { p.line with transmitter := .off } }

end Sys2Proof.Machine
end

