-- ==== Sys2Proof/Machine/LinkEvents.lean ====
section
/-! DEFINITION. The message link's own events (R192, R202, R203, R208), the report acknowledgements (R153, R154) and the
time counter (R147). -/

namespace Sys2Proof.Machine

/-- FRAME_NOT_TAKEN (R202): a frame that is not complete is counted and restarts nothing; a complete frame with tag 0 is
counted, one held off is not, and both restart the silence timer. A frame held off is one that was met with the hold-off
marker 02h (log entry 3). -/
def execFrameNotTaken (why : NotTaken) (s : State) : Host.Outcome State Fault Refusal :=
  s.act fun p =>
    match why with
    | .incomplete | .overlong => (p.gaveOut p.linkStatus).framingError
    | .tagZero => p.frameSeen.framingError
    | .heldOff => p.frameSeen.gaveOut 0x02

/-- UNKNOWN_KIND_COMMAND (R194, R202). -/
def execUnknownKindCommand (e : Envelope) (kind : Byte) (s : State) : Host.Outcome State Fault Refusal :=
  s.act fun p => p.takeUnknown e kind

/-- The frame a read transaction returns (R203). -/
def Link.nextFrame (l : Link) : OutFrame :=
  match l.replies, l.notices with
  | r :: _, _ => .reply r
  | [], n :: _ => .notice n
  | [], [] => .empty

/-- The link once the host has clocked out the last byte of the frame (R203). -/
def Link.release (l : Link) : Link :=
  match l.replies, l.notices with
  | _ :: rs, _ => { l with replies := rs }
  | [], _ :: ns => { l with notices := ns }
  | [], [] => l

/-- READ_TRANSACTION (R203): `whole` says that the host clocked out the last byte. -/
def execReadTransaction (whole : Bool) (s : State) : Host.Outcome State Fault Refusal :=
  s.act fun p =>
    let l := if whole then p.link.release else p.link
    { p with link := { l with out := some p.link.nextFrame } }

/-- The silence timer expires (R192). -/
def Part.hostSilence (s : Part) : Part :=
  if s.link.hostSilent then
    { s with
      link := { s.link with
        silenceCount := satAdd 65535 s.link.silenceCount 1, silenceTimer := silenceStart s.link.silenceSetting } }
  else
    let s1 : Part := { s with link := { s.link with hostSilent := true, silenceCount := 1 } }
    let s2 := s1.makeRecord .hostSilent .link [(s1.link.silenceSetting : Int)]
    let s3 := s2.setHolds s2.supply.hold true
    { s3 with link := { s3.link with silenceTimer := silenceStart s3.link.silenceSetting } }

/-- HOST_SILENCE_TIMEOUT (R192). -/
def execHostSilenceTimeout (s : State) : Host.Outcome State Fault Refusal :=
  s.act fun p => if p.link.silenceTimer.isSome then p.hostSilence else p

/-- How many records stand in a delivery state (R160). -/
def Log.countOf (l : Log) (d : Delivery) : Nat := (l.records.filter fun r => r.delivery == d).length

/-- The figures of a STATS notice (R208). -/
def Part.stats (s : Part) : Stats where
  monitor := if s.inService then some s.monitor else none
  sched := s.schedFigures
  concealedA := s.voice.concealedA
  concealedB := s.voice.concealedB
  localOnly := s.log.countOf .localOnly
  toSend := s.log.countOf .toSend
  sent := s.log.countOf .sent
  delivered := s.log.countOf .delivered
  undelivered := s.log.countOf .undelivered
  lost := s.log.lost
  supply := s.supply.state
  battery := s.supply.battery
  dataOpen := s.dataOpen
  supplyHold := s.supply.hold
  silenceHold := s.link.silenceHold
  locViol := s.access.locViol
  opViol := s.access.opViol
  noticesLost := s.link.noticesLostCount
  framingErrors := s.link.framingErrors

/-- STATS_PERIOD_EXPIRY (R208). -/
def execStatsPeriodExpiry (s : State) : Host.Outcome State Fault Refusal :=
  s.act fun p =>
    if p.link.statsTimer.isSome then
      let p' := p.post (.stats p.stats)
      { p' with link := { p'.link with statsTimer := some (p'.link.statsPeriod * 1000) } }
    else p

/-- The waiting FAULT_REPORT of a record leaves the outbound queue uncounted (R153). -/
def Service.withdrawReport (v : Service) (q : Seq) : Service :=
  { v with
    outQ := v.outQ.filter fun m => match m with
      | .faultReport r => r.seq != q
      | _ => true }

/-- A REPORT_ACK that matches the record in flight (R153). -/
def Part.reportAck (q : Seq) (s : Part) : Part :=
  Part.tryOffer
    { s with
      svc := s.svc.withdrawReport q
      log := { s.log.modify q (fun r => { r with delivery := .delivered }) with inFlight := none, ackTimer := none } }

/-- REPORT_ACK (R153). -/
def execReportAck (seq : Seq) (s : State) : Host.Outcome State Fault Refusal :=
  s.act fun p => if p.inService && p.log.inFlight == some seq then p.reportAck seq else p

/-- REPORT_ACK_TIMEOUT (R154). -/
def execReportAckTimeout (s : State) : Host.Outcome State Fault Refusal :=
  s.act fun p => if p.log.ackTimer.isSome then Part.tryOffer { p with log := p.log.settle } else p

/-- TIME_COUNTER_SECOND (R147): the 32-bit counter, which saturates (00_scope.md, Counters). -/
def execTimeCounterSecond (s : State) : Host.Outcome State Fault Refusal :=
  s.act fun p => { p with time := satAdd 0xFFFFFFFF p.time 1 }

end Sys2Proof.Machine
end

