-- ==== Sys2Proof/Machine/Voice.lean ====
section
/-! DEFINITION. The sample times of the voice path (R118, R124 to R126, R128, R129). -/

namespace Sys2Proof.Machine

/-- The converter runs (R118). -/
def PortState.converts : PortState → Bool
  | .disabled | .shed | .through => false
  | _ => true

/-- One phase of a tone: its length in sample times, and its frequency and peak, or none where it is silent (R128). -/
structure TonePhase where
  length : Nat
  sound  : Option (Nat × Nat)
  deriving DecidableEq, Repr

/-- The phases of a kind, in sample times of 125 µs (R128, R129); a continuous tone is one phase without end. -/
def tonePhases (k : ToneKind) (peak : Nat) : List TonePhase :=
  match k with
  | .dial => [⟨0, some (400, 1000)⟩]
  | .busy => [⟨4000, some (400, 1000)⟩, ⟨4000, none⟩]
  | .ringback => [⟨3200, some (400, 700)⟩, ⟨1600, none⟩, ⟨3200, some (400, 700)⟩, ⟨16000, none⟩]
  | .congestion => [⟨2000, some (400, 1000)⟩, ⟨2000, none⟩]
  | .noService => [⟨2400, some (600, 1000)⟩, ⟨2400, some (900, 1000)⟩, ⟨11200, none⟩]
  | .howler => [⟨0, some (2000, peak)⟩]
  | .silent => []

/-- The phase at a position in the cadence, with the position in that phase. -/
def phaseAt : Nat → List TonePhase → Option (Nat × Option (Nat × Nat))
  | _, [] => none
  | pos, x :: xs => if pos < x.length then some (pos, x.sound) else phaseAt (pos - x.length) xs

/-- A sample of a sounding phase, held within its peak (R128; its phase is free, log entry 4). -/
def soundSample (freq peak pos : Nat) : Int := clamp (-(peak : Int)) peak (Config.toneSample freq peak pos)

/-- The sample a generator plays (R128). -/
def Generator.sample (g : Generator) : Int :=
  let ps := tonePhases g.kind g.peak
  let cycle := sumNat (ps.map (·.length))
  if cycle = 0 then
    match ps with
    | x :: _ => (x.sound.map fun y => soundSample y.1 y.2 g.pos).getD 0
    | [] => 0
  else
    match phaseAt (g.pos % cycle) ps with
    | some (k, some y) => soundSample y.1 y.2 k
    | _ => 0

/-- The generator one sample time on. -/
def Generator.tick (g : Generator) : Generator := if g.kind = .silent then g else { g with pos := g.pos + 1 }

/-- What a port's converter plays at a sample time (R97, R125, R126, R128). `line` is the line's sample, `mate` the other
port's sample of the same time, `mateBefore` that of the time before. -/
def Part.playedTo (s : Part) (p : PortId) (line mate mateBefore : Int) : Int :=
  let r := s.port p
  if !r.state.converts then 0
  else
    match r.heard with
    | .silence => 0
    | .tone _ => (s.gen p).sample
    | .line => if s.voice.joinLink then saturate (line + mate) else line
    | .otherPort => if r.state = .intercom then mateBefore else mate

/-- One sample time (R118): `x` and `y` come from the telephones of ports A and B. A sample for port A's channel is the mix
of R124 where the channel is active as the sample is completed, and port A's alone where it is not: the first symbol after
port A's return from HELD with port B JOINED so carries the two samples of port A alone that were completed while it was
HELD (DESIGN CHOICE, log entry 81). -/
def Part.sampleTime (x y : Int) (s : Part) : Part :=
  let v := s.voice
  let sa := if s.portA.state.converts then saturate x else 0
  let sb := if s.portB.state.converts then saturate y else 0
  let activeA := match v.chanA with
    | some c => c.active
    | none => false
  let lineA := v.lineA.headD 0
  let lineB := if v.joinLink then lineA else v.lineB.headD 0
  { s with
    voice := { v with
      playA := s.playedTo .a lineA sb v.micB.2
      playB := s.playedTo .b lineB sa v.micA.2
      micA := (v.micA.2, sa)
      micB := (v.micB.2, sb)
      upA := (v.upA.2, if v.joinLink && activeA then saturate (sa + sb) else sa)
      upB := (v.upB.2, sb)
      lineA := v.lineA.tail
      lineB := v.lineB.tail
      genA := if s.portA.state.converts then v.genA.tick else v.genA
      genB := if s.portB.state.converts then v.genB.tick else v.genB } }

/-- SAMPLE_TIME (R118). -/
def execSampleTime (a b : Int) (s : State) : Host.Outcome State Fault Refusal := s.act fun p => p.sampleTime a b

end Sys2Proof.Machine
end

