-- ==== Sys2Proof/Machine/Dispatch.lean ====
section
/-! DEFINITION. One arm per command: each calls the meaning of its row of the table. -/

namespace Sys2Proof.Machine

def exec (i : Instr) (s : State) : Host.Outcome State Fault Refusal :=
  match i with
  | .powerOn mainsPresent battery => Sys2Proof.Machine.execPowerOn mainsPresent battery s
  | .coreSupplyCollapse => Sys2Proof.Machine.execCoreSupplyCollapse s
  | .frameNotTaken why => Sys2Proof.Machine.execFrameNotTaken why s
  | .unknownKindCommand e kind => Sys2Proof.Machine.execUnknownKindCommand e kind s
  | .readTransaction whole => Sys2Proof.Machine.execReadTransaction whole s
  | .lineStart e => Sys2Proof.Machine.execLineStart e s
  | .lineStop e => Sys2Proof.Machine.execLineStop e s
  | .setProfile e f => Sys2Proof.Machine.execSetProfile e f s
  | .getProfile e => Sys2Proof.Machine.execGetProfile e s
  | .setBandWindow e w => Sys2Proof.Machine.execSetBandWindow e w s
  | .getBandMap e => Sys2Proof.Machine.execGetBandMap e s
  | .setStrictPlan e v => Sys2Proof.Machine.execSetStrictPlan e v s
  | .requestReshape e => Sys2Proof.Machine.execRequestReshape e s
  | .getLineStatus e => Sys2Proof.Machine.execGetLineStatus e s
  | .getSnapshot e => Sys2Proof.Machine.execGetSnapshot e s
  | .portEnable e p => Sys2Proof.Machine.execPortEnable e p s
  | .portDisable e p => Sys2Proof.Machine.execPortDisable e p s
  | .ringLocal e p => Sys2Proof.Machine.execRingLocal e p s
  | .intercom e src dst => Sys2Proof.Machine.execIntercom e src dst s
  | .join e => Sys2Proof.Machine.execJoin e s
  | .part e => Sys2Proof.Machine.execPart e s
  | .getPortStatus e p => Sys2Proof.Machine.execGetPortStatus e p s
  | .runDiag e t p => Sys2Proof.Machine.execRunDiag e t p s
  | .abortDiag e => Sys2Proof.Machine.execAbortDiag e s
  | .getDiagResult e t p => Sys2Proof.Machine.execGetDiagResult e t p s
  | .clearLog e => Sys2Proof.Machine.execClearLog e s
  | .setReportThreshold e v => Sys2Proof.Machine.execSetReportThreshold e v s
  | .getSupply e => Sys2Proof.Machine.execGetSupply e s
  | .setSupplyLimits e low cutoff => Sys2Proof.Machine.execSetSupplyLimits e low cutoff s
  | .grant e c => Sys2Proof.Machine.execGrant e c s
  | .withhold e c => Sys2Proof.Machine.execWithhold e c s
  | .getAccess e => Sys2Proof.Machine.execGetAccess e s
  | .setSilenceTimer e v => Sys2Proof.Machine.execSetSilenceTimer e v s
  | .getFlags e => Sys2Proof.Machine.execGetFlags e s
  | .ackFlags e names => Sys2Proof.Machine.execAckFlags e names s
  | .setStatsPeriod e v => Sys2Proof.Machine.execSetStatsPeriod e v s
  | .readTable e t start count => Sys2Proof.Machine.execReadTable e t start count s
  | .resetFull e => Sys2Proof.Machine.execResetFull e s
  | .resetLine e => Sys2Proof.Machine.execResetLine e s
  | .operatorCommand tag form c => Sys2Proof.Machine.execOperatorCommand tag form c s
  | .serviceMessageError => Sys2Proof.Machine.execServiceMessageError s
  | .enterSounding => Sys2Proof.Machine.execEnterSounding s
  | .wakeToneEnd => Sys2Proof.Machine.execWakeToneEnd s
  | .callWindowExpiry => Sys2Proof.Machine.execCallWindowExpiry s
  | .answer => Sys2Proof.Machine.execAnswer s
  | .measurementEnd => Sys2Proof.Machine.execMeasurementEnd s
  | .upTable number segment entries => Sys2Proof.Machine.execUpTable number segment entries s
  | .tableReject number check tone => Sys2Proof.Machine.execTableReject number check tone s
  | .switchAck at_ => Sys2Proof.Machine.execSwitchAck at_ s
  | .switchSymbolWithoutAck => Sys2Proof.Machine.execSwitchSymbolWithoutAck s
  | .loadingTimeout => Sys2Proof.Machine.execLoadingTimeout s
  | .enterCarrying => Sys2Proof.Machine.execEnterCarrying s
  | .holdoffExpiry => Sys2Proof.Machine.execHoldoffExpiry s
  | .retryExpiry => Sys2Proof.Machine.execRetryExpiry s
  | .drop => Sys2Proof.Machine.execDrop s
  | .downstreamSymbol d => Sys2Proof.Machine.execDownstreamSymbol d s
  | .upstreamSymbolFill => Sys2Proof.Machine.execUpstreamSymbolFill s
  | .syncLoss => Sys2Proof.Machine.execSyncLoss s
  | .monitoringPeriodEnd => Sys2Proof.Machine.execMonitoringPeriodEnd s
  | .erasureWindowClose => Sys2Proof.Machine.execErasureWindowClose s
  | .moveAck number at_ => Sys2Proof.Machine.execMoveAck number at_ s
  | .moveRefuse number => Sys2Proof.Machine.execMoveRefuse number s
  | .moveAnswerTimeout => Sys2Proof.Machine.execMoveAnswerTimeout s
  | .moveSwitch => Sys2Proof.Machine.execMoveSwitch s
  | .move m => Sys2Proof.Machine.execMove m s
  | .upstreamMoveSwitch => Sys2Proof.Machine.execUpstreamMoveSwitch s
  | .reshapeOffer reasons => Sys2Proof.Machine.execReshapeOffer reasons s
  | .reshapeTimeout => Sys2Proof.Machine.execReshapeTimeout s
  | .reshapeSwitch => Sys2Proof.Machine.execReshapeSwitch s
  | .channelSwitch => Sys2Proof.Machine.execChannelSwitch s
  | .holdTimeout p => Sys2Proof.Machine.execHoldTimeout p s
  | .offHook p => Sys2Proof.Machine.execOffHook p s
  | .onHook p => Sys2Proof.Machine.execOnHook p s
  | .breakEnd p ms => Sys2Proof.Machine.execBreakEnd p ms s
  | .digitEnd p => Sys2Proof.Machine.execDigitEnd p s
  | .toneDigit p d => Sys2Proof.Machine.execToneDigit p d s
  | .dialTimeout p => Sys2Proof.Machine.execDialTimeout p s
  | .connect p => Sys2Proof.Machine.execConnect p s
  | .release p => Sys2Proof.Machine.execRelease p s
  | .tone p k => Sys2Proof.Machine.execTone p k s
  | .howlerTimeout p => Sys2Proof.Machine.execHowlerTimeout p s
  | .howlerStep p => Sys2Proof.Machine.execHowlerStep p s
  | .ring p cadence => Sys2Proof.Machine.execRing p cadence s
  | .ringStop p => Sys2Proof.Machine.execRingStop p s
  | .ringCadencePhase p => Sys2Proof.Machine.execRingCadencePhase p s
  | .localRingTimeout p => Sys2Proof.Machine.execLocalRingTimeout p s
  | .ringTrip p => Sys2Proof.Machine.execRingTrip p s
  | .ringOvercurrent p => Sys2Proof.Machine.execRingOvercurrent p s
  | .heatStep p => Sys2Proof.Machine.execHeatStep p s
  | .cooldownEnd p => Sys2Proof.Machine.execCooldownEnd p s
  | .reportAck seq => Sys2Proof.Machine.execReportAck seq s
  | .reportAckTimeout => Sys2Proof.Machine.execReportAckTimeout s
  | .lastReportDone => Sys2Proof.Machine.execLastReportDone s
  | .mainsSenseChange present => Sys2Proof.Machine.execMainsSenseChange present s
  | .batteryThresholdCrossing level => Sys2Proof.Machine.execBatteryThresholdCrossing level s
  | .enterBattery => Sys2Proof.Machine.execEnterBattery s
  | .batteryRecovered => Sys2Proof.Machine.execBatteryRecovered s
  | .enterBatteryLow => Sys2Proof.Machine.execEnterBatteryLow s
  | .enterMains => Sys2Proof.Machine.execEnterMains s
  | .enterCutoff => Sys2Proof.Machine.execEnterCutoff s
  | .shutdownRecovery => Sys2Proof.Machine.execShutdownRecovery s
  | .hostSilenceTimeout => Sys2Proof.Machine.execHostSilenceTimeout s
  | .statsPeriodExpiry => Sys2Proof.Machine.execStatsPeriodExpiry s
  | .loopTestDone attenuation => Sys2Proof.Machine.execLoopTestDone attenuation s
  | .noisePhaseEnd scan => Sys2Proof.Machine.execNoisePhaseEnd scan s
  | .noiseScanDone => Sys2Proof.Machine.execNoiseScanDone s
  | .scanImpulseEvent start => Sys2Proof.Machine.execScanImpulseEvent start s
  | .portTestDone ringLoad leakage => Sys2Proof.Machine.execPortTestDone ringLoad leakage s
  | .upstreamFrameArrival frame => Sys2Proof.Machine.execUpstreamFrameArrival frame s
  | .streamPortTakesFrame => Sys2Proof.Machine.execStreamPortTakesFrame s
  | .slowFramingSymbol byte snr => Sys2Proof.Machine.execSlowFramingSymbol byte snr s
  | .sampleTime a b => Sys2Proof.Machine.execSampleTime a b s
  | .timeCounterSecond => Sys2Proof.Machine.execTimeCounterSecond s

end Sys2Proof.Machine
end

