-- ==== Sys2Proof/Machine/Ticks.lean ====
section
/-! DEFINITION. What one idle millisecond does (DESIGN CHOICE, log entry 2): every running timer counts, and the heat
accumulators gather. No event happens at a tick: each expiry is a command of its own. -/

namespace Sys2Proof.Machine

/-- A timer that counts up to its length. -/
def tickUp (length : Nat) (t : Option Nat) : Option Nat := t.map fun n => min length (n + 1)

/-- A port's millisecond (R85, R109). -/
def Port.tick (r : Port) : Port :=
  { r with
    dialTimer := tickDown r.dialTimer
    cooldown := tickDown r.cooldown
    howler := tickDown r.howler
    ring := r.ring.map fun g => { g with phaseLeft := g.phaseLeft - 1, localLeft := tickDown g.localLeft }
    ringAcc := if r.driving then r.ringAcc + 1 else r.ringAcc
    coolAcc := if r.driving then r.coolAcc else r.coolAcc + 1 }

/-- The supervisor's millisecond (R177). -/
def Supply.tick (v : Supply) : Supply :=
  { v with
    tAbsence := tickUp 100 v.tAbsence
    tPresence := tickUp 2000 v.tPresence
    tLow := tickUp 5000 v.tLow
    tCutoff := tickUp 1000 v.tCutoff
    tReturn := tickUp 5000 v.tReturn
    tRecovery := tickUp 5000 v.tRecovery }

/-- The part's millisecond. -/
def Part.tick (s : Part) : Part :=
  { s with
    line := { s.line with
      holdoff := tickDown s.line.holdoff
      retry := tickDown s.line.retry
      wakeLeft := tickDown s.line.wakeLeft
      callWindow := tickDown s.line.callWindow }
    portA := s.portA.tick
    portB := s.portB.tick
    sched := { s.sched with holdA := tickDown s.sched.holdA, holdB := tickDown s.sched.holdB }
    log := { s.log with ackTimer := tickDown s.log.ackTimer }
    diag := { s.diag with running := s.diag.running.map fun t => { t with elapsed := t.elapsed + 1 } }
    supply := s.supply.tick
    link := { s.link with
      silenceTimer := tickDown s.link.silenceTimer, statsTimer := tickDown s.link.statsTimer } }

end Sys2Proof.Machine
end

