-- ==== Sys2Proof/Safety.lean ====
section
/-! DEFINITION. What holds of the block at every moment (the bounds of its queues and its log, the entries of the
permission table that never change, and what holds between its parts), and the words the statements are made of: a command
that completes, a catalogue command that is taken from either source, the row that carries it, how it is answered, a record
made, an entry to SOUNDING, a test aborted by an off-hook, and what the capacity rule does by its tables. -/

namespace Sys2Proof.Machine

/-- The bounds the manual gives: 8 replies and 16 notices (R204), 16 service messages (R21), 32 records (R147), 24
upstream and 4 downstream frames (R132). -/
def Part.bounded (s : Part) : Prop :=
  s.link.replies.length ≤ 8 ∧ s.link.notices.length ≤ 16 ∧ s.svc.outQ.length ≤ 16 ∧ s.log.records.length ≤ 32 ∧
    s.sched.upQueue.length ≤ 24 ∧ s.sched.downBuffer.length ≤ 4

/-- Every entry of the permission table but the three grants has its power-on value (R193). -/
def Perms.fixedEntries (p : Perms) : Prop :=
  ∃ a b c : Bool,
    p = { Perms.initial with
      lineProfile := ⟨true, a, true, true⟩, diag := ⟨true, b, true, true⟩, supplyConfig := ⟨true, c, true, true⟩ }

/-- What holds of the line at every moment: the tables and the map are in force exactly in service (R10, R40, R132); the
relay is requested through exactly in QUIET and FALLBACK (R19); LOADING and RESHAPE have a downstream table and a map on
offer (R40); a named switch and a valid upstream table have the upstream table on offer (R28, R29). -/
def Part.lineCoherent (s : Part) : Prop :=
  s.line.downInForce.isSome = s.inService ∧ s.line.upInForce.isSome = s.inService ∧
    s.band.mapInForce.isSome = s.inService ∧
    (s.line.request = .through ↔ s.line.state = .quiet ∨ s.line.state = .fallback) ∧
    (s.line.state = .loading ∨ s.line.state = .reshape →
      s.line.downOffered.isSome = true ∧ s.band.offeredMap.isSome = true) ∧
    (s.line.switch.isSome = true ∨ s.line.upValid = true → s.line.upOffered.isSome = true)

/-- What holds of one port's channel at every moment (R117, R138): it is there exactly in CONNECTED and HELD, and only in
service; slots in use, and a beginning that waits, are those of a channel that is there. -/
def Part.chanCoherent (s : Part) (x : PortId) : Prop :=
  ((s.chan x).isSome = true ↔ (s.port x).state = .connected ∨ (s.port x).state = .held) ∧
    ((s.chan x).isSome = true → s.inService = true) ∧ (s.slot x = .live → (s.chan x).isSome = true) ∧
    ∀ w ∈ s.sched.switches, w.port = x → w.what = .begin → (s.chan x).isSome = true

/-- What holds between the blocks at every moment in which the part runs: of the line and of both channels, that port A is
THROUGH exactly while the relay is through (R90), and that the line is QUIET in SHUTDOWN (R186). -/
def Part.coherent (s : Part) : Prop :=
  s.running = true →
    s.lineCoherent ∧ (∀ x, s.chanCoherent x) ∧ (s.portA.state = .through ↔ s.supply.relay = false) ∧
      (s.supply.state = .shutdown → s.line.state = .quiet)

/-- The command completes: it answers a next state with the part given and the queue as it was. -/
def Completes (i : Instr) (s : State) (p : Part) : Prop := exec i s = .next { s with part := p }

/-- A catalogue command in this envelope is taken from its source (R199, R202): the part runs, the tag is not 0, the
body fits, and there is room for the reply on the link, or service messages travel. -/
def State.takes (s : State) (e : Envelope) : Prop :=
  s.part.running = true ∧ e.tag ≠ 0 ∧ e.form = .fits ∧ (e.src = .loc → s.part.link.replies.length < 8) ∧
    (e.src = .operator → s.part.line.state.messagesTravel = true)

/-- The source of the envelope has the permission for the class, to write or to read (R193, R195). -/
def State.permits (s : State) (e : Envelope) (c : ObjClass) (write : Bool) : Prop :=
  s.part.access.perms.allows e.src c write = true

/-- The part as the command finds it: a frame of the host has been noticed (R191, R192); a message changes nothing. -/
def Part.heardFrom (s : Part) (e : Envelope) : Part :=
  match e.src with
  | .loc => s.frameSeen
  | .operator => s

/-- The part with the command's one answer: a reply on the link, or OPERATOR_REPLY parts (R199, R201, R202). -/
def Part.answeredTo (s : Part) (e : Envelope) (kind : Byte) (st : Status) (body : ReplyBody) : Part :=
  match e.src with
  | .loc => s.reply e.tag kind st body
  | .operator => s.operatorReply e.tag st body

/-- The catalogue row that carries a command in this envelope (12.5); none for a RESET of no known scope, which only a body
that does not fit can be. -/
def rowOf (e : Envelope) : Command → Option Instr
  | .lineStart => some (.lineStart e)
  | .lineStop => some (.lineStop e)
  | .setProfile f => some (.setProfile e f)
  | .getProfile => some (.getProfile e)
  | .setBandWindow w => some (.setBandWindow e w)
  | .getBandMap => some (.getBandMap e)
  | .setStrictPlan v => some (.setStrictPlan e v)
  | .requestReshape => some (.requestReshape e)
  | .getLineStatus => some (.getLineStatus e)
  | .getSnapshot => some (.getSnapshot e)
  | .portEnable p => some (.portEnable e p)
  | .portDisable p => some (.portDisable e p)
  | .ringLocal p => some (.ringLocal e p)
  | .intercom src dst => some (.intercom e src dst)
  | .join => some (.join e)
  | .part => some (.part e)
  | .getPortStatus p => some (.getPortStatus e p)
  | .runDiag t p => some (.runDiag e t p)
  | .abortDiag => some (.abortDiag e)
  | .getDiagResult t p => some (.getDiagResult e t p)
  | .clearLog => some (.clearLog e)
  | .setReportThreshold v => some (.setReportThreshold e v)
  | .getSupply => some (.getSupply e)
  | .setSupplyLimits low cutoff => some (.setSupplyLimits e low cutoff)
  | .grant c => some (.grant e c)
  | .withhold c => some (.withhold e c)
  | .getAccess => some (.getAccess e)
  | .setSilenceTimer v => some (.setSilenceTimer e v)
  | .getFlags => some (.getFlags e)
  | .ackFlags names => some (.ackFlags e names)
  | .setStatsPeriod v => some (.setStatsPeriod e v)
  | .readTable t start count => some (.readTable e t start count)
  | .reset (some .full) => some (.resetFull e)
  | .reset (some .line) => some (.resetLine e)
  | .reset none => none
  | .unknown k => some (.unknownKindCommand e k)

/-- Of the `n` records made since `before`, the one numbered `i` behind the next number is in the log of `after`, with the
fields R149 and the record's own rule give it, where the log had room for all of them. -/
def Part.recorded (before after : Part) (i n : Nat) (kind : FaultKind) (severity : Severity) (source : FaultSource)
    (line : LineState) (details : List Int) : Prop :=
  before.log.records.length + n ≤ 32 → ∃ r ∈ after.log.records, r.seq = before.log.next + BitVec.ofNat 16 i ∧
    r.time = before.time ∧ r.kind = kind ∧ r.severity = severity ∧ r.source = source ∧ r.lineState = line ∧
    r.details = details

/-- The fault source of a port (R148). -/
def sourceOf : PortId → FaultSource
  | .a => .portA
  | .b => .portB

/-- The line has entered SOUNDING with its first CALL (R24, R25). -/
def Part.soundingFrom (after before : Part) : Prop :=
  after.line.state = .sounding ∧ after.line.startPending = false ∧ after.line.request = .part ∧
    after.line.attempts = (if before.line.state = .dropped then before.line.attempts else 0) ∧
    after.line.callsSent = 1 ∧ after.line.rejections = 0 ∧ after.line.wakeLeft = some 100 ∧
    after.line.callWindow = some 2000 ∧ after.line.transmitter = .wake ∧ after.line.holdoff = none ∧
    after.line.retry = none ∧ after.supply.relay = true ∧
    (before.link.notices.length < 12 →
      Notice.lineState .sounding before.line.state after.line.attempts none [] ∈ after.link.notices)

/-- Nothing waits to follow of itself: no start that R24 lets begin, the relay where R187 drives it, and both ports hearing
what R97 gives them. -/
def Part.settled (s : Part) : Prop :=
  s.mayStart = false ∧ s.relayTarget = s.supply.relay ∧ s.refreshHeard = s

/-- The running test has ended ABORTED by an off-hook, its measurements discarded (R165, R166). -/
def Part.abortedByOffHook (after before : Part) (t : RunningTest) : Prop :=
  let r : DiagResult := ⟨t.test, t.port, t.source, .aborted .offHook, t.start, t.elapsed⟩
  after.diag.running = none ∧ after.diag.slot t.test t.port = some r ∧ after.diag.attenuation = before.diag.attenuation ∧
    after.diag.noiseTable = before.diag.noiseTable ∧ after.portA.ringLoad = before.portA.ringLoad ∧
    after.portB.ringLoad = before.portB.ringLoad ∧
    (before.link.notices.length < 12 → Notice.diagDone r ∈ after.link.notices)

/-! ### The capacity rule, as its tables have it -/

/-- A port's place among the voice bytes: the mode and the active flag of its channel, or none (R138). -/
abbrev Place := Option (Mode × Bool)

/-- The voice bytes a place takes (R136). -/
def Place.bytes : Place → Nat
  | some (.full, true) => 2
  | some (.half, true) => 1
  | _ => 0

/-- The places of ports A and B after the shrink of R139 at the capacity `c`: B to HALF, A to HALF, B to HELD, A to HELD,
each where it applies and while V is above C - 1. -/
def shrunkPlaces (c : Nat) (a b : Place) : Place × Place :=
  let tooMany (a b : Place) : Bool := decide (c < Place.bytes a + Place.bytes b + 1)
  let b1 : Place := if tooMany a b ∧ b = some (.full, true) then some (.half, true) else b
  let a1 : Place := if tooMany a b1 ∧ a = some (.full, true) then some (.half, true) else a
  let b2 : Place := if tooMany a1 b1 ∧ Place.bytes b1 ≠ 0 then some (.half, false) else b1
  let a2 : Place := if tooMany a1 b2 ∧ Place.bytes a1 ≠ 0 then some (.half, false) else a1
  (a2, b2)

/-- The places of ports A and B after the growth of R140 at the capacity `c`: A from HELD, B from HELD, A to FULL, B to
FULL, each where it applies and one byte more fits. -/
def grownPlaces (c : Nat) (a b : Place) : Place × Place :=
  let fits (a b : Place) : Bool := decide (Place.bytes a + Place.bytes b + 2 ≤ c)
  let held (x : Place) : Bool := x == some (.full, false) || x == some (.half, false)
  let a1 : Place := if held a ∧ fits a b then some (.half, true) else a
  let b1 : Place := if held b ∧ fits a1 b then some (.half, true) else b
  let a2 : Place := if a1 = some (.half, true) ∧ fits a1 b1 then some (.full, true) else a1
  let b2 : Place := if b1 = some (.half, true) ∧ fits a2 b1 then some (.full, true) else b1
  (a2, b2)

/-- What the capacity rule does at a switch symbol, `place` being the places that hold from it on, and `line` the line
state: the modes and active flags by R139 and R140; a port that goes to HELD has its hold timer at 30 s, its SIGNAL and its
record, port B's first, with U, P, V after the shrink and the mode before it; one that comes back is CONNECTED with its
timer stopped, and its SIGNAL; every other port keeps state and timer, and every channel its last samples and erased run. -/
def Part.capacityApplied (before after : Part) (line : LineState) (place : PortId → Place) : Prop :=
  let small := shrunkPlaces after.capC (place .a) (place .b)
  let big := grownPlaces after.capC small.1 small.2
  let old (x : PortId) : Place := match x with | .a => small.1 | .b => small.2
  let new (x : PortId) : Place := match x with | .a => big.1 | .b => big.2
  let toHeld (x : PortId) : Prop := Place.bytes (place x) ≠ 0 ∧ Place.bytes (old x) = 0 ∧ after.slot x = .live
  let toConnected (x : PortId) : Prop := Place.bytes (old x) = 0 ∧ Place.bytes (new x) ≠ 0 ∧ after.slot x = .live
  let number (x : PortId) : Nat := if x = .a ∧ toHeld .b then 1 else 0
  ∀ x : PortId, after.view x = new x ∧
    after.chan x = (if after.slot x = .live then (before.chan x).bind fun c =>
      (new x).map fun n => { c with mode := n.1, active := n.2 } else before.chan x) ∧
    (toHeld x → (after.port x).state = .held ∧ after.hold x = some 30000 ∧
      (before.svc.outQ.length < 14 → Msg.signal x .capacityHold ∈ after.svc.outQ) ∧
      before.recorded after (number x) 3 .capacityHold .minor (sourceOf x) line
        [((after.capU.getD 0 : Nat) : Int), ((after.capP.getD 0 : Nat) : Int), ((Place.bytes small.1 + Place.bytes small.2 : Nat) : Int),
         ((Place.bytes (place x) : Nat) : Int)]) ∧
    (toConnected x → (after.port x).state = .connected ∧ after.hold x = none ∧
      (before.svc.outQ.length < 14 → Msg.signal x .capacityResume ∈ after.svc.outQ)) ∧
    (¬ toHeld x → ¬ toConnected x → (after.port x).state = (before.port x).state ∧ after.hold x = before.hold x)

/-- The records of both telephones and of the voice path are the same. -/
def Part.sameTelephones (s t : Part) : Prop :=
  t.portA = s.portA ∧ t.portB = s.portB ∧ t.voice = s.voice

/-- Two parts agree on everything but the message link, the fault log and the outbound service queue: what a record
and its notice can touch. -/
def Part.sameButRecords (s t : Part) : Prop :=
  t.running = s.running ∧ t.time = s.time ∧ t.line = s.line ∧ t.snapshot = s.snapshot ∧ t.load = s.load ∧
    t.band = s.band ∧ t.monitor = s.monitor ∧ t.tracker = s.tracker ∧ s.sameTelephones t ∧ t.sched = s.sched ∧
    t.diag = s.diag ∧ t.supply = s.supply ∧ t.access = s.access

end Sys2Proof.Machine
end

