-- ==== Sys2Proof/Certificates/Slice0/Obligations.lean ====
section
/-! DEFINITION. The statements about the LT460 for the provers. Each says what a command of the table, or the block as a
whole, does by the manual's rules; a docstring names the log entry where a clause is the model's choice. -/

open Sys2Proof Sys2Proof.Machine

/-! ### The block as a whole -/

/-- A step runs the command at the front of the queue on the state with the queue's rest. -/
def Obligations.StepRunsFrontCommand : Prop :=
  ∀ (i : Instr) (rest : List Instr) (p : Part), step ⟨i :: rest, p⟩ = exec i ⟨rest, p⟩

/-- A step on an empty queue lets one millisecond pass (log entry 2): every running timer counts, down to 0 or up to its
length (R177), the heat accumulator of the port's phase gathers (R109), and nothing else of the part changes. No timer
expires. -/
def Obligations.IdleStepOnlyCountsTimers : Prop :=
  ∀ p : Part, p.running = true →
    let down (t : Option Nat) : Option Nat := t.map (· - 1)
    let up (length : Nat) (t : Option Nat) : Option Nat := t.map fun n => min length (n + 1)
    ∃ q : Part, step ⟨[], p⟩ = .next ⟨[], q⟩ ∧
      q.line = { p.line with
        holdoff := down p.line.holdoff, retry := down p.line.retry, wakeLeft := down p.line.wakeLeft
        callWindow := down p.line.callWindow } ∧
      (∀ x : PortId, q.port x = { p.port x with
        dialTimer := down (p.port x).dialTimer, cooldown := down (p.port x).cooldown
        howler := down (p.port x).howler
        ring := (p.port x).ring.map fun g => { g with phaseLeft := g.phaseLeft - 1, localLeft := down g.localLeft }
        ringAcc := (p.port x).ringAcc + (if (p.port x).driving then 1 else 0)
        coolAcc := (p.port x).coolAcc + (if (p.port x).driving then 0 else 1) }) ∧
      q.sched = { p.sched with holdA := down p.sched.holdA, holdB := down p.sched.holdB } ∧
      q.log = { p.log with ackTimer := down p.log.ackTimer } ∧
      q.diag = { p.diag with running := p.diag.running.map fun t => { t with elapsed := t.elapsed + 1 } } ∧
      q.supply = { p.supply with
        tAbsence := up 100 p.supply.tAbsence, tPresence := up 2000 p.supply.tPresence, tLow := up 5000 p.supply.tLow
        tCutoff := up 1000 p.supply.tCutoff, tReturn := up 5000 p.supply.tReturn
        tRecovery := up 5000 p.supply.tRecovery } ∧
      q.link = { p.link with silenceTimer := down p.link.silenceTimer, statsTimer := down p.link.statsTimer } ∧
      q = { p with
        line := q.line, portA := q.portA, portB := q.portB, sched := q.sched, log := q.log, diag := q.diag
        supply := q.supply, link := q.link }

/-- Every step keeps the bounds of the queues and of the fault log, every entry of the permission table but the three
grants, and, while the part runs, what holds between its blocks (`Part.coherent`): port A is THROUGH exactly while the
relay is through (R90), the tables and the map are in force exactly in service (R10, R40, R132), the relay is requested
through exactly in QUIET and FALLBACK (R19), and a port holds a channel record exactly in CONNECTED and HELD, and only
in service (R117). -/
def Obligations.EveryStepKeepsBoundsAndPermissions : Prop :=
  ∀ s t : State, s.part.bounded → s.part.access.perms.fixedEntries → s.part.coherent → step s = .next t →
    t.part.bounded ∧ t.part.access.perms.fixedEntries ∧ t.part.coherent

/-- The state after reset meets the bounds and what holds between the blocks, and holds the power-on permission table
(R193), every entry of it. -/
def Obligations.ResetMeetsBoundsAndPermissions : Prop :=
  State.reset.part.bounded ∧ State.reset.part.access.perms.fixedEntries ∧ State.reset.part.coherent ∧
    State.reset.part.access.perms =
      { lineProfile := ⟨true, true, true, true⟩, portConfig := ⟨true, true, true, false⟩
        faultLog := ⟨true, false, true, true⟩, diag := ⟨true, true, true, true⟩, stats := ⟨true, false, true, false⟩
        supplyConfig := ⟨true, true, true, true⟩, linkControl := ⟨true, true, false, false⟩ }

/-- POWER_ON with the mains present, from every state, the stopped one among them. That a silent tone generator stands at
position 0 with the peak 500 is the model's choice (log entry 9); the other values of that entry, the telephones' samples
and the sensed inputs among them, are left out. That no notice is posted where the resampled state is MAINS is log
entry 17. -/
def Obligations.PowerOnWithMainsLeavesResetValues : Prop :=
  ∀ (s : State) (b : Nat), ∃ q : Part, Completes (.powerOn true b) s q ∧
    q.running = true ∧ q.time = 0 ∧
    (q.line.state = .quiet ∧ q.line.attempts = 0 ∧ q.line.holdoff = none ∧ q.line.retry = none ∧
      q.line.startPending = false ∧ q.line.lastFailure = none ∧ q.line.session = none ∧ q.line.request = .through ∧
      q.line.nextTable = 0 ∧ q.line.nextMove = 0 ∧ q.line.downInForce = none ∧ q.line.upInForce = none ∧
      q.line.reasons = [] ∧ q.line.downOffered = none ∧ q.line.upOffered = none ∧ q.line.switch = none ∧
      q.line.move = none ∧ q.line.reshape = none ∧ q.snapshot = none) ∧
    (q.band.windows = resetPlan ∧ q.band.strict = false ∧ q.band.overlay = false ∧ q.band.conflictFlag = false ∧
      q.band.conflictCount = 0 ∧ q.band.mapInForce = none ∧ q.band.offeredMap = none) ∧
    (q.load.setProfile = ⟨38, 24, 4, 12, 256, true, 60⟩ ∧ q.load.profileInForce = ⟨38, 24, 4, 12, 256, true, 60⟩ ∧
      q.load.offeredProfile = none ∧ q.load.averages = List.replicate 448 none) ∧
    q.monitor = ⟨⟨0, 0, 0, 0⟩, none, none, none, 0, 0, 0, 0, 0⟩ ∧
    q.tracker = ⟨.idle, [], none, none, none, none, 0, 0⟩ ∧
    (q.portA.state = .through ∧ q.portB.state = .disabled ∧
      ∀ x : PortId, (q.port x).enable = false ∧ (q.port x).hook = .onHook ∧ (q.port x).heat = 0 ∧
        (q.port x).ringLoad = 3 ∧ (q.port x).trip = none ∧ q.chan x = none ∧ q.hold x = none) ∧
    (q.voice.joinLink = false ∧ q.voice.concealedA = 0 ∧ q.voice.concealedB = 0 ∧ ∀ x : PortId, q.gen x = ⟨.silent, 0, 500⟩) ∧
    (q.svc.outQ = [] ∧ q.svc.rxErrors = 0 ∧ q.svc.discards = 0 ∧ q.sched.upQueue = [] ∧ q.sched.downBuffer = [] ∧
      q.sched.lastReport = none ∧ q.sched.framesLost = 0 ∧ q.sched.framesRefused = 0 ∧ q.sched.framesDropped = 0 ∧
      q.sched.framingErrors = 0 ∧ q.sched.framesErased = 0 ∧ q.sched.burst = ⟨[], none⟩ ∧ q.sched.switches = [] ∧
      q.sched.assembly = .idle ∧ q.sched.arrival = .idle ∧ ∀ x : PortId, q.slot x = .empty) ∧
    (q.log.records = [] ∧ q.log.next = 1 ∧ q.log.threshold = .minor ∧ q.log.lost = 0 ∧ q.log.inFlight = none) ∧
    (q.diag.running = none ∧ q.diag.loop = none ∧ q.diag.noise = none ∧ q.diag.portA = none ∧ q.diag.portB = none ∧
      q.diag.attenuation = none ∧ q.diag.noiseTable = none) ∧
    (q.supply.state = .mains ∧ q.supply.low = 1120 ∧ q.supply.cutoff = 1050 ∧ q.supply.lowReturn = 1160 ∧
      q.supply.budget = 10 ∧ q.supply.cutback = 0 ∧ q.supply.relay = false ∧ q.supply.mainsLostAt = none ∧
      q.supply.hold = false ∧ q.supply.tAbsence = none ∧ q.supply.tPresence = none ∧ q.supply.tLow = none ∧
      q.supply.tCutoff = none ∧ q.supply.tReturn = none ∧ q.supply.tRecovery = none) ∧
    q.access = ⟨Perms.initial, ⟨false, 0, none⟩, ⟨false, 0, none⟩⟩ ∧
    (q.link.replies = [] ∧ q.link.notices = [] ∧ q.link.silenceSetting = 30 ∧ q.link.silenceTimer = some 30000 ∧
      q.link.statsPeriod = 0 ∧ q.link.statsTimer = none ∧ q.link.hostSilent = false ∧ q.link.silenceHold = false ∧
      q.link.noticesLost = false ∧ q.link.snapshotNew = false ∧ q.link.logLost = false ∧ q.link.noticesLostCount = 0 ∧
      q.link.framingErrors = 0 ∧ q.link.silenceCount = 0 ∧ q.link.lastFrameAt = 0)

/-- POWER_ON with the mains absent: the state follows the battery against 1120 and 1050, with no debounce, and a voltage
below the cutoff goes through CUTOFF to SHUTDOWN at once. -/
def Obligations.PowerOnOnBatteryResamplesTheSupply : Prop :=
  ∀ (s : State) (b : Nat), ∃ q : Part, Completes (.powerOn false b) s q ∧ q.line.state = .quiet ∧
    q.line.reasons = [] ∧ q.supply.mainsLostAt = some 0 ∧ q.supply.mains = false ∧ q.supply.relay = false ∧
    (1120 ≤ b →
      q.supply.state = .battery ∧ q.supply.budget = 4 ∧ q.supply.cutback = 8 ∧ q.band.overlay = false ∧
        q.portB.state = .disabled ∧ q.dataOpen = true ∧ q.log.records.map (·.kind) = [.onBattery]) ∧
    (1050 ≤ b → b < 1120 →
      q.supply.state = .batteryLow ∧ q.supply.budget = 2 ∧ q.supply.cutback = 16 ∧ q.band.overlay = true ∧
        q.portB.state = .shed ∧ q.dataOpen = false ∧ q.log.records.map (·.kind) = [.batteryLow]) ∧
    (b < 1050 →
      q.supply.state = .shutdown ∧ q.supply.budget = 0 ∧ q.band.overlay = false ∧ q.portB.state = .shed ∧
        q.dataOpen = false ∧ q.log.records.map (·.kind) = [.supplyCutoff])

/-- A collapse of the core supply stops the part with the relay through (R186); that the stopped part keeps everything
else, with port A in THROUGH and the transmitter off, and that every command but POWER_ON leaves it as it is, is the
model's (log entry 30). -/
def Obligations.CollapseStopsThePart : Prop :=
  (∀ s : State, s.part.running = true →
    let q : Part :=
      { s.part with
        running := false
        supply := { s.part.supply with relay := false }
        portA := { s.part.portA with state := .through }
        line := { s.part.line with transmitter := .off } }
    Completes .coreSupplyCollapse s q ∧ q.relayPos = .through ∧ q.driven = .silent) ∧
  ∀ (s : State) (i : Instr), s.part.running = false → (∀ m b, i ≠ .powerOn m b) → exec i s = .next s

/-! ### The message link -/

/-- FRAME_NOT_TAKEN (R202, R191) while the host is not silent: an incomplete or over-long frame is counted and restarts
no timer (log entry 13); a complete frame with tag 0 is counted and one held off is not, and both restart the timer. The
link status byte is 01h, or 02h where 8 replies are queued (one held off was met with 02h, log entry 3), and every later
byte of the transaction is 00h; that the model keeps the status byte after it is log entry 76. -/
def Obligations.FrameNotTakenCountsAndRestarts : Prop :=
  (∀ (s : State) (why : NotTaken), s.part.running = true → s.part.link.hostSilent = false →
    Completes (.frameNotTaken why) s
      { s.part with
        link := { s.part.link with
          framingErrors := if why = .heldOff then s.part.link.framingErrors
            else min 65535 (s.part.link.framingErrors + 1)
          silenceTimer := if why = .tagZero ∨ why = .heldOff then
              (if s.part.link.silenceSetting = 0 then none else some (s.part.link.silenceSetting * 1000))
            else s.part.link.silenceTimer
          lastFrameAt := if why = .tagZero ∨ why = .heldOff then s.part.time else s.part.link.lastFrameAt
          writeStatus := some (if why = .heldOff ∨ 8 ≤ s.part.link.replies.length then 0x02 else 0x01) } }) ∧
  (∀ p : Part, p.frameSeen.link.writeStatus = some p.linkStatus ∧
     p.linkStatus = if 8 ≤ p.link.replies.length then 0x02 else 0x01) ∧
  ∀ (b : Byte) (n : Nat), writeBytes b 0 = [] ∧ writeBytes b (n + 1) = b :: List.replicate n 0x00

/-- The first frame after a silence (R192): the flag, the count and the hold are cleared, HOST_BACK is made with its two
details, and the line, the ports, the voice path and the replies are untouched.
An expiry of the silence timer (R192): the first sets the flag, the count and the silence hold and makes HOST_SILENT;
a later one raises the count alone. Both restart the timer at its setting. -/
def Obligations.HostSilenceBeginsAndEnds : Prop :=
  (∀ (s : State), s.part.running = true → s.part.link.hostSilent = true →
     ∃ q : Part, Completes (.frameNotTaken .heldOff) s q ∧ q.link.hostSilent = false ∧ q.link.silenceCount = 0 ∧
       q.link.silenceHold = false ∧ q.link.lastFrameAt = s.part.time ∧ q.link.replies = s.part.link.replies ∧
       q.log.next = s.part.log.next + 1 ∧
       (s.part.link.notices.length < 16 → ∃ r k, Notice.fault r k ∈ q.link.notices ∧ r.seq = s.part.log.next ∧
         r.kind = .hostBack ∧ r.severity = .info ∧ r.source = .link ∧
         r.details = [((s.part.time - s.part.link.lastFrameAt : Nat) : Int), (s.part.link.silenceCount : Int)]) ∧
       q.supply = s.part.supply ∧ q.line = s.part.line ∧ s.part.sameTelephones q ∧ q.band = s.part.band ∧
       q.load = s.part.load ∧ q.access = s.part.access) ∧
  (∀ (s : State), s.part.running = true → s.part.link.silenceTimer.isSome = true →
     ∃ q : Part, Completes .hostSilenceTimeout s q ∧ q.link.hostSilent = true ∧
       q.link.silenceTimer =
         (if s.part.link.silenceSetting = 0 then none else some (s.part.link.silenceSetting * 1000)) ∧
       q.line = s.part.line ∧ s.part.sameTelephones q ∧ q.link.replies = s.part.link.replies ∧ q.band = s.part.band ∧
       (s.part.link.hostSilent = false →
         q.link.silenceCount = 1 ∧ q.link.silenceHold = true ∧ q.dataOpen = false ∧ q.log.next = s.part.log.next + 1 ∧
         (s.part.link.notices.length < 16 → ∃ r k, Notice.fault r k ∈ q.link.notices ∧ r.kind = .hostSilent ∧
           r.severity = .major ∧ r.source = .link ∧ r.details = [(s.part.link.silenceSetting : Int)])) ∧
       (s.part.link.hostSilent = true →
         q.link.silenceCount = min 65535 (s.part.link.silenceCount + 1) ∧ q.log = s.part.log ∧
         q.link.silenceHold = s.part.link.silenceHold ∧ q.link.notices = s.part.link.notices))

/-- A read transaction returns the oldest reply, else the oldest notice, else an empty frame; the frame leaves its queue
only where the host clocked out its last byte, and nothing else changes but the frame shown at the link's output. ATTN
is asserted exactly while a queue holds a frame. A frame begins with its kind, its tag and the length of its body
(R201): a reply with those of its command and its status byte, a notice with the code of its kind (R210; a change of the
band map is a LINE_STATE notice by R13) and tag 0, an empty frame with zeros alone. A FAULT notice ends with the 29
bytes of its record. -/
def Obligations.ReadTransactionReturnsOldestFrame : Prop :=
  (∀ (s : State) (whole : Bool) (r : Reply) (rs : List Reply), s.part.running = true → s.part.link.replies = r :: rs →
    Completes (.readTransaction whole) s
      { s.part with
        link := { s.part.link with replies := if whole then rs else r :: rs, out := some (.reply r) } }) ∧
  (∀ (s : State) (whole : Bool) (n : Notice) (ns : List Notice), s.part.running = true → s.part.link.replies = [] →
    s.part.link.notices = n :: ns →
    Completes (.readTransaction whole) s
      { s.part with
        link := { s.part.link with notices := if whole then ns else n :: ns, out := some (.notice n) } }) ∧
  (∀ (s : State) (whole : Bool), s.part.running = true → s.part.link.replies = [] → s.part.link.notices = [] →
    Completes (.readTransaction whole) s { s.part with link := { s.part.link with out := some .empty } }) ∧
  (∀ p : Part, p.attn = true ↔ p.link.replies ≠ [] ∨ p.link.notices ≠ []) ∧
  (∀ r : Reply, ∃ (fields : List Byte) (n : BitVec 16),
    (OutFrame.reply r).bytes =
      r.kind :: r.tag :: n.extractLsb' 8 8 :: n.extractLsb' 0 8 :: BitVec.ofNat 8 r.status.code :: fields ∧
    n = BitVec.ofNat 16 (fields.length + 1) ∧ (r.body = .none → fields = [])) ∧
  (∀ n : Notice, ∃ (k : Byte) (body : List Byte) (len : BitVec 16),
    (OutFrame.notice n).bytes = k :: 0 :: len.extractLsb' 8 8 :: len.extractLsb' 0 8 :: body ∧
    body.length ≤ 1020 ∧ len.toNat = body.length ∧
    k = (match n with
      | .lineState .. => 64 | .bandMap _ => 64 | .rateChange .. => 65 | .portEvent .. => 66 | .fault .. => 67
      | .diagDone _ => 68 | .supplyState .. => 69 | .fence .. => 70 | .ringLimited .. => 71 | .stats _ => 72)) ∧
  (∀ (r : FaultRecord) (kept : Bool), (OutFrame.notice (.fault r kept)).bytes.drop
    ((OutFrame.notice (.fault r kept)).bytes.length - 29) = r.bytes) ∧
  OutFrame.empty.bytes = [0, 0, 0, 0]

/-- A command of unknown kind, from either source, is answered UNKNOWN_KIND with its own kind code and has no effect but
its answer (R194, R202); a frame of the host restarts its timers all the same.
A command whose body does not fit is MALFORMED once it has passed the access table, whatever it is and from either source,
and a frame of the host with a body above 1020 bytes is MALFORMED without that judgement: OPERATOR's changes nothing but
its answer, and LOCAL's the same after its frame is noticed. That such a frame is MALFORMED also where its kind is unknown
is the model's order (log entry 74). -/
def Obligations.BadKindsAndBodiesAreAnsweredAlone : Prop :=
  (∀ (s : State) (e : Envelope) (k : Byte), s.takes e →
     Completes (.unknownKindCommand e k) s ((s.part.heardFrom e).answeredTo e k .unknownKind .none)) ∧
  ((∀ (s : State) (tag : Byte) (c : Command), s.part.running = true → s.part.line.state.messagesTravel = true →
     tag ≠ 0 → (∀ k, c ≠ .unknown k) → s.part.access.perms.refuses .operator (handlingOf .operator c).judge = none →
     Completes (.operatorCommand tag .illFitting c) s (s.part.operatorReply tag .malformed .none)) ∧
   (∀ (s : State) (tag : Byte) (c : Command) (i : Instr), s.part.running = true → tag ≠ 0 →
     s.part.link.replies.length < 8 → (∀ k, c ≠ .unknown k) → rowOf ⟨.loc, tag, .illFitting⟩ c = some i →
     s.part.access.perms.refuses .loc (handlingOf .loc c).judge = none →
     Completes i s (s.part.frameSeen.reply tag (kindOf c) .malformed .none)) ∧
   ∀ (s : State) (tag : Byte) (c : Command) (i : Instr), s.part.running = true → tag ≠ 0 →
     s.part.link.replies.length < 8 → rowOf ⟨.loc, tag, .overlong⟩ c = some i →
     Completes i s (s.part.frameSeen.reply tag (kindOf c) .malformed .none))

/-- A refused command (R195, R196): NOT_PERMITTED, the source's violation record, and an ACCESS_REFUSED record where its
flag was clear; nothing else of the part changes, whatever the command and its source.
Every row of the catalogue that is taken and refused, from either source and whether its body fits or not, answers so: the
part that has heard it, with the refusal's trace and the NOT_PERMITTED answer. That the messages of an operator's command
join the outbound queue ahead of its OPERATOR_REPLY is the model's order (log entry 63). -/
def Obligations.RefusedCommandLeavesOnlyItsTrace : Prop :=
  (∀ (p : Part) (src : Source) (c : ObjClass) (form : BodyForm) (h : Handling),
    p.access.perms.refuses src h.judge = some c →
    let q := p.refuse src c
    p.answer src form h = (q, .notPermitted, .none) ∧
      q.access.viol src = ⟨true, min 65535 ((p.access.viol src).count + 1), some c⟩ ∧
      (∀ x, x ≠ src → q.access.viol x = p.access.viol x) ∧ q.access.perms = p.access.perms ∧
      p.sameButRecords { q with access := p.access } ∧ q.link.replies = p.link.replies ∧
      ((p.access.viol src).flag = true → q = { p with access := q.access }) ∧
      ((p.access.viol src).flag = false → q.log.next = p.log.next + 1 ∧
        (p.link.notices.length < 16 → ∃ r k, Notice.fault r k ∈ q.link.notices ∧ r.kind = .accessRefused ∧
          r.severity = .minor ∧ r.source = .access ∧ r.details = [(sourceCode src : Int), (classCode c : Int)]))) ∧
  ∀ (s : State) (e : Envelope) (c : Command) (i : Instr), rowOf e c = some i →
    State.takes s { e with form := .fits } → (e.src = .loc → e.form ≠ .overlong) →
    ∀ k : ObjClass, s.part.access.perms.refuses e.src (handlingOf e.src c).judge = some k →
    Completes i s (((s.part.heardFrom e).refuse e.src k).answeredTo e (kindOf c) .notPermitted .none)

/-- Every catalogue row, those of unknown kind among them, that arrives from OPERATOR is the same record carried by
OPERATOR_COMMAND.
An OPERATOR_COMMAND that is taken: a permitted record acts as its owner says and is answered in OPERATOR_REPLY parts,
but for a record that itself takes the line out of the states in which messages travel, such as LINE_STOP, whose reply
is lost (log entry 18); with tag 0 it is MALFORMED, also where
its kind is unknown (the model's order, log entry 68); where no messages travel it has no effect at all (R199).
That the messages of an operator's command join the outbound queue ahead of its OPERATOR_REPLY is the model's order (log
entry 63). -/
def Obligations.OperatorCommandsAreTakenAndAnswered : Prop :=
  (∀ (s : State) (tag : Byte) (form : BodyForm) (c : Command) (i : Instr),
     rowOf ⟨.operator, tag, form⟩ c = some i → exec i s = exec (.operatorCommand tag form c) s) ∧
  ((∀ (s : State) (tag : Byte) (c : Command), s.part.running = true → s.part.line.state.messagesTravel = true →
     tag ≠ 0 → (∀ k, c ≠ .unknown k) → s.part.access.perms.refuses .operator (handlingOf .operator c).judge = none →
     let a := (handlingOf .operator c).own s.part
     Completes (.operatorCommand tag .fits c) s (a.1.operatorReply tag a.2.1 a.2.2)) ∧
   (∀ (s : State) (form : BodyForm) (c : Command), s.part.running = true → s.part.line.state.messagesTravel = true →
     Completes (.operatorCommand 0 form c) s (s.part.operatorReply 0 .malformed .none)) ∧
   (∀ (s : State) (tag : Byte) (form : BodyForm) (c : Command), s.part.line.state.messagesTravel = false →
     exec (.operatorCommand tag form c) s = .next s) ∧
   (∀ bs : List Byte, (replyParts bs).flatten = bs ∧ ∀ x ∈ replyParts bs, x.length ≤ 247) ∧
   (∀ (p : Part) (tag : Byte) (st : Status) (b : ReplyBody), p.line.state.messagesTravel = false →
     p.operatorReply tag st b = p) ∧
   ∀ (p : Part) (tag : Byte) (st : Status), p.line.state.messagesTravel = true → p.svc.outQ.length < 16 →
     p.operatorReply tag st .none =
       { p with svc := { p.svc with outQ := p.svc.outQ ++ [.operatorReply tag 0 true [BitVec.ofNat 8 st.code]] } })

/-- SET_SILENCE_TIMER (R191) and SET_STATS_PERIOD (R208): the setting held in its range, the timer restarted or stopped,
OK_CLAMPED where the value was changed.
The time counter counts a second (R147) and saturates (log entry 44); the statistics timer's expiry posts a STATS notice
of the moment's figures and restarts at the period (R208). At a full notice queue the flag NOTICES_LOST is set, its count
rises, and the notice takes the place of the oldest STATS notice, or is discarded where there is none (R204). -/
def Obligations.LinkTimersAndTheTimeCounterRun : Prop :=
  ((∀ (s : State) (e : Envelope) (v : Nat), s.takes e → s.permits e .linkControl true →
     let p := s.part.heardFrom e
     let x := if v = 0 then 0 else if v < 5 then 5 else if 600 < v then 600 else v
     Completes (.setSilenceTimer e v) s
       (Part.answeredTo
         { p with link := { p.link with silenceSetting := x, silenceTimer := if x = 0 then none else some (x * 1000) } }
         e 28 (if x = v then .ok else .okClamped) .none)) ∧
   ∀ (s : State) (e : Envelope) (v : Nat), s.takes e → s.permits e .linkControl true →
     let p := s.part.heardFrom e
     let x := if 3600 < v then 3600 else v
     Completes (.setStatsPeriod e v) s
       (Part.answeredTo
         { p with link := { p.link with statsPeriod := x, statsTimer := if x = 0 then none else some (x * 1000) } }
         e 31 (if x = v then .ok else .okClamped) .none)) ∧
  ((∀ s : State, s.part.running = true →
     Completes .timeCounterSecond s { s.part with time := min 4294967295 (s.part.time + 1) }) ∧
   (∀ s : State, s.part.running = true → s.part.link.statsTimer.isSome = true → s.part.link.notices.length < 16 →
     ∃ x : Stats, Completes .statsPeriodExpiry s
         { s.part with
           link := { s.part.link with
             notices := s.part.link.notices ++ [.stats x], statsTimer := some (s.part.link.statsPeriod * 1000) } } ∧
       x.monitor = (if s.part.inService then some s.part.monitor else none) ∧ x.supply = s.part.supply.state ∧
       x.battery = s.part.supply.battery ∧ x.lost = s.part.log.lost ∧ x.concealedA = s.part.voice.concealedA ∧
       x.locViol = s.part.access.locViol ∧ x.opViol = s.part.access.opViol ∧
       x.noticesLost = s.part.link.noticesLostCount ∧ x.framingErrors = s.part.link.framingErrors ∧
       x.delivered = (s.part.log.records.filter fun r => r.delivery == .delivered).length) ∧
   ∀ s : State, s.part.running = true → s.part.link.statsTimer.isSome = true → 16 ≤ s.part.link.notices.length →
     let after (ns : List Notice) : Part :=
       { s.part with
         link := { s.part.link with
           notices := ns, noticesLost := true, noticesLostCount := min 65535 (s.part.link.noticesLostCount + 1)
           statsTimer := some (s.part.link.statsPeriod * 1000) } }
     ((∀ y : Stats, Notice.stats y ∉ s.part.link.notices) →
       Completes .statsPeriodExpiry s (after s.part.link.notices)) ∧
     ∀ (before rest : List Notice) (y : Stats), s.part.link.notices = before ++ .stats y :: rest →
       (∀ z : Stats, Notice.stats z ∉ before) →
       ∃ x : Stats, Completes .statsPeriodExpiry s (after (before ++ rest ++ [.stats x])) ∧
         x.noticesLost = s.part.link.noticesLostCount ∧ x.battery = s.part.supply.battery)

/-- GET_FLAGS and ACK_FLAGS (R197, R205): the reply of each, and what an acknowledgement clears: LOCAL every flag but
ACCESS_OPERATOR and HOST_SILENT, OPERATOR its own violation flag alone. No count changes. The reply names exactly the
flags that were set and are cleared; in which order, and how often a repeated name, is left out here (log entry 73). -/
def Obligations.FlagsAreReadAndAcknowledged : Prop :=
  (∀ (s : State) (e : Envelope), s.takes e →
    let p := s.part.heardFrom e
    Completes (.getFlags e) s
      (p.answeredTo e 29 .ok (.flags p.flags p.link.noticesLostCount p.link.framingErrors p.link.replies.length
        p.link.notices.length))) ∧
  (∀ (s : State) (e : Envelope) (fs : List FlagName), s.takes e →
    ∃ (q : Part) (cleared : List FlagName),
      Completes (.ackFlags e (fs.map some)) s (q.answeredTo e 30 .ok (.flagsCleared cleared q.flags)) ∧
      let p := s.part.heardFrom e
      (∀ f, q.flags.get f = (p.flags.get f && !(fs.contains f && acknowledges e.src f))) ∧
      (∀ f, f ∈ cleared ↔ f ∈ fs ∧ acknowledges e.src f = true ∧ p.flags.get f = true) ∧
      (∀ f ∈ cleared, q.flags.get f = false) ∧
      q.band.conflictCount = p.band.conflictCount ∧ q.access.locViol.count = p.access.locViol.count ∧
      q.access.opViol.count = p.access.opViol.count ∧ q.link.noticesLostCount = p.link.noticesLostCount ∧
      q.log = p.log ∧ q.line = p.line ∧ q.supply = p.supply ∧ p.sameTelephones q ∧ q.svc = p.svc) ∧
  (∀ f, acknowledges .loc f = true ↔ f ≠ .accessOperator ∧ f ≠ .hostSilent) ∧
  ∀ f, acknowledges .operator f = true ↔ f = .accessOperator

/-- GRANT and WITHHOLD (R198): from OPERATOR the permission of a grantable class is set and told before and after; any
other class, or none, is MALFORMED. From LOCAL they are refused whatever the table holds. -/
def Obligations.GrantsAreTheOperators : Prop :=
  (∀ (s : State) (tag : Byte) (c : ObjClass), s.takes ⟨.operator, tag, .fits⟩ →
    (c = .lineProfile ∨ c = .diag ∨ c = .supplyConfig) →
    ∃ g w : Part,
      Completes (.grant ⟨.operator, tag, .fits⟩ (some c)) s
        (g.operatorReply tag .ok (.permission (s.part.access.perms.row c).locWrite true)) ∧
      Completes (.withhold ⟨.operator, tag, .fits⟩ (some c)) s
        (w.operatorReply tag .ok (.permission (s.part.access.perms.row c).locWrite false)) ∧
      g = { s.part with access := { s.part.access with perms := g.access.perms } } ∧
      w = { s.part with access := { s.part.access with perms := w.access.perms } } ∧
      (∀ (src : Source) (k : ObjClass) (wr : Bool), g.access.perms.allows src k wr =
        if src = .loc ∧ k = c ∧ wr = true then true else s.part.access.perms.allows src k wr) ∧
      ∀ (src : Source) (k : ObjClass) (wr : Bool), w.access.perms.allows src k wr =
        if src = .loc ∧ k = c ∧ wr = true then false else s.part.access.perms.allows src k wr) ∧
  (∀ (s : State) (tag : Byte) (c : Option ObjClass), s.takes ⟨.operator, tag, .fits⟩ →
    c ≠ some .lineProfile → c ≠ some .diag → c ≠ some .supplyConfig →
    Completes (.grant ⟨.operator, tag, .fits⟩ c) s (s.part.operatorReply tag .malformed .none) ∧
    Completes (.withhold ⟨.operator, tag, .fits⟩ c) s (s.part.operatorReply tag .malformed .none)) ∧
  ∀ (s : State) (tag : Byte) (c : Option ObjClass), s.takes ⟨.loc, tag, .fits⟩ →
    Completes (.grant ⟨.loc, tag, .fits⟩ c) s
      ((s.part.frameSeen.refuse .loc (c.getD .linkControl)).reply tag 25 .notPermitted .none) ∧
    Completes (.withhold ⟨.loc, tag, .fits⟩ c) s
      ((s.part.frameSeen.refuse .loc (c.getD .linkControl)).reply tag 26 .notPermitted .none)

/-- GET_PROFILE (R44), from either source and in every line state: the set profile, the profile in force, and the offered
profile while one exists; nothing changes but the answer. Without the read permission it is refused.
For a refusal, that the messages of an operator's command join the outbound queue ahead of its OPERATOR_REPLY is the
model's order (log entry 63). -/
def Obligations.GetProfileReadsTheThreeProfiles : Prop :=
  (∀ (s : State) (e : Envelope), s.takes e → s.permits e .lineProfile false →
    let p := s.part.heardFrom e
    Completes (.getProfile e) s
      (p.answeredTo e 4 .ok (.profiles p.load.setProfile p.load.profileInForce p.load.offeredProfile))) ∧
  ∀ (s : State) (e : Envelope), s.takes e → ¬ s.permits e .lineProfile false →
    Completes (.getProfile e) s
      (((s.part.heardFrom e).refuse e.src .lineProfile).answeredTo e 4 .notPermitted .none)

/-- The other queries change nothing but their answer, whose fields their rules give: GET_BAND_MAP (R12),
GET_LINE_STATUS (R37), GET_SUPPLY (R190), GET_ACCESS (R200), GET_PORT_STATUS (R115) and GET_DIAG_RESULT (R166).
GET_LINE_STATUS gives the holdoff and the retry left to within a second, as whole seconds (whether a begun second
counts is left free, log entry 10), the session's whole seconds and the scheduler's figures, U, P, C, V, the
allocations, the five counts and both queues (R142); GET_SUPPLY each running debounce timer with its elapsed time;
GET_PORT_STATUS the timers, the ring, the channel's mode, flag and erased run, the generator's kind with a howler's
peak, and the concealed symbols (R131); GET_DIAG_RESULT the elapsed time of that very test where it runs. That a
port field beside LOOP_TEST or NOISE_SCAN is not read is log entry 58. GET_SNAPSHOT (R36) returns the slot and sets
drops since read to 0; an empty slot stays empty, and SNAPSHOT_NEW is untouched. The runs of a resolution (R12)
spell it out: they begin at tone 0, ascend without gap or overlap, and adjacent runs differ in role or in cause. -/
def Obligations.QueriesAnswerAndChangeNothingElse : Prop :=
  (∀ (s : State) (e : Envelope), s.takes e →
     let p := s.part.heardFrom e
     (s.permits e .lineProfile false →
       Completes (.getBandMap e) s
         (p.answeredTo e 6 .ok (.bandMap p.band.windows p.band.strict p.band.overlay p.band.conflictFlag
           p.band.conflictCount (runsOf (perTone (resolve p.band.overlay p.band.windows)))
           (p.band.mapInForce.map runsOf)))) ∧
     let shown (ms seconds : Option Nat) : Prop :=
       (ms = none ↔ seconds = none) ∧
         ∀ a b, ms = some a → seconds = some b → 1000 * b < a + 1000 ∧ a < 1000 * b + 1000
     let u := p.line.upInForce.map payload
     let d := p.line.downInForce.map payload
     let voice (x : PortId) : Nat := Place.bytes (match p.slot x with
       | .live => (p.chan x).map fun c => (c.mode, c.active)
       | .ended m active => some (m, active)
       | .empty => none)
     let timer : DebounceName → Option Nat
       | .absence => p.supply.tAbsence
       | .presence => p.supply.tPresence
       | .low => p.supply.tLow
       | .cutoff => p.supply.tCutoff
       | .return_ => p.supply.tReturn
       | .recovery => p.supply.tRecovery
     let elapsed (k : TestKind) (x : Option PortId) : Option Nat :=
       (p.diag.running.filter fun z => decide (z.test = k ∧ z.port = x)).map (·.elapsed)
     (s.permits e .stats false →
       ∃ x : LineStatus, Completes (.getLineStatus e) s (p.answeredTo e 9 .ok (.lineStatus x)) ∧
         x.state = p.line.state ∧ x.attempts = p.line.attempts ∧ x.startPending = p.line.startPending ∧
         x.request = p.line.request ∧ x.relay = (if p.supply.relay then .part else .through) ∧
         x.callsSent = p.line.callsSent ∧ x.rejections = p.line.rejections ∧ x.lastFailure = p.line.lastFailure ∧
         x.downRate = p.line.downInForce.map (fun t => payload t * 32) ∧
         x.upRate = p.line.upInForce.map (fun t => payload t * 32) ∧
         x.rxErrors = p.svc.rxErrors ∧ x.discards = p.svc.discards ∧ shown p.line.holdoff x.holdoff ∧
         shown p.line.retry x.retry ∧ x.seconds = p.line.session.map (·.symbols / 4000) ∧
         x.sched =
           { u := u, p := d, c := u.bind fun a => d.map (min a), v := voice .a + voice .b, allocA := voice .a
             allocB := voice .b, framesLost := p.sched.framesLost, framesRefused := p.sched.framesRefused
             framesDropped := p.sched.framesDropped, framingErrors := p.sched.framingErrors
             framesErased := p.sched.framesErased, upFrames := p.sched.upQueue.length
             downFrames := p.sched.downBuffer.length }) ∧
     (s.permits e .supplyConfig false →
       ∃ x : SupplyStatus, Completes (.getSupply e) s (p.answeredTo e 23 .ok (.supply x)) ∧
         x.state = p.supply.state ∧ x.mains = p.supply.mains ∧ x.battery = p.supply.battery ∧ x.low = p.supply.low ∧
         x.cutoff = p.supply.cutoff ∧ x.lowReturn = p.supply.lowReturn ∧ x.budget = p.supply.budget ∧
         x.cutback = p.supply.cutback ∧ x.overlay = p.band.overlay ∧ x.supplyHold = p.supply.hold ∧
         x.silenceHold = p.link.silenceHold ∧ x.dataOpen = (!p.supply.hold && !p.link.silenceHold) ∧
         x.drive = p.supply.relay ∧ x.relay = (if p.supply.relay then .part else .through) ∧
         x.sinceLost = p.supply.mainsLostAt.map (p.time - ·) ∧
         ∀ n : DebounceName, x.timers.filter (·.1 == n) = ((timer n).map fun t => (n, t)).toList) ∧
     Completes (.getAccess e) s (p.answeredTo e 27 .ok
       (.access p.access.perms [.lineProfile, .diag, .supplyConfig] p.access.locViol p.access.opViol)) ∧
     (s.permits e .portConfig false →
       (∀ x : PortId,
         let r := p.port x
         Completes (.getPortStatus e (match x with | .a => .a | .b => .b)) s (p.answeredTo e 17 .ok (.portStatus
           { state := r.state, enable := r.enable, hook := r.hook, digit := r.digit, dial := r.dialTimer
             cooldown := r.cooldown, howler := r.howler, announced := r.announced, heard := r.heard
             ring := r.ring.map fun g => (g.cadence, g.origin, g.partner, g.localLeft)
             heat := r.heat, ringLoad := r.ringLoad, trip := r.trip, joinLink := p.voice.joinLink
             shedPending := r.shedPending, mode := (p.chan x).map (·.mode), active := (p.chan x).map (·.active)
             erasedRun := (p.chan x).map (·.erasedRun), tone := (p.gen x).kind
             howlerPeak := if (p.gen x).kind = .howler then some (p.gen x).peak else none
             concealed := (match x with | .a => p.voice.concealedA | .b => p.voice.concealedB)
             hold := p.hold x }))) ∧
       Completes (.getPortStatus e .other) s (p.answeredTo e 17 .range .none)) ∧
     (s.permits e .diag false →
       (∀ f, Completes (.getDiagResult e (some .loopTest) f) s
           (p.answeredTo e 20 .ok (.diagResult p.diag.loop (elapsed .loopTest none))) ∧
         Completes (.getDiagResult e (some .noiseScan) f) s
           (p.answeredTo e 20 .ok (.diagResult p.diag.noise (elapsed .noiseScan none)))) ∧
       Completes (.getDiagResult e (some .portTest) (some .a)) s
         (p.answeredTo e 20 .ok (.diagResult p.diag.portA (elapsed .portTest (some .a)))) ∧
       Completes (.getDiagResult e (some .portTest) (some .b)) s
         (p.answeredTo e 20 .ok (.diagResult p.diag.portB (elapsed .portTest (some .b)))) ∧
       Completes (.getDiagResult e (some .portTest) (some .other)) s (p.answeredTo e 20 .range .none) ∧
       Completes (.getDiagResult e (some .portTest) none) s (p.answeredTo e 20 .malformed .none) ∧
       (∀ f, Completes (.getDiagResult e none f) s (p.answeredTo e 20 .malformed .none)))) ∧
  (∀ (s : State) (e : Envelope), s.takes e → s.permits e .stats false →
     let p := s.part.heardFrom e
     Completes (.getSnapshot e) s
       (Part.answeredTo { p with snapshot := p.snapshot.map fun x => { x with sinceRead := 0 } } e 10 .ok
         (.snapshot p.snapshot))) ∧
  ∀ roles : List Role,
    let rs := runsOf roles
    (rs.map fun r => List.replicate (r.last + 1 - r.first) r.role).flatten = roles ∧ (∀ r ∈ rs, r.first ≤ r.last) ∧
      (roles ≠ [] → rs.head?.map (·.first) = some 0) ∧
      ∀ (i : Nat) (a b : Run), rs[i]? = some a → rs[i + 1]? = some b → b.first = a.last + 1 ∧ b.role ≠ a.role

/-- READ_TABLE (R207) on each table: an unknown table or a count outside 1 to 64 is MALFORMED, a start at or beyond the
table's end is RANGE, and otherwise the entries from the start are returned, cut off at the end, behind the table's
header: whether a load table or a measured one is present (R40), the start time of its run (R163), and for FAULT_LOG
the records held, the next sequence, the lost count, the threshold and the record in flight (R158). Each load-table
entry is one byte, a tone without an average reads 8000h, a log entry is the record's 29 bytes. A load-table entry
holds b and g in four bits each, and 0 where no table is in force (R40); an average is rounded to the nearest qdB,
halves away from zero (R49); and the record's bytes and codes are those of R210. -/
def Obligations.ReadTableReturnsAPage : Prop :=
  (∀ (s : State) (e : Envelope) (t : TableName) (start n : Nat), s.takes e → s.permits e (tableClass t) false →
    let p := s.part.heardFrom e
    let len := if t = .faultLog then p.log.records.length else 448
    let header : TableHeader := match t with
      | .loadDown => .load p.line.downInForce.isSome
      | .loadUp => .load p.line.upInForce.isSome
      | .snr => .snr
      | .attenuation => .measured p.diag.attenuation.isSome (p.diag.attenuation.map (·.2))
      | .noise => .measured p.diag.noiseTable.isSome (p.diag.noiseTable.map (·.2))
      | .faultLog => .log p.log.records.length p.log.next p.log.lost p.log.threshold p.log.inFlight
    (n = 0 ∨ 64 < n → Completes (.readTable e (some t) start n) s (p.answeredTo e 32 .malformed .none)) ∧
    (1 ≤ n → n ≤ 64 → len ≤ start → Completes (.readTable e (some t) start n) s (p.answeredTo e 32 .range .none)) ∧
    (1 ≤ n → n ≤ 64 → start < len → ∃ es : List (List Byte),
      Completes (.readTable e (some t) start n) s (p.answeredTo e 32 .ok (.table t start (min n (len - start)) header es)) ∧
        es.length = min n (len - start) ∧
        ∀ i, i < es.length → es[i]? = some (p.tableEntry t (start + i)))) ∧
  (∀ (s : State) (e : Envelope) (start n : Nat), s.takes e →
    Completes (.readTable e none start n) s ((s.part.heardFrom e).answeredTo e 32 .malformed .none)) ∧
  (∀ (p : Part) (i : Nat), p.load.averages.getD i none = none → p.tableEntry .snr i = [0x80, 0x00]) ∧
  (∀ (p : Part) (i : Nat) (a : Int), p.load.averages.getD i none = some a →
     let w : BitVec 16 := BitVec.ofInt 16 (if 0 ≤ a then (a + 32) / 64 else -((-a + 32) / 64))
     p.tableEntry .snr i = [w.extractLsb' 8 8, w.extractLsb' 0 8]) ∧
  (∀ (p : Part) (i : Nat) (xs : List Int) (t0 : Nat),
     let w : BitVec 16 := BitVec.ofInt 16 (xs.getD i 0)
     (p.diag.attenuation = some (xs, t0) → p.tableEntry .attenuation i = [w.extractLsb' 8 8, w.extractLsb' 0 8]) ∧
     (p.diag.noiseTable = some (xs, t0) → p.tableEntry .noise i = [w.extractLsb' 8 8, w.extractLsb' 0 8])) ∧
  (∀ (p : Part) (i : Nat),
     let byte (t : Option (List LoadEntry)) : Byte :=
       let e := (t.getD []).getD i ⟨0, 0⟩
       BitVec.ofNat 4 e.b ++ BitVec.ofInt 4 e.g
     p.tableEntry .loadDown i = [byte p.line.downInForce] ∧ p.tableEntry .loadUp i = [byte p.line.upInForce] ∧
       byte none = 0) ∧
  (∀ (p : Part) (i : Nat) (r : FaultRecord), p.log.records[i]? = some r →
     let four (x : BitVec 32) : List Byte := [x.extractLsb' 24 8, x.extractLsb' 16 8, x.extractLsb' 8 8, x.extractLsb' 0 8]
     let detail (k : Nat) : List Byte := four (BitVec.ofInt 32 (r.details.getD k 0))
     p.tableEntry .faultLog i =
       [r.seq.extractLsb' 8 8, r.seq.extractLsb' 0 8] ++ four (BitVec.ofNat 32 r.time) ++
         ([r.kind.code, severityCode r.severity, r.source.code, r.lineState.code, r.delivery.code, r.sends,
           r.details.length].map (BitVec.ofNat 8)) ++ detail 0 ++ detail 1 ++ detail 2 ++ detail 3 ∧
       (p.tableEntry .faultLog i).length = 29) ∧
  ([FaultKind.lineDrop, .trainingFailed, .fallbackEntered, .reshapeAbandoned, .lowRateInService, .fenceLocked, .fenceLost,
     .planConflict, .longLoop, .ringOvercurrent, .ringThermal, .portLockedOut, .wetWiring, .capacityHold, .onBattery,
     .batteryLow, .mainsRestored, .supplyCutoff, .hostSilent, .hostBack, .accessRefused].map (·.code)) =
       List.range' 1 21 ∧
  [Severity.info, .minor, .major, .critical].map severityCode = List.range 4 ∧
  [FaultSource.line, .portA, .portB, .supply, .access, .link].map (·.code) = List.range 6 ∧
  [LineState.quiet, .sounding, .measuring, .loading, .carrying, .reshape, .dropped, .fallback].map (·.code) =
    List.range 8 ∧
  [Delivery.localOnly, .toSend, .sent, .delivered, .undelivered].map (·.code) = List.range 5

/-! ### Resets by command -/

/-- RESET with scope FULL (R209): line and queues emptied, both tables' settings and the windows back at their power-on
values, all seven flags clear; the log, the permissions, the thresholds, the time, the timers' settings, the heat and
the snapshot are kept; a running test is stored ABORTED with cause RESET (R163). The overlay and port B follow the kept
supply state (log entry 31). The one reply is the answer.
RESET with scope LINE (R209): the line and its load state go back, a message in arrival in service is a receive error
(R20), the test is aborted and told, and the windows, the profile, the permissions, the log's settings and the flags of
the band map are kept. Both are stated over the part with the frame noticed, outside last-report mode: what a RESET does
under it, in CUTOFF, is the model's choice (log entry 84).
That a message in arrival in the slow framing is not counted at RESET LINE is log entry 27. That the test's DIAG_DONE
comes ahead of the notices of the line's stop, and so has its place wherever the queue had one, is log entry 94. -/
def Obligations.CommandResetsClearAndKeep : Prop :=
  (∀ (s : State) (tag : Byte), s.takes ⟨.loc, tag, .fits⟩ → s.permits ⟨.loc, tag, .fits⟩ .linkControl true →
     let p := s.part.heardFrom ⟨.loc, tag, .fits⟩
     (p.supply.state = .cutoff → p.sched.lastReport = none) →
     ∃ q : Part, Completes (.resetFull ⟨.loc, tag, .fits⟩) s q ∧
       q.link.replies = [⟨tag, 33, .ok, .reset .full p.time⟩] ∧ q.link.notices = [] ∧
       q.line.state = .quiet ∧ q.line.attempts = 0 ∧ q.line.nextTable = 0 ∧ q.line.nextMove = 0 ∧
       q.line.lastFailure = none ∧ q.line.startPending = false ∧ q.line.request = .through ∧
       q.line.downInForce = none ∧ q.line.upInForce = none ∧ q.line.reasons = [] ∧
       q.svc.outQ = [] ∧ q.svc.discards = 0 ∧ q.svc.rxErrors = 0 ∧ q.sched.upQueue = [] ∧ q.sched.downBuffer = [] ∧
       q.band.windows = resetPlan ∧ q.band.strict = false ∧ q.band.mapInForce = none ∧
       q.flags = ⟨false, false, false, false, false, false, false⟩ ∧
       q.band.overlay = (p.supply.state == .batteryLow) ∧
       q.load.setProfile = ⟨38, 24, 4, 12, 256, true, 60⟩ ∧ q.load.averages = List.replicate 448 none ∧
       q.portA.state = .through ∧ q.portA.heat = p.portA.heat ∧ q.portB.heat = p.portB.heat ∧
       (p.supply.state = .mains → q.portB.state = .disabled) ∧ (p.supply.state = .batteryLow → q.portB.state = .shed) ∧
       q.chan .a = none ∧ q.chan .b = none ∧ q.supply.relay = false ∧ q.supply.low = p.supply.low ∧
       q.supply.state = p.supply.state ∧
       q.log.records.length = p.log.records.length ∧ q.log.next = p.log.next ∧ q.log.lost = p.log.lost ∧
       q.log.threshold = p.log.threshold ∧ q.access.perms = p.access.perms ∧ q.time = p.time ∧
       q.snapshot = p.snapshot ∧ q.link.silenceSetting = p.link.silenceSetting ∧
       q.link.statsPeriod = p.link.statsPeriod ∧ q.link.framingErrors = p.link.framingErrors ∧
       q.diag.running = none ∧ q.diag.attenuation = p.diag.attenuation ∧ q.diag.noiseTable = p.diag.noiseTable ∧
       (p.diag.running = none → q.diag = p.diag) ∧
       ∀ t, p.diag.running = some t →
         q.diag.slot t.test t.port = some ⟨t.test, t.port, t.source, .aborted .reset, t.start, t.elapsed⟩) ∧
  (∀ (s : State) (tag : Byte), s.takes ⟨.loc, tag, .fits⟩ → s.permits ⟨.loc, tag, .fits⟩ .linkControl true →
     let p := s.part.heardFrom ⟨.loc, tag, .fits⟩
     (p.supply.state = .cutoff → p.sched.lastReport = none) →
     ∃ q : Part, Completes (.resetLine ⟨.loc, tag, .fits⟩) s q ∧
       q.link.replies = p.link.replies ++ [⟨tag, 33, .ok, .reset .line p.time⟩] ∧
       q.line.state = .quiet ∧ q.line.attempts = 0 ∧ q.line.startPending = false ∧ q.line.lastFailure = none ∧
       q.line.downInForce = none ∧ q.line.upInForce = none ∧ q.load.averages = List.replicate 448 none ∧
       q.svc.outQ = [] ∧ q.svc.discards = p.svc.discards ∧
       q.svc.rxErrors =
         (if p.inService = true ∧ p.svc.rx.1 ≠ [] then min 65535 (p.svc.rxErrors + 1) else p.svc.rxErrors) ∧
       q.sched.upQueue = [] ∧ q.sched.downBuffer = [] ∧
       q.sched.framesLost = min 4294967295 (p.sched.framesLost + p.sched.upQueue.length) ∧
       q.line.nextTable = p.line.nextTable ∧ q.load.setProfile = p.load.setProfile ∧
       q.band.windows = p.band.windows ∧ q.band.strict = p.band.strict ∧
       q.band.conflictFlag = p.band.conflictFlag ∧ q.access = p.access ∧ q.log.next = p.log.next ∧
       q.log.threshold = p.log.threshold ∧ q.supply.state = p.supply.state ∧ q.time = p.time ∧
       q.snapshot = p.snapshot ∧ q.diag.running = none ∧ (p.diag.running = none → q.diag = p.diag) ∧
       ∀ t, p.diag.running = some t →
         let r : DiagResult := ⟨t.test, t.port, t.source, .aborted .reset, t.start, t.elapsed⟩
         q.diag.slot t.test t.port = some r ∧ (p.link.notices.length < 16 → Notice.diagDone r ∈ q.link.notices))

/-! ### The line's commands -/

/-- LINE_START (R17, R24) in QUIET or FALLBACK with the supply neither in CUTOFF nor SHUTDOWN. With port A off-hook or a
test running it is STARTED and waits in its state; with nothing to wait for, the line is in SOUNDING at once with the
relay at PART and the first CALL begun (R25): the transmitter drives the tones that are UP CARRY at nominal level less
the cutback (R179). In the other line states, and in CUTOFF and SHUTDOWN, it is WRONG_STATE and changes nothing.
That the wake tone is driven at nominal level, with gain 0 and 0 bits, is log entry 50. -/
def Obligations.LineStartBeginsOrWaits : Prop :=
  (∀ (s : State) (e : Envelope), s.takes e → s.permits e .lineProfile true →
    (s.part.line.state = .quiet ∨ s.part.line.state = .fallback) → s.part.supply.state ≠ .cutoff →
    s.part.supply.state ≠ .shutdown →
    let wake := (List.range 448).filter fun t => resolve s.part.band.overlay s.part.band.windows t == .upCarry
    ∃ q : Part, Completes (.lineStart e) s (q.answeredTo e 1 .started .none) ∧ q.line.retry = none ∧
      ((s.part.portA.hook = .offHook ∨ s.part.diag.running.isSome = true) →
        q.line.state = s.part.line.state ∧ q.line.startPending = true ∧ q.line.attempts = s.part.line.attempts) ∧
      (s.part.portA.hook = .onHook → s.part.diag.running = none →
        q.line.state = .sounding ∧ q.line.startPending = false ∧ q.line.attempts = 0 ∧ q.line.request = .part ∧
        q.supply.relay = true ∧ q.line.callsSent = 1 ∧ q.line.callWindow = some 2000 ∧ q.line.wakeLeft = some 100 ∧
        q.line.transmitter = .wake ∧ q.line.wakeTone = some wake ∧
        q.driven = .tones (wake.map fun t => ⟨t, 0, some (0 - (s.part.supply.cutback : Int))⟩)) ∧
      q.band = s.part.band ∧ q.load = s.part.load ∧ q.access = s.part.access) ∧
  ∀ (s : State) (e : Envelope), s.takes e → s.permits e .lineProfile true →
    (s.part.supply.state = .cutoff ∨ s.part.supply.state = .shutdown ∨
      (s.part.line.state ≠ .quiet ∧ s.part.line.state ≠ .fallback)) →
    Completes (.lineStart e) s ((s.part.heardFrom e).answeredTo e 1 .wrongState .none)

/-- LINE_STOP (R18), in every line state: the line in QUIET, everything R18 lists cleared, the relay through unless a
LOOP_TEST holds it, no snapshot, no record, last failure kept. The reply to OPERATOR's is lost with the queue (log entry
18). In CUTOFF it ends last-report mode and sends the supervisor on to SHUTDOWN (R135, R161, R185). -/
def Obligations.LineStopTakesTheLineToQuiet : Prop :=
  ∀ (s : State) (e : Envelope), s.takes e → s.permits e .lineProfile true →
    let p := s.part.heardFrom e
    ((p.supply.state = .cutoff → p.sched.lastReport = none) →
      ∃ q : Part, Completes (.lineStop e) s (q.answeredTo e 2 .ok .none) ∧
        q.line.state = .quiet ∧ q.line.attempts = 0 ∧ q.line.startPending = false ∧ q.line.holdoff = none ∧
        q.line.retry = none ∧ q.line.transmitter = .off ∧ q.line.downOffered = none ∧ q.line.upOffered = none ∧
        q.line.downInForce = none ∧ q.line.upInForce = none ∧ q.band.offeredMap = none ∧ q.band.mapInForce = none ∧
        q.line.reasons = [] ∧ q.line.move = none ∧ q.line.reshape = none ∧ q.line.request = .through ∧
        q.svc.outQ = [] ∧ q.line.lastFailure = p.line.lastFailure ∧ q.snapshot = p.snapshot ∧
        q.log.next = p.log.next ∧ ((∀ x, p.underTest x = false) → q.diag = p.diag) ∧
        (p.loopTesting = false → q.supply.relay = false) ∧
        (p.inService = true → q.chan .a = none ∧ q.chan .b = none) ∧
        q.band.windows = p.band.windows ∧ q.load.setProfile = p.load.setProfile ∧
        q.load.averages = p.load.averages ∧ q.access = p.access ∧ q.supply.state = p.supply.state) ∧
    (p.supply.state = .cutoff → p.sched.lastReport.isSome = true → p.inService = true → p.supply.tPresence = none →
      ∃ q : Part, Completes (.lineStop e) s (q.answeredTo e 2 .ok .none) ∧ q.line.state = .quiet ∧
        q.sched.lastReport = none ∧ q.supply.state = .shutdown ∧ q.supply.relay = false ∧ q.portB.state = .shed ∧
        q.snapshot = p.snapshot ∧ q.log.next = p.log.next ∧ q.svc.outQ = [] ∧ q.line.downInForce = none)

/-- SET_PROFILE (R42): the fields carried are clamped in the rule's order, those not carried keep their values but where
the minimum margin is brought down with the margin, and nothing else changes; an upshift other than OFF or ON is
MALFORMED. OK_CLAMPED is answered exactly where a step changed a value. -/
def Obligations.SetProfileClampsInOrder : Prop :=
  (∀ (s : State) (e : Envelope) (f : ProfileFields), s.takes e → s.permits e .lineProfile true →
    f.upshift ≠ some none →
    let p := s.part.heardFrom e
    let o := p.load.setProfile
    ∃ (q : Profile) (st : Status),
      Completes (.setProfile e f) s
        (Part.answeredTo { p with load := { p.load with setProfile := q } } e 3 st (.profile q)) ∧
      q.gap = max 24 (min 60 (f.gap.getD o.gap)) ∧ q.margin = max 0 (min 60 (f.margin.getD o.margin)) ∧
      q.minMargin = max 0 (min q.margin (f.minMargin.getD o.minMargin)) ∧
      (q.maxBits : Int) = max 2 (min 12 (f.maxBits.getD o.maxBits)) ∧
      (q.floor ≤ max 0 (min 16000 (f.floor.getD o.floor)) ∧ q.floor % 32 = 0 ∧
        max 0 (min 16000 (f.floor.getD o.floor)) < q.floor + 32) ∧
      q.upshift = ((f.upshift.getD (some o.upshift)).getD o.upshift) ∧
      q.loss = max 20 (min 200 (f.loss.getD o.loss)) ∧
      (st = .ok ∨ st = .okClamped) ∧
      (st = .ok ↔ q.gap = f.gap.getD o.gap ∧ q.margin = f.margin.getD o.margin ∧
        q.minMargin = f.minMargin.getD o.minMargin ∧ (q.maxBits : Int) = f.maxBits.getD o.maxBits ∧
        q.floor = f.floor.getD o.floor ∧ q.loss = f.loss.getD o.loss)) ∧
  ∀ (s : State) (e : Envelope) (f : ProfileFields), s.takes e → s.permits e .lineProfile true →
    f.upshift = some none → Completes (.setProfile e f) s ((s.part.heardFrom e).answeredTo e 3 .malformed .none)

/-- SET_BAND_WINDOW (R8, R9, R13, R14) with a candidate map that holds no conflict: the aligned window is stored and
returned. Out of service a notice tells how many roles changed where any did, and nothing else changes. In service a
window that adds QUIET coverage alone raises NOTCH: it joins the pending reasons, or starts a reshape on the new map.
With a conflict and the strict plan OFF the window is stored all the same; the flag is set, the conflict counted, and
where the flag was clear a PLAN_CONFLICT record is made (R6).
The refusals of SET_BAND_WINDOW (R8, R9), each leaving the windows as they were: MALFORMED, RANGE, LINE_ACTIVE, and
PLAN_CONFLICT under the strict plan, which still counts the conflict and sets its flag.
That the messages of an operator's command join the outbound queue ahead of its OPERATOR_REPLY is the model's order (log
entry 63). -/
def Obligations.BandWindowsAreWrittenOrRefused : Prop :=
  (∀ (s : State) (e : Envelope) (n base size : Nat) (en : Bool) (d : Dir) (c : WClass), s.takes e →
     s.permits e .lineProfile true → n ≤ 7 → base ≤ 447 → size ∈ [4, 8, 16, 32, 64, 128, 256] →
     (s.part.line.state = .quiet ∨ s.part.line.state = .dropped ∨ s.part.line.state = .fallback) →
     let p := s.part.heardFrom e
     let w : Window := ⟨en, base - base % size, size, d, c⟩
     let ws := p.band.windows.set n w
     (∀ t, t < 448 → ¬ (ws.any (·.carries .down t) = true ∧ ws.any (·.carries .up t) = true)) →
     let k := rolesChanged (perTone (resolve p.band.overlay p.band.windows)) (perTone (resolve p.band.overlay ws))
     let p' : Part := { p with band := { p.band with windows := ws } }
     Completes (.setBandWindow e ⟨n, some en, base, size, some d, some c⟩) s
       ((if k = 0 then p' else p'.post (.bandMap k)).answeredTo e 5 (if base % size = 0 then .ok else .okAdjusted)
         (.window w))) ∧
  (∀ (s : State) (e : Envelope) (n base size : Nat) (en : Bool) (d : Dir) (c : WClass), s.takes e →
     s.permits e .lineProfile true → n ≤ 7 → base ≤ 447 → size ∈ [4, 8, 16, 32, 64, 128, 256] →
     (s.part.line.state = .quiet ∨ s.part.line.state = .dropped ∨ s.part.line.state = .fallback) →
     let p := s.part.heardFrom e
     let w : Window := ⟨en, base - base % size, size, d, c⟩
     let ws := p.band.windows.set n w
     let clashes := (List.range 448).filter fun t => ws.any (·.carries .down t) && ws.any (·.carries .up t)
     p.band.strict = false → clashes ≠ [] →
     ∃ q : Part, Completes (.setBandWindow e ⟨n, some en, base, size, some d, some c⟩) s
         (q.answeredTo e 5 (if base % size = 0 then .ok else .okAdjusted) (.window w)) ∧
       q.band = { p.band with
         windows := ws, conflictFlag := true, conflictCount := min 65535 (p.band.conflictCount + 1) } ∧
       q.line = p.line ∧ q.load = p.load ∧ q.svc = p.svc ∧ q.sched = p.sched ∧ p.sameTelephones q ∧
       q.log.next = p.log.next + (if p.band.conflictFlag then 0 else 1) ∧
       (p.band.conflictFlag = false → p.link.notices.length < 16 → ∃ r k, Notice.fault r k ∈ q.link.notices ∧
         r.seq = p.log.next ∧ r.kind = .planConflict ∧ r.severity = .minor ∧ r.source = .line ∧
         r.details = [(clashes.headD 0 : Int), (clashes.length : Int),
           (ws.findIdx (·.carries .down (clashes.headD 0)) : Int),
           (ws.findIdx (·.carries .up (clashes.headD 0)) : Int)])) ∧
  (∀ (s : State) (e : Envelope) (n base size : Nat) (d : Dir), s.takes e →
     s.permits e .lineProfile true → n ≤ 7 → base ≤ 447 → size ∈ [4, 8, 16, 32, 64, 128, 256] →
     let p := s.part.heardFrom e
     let w : Window := ⟨true, base - base % size, size, d, .quiet⟩
     let ws := p.band.windows.set n w
     p.inService = true → ∀ old, p.band.windows[n]? = some old →
     (old.enable = false ∨ old.cls = .quiet ∧ (∀ t, t < 448 → old.covers t = true → w.covers t = true) ∧
       ∃ t, t < 448 ∧ w.covers t = true ∧ old.covers t = false) →
     (∀ t, t < 448 → ¬ (ws.any (·.carries .down t) = true ∧ ws.any (·.carries .up t) = true)) →
     let map := perTone (resolve p.band.overlay ws)
     ∃ q : Part, Completes (.setBandWindow e ⟨n, some true, base, size, some d, some .quiet⟩) s
         (q.answeredTo e 5 (if base % size = 0 then .ok else .okAdjusted) (.window w)) ∧
       q.band.windows = ws ∧ q.load.setProfile = p.load.setProfile ∧
       ((p.line.state = .reshape ∨ p.line.move.isSome = true ∨ p.supply.state = .cutoff) →
         q.line = { p.line with reasons := q.line.reasons } ∧ q.band.mapInForce = p.band.mapInForce ∧
         ∀ r, r ∈ q.line.reasons ↔ r ∈ p.line.reasons ∨ r = .notch) ∧
       (p.line.state = .carrying → p.line.move = none → p.supply.state ≠ .cutoff →
         payload (computeDown map p.load.setProfile p.load.averages (p.line.downInForce.getD [])) ≠ 0 →
         q.line.state = .reshape ∧ q.line.reasons = [] ∧ q.band.offeredMap = some map ∧
         q.band.mapInForce = p.band.mapInForce ∧ q.line.downInForce = p.line.downInForce ∧
         ∃ x, q.line.reshape = some x ∧ ∀ r, r ∈ x.reasons ↔ r ∈ p.line.reasons ∨ r = .notch)) ∧
  (∀ (s : State) (e : Envelope) (w : WindowArg), s.takes e → s.permits e .lineProfile true →
     let p := s.part.heardFrom e
     ((w.enable = none ∨ w.dir = none ∨ w.cls = none ∨ w.size ∉ [4, 8, 16, 32, 64, 128, 256]) →
       Completes (.setBandWindow e w) s (p.answeredTo e 5 .malformed .none)) ∧
     ∀ win, windowOf w = some win →
       (7 < w.number ∨ 447 < w.base → Completes (.setBandWindow e w) s (p.answeredTo e 5 .range .none)) ∧
       (w.number ≤ 7 → w.base ≤ 447 → ∀ old, p.band.windows[w.number]? = some old →
         (p.line.state = .sounding ∨ p.line.state = .measuring ∨ p.line.state = .loading ∨
             (p.inService = true ∧ addsQuietOnly old win = false) →
           Completes (.setBandWindow e w) s (p.answeredTo e 5 .lineActive (.window old))) ∧
         (p.line.state = .quiet ∨ p.line.state = .dropped ∨ p.line.state = .fallback → p.band.strict = true →
           (conflictTones (p.band.windows.set w.number win)).isEmpty = false →
           ∃ q : Part, Completes (.setBandWindow e w) s (q.answeredTo e 5 .planConflict (.window old)) ∧
             q.band = { p.band with
               conflictFlag := true, conflictCount := min 65535 (p.band.conflictCount + 1) } ∧
             q.log.next = (if p.band.conflictFlag then p.log.next else p.log.next + 1) ∧ q.line = p.line ∧
             q.load = p.load)))

/-- Resolution (R4), case by case, for every tone and every set of windows. -/
def Obligations.ResolutionTakesTheFirstCase : Prop :=
  ∀ (overlay : Bool) (ws : List Window) (t : Nat),
    (t ≤ 5 → resolve overlay ws t = .quiet .fixed) ∧
    (5 < t → overlay = true → 256 ≤ t → resolve overlay ws t = .quiet .overlay) ∧
    (5 < t → (overlay = false ∨ t < 256) →
      ((∃ w ∈ ws, w.covers t = true ∧ w.cls = .quiet) → resolve overlay ws t = .quiet .notch) ∧
      ((∀ w ∈ ws, w.covers t = true → w.cls = .carry) →
        (∀ (i : Nat) (w : Window), ws[i]? = some w → w.covers t = true →
          (∀ (j : Nat) (v : Window), j < i → ws[j]? = some v → v.covers t = false) →
          resolve overlay ws t = (match w.dir with | .down => .downCarry | .up => .upCarry)) ∧
        ((∀ w ∈ ws, w.covers t = false) → resolve overlay ws t = .unused)))

/-- The writes of single settings: SET_STRICT_PLAN (R7), SET_REPORT_THRESHOLD (R151), CLEAR_LOG (R159) and
SET_SUPPLY_LIMITS (R189), each with what its rule lets it change and nothing else. The limits are answered OK where no
field is carried (log entry 20), and the debounce timers are judged against them (R177). -/
def Obligations.SettingsAreWrittenAlone : Prop :=
  (∀ (s : State) (e : Envelope) (b : Bool), s.takes e → s.permits e .lineProfile true →
    let p := s.part.heardFrom e
    Completes (.setStrictPlan e (some b)) s
      (Part.answeredTo { p with band := { p.band with strict := b } } e 7 .ok .none) ∧
    Completes (.setStrictPlan e none) s (p.answeredTo e 7 .malformed .none)) ∧
  (∀ (s : State) (e : Envelope) (v : Severity), s.takes e → s.permits e .faultLog true →
    let p := s.part.heardFrom e
    Completes (.setReportThreshold e (some v)) s
      (Part.answeredTo { p with log := { p.log with threshold := v } } e 22 .ok (.threshold p.log.threshold)) ∧
    Completes (.setReportThreshold e none) s (p.answeredTo e 22 .malformed .none)) ∧
  (∀ (s : State) (e : Envelope), s.takes e → s.permits e .faultLog true →
    let p := s.part.heardFrom e
    ∃ rs : List FaultRecord,
      Completes (.clearLog e) s
        (Part.answeredTo { p with log := { p.log with records := rs } } e 21 .ok
          (.removed (p.log.records.length - rs.length))) ∧
      rs.Sublist p.log.records ∧
      ∀ r, r ∈ rs ↔ r ∈ p.log.records ∧ r.delivery ≠ .delivered ∧ r.delivery ≠ .localOnly) ∧
  ∀ (s : State) (e : Envelope) (low cut : Option Int), s.takes e → s.permits e .supplyConfig true →
    let p := s.part.heardFrom e
    let v := p.supply
    let judge (holds : Bool) (t : Option Nat) : Option Nat := if holds then some (t.getD 0) else none
    ∃ (q : Part) (lo cu : Nat) (st : Status),
      Completes (.setSupplyLimits e low cut) s (q.answeredTo e 24 st (.limits lo cu (lo + 40))) ∧
      (lo : Int) = (match low with | some x => max 1080 (min 1180 x) | none => v.low) ∧
      cu = min (match cut with | some x => (max 1000 (min 1100 x)).toNat | none => v.cutoff) (lo - 30) ∧
      (st = .ok ↔ (lo : Int) = low.getD v.low ∧ (cu : Int) = cut.getD v.cutoff) ∧
      (st = .ok ∨ st = .okClamped) ∧
      q.supply = { v with
        low := lo, cutoff := cu, lowReturn := lo + 40
        tAbsence := judge (v.state == .mains && !v.mains) v.tAbsence
        tPresence := judge (v.state != .mains && v.mains) v.tPresence
        tLow := judge (v.state == .battery && !v.mains && decide (v.battery < lo)) v.tLow
        tCutoff := judge ((v.state == .battery || v.state == .batteryLow) && !v.mains && decide (v.battery < cu)) v.tCutoff
        tReturn := judge (v.state == .batteryLow && !v.mains && decide (lo + 40 ≤ v.battery)) v.tReturn
        tRecovery := judge (v.state == .shutdown && !v.mains && decide (1160 ≤ v.battery)) v.tRecovery } ∧
      q = { p with supply := q.supply }

/-- REQUEST_RESHAPE (R74): out of service WRONG_STATE; in service with a move in flight, in a reshape or in CUTOFF the
reason of its source joins the pending reasons and the line goes on; in CARRYING with nothing to hold it back the reshape
starts at once, and carries the pending reasons together with it (R73).
That the messages of an operator's command join the outbound queue ahead of its OPERATOR_REPLY is the model's order (log
entry 63); that the RESHAPE_OFFER carries the cutback of its placing is log entry 93. -/
def Obligations.RequestReshapeRaisesItsReason : Prop :=
  ∀ (s : State) (e : Envelope), s.takes e → s.permits e .lineProfile true →
    let p := s.part.heardFrom e
    (p.inService = false → Completes (.requestReshape e) s (p.answeredTo e 8 .wrongState .none)) ∧
    (p.inService = true → (p.line.state = .reshape ∨ p.line.move.isSome = true ∨ p.supply.state = .cutoff) →
      ∃ q : Part, Completes (.requestReshape e) s (q.answeredTo e 8 .ok .none) ∧
        (∀ r, r ∈ q.line.reasons ↔ r ∈ p.line.reasons ∨ r = (match e.src with | .loc => .loc | .operator => .operator)) ∧
        q.line = { p.line with reasons := q.line.reasons } ∧ q.log = p.log ∧ q.band = p.band ∧ q.load = p.load ∧
        q.svc = p.svc ∧ q.link = p.link) ∧
    (p.line.state = .carrying → p.line.move = none → p.supply.state ≠ .cutoff → p.svc.outQ = [] →
      payload (computeDown (perTone (resolve p.band.overlay p.band.windows)) p.load.setProfile p.load.averages
        (p.line.downInForce.getD [])) ≠ 0 →
      ∃ (q : Part) (x : Reshape), Completes (.requestReshape e) s (q.answeredTo e 8 .ok .none) ∧
        q.line.state = .reshape ∧ q.line.reshape = some x ∧ x.deadline = p.line.symbol + 8000 ∧ x.upTaken = false ∧
        (∀ r, r ∈ x.reasons ↔ r ∈ p.line.reasons ∨ r = (match e.src with | .loc => .loc | .operator => .operator)) ∧
        q.svc.outQ.head? = some (.reshapeOffer x.reasons p.supply.cutback) ∧
        q.line.reasons = [] ∧ q.band.offeredMap = some (perTone (resolve p.band.overlay p.band.windows)) ∧
        q.load.offeredProfile = some p.load.setProfile ∧ q.line.downInForce = p.line.downInForce ∧
        q.line.nextTable = p.line.nextTable + 1 ∧ q.svc.outQ.length = 3)

/-! ### The port and diagnostic commands -/

/-- PORT_ENABLE and PORT_DISABLE (R87 to R89): enable is set, a DISABLED port is IDLE with its hook taken as ON_HOOK, a
TRIPPED or LOCKED_OUT port is IDLE where it is on-hook and DIALLING where it is off-hook, a LOCKED_OUT one with its trip
history gone and its heat kept, and in any other state nothing but the enable flag changes. A disabled IDLE, TRIPPED or
LOCKED_OUT port is DISABLED; one in COOLDOWN, SHED, THROUGH or DISABLED keeps its state; a RINGING one has its ring
ended by the part; an off-hook one is hung up, port B with shed pending into SHED, and a disabled port's hook stands
ON_HOOK (log entry 21). A port field that is neither A nor B is RANGE; an enabled shed port is SHED.
That the messages of an operator's command join the outbound queue ahead of its OPERATOR_REPLY is the model's order (log
entry 63). That announced changes also where the SIGNAL is discarded at a queue full of SIGNALs is log entry 78. -/
def Obligations.PortsAreEnabledAndDisabled : Prop :=
  ∀ (s : State) (e : Envelope) (x : PortId), s.takes e → s.permits e .portConfig true →
    let p := s.part.heardFrom e
    let arg : PortArg := match x with | .a => .a | .b => .b
    ((p.port x).state = .disabled → p.line.startPending = false → p.relayTarget = p.supply.relay →
      ∃ q : Part, Completes (.portEnable e arg) s (q.answeredTo e 11 .ok .none) ∧ (q.port x).state = .idle ∧
        (q.port x).enable = true ∧ (q.port (other x)).state = (p.port (other x)).state ∧ q.line = p.line ∧
        (q.port x).hook = .onHook) ∧
    ((p.port x).state = .tripped ∨ (p.port x).state = .lockedOut → (p.port x).hook = .onHook →
      p.line.startPending = false → p.relayTarget = p.supply.relay →
      ∃ q : Part, Completes (.portEnable e arg) s (q.answeredTo e 11 .ok .none) ∧ (q.port x).state = .idle ∧
        (q.port x).enable = true ∧ (q.port (other x)).state = (p.port (other x)).state ∧ q.line = p.line ∧
        (q.port x).trip = (if (p.port x).state = .lockedOut then none else (p.port x).trip) ∧
        (q.port x).heat = (p.port x).heat ∧ q.svc = p.svc) ∧
    ((p.port x).state = .tripped ∨ (p.port x).state = .lockedOut → (p.port x).hook = .offHook →
      p.line.startPending = false → p.relayTarget = p.supply.relay →
      ∃ q : Part, Completes (.portEnable e arg) s (q.answeredTo e 11 .ok .none) ∧ (q.port x).state = .dialling ∧
        (q.port x).enable = true ∧ (q.port x).dialTimer = some 30000 ∧ (q.port x).hook = .offHook ∧
        (q.port (other x)).state = (p.port (other x)).state ∧ q.line = p.line ∧
        (q.port x).heat = (p.port x).heat ∧
        (q.port x).trip = (if (p.port x).state = .lockedOut then none else (p.port x).trip) ∧
        (p.inService = false → q.svc = p.svc) ∧
        (p.inService = true → (q.port x).announced = true ∧
          (p.svc.outQ = [] → q.svc.outQ = [.signal x .offHook]))) ∧
    ((p.port x).state ∈ [PortState.cooldown, .shed, .through, .disabled] →
      p.line.startPending = false → p.relayTarget = p.supply.relay →
      ∃ q : Part, Completes (.portDisable e arg) s (q.answeredTo e 12 .ok .none) ∧
        q.port x = { p.port x with enable := false, heard := .silence } ∧
        q.port (other x) = { p.port (other x) with heard := (q.port (other x)).heard } ∧
        q.line = p.line ∧ q.svc = p.svc ∧ q.log = p.log ∧ q.link = p.link ∧ q.supply = p.supply) ∧
    ((p.port x).state ≠ .disabled → (p.port x).state ≠ .tripped → (p.port x).state ≠ .lockedOut →
      Completes (.portEnable e arg) s
        ((p.modPort x fun r => { r with enable := true }).answeredTo e 11
          (if (p.port x).state = .shed then .shed else .ok) .none)) ∧
    ((p.port x).state = .idle → p.line.startPending = false → p.relayTarget = p.supply.relay →
      p.portA.hook = .onHook →
      ∃ q : Part, Completes (.portDisable e arg) s (q.answeredTo e 12 .ok .none) ∧ (q.port x).state = .disabled ∧
        (q.port x).enable = false ∧ (q.port (other x)).state = (p.port (other x)).state ∧ q.line = p.line ∧
        q.svc = p.svc ∧ q.log = p.log) ∧
    (p.line.startPending = false → p.line.request = .part → p.supply.relay = true → p.supply.state = .mains →
      ((p.port x).state = .tripped ∨ (p.port x).state = .lockedOut →
        ∃ q : Part, Completes (.portDisable e arg) s (q.answeredTo e 12 .ok .none) ∧ (q.port x).state = .disabled ∧
          (q.port x).enable = false ∧ (q.port x).hook = .onHook ∧ (q.port x).trip = (p.port x).trip ∧ q.line = p.line ∧
          q.svc = p.svc) ∧
      (∀ g : Ring, (p.port x).state = .ringing → (p.port x).ring = some g → g.partner = none →
        ∃ q : Part, Completes (.portDisable e arg) s (q.answeredTo e 12 .ok .none) ∧ (q.port x).state = .disabled ∧
          (q.port x).enable = false ∧ (q.port x).ring = none ∧ q.line = p.line ∧
          (g.origin = .line → p.inService = true → p.svc.outQ = [] → q.svc.outQ = [.signal x .ringLimited]) ∧
          (g.origin = .loc → q.svc = p.svc)) ∧
      ((p.port x).state.offHook = true →
        ∃ q : Part, Completes (.portDisable e arg) s (q.answeredTo e 12 .ok .none) ∧
          (q.port x).state = (if x = .b ∧ p.portB.shedPending = true then .shed else .disabled) ∧
          (q.port x).enable = false ∧ (q.port x).hook = .onHook ∧ (q.port x).dialTimer = none ∧
          (q.port x).howler = none ∧ (q.port x).shedPending = false ∧ q.chan x = none ∧ q.hold x = none ∧
          (p.inService = true → (q.port x).announced = false) ∧ q.line = p.line)) ∧
    Completes (.portEnable e .other) s (p.answeredTo e 11 .range .none) ∧
    Completes (.portDisable e .other) s (p.answeredTo e 12 .range .none)

/-- RING_LOCAL and INTERCOM (R105, R111, R174), to either port: an IDLE port that is not under test rings on cadence 2
with origin LOCAL for 60 s where the budget allows its load beside that of the other port, if that is ringing; an off-hook
other port is the caller, hears ringback and has its dial timer stopped. Above the budget the command is BUSY with a
RING_LIMITED notice. Else it is SHED, BUSY for a port under test, WRONG_STATE, MALFORMED or RANGE, and nothing rings. The
order of these refusals is log entry 32. -/
def Obligations.LocalRingsStartWithinTheBudget : Prop :=
  ∀ (s : State) (e : Envelope) (x : PortId), s.takes e → s.permits e .portConfig true →
    let p := s.part.heardFrom e
    let dst : PortArg := match x with | .a => .a | .b => .b
    let src : PortArg := match x with | .a => .b | .b => .a
    let load := (p.port x).ringLoad + if (p.port (other x)).state = .ringing then (p.port (other x)).ringLoad else 0
    let limited := p.post (.ringLimited x (p.port x).ringLoad p.supply.budget)
    ((p.port x).state = .idle → p.underTest x = false →
      (load ≤ p.supply.budget →
        ∃ q : Part, Completes (.ringLocal e dst) s (q.answeredTo e 13 .started .none) ∧ (q.port x).state = .ringing ∧
          (q.port x).ring =
            some ⟨2, 0, 250, .loc, if (p.port (other x)).state = .dialling then some (other x) else none, some 60000⟩ ∧
          q.line = p.line ∧ q.svc = p.svc ∧ q.log = p.log ∧ (q.port (other x)).state = (p.port (other x)).state ∧
          (q.port (other x)).ring = (p.port (other x)).ring ∧
          ((p.port (other x)).state = .dialling →
            (q.port (other x)).dialTimer = none ∧ (q.port (other x)).heard = .tone .ringback)) ∧
      (p.supply.budget < load → Completes (.ringLocal e dst) s (limited.answeredTo e 13 .busy .none)) ∧
      ((p.port (other x)).state = .dialling →
        (load ≤ p.supply.budget →
          ∃ q : Part, Completes (.intercom e src dst) s (q.answeredTo e 14 .started .none) ∧
            (q.port x).state = .ringing ∧ (q.port x).ring = some ⟨2, 0, 250, .loc, some (other x), some 60000⟩ ∧
            (q.port (other x)).state = .dialling ∧ (q.port (other x)).dialTimer = none ∧
            (q.port (other x)).heard = .tone .ringback ∧ q.line = p.line ∧ q.svc = p.svc ∧ q.log = p.log) ∧
        (p.supply.budget < load → Completes (.intercom e src dst) s (limited.answeredTo e 14 .busy .none)))) ∧
    ((p.port x).state = .shed → Completes (.ringLocal e dst) s (p.answeredTo e 13 .shed .none) ∧
      Completes (.intercom e src dst) s (p.answeredTo e 14 .shed .none) ∧
      Completes (.intercom e dst src) s (p.answeredTo e 14 .shed .none)) ∧
    ((p.port x).state ≠ .shed → p.underTest x = true →
      Completes (.ringLocal e dst) s (p.answeredTo e 13 .busy .none) ∧
      ((p.port (other x)).state ≠ .shed → Completes (.intercom e src dst) s (p.answeredTo e 14 .busy .none))) ∧
    ((p.port x).state ≠ .idle → (p.port x).state ≠ .shed → p.underTest x = false →
      Completes (.ringLocal e dst) s (p.answeredTo e 13 .wrongState .none)) ∧
    (((p.port (other x)).state ≠ .dialling ∨ (p.port x).state ≠ .idle) → (p.port x).state ≠ .shed →
      (p.port (other x)).state ≠ .shed → p.underTest x = false →
      Completes (.intercom e src dst) s (p.answeredTo e 14 .wrongState .none)) ∧
    Completes (.ringLocal e .other) s (p.answeredTo e 13 .range .none) ∧
    Completes (.intercom e dst dst) s (p.answeredTo e 14 .malformed .none) ∧
    Completes (.intercom e dst .other) s (p.answeredTo e 14 .range .none) ∧
    Completes (.intercom e .other dst) s (p.answeredTo e 14 .range .none)

/-- JOIN (R113) and PART (R114): port B, in DIALLING beside a CONNECTED port A, is JOINED with the join link set, and where
it was announced SIGNAL ON_HOOK is sent for it and announced becomes NO; PART returns a JOINED port B to DIALLING, clears
the link and in service sends SIGNAL OFF_HOOK; both SIGNALs join behind the SIGNALs and ahead of the rest of the queue
(R21). JOIN with port B in SHED is SHED (R87); in any other state the answer is WRONG_STATE and nothing changes, which for
PART of a shed port B is log entry 32.
That the messages of an operator's command join the outbound queue ahead of its OPERATOR_REPLY is the model's order (log
entry 63). That announced changes also where the SIGNAL is discarded at a queue full of SIGNALs is log entry 78. -/
def Obligations.JoinAndPartMovePortB : Prop :=
  ∀ (s : State) (e : Envelope), s.takes e → s.permits e .portConfig true →
    let p := s.part.heardFrom e
    let signalled (x : Signal) : List Msg :=
      p.svc.outQ.takeWhile (·.isSignal) ++ .signal .b x :: p.svc.outQ.dropWhile (·.isSignal)
    (p.portA.state = .connected → p.portB.state = .dialling →
      ∃ q : Part, Completes (.join e) s (q.answeredTo e 15 .ok .none) ∧ q.portB.state = .joined ∧
        q.voice.joinLink = true ∧ q.portB.dialTimer = none ∧ q.portA.state = .connected ∧ q.portB.heard = .line ∧
        q.line = p.line ∧ q.chan .a = p.chan .a ∧
        (p.portB.announced = false → q.portB.announced = false ∧ q.svc = p.svc) ∧
        (p.inService = true → p.portB.announced = true →
          q.portB.announced = false ∧ (p.svc.outQ.length < 16 → q.svc.outQ = signalled .onHook))) ∧
    (p.portB.state = .shed → Completes (.join e) s (p.answeredTo e 15 .shed .none)) ∧
    (p.portB.state ≠ .shed → (p.portA.state ≠ .connected ∨ p.portB.state ≠ .dialling) →
      Completes (.join e) s (p.answeredTo e 15 .wrongState .none)) ∧
    (p.portB.state = .joined →
      ∃ q : Part, Completes (.part e) s (q.answeredTo e 16 .ok .none) ∧ q.portB.state = .dialling ∧
        q.voice.joinLink = false ∧ q.portB.dialTimer = some 30000 ∧ q.line = p.line ∧ q.chan .a = p.chan .a ∧
        (p.inService = true → q.portB.announced = true ∧
          (p.svc.outQ.length < 16 → q.svc.outQ = signalled .offHook))) ∧
    (p.portB.state ≠ .joined → Completes (.part e) s (p.answeredTo e 16 .wrongState .none))

/-- RUN_DIAG and ABORT_DIAG (R164 to R168, R171, R172, R174). With nothing running and the supply neither in CUTOFF nor
in SHUTDOWN a NOISE_SCAN starts where the line is QUIET, DROPPED or FALLBACK, a LOOP_TEST likewise with port A
on-hook, which takes the relay to PART and port A with it, and a PORT_TEST on an IDLE or DISABLED port in any line
state. Else the answer is BUSY while any test runs, WRONG_STATE in CUTOFF and SHUTDOWN, in another line state, with
port A off-hook and for a port in another state, SHED for a shed port, RANGE for a port that is neither A nor B,
MALFORMED for no test or no port; and nothing changes. An abort stores the ABORTED result of the test that ran in
its own slot and leaves every other result and both tables, posts DIAG_DONE, lets a start that waited for it alone
enter SOUNDING (R24, R167), and else gives the relay of a LOOP_TEST back to the line's request; with nothing running
it is WRONG_STATE. That a port field beside LOOP_TEST or NOISE_SCAN is not read is the model's choice (log entry
58). -/
def Obligations.DiagnosticsStartAndAbort : Prop :=
  ∀ (s : State) (e : Envelope), s.takes e → s.permits e .diag true →
    let p := s.part.heardFrom e
    let arg (x : PortId) : PortArg := match x with | .a => .a | .b => .b
    let down : Prop := p.line.state = .quiet ∨ p.line.state = .dropped ∨ p.line.state = .fallback
    let answers (k : TestKind) (f : Option PortArg) (st : Status) : Prop :=
      Completes (.runDiag e (some k) f) s (p.answeredTo e 18 st .none)
    let starts (k : TestKind) (f : Option PortArg) (x : Option PortId) (more : Part → Prop) : Prop :=
      ∃ (q : Part) (t : RunningTest), Completes (.runDiag e (some k) f) s (q.answeredTo e 18 .started .none) ∧
        q.diag = { p.diag with running := some t } ∧ t.test = k ∧ t.port = x ∧ t.source = e.src ∧ t.start = p.time ∧
        t.elapsed = 0 ∧ t.events = 0 ∧ t.history = [] ∧ q.line = p.line ∧ more q
    (p.diag.running = none → p.supply.state ≠ .cutoff → p.supply.state ≠ .shutdown →
      (∀ f, down → starts .noiseScan f none fun _ => True) ∧
      (∀ f, down → p.portA.hook = .onHook →
        starts .loopTest f none fun q => q.supply.relay = true ∧
          (p.supply.relay = false → q.portA.state = if p.portA.enable then .idle else .disabled)) ∧
      (∀ f, ¬ down → answers .noiseScan f .wrongState ∧ answers .loopTest f .wrongState) ∧
      (∀ f, p.portA.hook = .offHook → answers .loopTest f .wrongState) ∧
      ∀ x : PortId,
        ((p.port x).state = .idle ∨ (p.port x).state = .disabled → p.relayTarget = p.supply.relay →
          starts .portTest (some (arg x)) (some x) fun q => (q.port x).state = (p.port x).state) ∧
        ((p.port x).state = .shed → answers .portTest (some (arg x)) .shed) ∧
        ((p.port x).state ≠ .idle → (p.port x).state ≠ .disabled → (p.port x).state ≠ .shed →
          answers .portTest (some (arg x)) .wrongState)) ∧
    (p.diag.running = none → p.supply.state = .cutoff ∨ p.supply.state = .shutdown →
      (∀ f, answers .noiseScan f .wrongState ∧ answers .loopTest f .wrongState) ∧
      ∀ x, answers .portTest (some (arg x)) .wrongState) ∧
    (∀ t, p.diag.running = some t →
      (∀ f, answers .noiseScan f .busy ∧ answers .loopTest f .busy) ∧ (∀ x, answers .portTest (some (arg x)) .busy) ∧
      let r : DiagResult := ⟨t.test, t.port, t.source, .aborted .command, t.start, t.elapsed⟩
      ∃ q : Part, Completes (.abortDiag e) s (q.answeredTo e 19 .ok .none) ∧
        q.diag = { p.diag with
          running := none
          loop := if t.test = .loopTest then some r else p.diag.loop
          noise := if t.test = .noiseScan then some r else p.diag.noise
          portA := if t.test = .portTest ∧ t.port ≠ some .b then some r else p.diag.portA
          portB := if t.test = .portTest ∧ t.port = some .b then some r else p.diag.portB } ∧
        (p.link.notices.length < 16 → Notice.diagDone r ∈ q.link.notices) ∧
        q.portA.ringLoad = p.portA.ringLoad ∧ q.portB.ringLoad = p.portB.ringLoad ∧
        (p.line.startPending = true → p.supply.state ≠ .cutoff → p.supply.state ≠ .shutdown →
          (p.line.state = .dropped ∧ p.supply.relay = true ∨
            (p.line.state = .quiet ∨ p.line.state = .fallback) ∧ p.portA.hook = .onHook) → q.soundingFrom p) ∧
        (p.line.startPending = false ∨ p.supply.state = .cutoff ∨ p.supply.state = .shutdown ∨
          p.line.state ≠ .dropped ∧ p.portA.hook = .offHook → q.line = p.line ∧
          (p.supply.relay = true → p.line.request = .through → q.supply.relay = false ∧ q.portA.state = .through))) ∧
    (p.diag.running = none → Completes (.abortDiag e) s (p.answeredTo e 19 .wrongState .none)) ∧
    (∀ f, Completes (.runDiag e none f) s (p.answeredTo e 18 .malformed .none)) ∧
    answers .portTest none .malformed ∧ answers .portTest (some .other) .range

/-! ### Bring-up -/

/-- SOUNDING (R24, R25): the entry from DROPPED keeps the attempt count; the wake tone's end silences the transmitter;
a window that closes with CALLs left begins the next CALL; ANSWER enters MEASURING with CONFIRM queued, the counter at 0
and every average absent. A CONFIRM that meets a full outbound queue is discarded and counted (R21); that
MEASURING is entered all the same is the model's choice (log entry 77). -/
def Obligations.SoundingCallsAndAnswer : Prop :=
  ∀ s : State, s.part.running = true →
    let p := s.part
    (p.line.state = .dropped → p.line.startPending = true → p.diag.running = none → p.supply.state ≠ .cutoff →
      p.supply.state ≠ .shutdown →
      ∃ q : Part, Completes .enterSounding s q ∧ q.line.state = .sounding ∧ q.line.attempts = p.line.attempts ∧
        q.line.startPending = false ∧ q.line.holdoff = none ∧ q.line.callsSent = 1 ∧ q.line.request = .part ∧
        q.load = p.load ∧ q.band = p.band ∧ q.log = p.log) ∧
    (p.line.state = .sounding → p.line.wakeLeft.isSome = true →
      Completes .wakeToneEnd s
        { p with line := { p.line with wakeTone := none, wakeLeft := none, transmitter := .off } }) ∧
    (p.line.state = .sounding → p.line.callWindow.isSome = true → p.line.callsSent < 5 →
      Completes .callWindowExpiry s
        { p with line := { p.line with
            callsSent := p.line.callsSent + 1, wakeLeft := some 100, callWindow := some 2000, transmitter := .wake
            wakeTone := some ((List.range 448).filter fun t =>
              resolve p.band.overlay p.band.windows t == .upCarry) } }) ∧
    (p.line.state = .sounding → p.svc.outQ.length < 16 →
      ∃ q : Part, Completes .answer s q ∧ q.line.state = .measuring ∧ q.line.symbol = 0 ∧
        q.line.transmitter = .framing ∧ q.line.callWindow = none ∧ q.load.averages = List.replicate 448 none ∧
        q.svc.outQ = p.svc.outQ ++ [.confirm] ∧ q.band = p.band ∧ q.log = p.log ∧ p.sameTelephones q ∧
        q.supply = p.supply) ∧
    (p.line.state = .sounding → 16 ≤ p.svc.outQ.length →
      ∃ q : Part, Completes .answer s q ∧ q.line.state = .measuring ∧ q.svc.outQ = p.svc.outQ ∧
        q.svc.discards = min 65535 (p.svc.discards + 1) ∧ q.log = p.log ∧ p.sameTelephones q)

/-- A failed attempt (R31, R33), by each event that fails one without a figure of its own: the fifth window, the LOADING
deadline, and DROP in bring-up. The first eight raise the count and double the holdoff from 1 s up to 64 s; the
ninth, at a count of 8, falls back with the retry timer at 300 s and the relay through. Each makes a TRAINING_FAILED
record with the cause (codes 1, 5 and 6, R210), the count, the holdoff in seconds, or 0 before FALLBACK, and the
figure; the ninth makes FALLBACK_ENTERED behind it, with the cause and the count (R148, R149). -/
def Obligations.FailedAttemptsBackOff : Prop :=
  ∀ (s : State) (i : Instr) (cause : Cause) (figure : Int), s.part.running = true →
    (i = .callWindowExpiry ∧ s.part.line.state = .sounding ∧ s.part.line.callWindow.isSome = true ∧
        5 ≤ s.part.line.callsSent ∧ cause = .noAnswer ∧ figure = s.part.line.callsSent ∨
      i = .loadingTimeout ∧ s.part.line.state = .loading ∧ cause = .loadingTimeout ∧ figure = 0 ∨
      i = .drop ∧ (s.part.line.state = .sounding ∨ s.part.line.state = .measuring ∨ s.part.line.state = .loading) ∧
        cause = .farEnd ∧ figure = 0) →
    let code : Int := match cause with | .noAnswer => 1 | .loadingTimeout => 5 | _ => 6
    ∃ q : Part, Completes i s q ∧ q.line.lastFailure = some (cause, figure) ∧ q.line.transmitter = .off ∧
      q.line.downOffered = none ∧ q.line.upOffered = none ∧ q.band.offeredMap = none ∧ q.svc.outQ = [] ∧
      q.snapshot = s.part.snapshot ∧ q.access = s.part.access ∧ q.load.averages = s.part.load.averages ∧
      (s.part.line.attempts < 8 →
        q.line.state = .dropped ∧ q.line.attempts = s.part.line.attempts + 1 ∧ q.line.request = .part ∧
        q.line.holdoff = some (1000 * min 64 (2 ^ s.part.line.attempts)) ∧ q.log.next = s.part.log.next + 1 ∧
        s.part.recorded q 0 1 .trainingFailed .minor .line s.part.line.state
          [code, ((s.part.line.attempts + 1 : Nat) : Int), ((min 64 (2 ^ s.part.line.attempts) : Nat) : Int), figure]) ∧
      (8 ≤ s.part.line.attempts →
        q.line.state = .fallback ∧ q.line.attempts = 8 ∧ q.line.request = .through ∧ q.line.holdoff = none ∧
        q.line.retry = some 300000 ∧ q.log.next = s.part.log.next + 2 ∧
        s.part.recorded q 0 2 .trainingFailed .minor .line s.part.line.state [code, 8, 0, figure] ∧
        s.part.recorded q 1 2 .fallbackEntered .major .line .fallback [code, 8] ∧
        (s.part.loopTesting = false → q.supply.relay = false))

/-- The end of MEASURING (R26, R27, R46): fewer than 32 tones heard fails the attempt with MEASURE_FAIL and their number;
else, where the computed table reaches the floor, LOADING is entered with the snapshot, the profile and the table
offered, its two segments queued under one number.
The seed of a tone of the measurable set is the mean of its measurements, truncated toward zero, and every other tone is
absent (R11, R46); the floor where no symbol was measured is log entry 16. A tone is heard where its rounded average is
above -40 qdB (R26). -/
def Obligations.MeasurementEndLoadsOrFails : Prop :=
  (∀ s : State, s.part.running = true → s.part.line.state = .measuring →
    let p := s.part
    let averages := p.seededAverages
    let map := perTone (resolve p.band.overlay p.band.windows)
    let t := computeDown map p.load.setProfile averages []
    (tonesHeard averages < 32 →
      ∃ q : Part, Completes .measurementEnd s q ∧ q.line.lastFailure = some (.measureFail, (tonesHeard averages : Int)) ∧
        (q.line.state = .dropped ∨ q.line.state = .fallback) ∧ q.load.averages = averages) ∧
    (32 ≤ tonesHeard averages → payload t ≠ 0 → p.load.setProfile.floor ≤ ((payload t * 32 : Nat) : Int) →
      p.svc.outQ = [] → p.line.startPending = false →
      ∃ q : Part, Completes .measurementEnd s q ∧ q.line.state = .loading ∧ q.line.downOffered = some t ∧
        q.band.offeredMap = some map ∧ q.load.profileInForce = p.load.setProfile ∧ q.load.averages = averages ∧
        q.line.loadingDeadline = some (p.line.symbol + 12000) ∧ q.line.nextTable = p.line.nextTable + 1 ∧
        q.svc.outQ = [.downTable p.line.nextTable 0 ((t.map entryToByte).take 224),
          .downTable p.line.nextTable 1 (((t.map entryToByte).drop 224).take 224)]) ∧
    (32 ≤ tonesHeard averages → (payload t = 0 ∨ ((payload t * 32 : Nat) : Int) < p.load.setProfile.floor) →
      ∃ q : Part, Completes .measurementEnd s q ∧ q.line.lastFailure = some (.lowRate, (payload t : Int)) ∧
        (q.line.state = .dropped ∨ q.line.state = .fallback) ∧ q.line.downOffered = none)) ∧
  (∀ p : Part, p.seededAverages.length = 448 ∧ ∀ t : Nat, t < 448 →
     (resolve false p.band.windows t = .downCarry → p.seededAverages[t]? = some (some
       (if p.load.measureCount = 0 then -2560 else (p.load.measureSums.getD t 0).tdiv p.load.measureCount))) ∧
     (resolve false p.band.windows t ≠ .downCarry → p.seededAverages[t]? = some none)) ∧
  ∀ averages : List (Option Int),
    tonesHeard averages = averages.countP fun a => match a with
      | some x => decide (-40 < (if 0 ≤ x then (x + 32) / 64 else -((-x + 32) / 64)))
      | none => false

/-- UP_TABLE in LOADING (R23, R28, R29): a first segment is held; the second completes the table; a valid one is held
and its switch symbol named 200 symbols ahead; an invalid one is rejected by name, and the third rejection fails the
attempt. A segment of another shape is a receive error.
TABLE_REJECT fails the attempt in LOADING; SWITCH_ACK confirms the switch it names ahead of its symbol, but for one
whose SWITCH a full queue discarded or a SIGNAL displaced (R77, log entry 25). At the switch symbol without it the part does
not switch and sends nothing: the symbol is marked as gone by, and a SWITCH_ACK taken at the symbol or after it, or once
it is marked, changes nothing (R29, R77). A broken message is counted where messages travel;
out of these states each changes nothing (R22, R28, R29).
A table is validated by the six checks of R57 in their order: the first that fails is named, with the lowest tone that
fails it, or tone 0 for GAIN_SUM and CAPACITY. -/
def Obligations.LoadingExchangeIsTaken : Prop :=
  (∀ (s : State) (n : Byte) (es fs : List Byte), s.part.running = true → s.part.line.state = .loading →
     es.length = 224 → fs.length = 224 → s.part.relayTarget = s.part.supply.relay → s.part.refreshHeard = s.part →
     let p := s.part
     (p.line.segs = none →
       Completes (.upTable n 0 es) s { p with line := { p.line with segs := some ⟨n, some es, none⟩ } }) ∧
     (p.line.segs = some ⟨n, some es, none⟩ → p.line.upValid = false → p.svc.outQ.length < 16 →
       let table := (es ++ fs).map entryOfByte
       (validateTable (p.band.offeredMap.getD []) p.load.profileInForce.maxBits table = none →
         ∀ dl, p.line.loadingDeadline = some dl → later dl (p.line.symbol + 200) = true →
           ∃ q : Part, Completes (.upTable n 1 fs) s q ∧ q.line.upOffered = some table ∧ q.line.upValid = true ∧
             q.line.switch = some ⟨p.line.symbol + 200, true, false, false⟩ ∧ q.line.segs = none ∧
             q.svc.outQ = p.svc.outQ ++ [.switch (p.line.symbol + 200)] ∧ q.line.state = .loading) ∧
       (∀ c t, validateTable (p.band.offeredMap.getD []) p.load.profileInForce.maxBits table = some (c, t) →
         (p.line.rejections < 2 →
           ∃ q : Part, Completes (.upTable n 1 fs) s q ∧ q.line.rejections = p.line.rejections + 1 ∧
             q.line.state = .loading ∧ q.line.upOffered = p.line.upOffered ∧ q.line.segs = none ∧
             q.svc.outQ = p.svc.outQ ++ [.tableReject n c t]) ∧
         (2 ≤ p.line.rejections →
           ∃ q : Part, Completes (.upTable n 1 fs) s q ∧
             q.line.lastFailure = some (.tableRejected, (p.line.rejections : Int) + 1) ∧
             (q.line.state = .dropped ∨ q.line.state = .fallback)))) ∧
     Completes (.upTable n 2 es) s
       { p with svc := { p.svc with rxErrors := min 65535 (p.svc.rxErrors + 1) } }) ∧
  (∀ s : State, s.part.running = true →
     let p := s.part
     (∀ n c t, p.line.state = .loading →
       ∃ q : Part, Completes (.tableReject n c t) s q ∧
         q.line.lastFailure = some (.tableRejected, (p.line.rejections : Int)) ∧
         (q.line.state = .dropped ∨ q.line.state = .fallback) ∧ q.line.upOffered = none ∧ q.svc.outQ = []) ∧
     (∀ (a : Symbol) (placed : Bool), (p.line.state = .loading ∨ p.line.state = .reshape) →
       p.line.switch = some ⟨a, placed, false, false⟩ →
       (later a p.line.symbol = true → placed = true → p.svc.switchLost ≠ some a →
         Completes (.switchAck a) s { p with line := { p.line with switch := some ⟨a, true, true, false⟩ } }) ∧
       ((later a p.line.symbol = false ∨ placed = false ∨ p.svc.switchLost = some a) →
         Completes (.switchAck a) s p) ∧
       Completes .switchSymbolWithoutAck s { p with line := { p.line with switch := some ⟨a, placed, false, true⟩ } } ∧
       ∀ b : Symbol, b ≠ a → Completes (.switchAck b) s p) ∧
     (∀ (a : Symbol) (placed : Bool), (p.line.state = .loading ∨ p.line.state = .reshape) →
       p.line.switch = some ⟨a, placed, false, true⟩ →
       (∀ b : Symbol, Completes (.switchAck b) s p) ∧ Completes .enterCarrying s p ∧ Completes .reshapeSwitch s p) ∧
     (p.line.state.messagesTravel = true →
       Completes .serviceMessageError s
         { p with svc := { p.svc with rxErrors := min 65535 (p.svc.rxErrors + 1) } }) ∧
     (p.line.state.messagesTravel = false →
       Completes .serviceMessageError s p ∧ (∀ n c t, Completes (.tableReject n c t) s p) ∧
       ∀ a, Completes (.switchAck a) s p)) ∧
  ∀ (map : List Role) (maxBits : Nat) (table : List LoadEntry),
    let e (t : Nat) : LoadEntry := table.getD t ⟨0, 0⟩
    let fails (c : Check) (t : Nat) : Prop :=
      (c = .role ∧ (e t).b ≠ 0 ∧ map.getD t .unused ≠ .upCarry) ∨
      (c = .bits ∧ (e t).b ≠ 0 ∧ ((e t).b < 2 ∨ maxBits < (e t).b)) ∨
      (c = .gain ∧ ((e t).g < -8 ∨ 3 < (e t).g)) ∨
      (c = .zeroGain ∧ (e t).b = 0 ∧ (e t).g ≠ 0) ∨
      (c = .gainSum ∧ t = 0 ∧ 0 < (table.map (·.g)).sum) ∨
      (c = .capacity ∧ t = 0 ∧ (table.map (·.b)).sum < 8)
    (∀ (c : Check) (t : Nat), validateTable map maxBits table = some (c, t) ↔
      t < 448 ∧ fails c t ∧ (∀ u : Nat, u < t → ¬ fails c u) ∧
        ∀ c' : Check, checkCode c' < checkCode c → ∀ u : Nat, u < 448 → ¬ fails c' u) ∧
    (validateTable map maxBits table = none ↔ ∀ (c : Check) (u : Nat), u < 448 → ¬ fails c u) ∧
    [Check.role, .bits, .gain, .zeroGain, .gainSum, .capacity, .duplicate].map checkCode = List.range' 1 7

/-- Entry to CARRYING at a confirmed switch (R30, R10, R40, R62, R80): the offered tables and map are in force, the
counter and the session start at 0, the tracker searches, and the averages, windows and profiles are as they were.
Each UNDELIVERED record of at least MAJOR returns to TO_SEND with its sends at 0, and an UNDELIVERED MINOR or INFO record
stays as it is (R156); with no record in flight the one that R152 chooses is then offered, if the outbound queue has room,
and every other record is as R156 leaves it. R152 chooses one wherever the log holds a TO_SEND record: that of the highest
severity, and the oldest, the first of the log, among equals.
LINE_STATE and RATE_CHANGE, with the new rates, are posted (R30, R38). A port in DIALLING that has not been announced, and
is no caller of a local ring, is taken as just off-hook (R96, R130): SIGNAL OFF_HOOK, its dial timer at 30 s, and silence
in place of the no-service tone; a caller goes on hearing ringback, and every other port is as it was but for what it
hears. That the SIGNALs join the queue ahead of the report is the model's order (log entry 86), and that announced becomes
YES also where the SIGNAL is discarded is log entry 78. -/
def Obligations.EnterCarryingPutsTheTablesInForce : Prop :=
  (∀ s : State, s.part.running = true → s.part.line.state = .loading → s.part.line.confirmed = true →
    let p := s.part
    ∃ q : Part, Completes .enterCarrying s q ∧ q.line.state = .carrying ∧ q.line.symbol = 0 ∧ q.line.attempts = 0 ∧
      q.line.session = some ⟨0, 0, 0⟩ ∧ q.line.downInForce = p.line.downOffered ∧
      q.line.upInForce = p.line.upOffered ∧ q.line.downOffered = none ∧ q.line.upOffered = none ∧
      q.band.mapInForce = p.band.offeredMap ∧ q.band.offeredMap = none ∧ q.line.reasons = [] ∧ q.line.move = none ∧
      q.line.switch = none ∧ q.line.transmitter = .service ∧ q.monitor = Monitor.initial ∧
      q.tracker = { Tracker.initial with state := .searching } ∧ q.load.averages = p.load.averages ∧
      q.load.profileInForce = p.load.profileInForce ∧ q.load.setProfile = p.load.setProfile ∧
      q.band.windows = p.band.windows ∧ q.supply = p.supply ∧ q.access = p.access ∧ q.log.next = p.log.next ∧
      q.diag = p.diag ∧
      (p.link.notices.length < 15 → q.link.notices = p.link.notices ++
        [.lineState .carrying .loading 0 none [],
         .rateChange (32 * payload (p.line.downOffered.getD [])) (32 * payload (p.line.upOffered.getD [])) (p.mode .a)
           (p.mode .b)]) ∧
      (∀ x : PortId,
        ((p.port x).state = .dialling → (p.port x).announced = false → p.isCaller x = false →
          (q.port x).state = .dialling ∧ (q.port x).announced = true ∧ (q.port x).dialTimer = some 30000 ∧
            (q.port x).heard = .silence ∧ (q.gen x).kind = .silent ∧
            (p.svc.outQ.length < 15 → .signal x .offHook ∈ q.svc.outQ)) ∧
        ((p.port x).state ≠ .dialling ∨ (p.port x).announced = true ∨ p.isCaller x = true →
          q.port x = { p.port x with heard := (q.port x).heard }) ∧
        ((p.port x).state = .dialling → p.isCaller x = true → (q.port x).heard = .tone .ringback)) ∧
        let again := p.log.records.map fun r =>
          if r.delivery = .undelivered ∧ (r.severity = .major ∨ r.severity = .critical) then
            { r with delivery := .toSend, sends := 0 }
          else r
        (∀ k, p.log.inFlight = some k → p.svc.outQ.length < 15 →
          q.log.records = again ∧ q.log.inFlight = some k) ∧
        (p.log.inFlight = none → p.sched.lastReport = none →
          ((16 ≤ p.svc.outQ.length ∨ ∀ r ∈ again, r.delivery ≠ .toSend) →
            q.log.records = again ∧ q.log.inFlight = none) ∧
          ∀ r, p.svc.outQ.length < 14 → chooseReport again = some r →
            r ∈ again ∧ r.delivery = .toSend ∧
            (∀ z ∈ again, z.delivery = .toSend → severityCode z.severity ≤ severityCode r.severity) ∧
            q.log.inFlight = some r.seq ∧ .faultReport { r with delivery := .sent, sends := r.sends + 1 } ∈ q.svc.outQ ∧
            q.log.records =
              again.map fun z => if z.seq = r.seq then { z with delivery := .sent, sends := z.sends + 1 } else z)) ∧
  ∀ log : List FaultRecord,
    (chooseReport log = none ↔ ∀ z ∈ log, z.delivery ≠ .toSend) ∧
    ∀ r, chooseReport log = some r → ∃ older newer : List FaultRecord, log = older ++ r :: newer ∧ r.delivery = .toSend ∧
      (∀ z ∈ older, z.delivery = .toSend → severityCode z.severity < severityCode r.severity) ∧
      ∀ z ∈ newer, z.delivery = .toSend → severityCode z.severity ≤ severityCode r.severity

/-- The timers that bring the next attempt (R32, R33): at their expiry start pending becomes YES; while a test runs, or
in FALLBACK while port A is off-hook, the line waits; otherwise it is in SOUNDING at once, from DROPPED with its count
kept. -/
def Obligations.HoldoffAndRetryExpiriesStartAgain : Prop :=
  ∀ s : State, s.part.running = true →
    let p := s.part
    p.supply.state ≠ .cutoff → p.supply.state ≠ .shutdown →
    (p.line.state = .dropped → p.line.holdoff.isSome = true →
      ∃ q : Part, Completes .holdoffExpiry s q ∧ q.line.holdoff = none ∧ q.line.attempts = p.line.attempts ∧
        (p.diag.running.isSome = true → q.line.state = .dropped ∧ q.line.startPending = true) ∧
        (p.diag.running = none → q.line.state = .sounding ∧ q.line.startPending = false ∧ q.line.callsSent = 1)) ∧
    (p.line.state = .fallback → p.line.retry.isSome = true →
      ∃ q : Part, Completes .retryExpiry s q ∧ q.line.retry = none ∧
        (p.diag.running.isSome = true ∨ p.portA.hook = .offHook →
          q.line.state = .fallback ∧ q.line.startPending = true) ∧
        (p.diag.running = none → p.portA.hook = .onHook →
          q.line.state = .sounding ∧ q.line.attempts = 0 ∧ q.supply.relay = true))

/-- A drop from service (R34, R36, R61), by DROP and by SYNC_LOSS, with the supply not in CUTOFF: DROPPED at count 1
with a holdoff of 1 s, the snapshot with every field R36 lists (its cause and rates, the whole seconds, severe
periods and reshapes of the session, the margins, the tracker's state and period), one LINE_DROP record with the
cause (codes 6 and 7, R210), those seconds (kept whole above 2^31 - 1, log entry 90) and the two rates, the tables
and queues cleared, and the voice channels ended (R103). The telephones (R103, R96, R130), with the relay at PART
and the supply not in SHUTDOWN: announced is NO on both; a CONNECTED, HELD or JOINED port is PARKED on the howler; a
ring from the line stops and its port is IDLE; a port in DIALLING stays there on the no-service tone with its dial
timer at 30 s, or, as the caller of a local ring, on ringback with its timer stopped, and the ring goes on, as one
without a caller does; every other port, one in INTERCOM among them, keeps all but announced and what it hears. -/
def Obligations.DropsFromServiceKeepASnapshot : Prop :=
  ∀ (s : State) (i : Instr) (cause : Cause), s.part.running = true → s.part.inService = true →
    s.part.supply.state ≠ .cutoff → (i = .drop ∧ cause = .farEnd ∨ i = .syncLoss ∧ cause = .lossOfSignal) →
    let p := s.part
    ∃ (q : Part) (x : Snapshot), Completes i s q ∧ q.line.state = .dropped ∧ q.line.attempts = 1 ∧
      q.line.holdoff = some 1000 ∧ q.line.request = .part ∧ q.line.transmitter = .off ∧ q.snapshot = some x ∧
      x.cause = cause ∧ x.downRate = 32 * p.capP.getD 0 ∧ x.upRate = 32 * p.capU.getD 0 ∧
      x.sinceRead = min 255 ((p.snapshot.map (·.sinceRead)).getD 0 + 1) ∧ x.worst = p.monitor.worst.map (·.1) ∧
      x.average = p.monitor.average ∧ x.tracker = p.tracker.state ∧ x.period = p.tracker.period ∧
      x.seconds = (p.line.session.map (·.symbols / 4000)).getD 0 ∧ x.severe = (p.line.session.map (·.severe)).getD 0 ∧
      x.reshapes = (p.line.session.map (·.reshapes)).getD 0 ∧ q.link.snapshotNew = true ∧
      p.recorded q 0 1 .lineDrop .major .line p.line.state
        [if i = .drop then 6 else 7, (x.seconds : Int), (x.downRate : Int), (x.upRate : Int)] ∧
      q.line.downInForce = none ∧ q.line.upInForce = none ∧ q.band.mapInForce = none ∧ q.line.reasons = [] ∧
      q.svc.outQ = [] ∧ q.sched.upQueue = [] ∧ q.chan .a = none ∧ q.chan .b = none ∧ q.hold .a = none ∧
      q.hold .b = none ∧ q.monitor = Monitor.initial ∧ q.tracker = Tracker.initial ∧
      q.log.next = p.log.next + 1 ∧ q.line.lastFailure = p.line.lastFailure ∧
      q.load.averages = p.load.averages ∧ q.access = p.access ∧ q.band.windows = p.band.windows ∧
      q.voice.joinLink = false ∧
      (p.supply.relay = true → p.supply.state ≠ .shutdown → ∀ y : PortId, (q.port y).announced = false ∧
        ((p.port y).state = .connected ∨ (p.port y).state = .held ∨ (p.port y).state = .joined →
          (q.port y).state = .parked ∧ (q.port y).howler = some 60000 ∧ (q.port y).dialTimer = none ∧
            (q.port y).heard = .tone .howler) ∧
        (∀ g, (p.port y).state = .ringing → (p.port y).ring = some g →
          (g.origin = .line → (q.port y).state = .idle ∧ (q.port y).ring = none) ∧
          (g.origin = .loc → g.partner = none →
            q.port y = { p.port y with announced := false, heard := (q.port y).heard })) ∧
        ((p.port y).state = .dialling → p.isCaller y = false →
          (q.port y).state = .dialling ∧ (q.port y).dialTimer = some 30000 ∧ (q.port y).heard = .tone .noService ∧
            (q.gen y).kind = .noService) ∧
        (∀ g, (p.port y).state = .dialling → (p.port (other y)).state = .ringing → (p.port (other y)).ring = some g →
          g.origin = .loc → g.partner = some y →
          (q.port y).state = .dialling ∧ (q.port y).dialTimer = none ∧ (q.port y).heard = .tone .ringback ∧
            (q.port (other y)).state = .ringing ∧ (q.port (other y)).ring = some g) ∧
        ((p.port y).state ∉ [PortState.connected, .held, .joined, .ringing, .dialling] →
          q.port y = { p.port y with announced := false, heard := (q.port y).heard }))

/-! ### In service -/

/-- A downstream symbol (R47, R60 to R62, R81 to R83): outside an erasure window, whatever the tracker's state, it is
counted by its raw class and its measurements join the period's sums; inside one, and at the symbol that opens one,
it is counted ERASED and joins none; the sync-loss run and the symbol counter go on. That a window left open covers
its 13 symbols and no more is log entry 38. An IMPULSE symbol that opens an event is taken by the tracker: in
SEARCHING into the history, with the lock test (R82); in LOCKED as a hit, which moves the period (not held in a
range, log entry 61); also at the very symbol that opens the window; in a window that has had its hit into the
history alone, neither hit nor stray; or as a stray, of which the third returns the tracker to SEARCHING. The close
of an erasure window (R83): with a hit, the window only closes; without one it is an absence, the prediction moves
on by the period, and the third absence returns the tracker to SEARCHING with one FENCE_LOST record. The records
carry the details R148 gives them: FENCE_LOCKED the period in milliseconds and in symbols and the tolerance,
FENCE_LOST 1 for absences or 2 for strays, the period in milliseconds and the events in the history; that a period
in milliseconds drops its fraction is log entry 49. -/
def Obligations.DownstreamSymbolsAndErasureWindows : Prop :=
  (∀ (s : State) (d : DownSymbol), s.part.running = true → s.part.inService = true →
     let p := s.part
     let y := p.line.symbol
     let c := p.monitor.counts
     let table := p.line.downInForce.getD []
     let impulse : Bool := !d.sync || decide ((table.filter fun e => decide (e.b ≠ 0)).length < 4 * d.errored)
     let opens : Bool := impulse && match p.tracker.event with
       | none => true
       | some (_, last) => decide (5 < (y - last).toNat)
     let history := (p.tracker.history ++ [y]).drop (p.tracker.history.length + 1 - 8)
     ∃ q : Part, Completes (.downstreamSymbol d) s q ∧ q.line = p.line.nextSymbol ∧
       q.line.symbol = p.line.symbol + 1 ∧
       q.monitor.syncRun = (if d.sync then 0 else min 2000 (p.monitor.syncRun + 1)) ∧
       q.load.averages = p.load.averages ∧ q.load.setProfile = p.load.setProfile ∧ q.band = p.band ∧
       q.supply = p.supply ∧ q.access = p.access ∧ q.diag = p.diag ∧ q.portA = p.portA ∧ q.portB = p.portB ∧
       ((match p.tracker.window with
           | none => p.tracker.state = .locked → p.tracker.next ≠ some (y + 6)
           | some w => 13 ≤ (y - w.1).toNat) →
         q.load.periodCount = p.load.periodCount + 1 ∧
         (∀ t, t < 448 → q.load.periodSums.getD t 0 = p.load.periodSums.getD t 0 + d.snr.getD t 0) ∧
         q.monitor.counts = (if impulse then { c with impulse := c.impulse + 1 }
           else if 1 ≤ d.errored then { c with errored := c.errored + 1 } else { c with clean := c.clean + 1 })) ∧
       (p.tracker.state = .searching → p.tracker.window = none →
         (opens = false → q.log = p.log ∧ q.tracker.history = p.tracker.history ∧ q.tracker.state = .searching) ∧
         (opens = true → q.tracker.history = history ∧ q.tracker.event = some (y, y) ∧
           (lockTest history = none → q.log = p.log ∧ q.tracker.state = .searching) ∧
           ∀ k, lockTest history = some k →
             q.tracker.state = .locked ∧ q.tracker.period = some k.period ∧
             q.tracker.next = some (y + BitVec.ofNat 32 k.period) ∧ q.tracker.absence = 0 ∧ q.tracker.stray = 0 ∧
             q.log.next = p.log.next + 1 ∧
             p.recorded q 0 1 .fenceLocked .info .line p.line.state
               [((k.period / 4 : Nat) : Int), (k.period : Int), (k.tolerance : Int)])) ∧
       (∀ (f : Symbol) (h : Bool), p.tracker.window = some (f, h) → (y - f).toNat < 13 →
         q.monitor.counts = { c with erased := c.erased + 1 } ∧ q.load = p.load) ∧
       (p.tracker.state = .locked → p.tracker.window = none → p.tracker.next = some (y + 6) →
         q.monitor.counts = { c with erased := c.erased + 1 } ∧ q.load = p.load ∧
         (opens = false → q.tracker.window = some (y, false))) ∧
       (p.tracker.state = .locked → ∀ f, p.tracker.window = some (f, false) → ∀ n, p.tracker.next = some n → ∀ k,
         p.tracker.period = some k → (y - f).toNat < 13 → opens = true →
         let measured : Int := ((y - (n - BitVec.ofNat 32 k)).toNat : Int)
         let period := ((k : Int) + (measured - k).tdiv 4).toNat
         q.tracker.period = some period ∧ q.tracker.next = some (y + BitVec.ofNat 32 period) ∧
           q.tracker.window = some (f, true) ∧ q.tracker.absence = 0 ∧ q.tracker.stray = 0 ∧
           q.tracker.history = history ∧ q.tracker.state = .locked ∧ q.log = p.log) ∧
       (p.tracker.state = .locked → p.tracker.window = none → p.tracker.next = some (y + 6) → ∀ k,
         p.tracker.period = some k → opens = true →
         let measured : Int := ((y - (y + 6 - BitVec.ofNat 32 k)).toNat : Int)
         let period := ((k : Int) + (measured - k).tdiv 4).toNat
         q.tracker.period = some period ∧ q.tracker.next = some (y + BitVec.ofNat 32 period) ∧
           q.tracker.window = some (y, true) ∧ q.tracker.absence = 0 ∧ q.tracker.stray = 0 ∧
           q.tracker.history = history ∧ q.tracker.state = .locked ∧ q.log = p.log) ∧
       (p.tracker.state = .locked → ∀ f, p.tracker.window = some (f, true) → (y - f).toNat < 13 → opens = true →
         q.tracker = { p.tracker with history := history, event := some (y, y) } ∧ q.log = p.log) ∧
       (p.tracker.state = .locked → p.tracker.window = none → p.tracker.next ≠ some (y + 6) → opens = true →
         q.tracker.history = history ∧
         (p.tracker.stray < 2 → q.tracker.stray = p.tracker.stray + 1 ∧ q.tracker.state = .locked ∧
           q.tracker.next = p.tracker.next ∧ q.log = p.log) ∧
         (2 ≤ p.tracker.stray → q.tracker.state = .searching ∧ q.tracker.next = none ∧
           q.tracker.period = p.tracker.period ∧ q.log.next = p.log.next + 1 ∧ ∀ k, p.tracker.period = some k →
             p.recorded q 0 1 .fenceLost .info .line p.line.state
               [2, ((k / 4 : Nat) : Int), (history.length : Int)]))) ∧
  (∀ h : List Symbol, h.length < 5 → lockTest h = none) ∧
  (∀ (h : List Symbol) (a b c d e : Symbol),
     let is : List Int := [((b - a).toNat : Int), ((c - b).toNat : Int), ((d - c).toNat : Int), ((e - d).toNat : Int)]
     let total : Nat := (b - a).toNat + (c - b).toNat + (d - c).toNat + (e - d).toNat
     let tolerance := max 4 (total / 200)
     lockTest (h ++ [a, b, c, d, e]) =
       if (∀ i ∈ is, (4 * i - (total : Int)).natAbs ≤ 4 * tolerance) ∧ 8000 ≤ total ∧ total ≤ 48000 then
         some ⟨(total + 2) / 4, tolerance⟩
       else none) ∧
  (∀ (s : State) (f : Symbol), s.part.running = true →
     let p := s.part
     (p.tracker.window = some (f, true) →
       Completes .erasureWindowClose s { p with tracker := { p.tracker with window := none } }) ∧
     (p.tracker.window = some (f, false) → p.tracker.absence < 2 → ∀ (n : Symbol) (k : Nat),
       p.tracker.next = some n → p.tracker.period = some k →
       Completes .erasureWindowClose s
         { p with tracker := { p.tracker with
             window := none, absence := p.tracker.absence + 1, next := some (n + BitVec.ofNat 32 k) } }) ∧
     (p.tracker.window = some (f, false) → 2 ≤ p.tracker.absence →
       ∃ q : Part, Completes .erasureWindowClose s q ∧ q.tracker.state = .searching ∧ q.tracker.next = none ∧
         q.tracker.window = none ∧ q.tracker.history = p.tracker.history ∧ q.log.next = p.log.next + 1 ∧
         q.line = p.line ∧ q.monitor = p.monitor ∧ q.load = p.load ∧ ∀ k, p.tracker.period = some k →
           p.recorded q 0 1 .fenceLost .info .line p.line.state
             [1, ((k / 4 : Nat) : Int), (p.tracker.history.length : Int)]))

/-- The end of a monitoring period (R48, R62 to R64) whose worst margin is not below the minimum and whose average raises
nothing: each measured DOWN CARRY tone's average moves an eighth of the way to its sample, the counts are kept and
cleared, the severe run counts, the margins are stated, and the line goes on unchanged.
The period's triggers: the fortieth severe period drops the line with LOSS_OF_QUALITY (R63); the low run at 8 raises
MARGIN and the high run at 240 UPSHIFT, where the profile has it on (R65); a worst margin below the minimum sends the
part's own move where one is built (R66, R68, its number by log entry 55), and raises MOVE_FAILED where none is (R67).
What is built (R67): the donor gives its bits, the recipients with the highest margins take them, of equal margins the lowest
tones, and the gain sum is not above 0. A move is built exactly where as many recipients are eligible as the donor gives
bits, and the table's gain sum, less the donor's gain where the donor goes to b 0, is not above 0.
The margin of a loaded tone with an average is that average, rounded, less the gap and 12 for each bit; the average margin
is truncated toward zero; the worst margin stands at its lowest tone (R64).
That the part's move is in flight and its number used up also where a full outbound queue discards the MOVE is the model's
choice (log entry 69). -/
def Obligations.QuietPeriodUpdatesAveragesAndMargins : Prop :=
  (∀ s : State, s.part.running = true → s.part.inService = true →
     let p := s.part
     let l := p.load.update (p.band.mapInForce.getD [])
     let ms := marginsOf l.profileInForce.gap l.averages (p.line.downInForce.getD [])
     let severe := p.monitor.counts.errored + p.monitor.counts.impulse > 300
     let avg := averageMargin ms
     ((severe → p.monitor.severeRun < 39) → (∀ m ∈ ms, (l.profileInForce.minMargin : Int) ≤ m.m) →
       avg ≤ l.profileInForce.margin + 24 → l.profileInForce.minMargin ≤ avg →
       p.relayTarget = p.supply.relay → p.line.startPending = false →
       ∃ q : Part, Completes .monitoringPeriodEnd s q ∧ q.line.state = p.line.state ∧ q.line.move = p.line.move ∧
         q.line.reasons = p.line.reasons ∧ q.line.downInForce = p.line.downInForce ∧
         q.monitor.lastCounts = some p.monitor.counts ∧ q.monitor.counts = ⟨0, 0, 0, 0⟩ ∧
         (severe → q.monitor.severeRun = p.monitor.severeRun + 1) ∧ (¬ severe → q.monitor.severeRun = 0) ∧
         q.monitor.lowRun = 0 ∧ q.monitor.highRun = 0 ∧ q.monitor.average = some avg ∧
         q.monitor.worst = (lowest ms).map (fun x : Margin => (x.m, x.tone)) ∧ q.log = p.log ∧
         q.load.periodCount = 0 ∧
         ∀ t : Nat, t < 448 → ∀ a : Int, p.load.averages[t]? = some (some a) →
           q.load.averages[t]? = some (some (
             if p.load.periodCount ≠ 0 ∧ isDown (p.band.mapInForce.getD []) t = true then
               a + (max (-2560) (min 15360 ((p.load.periodSums.getD t 0).tdiv p.load.periodCount)) - a).tdiv 8
             else a))) ∧
     (severe → 39 ≤ p.monitor.severeRun → p.supply.state ≠ .cutoff →
       ∃ q : Part, Completes .monitoringPeriodEnd s q ∧ q.line.state = .dropped ∧ q.line.attempts = 1 ∧
         q.line.holdoff = some 1000 ∧ q.snapshot.map (·.cause) = some .lossOfQuality ∧
         q.log.next = p.log.next + 1 ∧ q.load.averages = l.averages) ∧
     (∀ r : Reason, (severe → p.monitor.severeRun < 39) →
       (r = .margin ∧ avg < l.profileInForce.minMargin ∧ 7 ≤ p.monitor.lowRun ∨
         r = .upshift ∧ l.profileInForce.minMargin ≤ avg ∧ l.profileInForce.margin + 24 < avg ∧
           239 ≤ p.monitor.highRun ∧ l.profileInForce.upshift = true) →
       ((p.line.state = .reshape ∨ p.line.move.isSome = true ∨ p.supply.state = .cutoff) →
         ∃ q : Part, Completes .monitoringPeriodEnd s q ∧ q.line.state = p.line.state ∧ q.line.move = p.line.move ∧
           (∀ x, x ∈ q.line.reasons ↔ x ∈ p.line.reasons ∨ x = r) ∧
           (r = .margin → q.monitor.lowRun = 0) ∧ (r = .upshift → q.monitor.highRun = 0) ∧ q.log = p.log) ∧
       (p.line.state = .carrying → p.line.move = none → p.supply.state ≠ .cutoff →
         payload (computeDown (perTone (resolve p.band.overlay p.band.windows)) p.load.setProfile l.averages
           (p.line.downInForce.getD [])) ≠ 0 →
         ∃ (q : Part) (x : Reshape), Completes .monitoringPeriodEnd s q ∧ q.line.state = .reshape ∧
           q.line.reasons = [] ∧ q.line.reshape = some x ∧
           (∀ y, y ∈ x.reasons ↔ y ∈ p.line.reasons ∨ y = r) ∧
           (r = .margin → q.monitor.lowRun = 0) ∧ (r = .upshift → q.monitor.highRun = 0))) ∧
     (∀ d, lowest ms = some d → (severe → p.monitor.severeRun < 39) →
       (avg < l.profileInForce.minMargin → p.monitor.lowRun < 7) →
       (l.profileInForce.margin + 24 < avg → p.monitor.highRun < 239 ∨ l.profileInForce.upshift = false) →
       d.m < l.profileInForce.minMargin → p.line.state = .carrying → p.line.move = none →
       p.line.reasons = [] → p.relayTarget = p.supply.relay →
       (∀ es, buildMove l.profileInForce (p.line.downInForce.getD []) ms d = some es →
         ∃ q : Part, Completes .monitoringPeriodEnd s q ∧ q.line.state = .carrying ∧
           q.line.move = some (.own p.line.nextMove es (p.line.symbol + 2000) none) ∧
           q.line.nextMove = p.line.nextMove + 1 ∧ q.line.downInForce = p.line.downInForce ∧ q.line.reasons = [] ∧
           (p.svc.outQ.length < 16 → q.svc.outQ = p.svc.outQ ++ [.move p.line.nextMove es])) ∧
       (buildMove l.profileInForce (p.line.downInForce.getD []) ms d = none → p.supply.state = .cutoff →
         ∃ q : Part, Completes .monitoringPeriodEnd s q ∧ q.line.state = .carrying ∧ q.line.move = none ∧
           q.line.reasons = [.moveFailed]) ∧
       (buildMove l.profileInForce (p.line.downInForce.getD []) ms d = none → p.supply.state ≠ .cutoff →
         payload (computeDown (perTone (resolve p.band.overlay p.band.windows)) p.load.setProfile l.averages
           (p.line.downInForce.getD [])) ≠ 0 →
         ∃ (q : Part) (x : Reshape), Completes .monitoringPeriodEnd s q ∧ q.line.state = .reshape ∧
           q.line.reshape = some x ∧ x.reasons = [.moveFailed] ∧ q.monitor.moveFailures = p.monitor.moveFailures))) ∧
  (∀ (gap : Int) (averages : List (Option Int)) (table : List LoadEntry),
     let ms := marginsOf gap averages table
     (ms.map fun x : Margin => x.tone) = ((List.range 448).filter fun t => (table.getD t ⟨0, 0⟩).b != 0) ∧
     (∀ x ∈ ms, x.entry = table.getD x.tone ⟨0, 0⟩ ∧ ∀ a : Int, averages.getD x.tone none = some a →
       x.m = (if 0 ≤ a then (a + 32) / 64 else -((-a + 32) / 64)) - gap - 12 * (x.entry.b : Int)) ∧
     averageMargin ms = (ms.map fun x : Margin => x.m).sum.tdiv ms.length ∧
     (lowest ms = none ↔ ms = []) ∧
     (∀ d : Margin, lowest ms = some d → d ∈ ms ∧ ∀ x ∈ ms, d.m ≤ x.m ∧ (x.m = d.m → d.tone ≤ x.tone)) ∧
     ∀ (f : Profile) (d : Margin), d ∈ ms →
       let eligible := ms.filter fun x => decide (x.tone ≠ d.tone ∧ 2 ≤ x.entry.b ∧ x.entry.b < f.maxBits ∧ f.margin + 12 ≤ x.m)
       ((buildMove f table ms d).isSome = true ↔
         (if 2 < d.entry.b then 1 else 2) ≤ eligible.length ∧
           (table.map (·.g)).sum - (if 2 < d.entry.b then 0 else d.entry.g) ≤ 0) ∧
       ∀ es, buildMove f table ms d = some es → ∀ e ∈ es.tail, ∀ x ∈ ms, x.tone = e.tone →
         ∀ z ∈ eligible, (∀ e' ∈ es, e'.tone ≠ z.tone) → z.m ≤ x.m ∧ (z.m = x.m → x.tone < z.tone)) ∧
  ∀ (f : Profile) (table : List LoadEntry) (ms : List Margin) (d : Margin) (es : List MoveEntry),
    buildMove f table ms d = some es →
    let eligible (x : Margin) : Prop :=
      x.tone ≠ d.tone ∧ 2 ≤ x.entry.b ∧ x.entry.b < f.maxBits ∧ f.margin + 12 ≤ x.m
    es.head? = some ⟨d.tone, if 2 < d.entry.b then ⟨d.entry.b - 1, d.entry.g⟩ else ⟨0, 0⟩⟩ ∧
      es.length = (if 2 < d.entry.b then 2 else 3) ∧ gainSum (applyMove table es) ≤ 0 ∧ (es.map (·.tone)).Nodup ∧
      ∀ e ∈ es.tail, ∃ x ∈ ms, x.tone = e.tone ∧ eligible x ∧ e.entry = ⟨x.entry.b + 1, x.entry.g⟩ ∧
        ∀ z ∈ ms, eligible z → (∀ e' ∈ es, e'.tone ≠ z.tone) → z.m ≤ x.m

/-- The part's own move (R68 to R70): a MOVE_ACK in range names its switch symbol, a MOVE_REFUSE or the timer's expiry
below the third failure gives it up, and its switch symbol puts its entries into the table and clears the failures.
The third failure, a MOVE_ACK out of range and one that comes after the timer raise MOVE_FAILED: it joins the
pending reasons, or starts at once a reshape that has a payload to offer. Where reasons are pending as a move
resolves, by its switch symbol or its refusal or abandonment, the reshape that carries them starts there, with the
part's RESHAPE_OFFER; in CUTOFF they stay pending (R69, R73). RATE_CHANGE, with the rates and modes then in force,
is posted at the switch symbol of the exchange unit's move where U changes, and at either's where the capacity rule
changes a mode, and not else (R69, R71, R142); both take the shrink and the growth in their order (R139, R140;
holds' records, log entry 89). The exchange unit's move (R58, R59, R71): one that fits, in range and valid is
answered MOVE_ACK and held; any other that fits is answered MOVE_REFUSE; one that does not fit is a receive error;
at its switch symbol its entries enter the upstream table. A MOVE fits its kind with the direction UP and one to
three entries on tones below 448; one that names a tone twice is DUPLICATE, and any other is validated as the table
with its entries put in (R58); a switch symbol is in range 40 to 8000 symbols ahead (R68, R71). That a MOVE_ACK
after the timer raises MOVE_FAILED each time it comes, the number of the abandoned move being kept until the part
sends its next one, is the model's choice (log entry 26): the clauses with lateMove, in CARRYING and in RESHAPE,
rest on it beside R70. That a MOVE_ACK out of range which is the third failure too raises MOVE_FAILED once is log
entry 87; a reshape that goes on where a full queue discards its messages is entry 77, the capacity rule under
last-report mode entry 71, and the cutback in an offer entry 93. -/
def Obligations.MovesAreAnsweredAndResolve : Prop :=
  let restarts (p q : Part) (offered : List LoadEntry) : Prop :=
    q.line.state = .reshape ∧ q.line.move = none ∧ q.line.reasons = [] ∧
      q.line.reshape = some ⟨p.line.reasons, p.line.symbol + 8000, false⟩ ∧ q.line.downOffered = some offered ∧
      q.line.nextTable = p.line.nextTable + 1 ∧
      q.band.offeredMap = some (perTone (resolve p.band.overlay p.band.windows)) ∧
      q.band.mapInForce = p.band.mapInForce ∧ q.load.offeredProfile = some p.load.setProfile ∧
      (p.svc.outQ.length < 8 → .reshapeOffer p.line.reasons p.supply.cutback ∈ q.svc.outQ) ∧
      (p.link.notices.length < 8 →
        .lineState .reshape .carrying p.line.attempts none p.line.reasons ∈ q.link.notices)
  let computed (p : Part) (down : Option (List LoadEntry)) : List LoadEntry :=
    computeDown (perTone (resolve p.band.overlay p.band.windows)) p.load.setProfile p.load.averages (down.getD [])
  let told (p q : Part) (changed : Bool) : Prop :=
    (changed = true ∨ q.mode .a ≠ p.mode .a ∨ q.mode .b ≠ p.mode .b → p.link.notices.length < 8 →
      .rateChange (32 * q.capP.getD 0) (32 * q.capU.getD 0) (q.mode .a) (q.mode .b) ∈ q.link.notices) ∧
    (changed = false → q.mode .a = p.mode .a → q.mode .b = p.mode .b → ∀ d u a b,
      .rateChange d u a b ∈ q.link.notices → .rateChange d u a b ∈ p.link.notices)
  (∀ (s : State) (n : Byte) (es : List MoveEntry) (dl a : Symbol), s.part.running = true →
     s.part.line.state = .carrying → s.part.refreshHeard = s.part → s.part.relayTarget = s.part.supply.relay →
     s.part.line.startPending = false →
     let p := s.part
     (p.line.move = some (.own n es dl none) → inMoveRange a p.line.symbol = true →
       Completes (.moveAck n a) s { p with line := { p.line with move := some (.own n es dl (some a)) } }) ∧
     (p.line.move = some (.own n es dl none) → p.monitor.moveFailures < 2 →
       p.line.reasons = [] ∨ p.supply.state = .cutoff →
       Completes (.moveRefuse n) s
         { p with
           line := { p.line with move := none }
           monitor := { p.monitor with moveFailures := p.monitor.moveFailures + 1 } } ∧
       Completes .moveAnswerTimeout s
         { p with
           line := { p.line with move := none, lateMove := some n }
           monitor := { p.monitor with moveFailures := p.monitor.moveFailures + 1 } }) ∧
     (p.line.move = some (.own n es dl none) → p.monitor.moveFailures < 2 → p.line.reasons ≠ [] →
       p.supply.state ≠ .cutoff →
       let table := computed p p.line.downInForce
       let bytes := table.map entryToByte
       payload table ≠ 0 → ∀ i, i = .moveRefuse n ∨ i = .moveAnswerTimeout →
       ∃ q : Part, Completes i s q ∧ restarts p q table ∧ q.line.downInForce = p.line.downInForce ∧
         q.line.upInForce = p.line.upInForce ∧
         q.monitor = { p.monitor with moveFailures := p.monitor.moveFailures + 1 } ∧
         q.line.lateMove = (if i = .moveAnswerTimeout then some n else p.line.lateMove) ∧
         (p.svc.outQ.length < 14 → q.svc.outQ = p.svc.outQ ++
           [.reshapeOffer p.line.reasons p.supply.cutback, .downTable p.line.nextTable 0 (bytes.take 224),
            .downTable p.line.nextTable 1 ((bytes.drop 224).take 224)])) ∧
     (p.line.move = some (.own n es dl (some a)) →
       (p.line.reasons = [] ∨ p.supply.state = .cutoff →
         ∃ q : Part, Completes .moveSwitch s q ∧ q.line.move = none ∧ q.monitor.moveFailures = 0 ∧
           q.line.downInForce = p.line.downInForce.map (applyMove · es) ∧ q.line.upInForce = p.line.upInForce ∧
           q.line.state = .carrying ∧ q.line.reasons = p.line.reasons ∧ q.band = p.band ∧ q.load = p.load ∧
           told p q false ∧ p.capacityApplied q .carrying p.view) ∧
       (p.line.reasons ≠ [] → p.supply.state ≠ .cutoff →
         let table := computed p (p.line.downInForce.map (applyMove · es))
         payload table ≠ 0 →
         ∃ q : Part, Completes .moveSwitch s q ∧ q.monitor.moveFailures = 0 ∧
           q.line.downInForce = p.line.downInForce.map (applyMove · es) ∧ q.line.upInForce = p.line.upInForce ∧
           restarts p q table ∧ told p q false ∧ p.capacityApplied q .carrying p.view)) ∧
     let raised (q : Part) : Prop :=
       q.line.move = none ∧ q.line.downInForce = p.line.downInForce ∧ q.line.upInForce = p.line.upInForce ∧
       (p.supply.state = .cutoff → q.line.state = .carrying ∧ q.svc = p.svc ∧
         ∀ r, r ∈ q.line.reasons ↔ r ∈ p.line.reasons ∨ r = .moveFailed) ∧
       (p.supply.state ≠ .cutoff → q.line.state = .reshape ∧ q.line.reasons = [] ∧
         ∃ x, q.line.reshape = some x ∧ x.deadline = p.line.symbol + 8000 ∧ x.upTaken = false ∧
           ∀ r, r ∈ x.reasons ↔ r ∈ p.line.reasons ∨ r = .moveFailed)
     (p.supply.state = .cutoff ∨ payload (computeDown (perTone (resolve p.band.overlay p.band.windows))
       p.load.setProfile p.load.averages (p.line.downInForce.getD [])) ≠ 0) →
     (p.line.move = some (.own n es dl none) → 2 ≤ p.monitor.moveFailures →
       (∃ q : Part, Completes (.moveRefuse n) s q ∧ q.monitor.moveFailures = 0 ∧ raised q) ∧
       ∃ q : Part, Completes .moveAnswerTimeout s q ∧ q.monitor.moveFailures = 0 ∧ q.line.lateMove = some n ∧
         raised q) ∧
     (p.line.move = some (.own n es dl none) → inMoveRange a p.line.symbol = false →
       ∃ q : Part, Completes (.moveAck n a) s q ∧ raised q ∧
         q.monitor.moveFailures = (if 2 ≤ p.monitor.moveFailures then 0 else p.monitor.moveFailures + 1)) ∧
     (p.line.move = none → p.line.lateMove = some n →
       ∃ q : Part, Completes (.moveAck n a) s q ∧ raised q ∧ q.monitor = p.monitor)) ∧
  (∀ (s : State) (n : Byte) (a : Symbol), s.part.running = true → s.part.line.state = .reshape →
     s.part.line.move = none → s.part.line.lateMove = some n →
     let p := s.part
     ∃ q : Part, Completes (.moveAck n a) s q ∧ q.line = { p.line with reasons := q.line.reasons } ∧
       q.band = p.band ∧ q.load = p.load ∧ q.monitor = p.monitor ∧
       ∀ r, r ∈ q.line.reasons ↔ r ∈ p.line.reasons ∨ r = .moveFailed) ∧
  (∀ (s : State) (m : MoveMsg), s.part.running = true → s.part.line.state = .carrying → s.part.svc.outQ.length < 16 →
     let p := s.part
     (moveFits m = true → p.line.move = none → inMoveRange m.switchAt p.line.symbol = true →
       validateMove (p.band.mapInForce.getD []) p.load.profileInForce.maxBits (p.line.upInForce.getD []) m.entries = none →
       Completes (.move m) s
         { p with
           line := { p.line with move := some (.far m.number m.entries m.switchAt) }
           svc := { p.svc with outQ := p.svc.outQ ++ [.moveAck m.number m.switchAt] } }) ∧
     (moveFits m = true →
       (p.line.move.isSome = true ∨ inMoveRange m.switchAt p.line.symbol = false ∨ ∃ c,
         validateMove (p.band.mapInForce.getD []) p.load.profileInForce.maxBits (p.line.upInForce.getD []) m.entries =
           some c) →
       Completes (.move m) s { p with svc := { p.svc with outQ := p.svc.outQ ++ [.moveRefuse m.number] } }) ∧
     (moveFits m = false →
       Completes (.move m) s { p with svc := { p.svc with rxErrors := min 65535 (p.svc.rxErrors + 1) } }) ∧
     (p.line.move = some (.far m.number m.entries m.switchAt) → p.relayTarget = p.supply.relay →
       let up := p.line.upInForce.map (applyMove · m.entries)
       let changed := decide (up.map payload ≠ p.capU)
       (p.line.reasons = [] ∨ p.supply.state = .cutoff →
         ∃ q : Part, Completes .upstreamMoveSwitch s q ∧ q.line.move = none ∧ q.line.upInForce = up ∧
           q.line.downInForce = p.line.downInForce ∧ q.line.state = .carrying ∧ q.line.reasons = p.line.reasons ∧
           q.band = p.band ∧ q.load = p.load ∧ told p q changed ∧ p.capacityApplied q .carrying p.view) ∧
       (p.line.reasons ≠ [] → p.supply.state ≠ .cutoff → payload (computed p p.line.downInForce) ≠ 0 →
         ∃ q : Part, Completes .upstreamMoveSwitch s q ∧ q.line.upInForce = up ∧
           q.line.downInForce = p.line.downInForce ∧ restarts p q (computed p p.line.downInForce) ∧
           told p q changed ∧ p.capacityApplied q .carrying p.view))) ∧
  (∀ (map : List Role) (maxBits : Nat) (table : List LoadEntry) (es : List MoveEntry),
     (¬ (es.map (·.tone)).Nodup → validateMove map maxBits table es = some (.duplicate, 0)) ∧
     ((es.map (·.tone)).Nodup →
       validateMove map maxBits table es = validateTable map maxBits (applyMove table es) ∧
       (applyMove table es).length = table.length ∧
       (∀ x ∈ es, x.tone < table.length → (applyMove table es)[x.tone]? = some x.entry) ∧
       ∀ t : Nat, (∀ x ∈ es, x.tone ≠ t) → (applyMove table es)[t]? = table[t]?)) ∧
  (∀ x : MoveMsg, moveFits x = true ↔
     x.dir = .up ∧ 1 ≤ x.entries.length ∧ x.entries.length ≤ 3 ∧ ∀ e ∈ x.entries, e.tone < 448) ∧
  ∀ a now : Symbol,
    (inMoveRange a now = true ↔ 40 ≤ (a - now).toNat ∧ (a - now).toNat ≤ 8000) ∧
    inMoveRange (now + 39) now = false ∧ inMoveRange (now + 40) now = true ∧ inMoveRange (now + 8000) now = true ∧
    inMoveRange (now + 8001) now = false

/-- Reshapes (R72, R75 to R79): an offer that comes while a move is in flight leaves FAR_END alone pending, whatever it
carries (log entry 36); one that comes with none in flight starts the reshape at once, with FAR_END, its reasons and
the pending ones, and with no offer of the part's own; one that crosses the part's own offer adds its reasons to the
open reshape, and one after the UP_TABLE leaves FAR_END pending (R75); the first complete UP_TABLE of a reshape,
where valid, is held and its switch symbol named, or, where that symbol falls at or after the deadline, held with no
SWITCH sent (R77). A confirmed switch puts the offered tables, map and profile in force, clears the count of
abandonments and the monitor's low and high runs and move failures, adds 1 to the session's reshapes, saturating at
255, and posts LINE_STATE and RATE_CHANGE (R36, R78); the shrink and the growth follow in their order (R139, R140;
records of holds, log entry 89); a rate below the floor of the profile now in force makes the LOW_RATE_IN_SERVICE
record with the two rates, the floor and the number of loaded tones (R56); with reasons pending the next reshape
starts there and carries them (R73, R78). An invalid UP_TABLE, rejected by name, the exchange unit's TABLE_REJECT
and the deadline abandon the reshape with a RESHAPE_ABANDONED record of cause REJECTED_UP, REJECTED_DOWN or TIMEOUT
(codes 2, 3 and 4, R210), the count, the number of its reasons and the failing check, or 0; the tables in force
stay; at the third time in a row the line drops, or else, with reasons pending, the next reshape starts with them
(R73, R76, R79). A reshape whose computed payload is 0 sends no DOWN_TABLE and is abandoned as it starts, with a
RESHAPE_ABANDONED record of cause NO_PAYLOAD (code 1, R210), the count and the number of its reasons (R55, R76,
R79); it counts, and at the third time in a row drops the line. That a DOWN_TABLE whose segments a full outbound
queue discards uses up its number is the model's choice (log entry 77), that the capacity rule applies at the
switch symbol under last-report mode is log entry 71, and that an offer carries the cutback of its placing is log
entry 93. -/
def Obligations.ReshapesSwitchOrAreAbandoned : Prop :=
  ∀ s : State, s.part.running = true → s.part.supply.state ≠ .cutoff →
    let p := s.part
    let restarts (q : Part) (offered : List LoadEntry) : Prop :=
      q.line.state = .reshape ∧ q.line.reasons = [] ∧
        q.line.reshape = some ⟨p.line.reasons, p.line.symbol + 8000, false⟩ ∧ q.line.downOffered = some offered ∧
        q.line.upOffered = none ∧ q.line.switch = none ∧ q.line.nextTable = p.line.nextTable + 1 ∧
        q.band.offeredMap = some (perTone (resolve p.band.overlay p.band.windows)) ∧
        q.load.offeredProfile = some p.load.setProfile ∧
        (p.svc.outQ.length < 8 → .reshapeOffer p.line.reasons p.supply.cutback ∈ q.svc.outQ)
    let computed (down : Option (List LoadEntry)) : List LoadEntry :=
      computeDown (perTone (resolve p.band.overlay p.band.windows)) p.load.setProfile p.load.averages (down.getD [])
    let abandonedBy (i : Instr) (code check : Nat) (sent : List Msg) : Prop :=
      ∀ x, p.line.reshape = some x →
      let recorded (q : Part) (room : Nat) : Prop := p.log.records.length < room →
        ∃ z ∈ q.log.records, z.seq = p.log.next ∧ z.kind = .reshapeAbandoned ∧ z.severity = .minor ∧ z.source = .line ∧
          z.lineState = .reshape ∧
          z.details = [(code : Int), (p.line.abandoned : Int) + 1, (x.reasons.length : Int), (check : Int)]
      let kept (q : Part) : Prop :=
        q.line.abandoned = p.line.abandoned + 1 ∧ q.line.downInForce = p.line.downInForce ∧
          q.line.upInForce = p.line.upInForce ∧ q.band.mapInForce = p.band.mapInForce ∧
          q.load.profileInForce = p.load.profileInForce ∧ q.log.next = p.log.next + 1 ∧ recorded q 32 ∧
          (p.relayTarget = p.supply.relay → p.svc.outQ.length < 16 → ∀ m ∈ sent, m ∈ q.svc.outQ) ∧
          (p.link.notices.length < 15 →
            .lineState .carrying .reshape p.line.attempts none [] ∈ q.link.notices)
      (p.line.abandoned < 2 → p.line.reasons = [] →
        ∃ q : Part, Completes i s q ∧ kept q ∧ q.line.state = .carrying ∧ q.line.downOffered = none ∧
          q.line.upOffered = none ∧ q.line.switch = none ∧ q.line.segs = none ∧ q.line.reshape = none ∧
          q.band.offeredMap = none ∧ q.load.offeredProfile = none ∧ q.line.nextTable = p.line.nextTable) ∧
      (p.line.abandoned < 2 → p.line.reasons ≠ [] → p.line.move = none →
        payload (computed p.line.downInForce) ≠ 0 →
        ∃ q : Part, Completes i s q ∧ kept q ∧ restarts q (computed p.line.downInForce)) ∧
      (2 ≤ p.line.abandoned →
        ∃ q : Part, Completes i s q ∧ q.line.state = .dropped ∧ (q.snapshot.map (·.cause)) = some .reshapeFailed ∧
          q.log.next = p.log.next + 2 ∧ recorded q 31)
    (∀ rs : List Reason, p.line.state = .carrying → p.line.move.isSome = true →
      ∃ q : Part, Completes (.reshapeOffer rs) s q ∧ q.line.state = .carrying ∧ Reason.farEnd ∈ q.line.reasons ∧
        (∀ r, r ≠ .farEnd → (r ∈ q.line.reasons ↔ r ∈ p.line.reasons)) ∧ q.line.move = p.line.move ∧ q.log = p.log) ∧
    (let table := computeDown (perTone (resolve p.band.overlay p.band.windows)) p.load.setProfile p.load.averages
       (p.line.downInForce.getD [])
     let bytes := table.map entryToByte
     payload table ≠ 0 → p.line.move = none →
     ∀ rs : List Reason, p.line.state = .carrying → p.relayTarget = p.supply.relay →
       ∃ (q : Part) (x : Reshape), Completes (.reshapeOffer rs) s q ∧ q.line.state = .reshape ∧
         q.line.reshape = some x ∧ x.deadline = p.line.symbol + 8000 ∧ x.upTaken = false ∧
         (∀ r, r ∈ x.reasons ↔ r = .farEnd ∨ r ∈ rs ∨ r ∈ p.line.reasons) ∧ q.line.reasons = [] ∧
         q.line.downOffered = some table ∧ q.line.downInForce = p.line.downInForce ∧
         q.line.upInForce = p.line.upInForce ∧ q.line.nextTable = p.line.nextTable + 1 ∧
         q.band.offeredMap = some (perTone (resolve p.band.overlay p.band.windows)) ∧
         q.band.mapInForce = p.band.mapInForce ∧ q.load.offeredProfile = some p.load.setProfile ∧ q.log = p.log ∧
         (p.svc.outQ.length < 15 → q.svc.outQ = p.svc.outQ ++
           [.downTable p.line.nextTable 0 (bytes.take 224),
            .downTable p.line.nextTable 1 ((bytes.drop 224).take 224)])) ∧
    (∀ rs : List Reason, p.line.state = .carrying → p.line.move = none →
      payload (computeDown (perTone (resolve p.band.overlay p.band.windows)) p.load.setProfile p.load.averages
        (p.line.downInForce.getD [])) = 0 →
      (p.line.abandoned < 2 → p.relayTarget = p.supply.relay →
        ∃ (q : Part) (carried : List Reason), Completes (.reshapeOffer rs) s q ∧ q.line.state = .carrying ∧
          q.line.abandoned = p.line.abandoned + 1 ∧ q.line.reasons = [] ∧ q.line.reshape = none ∧
          q.line.downOffered = none ∧ q.line.upOffered = none ∧ q.line.downInForce = p.line.downInForce ∧
          q.line.upInForce = p.line.upInForce ∧ q.line.nextTable = p.line.nextTable ∧ q.band.offeredMap = none ∧
          q.band.mapInForce = p.band.mapInForce ∧ q.load.offeredProfile = none ∧
          q.load.profileInForce = p.load.profileInForce ∧ q.log.next = p.log.next + 1 ∧
          (∀ m ∈ q.svc.outQ, m ∈ p.svc.outQ ∨ ∃ z, m = .faultReport z) ∧
          (∀ r, r ∈ carried ↔ r = .farEnd ∨ r ∈ rs ∨ r ∈ p.line.reasons) ∧ (p.line.reasons.Nodup → carried.Nodup) ∧
          (p.log.records.length < 32 → ∃ z ∈ q.log.records, z.seq = p.log.next ∧ z.kind = .reshapeAbandoned ∧
            z.severity = .minor ∧ z.source = .line ∧ z.lineState = .reshape ∧
            z.details = [1, (p.line.abandoned : Int) + 1, (carried.length : Int), 0])) ∧
      (2 ≤ p.line.abandoned →
        ∃ q : Part, Completes (.reshapeOffer rs) s q ∧ q.line.state = .dropped ∧
          (q.snapshot.map (·.cause)) = some .reshapeFailed ∧ q.log.next = p.log.next + 2)) ∧
    (∀ (rs : List Reason) (x : Reshape), p.line.state = .reshape → p.line.reshape = some x →
      ∃ q : Part, Completes (.reshapeOffer rs) s q ∧ q.band = p.band ∧ q.load = p.load ∧
        (x.upTaken = false → ∃ y, q.line.reshape = some y ∧ y.deadline = x.deadline ∧ y.upTaken = false ∧
          q.line = { p.line with reshape := some y } ∧ ∀ r, r ∈ y.reasons ↔ r ∈ rs ∨ r ∈ x.reasons) ∧
        (x.upTaken = true → q.line = { p.line with reasons := q.line.reasons } ∧
          ∀ r, r ∈ q.line.reasons ↔ r = .farEnd ∨ r ∈ p.line.reasons)) ∧
    (p.line.state = .reshape → ∀ x, p.line.reshape = some x → ∀ (n : Byte) (es : List Byte),
      p.line.segs = some ⟨n, some es, none⟩ → ∀ fs : List Byte, fs.length = 224 →
      let table := (es ++ fs).map entryOfByte
      let verdict := validateTable (p.band.offeredMap.getD []) ((p.load.offeredProfile.map (·.maxBits)).getD 0) table
      (x.upTaken = false → verdict = none → later x.deadline (p.line.symbol + 200) = true → p.svc.outQ.length < 16 →
        p.relayTarget = p.supply.relay →
        ∃ q : Part, Completes (.upTable n 1 fs) s q ∧ q.line.state = .reshape ∧ q.line.upOffered = some table ∧
          q.line.reshape = some { x with upTaken := true } ∧ q.line.segs = none ∧
          q.line.switch = some ⟨p.line.symbol + 200, true, false, false⟩ ∧
          q.svc.outQ = p.svc.outQ ++ [.switch (p.line.symbol + 200)] ∧ q.line.upInForce = p.line.upInForce) ∧
      (x.upTaken = false → verdict = none → later x.deadline (p.line.symbol + 200) = false →
        p.relayTarget = p.supply.relay →
        ∃ q : Part, Completes (.upTable n 1 fs) s q ∧ q.svc = p.svc ∧
          q.line = { p.line with
            segs := none, upOffered := some table, upValid := true, reshape := some { x with upTaken := true } } ∧
          q.band = p.band ∧ q.load = p.load ∧ q.log = p.log) ∧
      (∀ c t, x.upTaken = false → verdict = some (c, t) →
        abandonedBy (.upTable n 1 fs) 2 (checkCode c) [.tableReject n c t]) ∧
      (x.upTaken = true → p.relayTarget = p.supply.relay →
        ∃ q : Part, Completes (.upTable n 1 fs) s q ∧ q.line = { p.line with segs := none } ∧ q.svc = p.svc)) ∧
    (p.line.state = .reshape → p.line.confirmed = true →
      let down := p.line.downOffered.getD []
      let up := p.line.upOffered.getD []
      let profile := p.load.offeredProfile.getD p.load.profileInForce
      let rate : Int := 32 * payload down
      let switched (q : Part) : Prop :=
        q.line.downInForce = p.line.downOffered ∧ q.line.upInForce = p.line.upOffered ∧
          q.band.mapInForce = p.band.offeredMap ∧ q.load.profileInForce = profile ∧ q.line.abandoned = 0 ∧
          q.monitor = { p.monitor with lowRun := 0, highRun := 0, moveFailures := 0 } ∧
          q.line.session = p.line.session.map (fun z => { z with reshapes := min 255 (z.reshapes + 1) }) ∧
          q.tracker = p.tracker ∧ q.load.averages = p.load.averages ∧ q.band.windows = p.band.windows ∧
          (p.relayTarget = p.supply.relay → p.link.notices.length < 8 →
            .lineState .carrying .reshape p.line.attempts none [] ∈ q.link.notices ∧
            .rateChange (32 * payload down) (32 * payload up) (q.mode .a) (q.mode .b) ∈ q.link.notices) ∧
          (rate < profile.floor → p.log.records.length < 30 →
            ∃ z ∈ q.log.records, z.kind = .lowRateInService ∧ z.severity = .minor ∧ z.source = .line ∧
              z.lineState = .carrying ∧
              z.details = [rate, profile.floor, 32 * (payload up : Int),
                ((down.filter fun e => decide (e.b ≠ 0)).length : Int)]) ∧
          (p.relayTarget = p.supply.relay → p.capacityApplied q .carrying p.view) ∧
          (p.sched.slotA = .empty → p.sched.slotB = .empty →
            q.log.next = p.log.next + (if rate < profile.floor then 1 else 0))
      (p.line.reasons = [] →
        ∃ q : Part, Completes .reshapeSwitch s q ∧ switched q ∧ q.line.state = .carrying ∧ q.line.downOffered = none ∧
          q.line.upOffered = none ∧ q.band.offeredMap = none ∧ q.load.offeredProfile = none ∧ q.line.reshape = none) ∧
      (p.line.reasons ≠ [] → p.line.move = none → payload (computed p.line.downOffered) ≠ 0 →
        ∃ q : Part, Completes .reshapeSwitch s q ∧ switched q ∧ restarts q (computed p.line.downOffered))) ∧
    (p.line.state = .reshape → abandonedBy .reshapeTimeout 4 0 [] ∧
      ∀ (n : Byte) (c : Check) (t : Nat), abandonedBy (.tableReject n c t) 3 0 [])

/-! ### Upstream scheduling and frames -/

/-- The arrangement and the hold (R138, R141): the earliest channel switch symbol brings its port's channel into the
arrangement; a hold that runs out releases its port, which is PARKED with its channel ended. The capacity rule
(R139, R140) at a channel switch symbol: with two bytes the channel that enters shrinks to HALF; with one its port
is HELD for 30 s, told and recorded; with the other port's slots given up, a HALF channel grows to FULL and a HELD
port is CONNECTED again and told. With both ports in the arrangement the steps are taken in the rule's order: port B
to HALF, port A to HALF, port B to HELD, port A to HELD, then port A from HELD, port B from HELD, port A to FULL,
port B to FULL. A change of mode is told in a RATE_CHANGE notice (R142). That a hold's records stand behind all four
steps, port B's first, is the model's choice (log entry 89), and so is that the rule runs once for each command of a
symbol (log entry 82). That the shrink and the growth apply also under last-report mode is the model's choice (log
entry 71), and so is that the released port is no longer announced where its SIGNAL ON_HOOK is discarded at a queue
full of SIGNALs (log entry 78). -/
def Obligations.ChannelSwitchesAndHoldsAct : Prop :=
  ∀ (s : State) (x : PortId), s.part.running = true → s.part.inService = true →
    let p := s.part
    (∀ (a : Symbol) (ch : Channel), p.sched.switches = [⟨x, a, .begin⟩] → p.chan x = some ch → ch.active = true →
      ch.mode = .full → p.slot (other x) = .empty →
      (3 ≤ p.capC →
        ∃ q : Part, Completes .channelSwitch s q ∧ q.slot x = .live ∧ q.slot (other x) = .empty ∧ q.sched.switches = [] ∧
          q.alloc x = 2 ∧ q.demand = 2 ∧ q.line = p.line ∧ q.chan x = some ch ∧ q.log = p.log) ∧
      (p.capC = 2 →
        ∃ q : Part, Completes .channelSwitch s q ∧ q.slot x = .live ∧ q.chan x = some { ch with mode := .half } ∧
          q.demand = 1 ∧ q.line = p.line ∧ q.log = p.log ∧ q.svc = p.svc ∧
          (p.link.notices.length < 16 →
            Notice.rateChange (32 * p.capP.getD 0) (32 * p.capU.getD 0) (q.mode .a) (q.mode .b) ∈ q.link.notices)) ∧
      (p.capC = 1 → (p.port x).state = .connected → p.portB.state ≠ .joined →
        ∃ q : Part, Completes .channelSwitch s q ∧ (q.port x).state = .held ∧ q.hold x = some 30000 ∧
          q.chan x = some { ch with mode := .half, active := false } ∧ q.demand = 0 ∧ q.line = p.line ∧
          q.log.next = p.log.next + 1 ∧ (p.svc.outQ.length < 16 → Msg.signal x .capacityHold ∈ q.svc.outQ) ∧
          (p.log.records.length < 32 → ∃ r ∈ q.log.records, r.seq = p.log.next ∧ r.kind = .capacityHold ∧
            r.details = [((p.capU.getD 0 : Nat) : Int), ((p.capP.getD 0 : Nat) : Int), 0, 2]))) ∧
    (∀ (a : Symbol) (m : Mode) (b : Bool) (ch : Channel), p.sched.switches = [⟨other x, a, .finish⟩] →
      p.slot (other x) = .ended m b → p.slot x = .live → p.chan x = some ch →
      (ch.active = true → ch.mode = .half → 3 ≤ p.capC →
        ∃ q : Part, Completes .channelSwitch s q ∧ q.slot (other x) = .empty ∧ q.demand = 2 ∧
          q.chan x = some { ch with mode := .full } ∧ q.line = p.line ∧ q.log = p.log ∧ q.svc = p.svc) ∧
      (ch.active = false → (p.port x).state = .held → 2 ≤ p.capC →
        ∃ q : Part, Completes .channelSwitch s q ∧ (q.port x).state = .connected ∧ q.hold x = none ∧
          q.chan x = some { ch with mode := if 3 ≤ p.capC then .full else .half, active := true } ∧
          q.slot (other x) = .empty ∧ q.line = p.line ∧ q.log.next = p.log.next ∧
          (p.svc.outQ = [] → q.svc.outQ = [.signal x .capacityResume]))) ∧
    (∀ (a : Symbol) (w : SwitchEvent) (ws : List ChanSwitch), p.sched.switches = ⟨x, a, w⟩ :: ws → (∀ z ∈ ws, z.at_ ≠ a) →
      let place (y : PortId) : Place :=
        if y = x then
          match w with
          | .begin => (p.chan x).map fun c => (c.mode, c.active)
          | .beginEnded m b => some (m, b)
          | .finish => none
        else p.view y
      ∃ q : Part, Completes .channelSwitch s q ∧ q.sched.switches = ws ∧ q.line = p.line ∧
        p.capacityApplied q p.line.state place ∧
        ((q.mode .a ≠ p.mode .a ∨ q.mode .b ≠ p.mode .b) → p.link.notices.length < 8 →
          Notice.rateChange (32 * p.capP.getD 0) (32 * p.capU.getD 0) (q.mode .a) (q.mode .b) ∈ q.link.notices)) ∧
    ((p.port x).state = .held → (p.hold x).isSome = true →
      ∃ q : Part, Completes (.holdTimeout x) s q ∧ (q.port x).state = .parked ∧ q.chan x = none ∧ q.hold x = none ∧
        (q.port x).announced = false ∧ (q.port x).howler = some 60000 ∧ q.line = p.line ∧ q.load = p.load ∧
        q.band = p.band ∧ q.log.next = p.log.next)

/-- The bytes of an upstream symbol (R133 to R135, R144): with the voice demand and the management byte within U, a symbol
has exactly U bytes: the next byte of the service stream or 0; the voice bytes of port A and of port B (those of an ended
channel by log entry 19); up to four bytes more of the service stream; and the bytes of the frame records, then 255. The
voice bytes of a live active channel are the codes of its two samples, the earlier first (R119, R121, R123): FULL, a byte
each, sign 128, segment times 16, step; HALF, one byte of both half codes, sign 8 and segment, the earlier in the high half.
The streams go on where the symbol left them, and the transmitter drives the loaded upstream tones at their gain less the
cutback (R15, R59). While a record waits with none in flight, a report joins the stream behind it and is left out here.
Under last-report mode the remainder of a begun message goes ahead of the report, and zeros follow.
A slow-framing symbol (R20, R26, R46): in SOUNDING the transmitter sends nothing of the queue and the counter stands; in
MEASURING and LOADING the next byte of the service stream goes out, or 0 (log entry 53), and the counter rises; in
MEASURING the clamped measurements are added.
A service message is its kind, the length of its body, its body and a check byte that brings the sum of all its bytes to 0
modulo 256, at most 253 bytes in all for a table segment of 224 entries and a reply piece of at most 247 bytes (R20,
R210). -/
def Obligations.UpstreamBytesFillEachSymbol : Prop :=
  (∀ s : State, s.part.running = true → s.part.inService = true →
     let p := s.part
     let u := p.capU.getD 0
     let half (c : Code) : Nat := (if c.negative then 8 else 0) + c.segment
     let full (c : Code) : Nat := 16 * half c + c.step
     let voice (x : PortId) : List Byte :=
       let y := match x with | .a => p.voice.upA | .b => p.voice.upB
       match p.slot x, p.chan x with
       | .live, some c =>
         if c.active then
           match c.mode with
           | .full => [BitVec.ofNat 8 (full (compress y.1)), BitVec.ofNat 8 (full (compress y.2))]
           | .half => [BitVec.ofNat 8 (16 * half (compress y.1) + half (compress y.2))]
         else []
       | .ended m true, _ => List.replicate (match m with | .full => 2 | .half => 1) 0
       | _, _ => []
     let va := voice .a
     let vb := voice .b
     let stream := p.sched.burst.bytes ++ (p.svc.outQ.map Msg.bytes).flatten
     let frames := (p.sched.upQueue.map frameRecord).flatten.drop p.sched.headPlaced
     let burst := (stream.drop 1).take (min 4 (u - (1 + va.length + vb.length)))
     let room := u - (1 + va.length + vb.length) - burst.length
     (p.sched.lastReport = none → 1 + va.length + vb.length ≤ u →
       ∃ q : Part, Completes .upstreamSymbolFill s q ∧ q.sched.upSymbol.length = u ∧ q.line = p.line ∧ q.load = p.load ∧
         q.band = p.band ∧ q.voice = p.voice ∧ q.portA = p.portA ∧ q.portB = p.portB ∧ q.supply = p.supply ∧
         (q.sched.upSymbol.drop 1).take va.length = va ∧
         (p.line.transmitter = .service → p.loopTesting = false →
           q.sched.upDrive = .tones (((List.range 448).filter fun t =>
               isUp (p.band.mapInForce.getD []) t && decide (((p.line.upInForce.getD []).getD t ⟨0, 0⟩).b ≠ 0)).map fun t =>
             let e := (p.line.upInForce.getD []).getD t ⟨0, 0⟩
             ⟨t, e.b, some (e.g - (p.supply.cutback : Int))⟩)) ∧
         ((p.log.inFlight.isSome = true ∨ ∀ r ∈ p.log.records, r.delivery ≠ .toSend) →
           (∀ f fs, p.sched.upQueue = f :: fs → p.sched.headPlaced < f.length + 2) →
           q.sched.upSymbol =
             stream.headD 0 :: va ++ vb ++ burst ++ (frames ++ List.replicate room 255).take room ∧
           q.sched.burst.bytes ++ (q.svc.outQ.map Msg.bytes).flatten = stream.drop (1 + burst.length) ∧
           (q.sched.upQueue.map frameRecord).flatten.drop q.sched.headPlaced = frames.drop room)) ∧
     ∀ r : List Byte, p.sched.lastReport = some r →
       ∃ q : Part, Completes .upstreamSymbolFill s q ∧ q.sched.upSymbol.length = u ∧
         q.sched.upSymbol = (p.sched.burst.bytes ++ r ++ List.replicate u 0).take u ∧
         q.sched.lastReport = some (r.drop (u - p.sched.burst.bytes.length)) ∧ q.line = p.line ∧ q.svc = p.svc ∧
         q.log = p.log ∧ q.sched.upQueue = p.sched.upQueue) ∧
  (∀ (s : State) (b : Byte) (snr : List Int), s.part.running = true →
     let p := s.part
     let stream := p.sched.burst.bytes ++ (p.svc.outQ.map Msg.bytes).flatten
     (p.line.state = .sounding →
       ∃ q : Part, Completes (.slowFramingSymbol b snr) s q ∧ q.line = p.line ∧ q.svc.outQ = p.svc.outQ ∧
         q.sched.upSymbol = [] ∧ q.load = p.load) ∧
     ((p.line.state = .measuring ∨ p.line.state = .loading) →
       ∃ q : Part, Completes (.slowFramingSymbol b snr) s q ∧ q.line = { p.line with symbol := p.line.symbol + 1 } ∧
         q.sched.upSymbol = [stream.headD 0] ∧ q.band = p.band ∧ q.load.averages = p.load.averages ∧
         q.sched.burst.bytes ++ (q.svc.outQ.map Msg.bytes).flatten = stream.drop 1 ∧
         (p.line.state = .loading → q.load = p.load) ∧
         (p.line.state = .measuring → q.load.measureCount = p.load.measureCount + 1 ∧
           ∀ t : Nat, t < 448 → t < snr.length → q.load.measureSums.getD t 0 =
             p.load.measureSums.getD t 0 + max (-2560) (min 15360 (snr.getD t 0))))) ∧
  ∀ x : Msg, ∃ (kind check : Byte) (body : List Byte),
    x.bytes = kind :: BitVec.ofNat 8 body.length :: body ++ [check] ∧ x.bytes.foldr (· + ·) 0 = 0 ∧
    kind = (match x with
      | .confirm => 3 | .downTable .. => 4 | .tableReject .. => 6 | .switch _ => 7 | .reshapeOffer .. => 9 | .move .. => 10
      | .moveAck .. => 11 | .moveRefuse _ => 12 | .signal .. => 13 | .faultReport _ => 19 | .operatorReply .. => 22) ∧
    ((match x with
      | .downTable _ _ es => decide (es.length = 224)
      | .operatorReply _ _ _ bs => decide (bs.length ≤ 247)
      | _ => true) = true → body.length ≤ 250) ∧
    (x = .confirm → body = []) ∧
    (∀ n seg es, x = .downTable n seg es → body = n :: BitVec.ofNat 8 seg :: es) ∧
    ∀ r, x = .faultReport r → body = r.bytes

/-- The stream port upstream (R143, R188; the operand is log entry 51): a frame begins only at a port that is not held
off, one at a time. At its last byte a frame cut off by a closure has been counted; one doomed by the end of service, or
that comes out of service or closed, is lost; below 64 or above 1536 bytes it is refused; with 24 frames queued it waits
outside and changes nothing (log entry 3); else it joins. A closure discards the queued frames but a head partly placed,
and counts a frame in arrival as lost. That a last byte with no frame begun counts so, also while the port is held off, is the model's
choice (log entry 51).
Downstream (R146): a frame record is assembled from the data bytes, and the complete frame joins a buffer of fewer than
four at an open port, with its erased mark, or is dropped and counted; a length out of range is a framing error and
discards up to the next fill value. The service channel takes the management byte (R20, R84): an idle 0 between messages
is skipped, and a message is complete with its check byte (framing by the decoded value, log entry 54; an erased length
byte of a record marks its frame, log entry 43); the symbol is none that locks the tracker. The port takes the oldest
downstream frame. -/
def Obligations.StreamPortFramesAreQueued : Prop :=
  (∀ s : State, s.part.running = true →
    let p := s.part
    let lost (n : Nat) (d : Sched) : Sched := { d with framesLost := min 4294967295 (d.framesLost + n) }
    let ended : Sched := { p.sched with arrival := .idle }
    ((p.inService = true ∧ p.dataOpen = true ∧ p.sched.upQueue.length < 24 ∧ p.sched.arrival = .idle) →
      Completes (.upstreamFrameArrival none) s { p with sched := { p.sched with arrival := .begun } }) ∧
    ((p.inService = false ∨ p.dataOpen = false ∨ 24 ≤ p.sched.upQueue.length ∨ p.sched.arrival ≠ .idle) →
      Completes (.upstreamFrameArrival none) s p) ∧
    (∀ f : List Byte,
      (p.sched.arrival = .cut → Completes (.upstreamFrameArrival (some f)) s { p with sched := ended }) ∧
      (p.sched.arrival = .doomed ∨ p.sched.arrival ≠ .cut ∧ (p.inService = false ∨ p.dataOpen = false) →
        Completes (.upstreamFrameArrival (some f)) s { p with sched := lost 1 ended }) ∧
      (p.sched.arrival = .idle ∨ p.sched.arrival = .begun → p.inService = true → p.dataOpen = true →
        (f.length < 64 ∨ 1536 < f.length →
          Completes (.upstreamFrameArrival (some f)) s
            { p with sched := { ended with framesRefused := min 4294967295 (p.sched.framesRefused + 1) } }) ∧
        (64 ≤ f.length → f.length ≤ 1536 → p.sched.upQueue.length < 24 →
          Completes (.upstreamFrameArrival (some f)) s
            { p with sched := { ended with upQueue := p.sched.upQueue ++ [f] } }) ∧
        (64 ≤ f.length → f.length ≤ 1536 → 24 ≤ p.sched.upQueue.length →
          Completes (.upstreamFrameArrival (some f)) s p))) ∧
    (p.link.silenceTimer.isSome = true → p.link.hostSilent = false → p.dataOpen = true →
      let kept := if p.sched.headPlaced = 0 then 0 else 1
      let arriving := p.sched.arrival = .begun ∨ p.sched.arrival = .doomed
      ∃ q : Part, Completes .hostSilenceTimeout s q ∧ q.dataOpen = false ∧
        q.sched.upQueue = p.sched.upQueue.take kept ∧ q.sched.headPlaced = p.sched.headPlaced ∧ q.sched.downBuffer = [] ∧
        (arriving → q.sched.arrival = .cut) ∧ (¬ arriving → q.sched.arrival = p.sched.arrival) ∧
        q.sched.framesLost = min 4294967295
          (p.sched.framesLost + ((p.sched.upQueue.length - kept) + if arriving then 1 else 0)) ∧
        q.sched.framesDropped = min 4294967295 (p.sched.framesDropped + p.sched.downBuffer.length)) ∧
    (p.inService = true → p.supply.state ≠ .cutoff →
      ∃ q : Part, Completes .drop s q ∧ q.sched.upQueue = [] ∧ q.sched.downBuffer = p.sched.downBuffer ∧
        q.sched.framesLost = min 4294967295 (p.sched.framesLost + p.sched.upQueue.length) ∧
        q.sched.arrival = (if p.sched.arrival = .begun then .doomed else p.sched.arrival)) ∧
    (∀ x xs, p.sched.downBuffer = x :: xs →
      Completes .streamPortTakesFrame s
        { p with sched := { p.sched with downBuffer := xs, streamOut := some x } }) ∧
    (p.sched.downBuffer = [] → Completes .streamPortTakesFrame s p)) ∧
  (∀ (s : State) (d : DownSymbol) (erased : Bool), s.part.running = true → s.part.inService = true →
    let p := s.part
    (erased = false → p.tracker.state ≠ .locked ∧ p.tracker.window = none) →
    (erased = true → ∃ w, p.tracker.window = some w ∧ (p.line.symbol - w.1).toNat < 13) →
    let impulse : Bool := !d.sync ||
      decide (((p.line.downInForce.getD []).filter fun e => decide (e.b ≠ 0)).length < 4 * d.errored)
    let opens : Bool := impulse && match p.tracker.event with
      | none => true
      | some (_, last) => decide (5 < (p.line.symbol - last).toNat)
    (p.tracker.state = .searching → opens = true →
      lockTest ((p.tracker.history ++ [p.line.symbol]).drop (p.tracker.history.length + 1 - 8)) = none) →
    let data := (d.bytes.take (p.capP.getD 0)).drop (1 + p.alloc .a + p.alloc .b)
    ∃ q : Part, Completes (.downstreamSymbol d) s q ∧
      q.sched = data.foldl (Sched.dataByte p.dataOpen erased) p.sched ∧ q.svc.outQ = p.svc.outQ ∧
      ∀ m rest, d.bytes = m :: rest →
        let bs := p.svc.rx.1 ++ [m]
        let mark := p.svc.rx.2 || erased
        (p.svc.rx.1 = [] → m = 0 → q.svc = p.svc) ∧
        (¬ (p.svc.rx.1 = [] ∧ m = 0) → 3 ≤ bs.length → bs.length = 3 + (bs.getD 1 0).toNat →
          q.svc.rx = ([], false) ∧ q.svc.rxDone = some (bs, !mark && bs.foldr (· + ·) 0 == 0)) ∧
        (¬ (p.svc.rx.1 = [] ∧ m = 0) → (bs.length < 3 ∨ bs.length ≠ 3 + (bs.getD 1 0).toNat) →
          q.svc.rx = (bs, mark) ∧ q.svc.rxDone = p.svc.rxDone)) ∧
  (∀ (d : Sched) (isOpen erased : Bool) (f : List Byte), d.assembly = .idle → 64 ≤ f.length → f.length ≤ 1536 →
    let marked := min 4294967295 (d.framesErased + if erased then 1 else 0)
    (frameRecord f).foldl (Sched.dataByte isOpen erased) d =
      if isOpen = true ∧ d.downBuffer.length < 4 then
        { d with downBuffer := d.downBuffer ++ [(f, erased)], framesErased := marked }
      else { d with framesErased := marked, framesDropped := min 4294967295 (d.framesDropped + 1) }) ∧
  ∀ (d : Sched) (isOpen erased : Bool) (hi lo : Byte) (rest : List Byte),
    (d.assembly = .idle → Sched.dataByte isOpen erased d 255 = d) ∧
    (d.assembly = .idle → hi ≠ 255 → (hi.toNat * 256 + lo.toNat < 64 ∨ 1536 < hi.toNat * 256 + lo.toNat) →
      (∀ b ∈ rest, b ≠ 255) →
      let after : Sched := { d with framingErrors := min 4294967295 (d.framingErrors + 1) }
      (hi :: lo :: rest).foldl (Sched.dataByte isOpen erased) d = { after with assembly := .skip } ∧
        (hi :: lo :: rest ++ [255]).foldl (Sched.dataByte isOpen erased) d = after)

/-! ### The telephones -/

/-- Hook (R91, R95, R96, R101): an off-hook in IDLE enters DIALLING with the dial timer at 30 s and is announced in
service. An on-hook from any off-hook state returns the port to IDLE, port B with shed pending to SHED; it is told
where the port was announced, ends its channel, parks the partner of a local call and a JOINED port B, and stops a
ring that the port was the caller of (R101, R107, R112, R114, R138, R183). Both hold in every supply state but
SHUTDOWN. In THROUGH, TRIPPED, COOLDOWN and LOCKED_OUT a declaration changes the hook field and is told, and an
on-hook discards a digit (R90 to R92); port A's on-hook that was all a start waited for lets the line enter SOUNDING
with the relay at PART and port A IDLE or DISABLED (R24, R90). In SHED and SHUTDOWN, in DISABLED with no test that
watches the port, and where the hook stands so already, nothing changes. An off-hook while RINGING is the ring trip.
An off-hook aborts the PORT_TEST of its port, which enters DIALLING from IDLE and stays DISABLED with the hook kept,
and a LOOP_TEST on port A (R165, R171, R175): with the request at THROUGH the relay goes through and port A with it,
off-hook; at PART port A acts as without a test; a start that waited for the test's end alone enters SOUNDING
(R167). The order at an abort is log entry 22, that a DISABLED port A of a LOOP_TEST keeps no hook is log entry 72,
and that a DISABLED port under test is watched whatever its hook field is log entry 65. That SIGNAL ON_HOOK joins
the queue ahead of SIGNAL CHANNEL is the model's order (log entry 35); that announced and the channel switch symbol
change also where their SIGNAL is discarded at a queue full of SIGNALs is its choice (log entry 78). -/
def Obligations.HookDeclarationsMoveThePort : Prop :=
  (∀ (s : State) (x : PortId), s.part.running = true → s.part.diag.running = none → s.part.line.startPending = false →
    s.part.line.request = .part → s.part.supply.relay = true → s.part.supply.state ≠ .shutdown →
    let p := s.part
    ((p.port x).state = .idle → (p.port x).hook = .onHook →
      ∃ q : Part, Completes (.offHook x) s q ∧ (q.port x).state = .dialling ∧ (q.port x).hook = .offHook ∧
        (q.port x).dialTimer = some 30000 ∧ (q.port x).digit = none ∧
        (p.inService = true → (q.port x).announced = true) ∧
        (p.inService = false → (q.port x).announced = (p.port x).announced ∧ q.svc = p.svc) ∧
        (q.port (other x)).state = (p.port (other x)).state ∧ q.line = p.line ∧ q.chan x = p.chan x ∧ q.log.next = p.log.next) ∧
    ((p.port x).hook = .offHook →
      (p.port x).state ∈ [PortState.dialling, .connected, .held, .intercom, .joined, .parked] →
      let y := other x
      let at_ := p.line.symbol + 2000
      ∃ q : Part, Completes (.onHook x) s q ∧
        (q.port x).state = (if x = .b ∧ p.portB.shedPending = true then .shed else .idle) ∧
        (q.port x).hook = .onHook ∧ (q.port x).dialTimer = none ∧ (q.port x).howler = none ∧
        (q.port x).digit = none ∧ (q.port x).heard = .silence ∧ q.chan x = none ∧ q.hold x = none ∧
        (p.inService = true → (q.port x).announced = false) ∧ q.line = p.line ∧ q.log.next = p.log.next ∧
        q.band = p.band ∧ q.load = p.load ∧ q.supply = p.supply ∧ q.chan y = p.chan y ∧
        (∀ c : Channel, p.chan x = some c →
          q.sched.switches =
            (p.sched.switches.map fun w =>
              if w.port = x ∧ w.what = .begin then { w with what := .beginEnded c.mode c.active } else w) ++
              [⟨x, at_, .finish⟩] ∧
          q.slot x = (match p.slot x with
            | .live => .ended c.mode c.active
            | z => z)) ∧
        (p.svc.outQ = [] → q.svc.outQ =
          (if (p.port x).announced = true ∧ p.inService = true then [.signal x .onHook] else []) ++
            (match p.chan x with
              | some _ => [.signal x (.channel none at_)]
              | none => [])) ∧
        (q.port y).state =
          (if (p.port x).state = .intercom ∧ (p.port y).state = .intercom ∨ x = .a ∧ p.portB.state = .joined then .parked
           else if p.isCaller x then .idle else (p.port y).state) ∧
        ((q.port y).state ≠ (p.port y).state → (q.port y).state = .parked → (q.port y).howler = some 60000) ∧
        (p.isCaller x = true → (q.port y).ring = none) ∧
        q.voice.joinLink = (p.voice.joinLink && p.portB.state != .joined))) ∧
  (∀ (s : State) (x : PortId), s.part.running = true → s.part.settled →
    let p := s.part
    let r := p.port x
    (p.supply.state = .shutdown ∨ r.state = .shed ∨
        r.hook = .offHook ∧ ¬ (r.state = .disabled ∧ p.underTest x = true) ∨
        r.state = .disabled ∧ p.underTest x = false ∧ ¬ (p.loopTesting = true ∧ x = .a) →
      Completes (.offHook x) s p) ∧
    (p.supply.state = .shutdown ∨ r.state = .shed ∨ r.hook = .onHook ∨ r.state = .disabled ∧ p.underTest x = false →
      Completes (.onHook x) s p)) ∧
  ∀ (s : State) (x : PortId), s.part.running = true → s.part.supply.state ≠ .shutdown → s.part.settled →
    let p := s.part
    let r := p.port x
    let watched : Prop := p.underTest x = true ∨ p.loopTesting = true ∧ x = .a
    let told (q : Part) (e : PortEvent) : Prop :=
      p.link.notices.length < 10 → Notice.portEvent x e p.line.state none ∈ q.link.notices
    let alone (q : Part) : Prop :=
      q.port (other x) = p.port (other x) ∧ q = { p with portA := q.portA, portB := q.portB, link := q.link }
    let follows (q : Part) : Prop :=
      (p.line.startPending = true → p.supply.state ≠ .cutoff →
        (p.line.state = .dropped ∧ p.supply.relay = true ∨
          (p.line.state = .quiet ∨ p.line.state = .fallback) ∧ q.portA.hook = .onHook) → q.soundingFrom p) ∧
      (p.line.startPending = false ∨ p.supply.state = .cutoff ∨ p.line.state ≠ .dropped ∧ q.portA.hook = .offHook →
        q.line = p.line)
    (r.state ∈ [PortState.through, .tripped, .cooldown, .lockedOut] → r.hook = .onHook → ¬ watched →
      ∃ q : Part, Completes (.offHook x) s q ∧ q.port x = { r with hook := .offHook } ∧ alone q ∧ told q .offHook) ∧
    (r.state ∈ [PortState.through, .tripped, .cooldown, .lockedOut] ∨ r.state = .disabled ∧ p.underTest x = true →
      r.hook = .offHook →
      let enters : Prop := x = .a ∧ p.line.startPending = true ∧ p.diag.running = none ∧ p.supply.state ≠ .cutoff ∧
        (p.line.state = .quiet ∨ p.line.state = .fallback)
      let moves : Prop := x = .a ∧ p.supply.relay = false ∧ p.line.request = .part
      ∃ q : Part, Completes (.onHook x) s q ∧ (q.port x).hook = .onHook ∧ (q.port x).digit = none ∧ told q .onHook ∧
        (q.port (other x)).state = (p.port (other x)).state ∧ q.svc = p.svc ∧ q.log = p.log ∧ q.diag = p.diag ∧
        (enters → q.soundingFrom p) ∧ (¬ enters → q.line = p.line) ∧
        (enters ∨ moves → p.supply.relay = false →
          q.supply.relay = true ∧ q.portA.state = if r.enable then .idle else .disabled) ∧
        (¬ enters → ¬ moves → alone q ∧ q.port x = { r with hook := .onHook, digit := none })) ∧
    (r.state = .ringing → r.hook = .onHook → exec (.offHook x) s = exec (.ringTrip x) s) ∧
    (r.state = .idle → r.hook = .onHook → ¬ watched →
      ∃ q : Part, Completes (.offHook x) s q ∧ (q.port x).state = .dialling ∧ (q.port x).hook = .offHook ∧
        (q.port x).dialTimer = some 30000 ∧ q.line = p.line ∧ q.diag = p.diag ∧ q.supply = p.supply ∧ told q .offHook) ∧
    (∀ t, p.diag.running = some t → t.test = .portTest → t.port = some x →
      r.state = .idle ∧ r.hook = .onHook ∨ r.state = .disabled →
      ∃ q : Part, Completes (.offHook x) s q ∧ q.abortedByOffHook p t ∧ (q.port x).hook = .offHook ∧ told q .offHook ∧
        (r.state = .idle → (q.port x).state = .dialling ∧ (q.port x).dialTimer = some 30000) ∧
        (r.state = .disabled → (q.port x).state = .disabled) ∧ follows q) ∧
    (∀ t, x = .a → p.diag.running = some t → t.test = .loopTest → r.hook = .onHook →
      r.state ∈ [PortState.idle, .disabled, .tripped, .cooldown, .lockedOut] →
      ∃ q : Part, Completes (.offHook x) s q ∧ q.abortedByOffHook p t ∧
        (p.line.request = .through →
          q.supply.relay = false ∧ q.portA.state = .through ∧ q.portA.hook = .offHook ∧ told q .offHook ∧
          (p.line.state ≠ .dropped → q.line = p.line)) ∧
        (p.line.request = .part →
          q.supply = p.supply ∧ follows q ∧ q.portA.state = (if r.state = .idle then .dialling else r.state) ∧
          (r.state = .idle → q.portA.dialTimer = some 30000) ∧ (r.state = .disabled → q.portA = p.portA) ∧
          (r.state ≠ .disabled → q.portA.hook = .offHook ∧ told q .offHook)))

/-- Breaks and digits (R92 to R95): a break of 35 to 80 ms is a pulse; one below 12 ms is ignored; one of 95 to 260 ms
with no digit in progress is a FLASH; any other below 300 ms is a DIAL_ERROR and drops the digit. Each is posted, and
told to the exchange unit from CONNECTED and from DIALLING but for the caller of a local ring. A digit in progress ends
as its count's digit; a tone digit in DIALLING restarts the dial timer and drops a digit in progress. Its SIGNAL joins
the outbound queue behind the SIGNALs and ahead of every other kind; at a full queue it displaces the newest other
message, whose owner is told, and where SIGNALs alone wait it is itself discarded; each discard is counted (R21, R155).
A pulse digit that ends in DIALLING restarts the dial timer at 30 s, but for the caller of a local ring (R98); a count with
no digit is a DIAL_ERROR in every off-hook state (R93).
That a SWITCH which a SIGNAL displaces from the queue is remembered as lost is log entry 25. -/
def Obligations.BreaksAndDigitsAreRead : Prop :=
  (∀ (s : State) (x : PortId), s.part.running = true → (s.part.port x).state = .dialling →
    let p := s.part
    (∀ ms, 35 ≤ ms → ms ≤ 80 →
      Completes (.breakEnd x ms) s
        (p.modPort x fun r => { r with digit := some (r.digit.getD 0 + 1) })) ∧
    (∀ ms, ms < 12 → Completes (.breakEnd x ms) s p) ∧
    (∀ ms, 95 ≤ ms → ms ≤ 260 → (p.port x).digit = none → p.inService = false →
      Completes (.breakEnd x ms) s (p.post (.portEvent x .flash p.line.state none))) ∧
    (∀ (n : Nat) (d : Digit), (p.port x).digit = some n → pulseDigit n = some d → p.inService = false →
      p.isCaller x = false →
      ∃ q : Part, Completes (.digitEnd x) s q ∧ (q.port x).digit = none ∧ (q.port x).dialTimer = some 30000 ∧
        q.link = (p.post (.portEvent x (.digit d true) p.line.state none)).link ∧ q.svc = p.svc ∧ q.line = p.line) ∧
    (∀ (d : Digit) (signals others : List Msg), p.inService = true → p.isCaller x = false →
      p.svc.outQ = signals ++ others → (∀ m ∈ signals, m.isSignal = true) → (∀ m ∈ others, m.isSignal = false) →
      ∃ q : Part, Completes (.toneDigit x d) s q ∧ (q.port x).digit = none ∧ (q.port x).dialTimer = some 30000 ∧
        (q.port x).state = .dialling ∧ q.line = p.line ∧
        (p.svc.outQ.length < 16 →
          q.svc = { p.svc with outQ := signals ++ .signal x (.digit d) :: others } ∧ q.log = p.log) ∧
        (16 ≤ p.svc.outQ.length → others = [] →
          q.svc = { p.svc with discards := min 65535 (p.svc.discards + 1) } ∧ q.log = p.log) ∧
        (16 ≤ p.svc.outQ.length → others ≠ [] →
          q.svc.outQ = signals ++ .signal x (.digit d) :: others.dropLast ∧
          q.svc.discards = min 65535 (p.svc.discards + 1) ∧
          (∀ a, others.getLast? = some (.switch a) → q.svc.switchLost = some a ∧ q.log = p.log) ∧
          ∀ r, others.getLast? = some (.faultReport r) → p.log.inFlight = some r.seq →
            q.log.inFlight = none ∧ q.log.ackTimer = none ∧
            q.log.records = p.log.records.map fun z =>
              if z.seq = r.seq then { z with delivery := .toSend, sends := z.sends - 1 } else z)) ∧
    (∀ n : Nat, pulseDigit n = if 1 ≤ n ∧ n ≤ 10 then some (.num (Fin.ofNat 10 n)) else none)) ∧
  ∀ (s : State) (x : PortId), s.part.running = true →
    (s.part.port x).state ∈ [PortState.dialling, .connected, .held, .intercom, .joined, .parked] →
    let p := s.part
    let told : Bool :=
      p.inService && ((p.port x).state == .connected || (p.port x).state == .dialling && !p.isCaller x)
    let event (e : PortEvent) (g : Signal) (b : Part) : Part :=
      let b' := b.post (.portEvent x e p.line.state none)
      if told then { b' with svc := { p.svc with outQ := [.signal x g] } } else b'
    let noDigit : Part := p.modPort x fun r => { r with digit := none }
    (∀ ms, 35 ≤ ms → ms ≤ 80 →
      Completes (.breakEnd x ms) s (p.modPort x fun r => { r with digit := some (r.digit.getD 0 + 1) })) ∧
    (∀ ms, ms < 12 → Completes (.breakEnd x ms) s p) ∧
    ((told = true → p.svc.outQ = []) →
    (∀ ms, 95 ≤ ms → ms ≤ 260 → (p.port x).digit = none →
      Completes (.breakEnd x ms) s (event .flash .flash p)) ∧
    (∀ ms, 12 ≤ ms → ms < 300 → ¬ (35 ≤ ms ∧ ms ≤ 80) →
      ¬ (95 ≤ ms ∧ ms ≤ 260 ∧ (p.port x).digit = none) →
      Completes (.breakEnd x ms) s (event .dialError .dialError noDigit)) ∧
    (∀ n : Nat, (p.port x).digit = some n →
      (pulseDigit n = none → Completes (.digitEnd x) s (event .dialError .dialError noDigit)) ∧
      ∀ d : Digit, pulseDigit n = some d →
        let ended : Part := event (.digit d true) (.digit d) noDigit
        Completes (.digitEnd x) s
          (if (p.port x).state = .dialling ∧ p.isCaller x = false then
            ended.modPort x fun r => { r with dialTimer := some 30000 }
          else ended)) ∧
    ((p.port x).state = .connected → ∀ (n : Nat) (d : Digit),
      Completes (.toneDigit x d) s (event (.digit d false) (.digit d) noDigit) ∧
      ((p.port x).digit = some n → pulseDigit n = some d →
        Completes (.digitEnd x) s (event (.digit d true) (.digit d) noDigit)) ∧
      ((p.port x).digit = some n → pulseDigit n = none →
        Completes (.digitEnd x) s (event .dialError .dialError noDigit))))

/-- The exchange unit's signalling to a port in DIALLING, and its timers (R97 to R100, R102, R129): CONNECT begins a
FULL channel where C allows three more bytes, a HALF one where it allows two, and otherwise leaves the port DIALLING
with SIGNAL CAPACITY_HOLD; RELEASE and the dial timer park the port; TONE is what it hears; the howler's end silences a
PARKED port and its step doubles the peak up to 4000. FULL is admitted at C of V + 3 or more and HALF at V + 2 (R137), V
that of the channels that exist (log entry 41); the channel switch symbol stands 2000 symbols ahead (R138). The caller of a
local ring (R107, R130): its CONNECT stops the ring, the rung port IDLE again, and is admitted or not as any other; a TONE
for it is held, ringback heard on.
That the SIGNAL OFF_HOOK of the ended ring, or of an unannounced port, stands ahead of SIGNAL CHANNEL or CAPACITY_HOLD is
the model's order (log entry 35); that announced and the channel switch symbol change also where their SIGNAL is discarded
at a queue full of SIGNALs is its choice (log entry 78). -/
def Obligations.CallSignallingActs : Prop :=
  ∀ (s : State) (x : PortId), s.part.running = true →
    let p := s.part
    (p.inService = true → (p.port x).state = .dialling → p.isCaller x = false → p.channelDemand + 3 ≤ p.capC →
      ∃ q : Part, Completes (.connect x) s q ∧ (q.port x).state = .connected ∧ q.chan x = some ⟨.full, true, (0, 0), 0⟩ ∧
        (q.port x).dialTimer = none ∧ q.sched.switches = p.sched.switches ++ [⟨x, p.line.symbol + 2000, .begin⟩] ∧
        (q.port x).heard = .line ∧ q.line = p.line ∧ q.log.next = p.log.next) ∧
    (p.inService = true → (p.port x).state = .dialling → p.isCaller x = false → p.capC = p.channelDemand + 2 →
      ∃ q : Part, Completes (.connect x) s q ∧ (q.port x).state = .connected ∧ q.chan x = some ⟨.half, true, (0, 0), 0⟩ ∧
        (q.port x).dialTimer = none ∧ q.sched.switches = p.sched.switches ++ [⟨x, p.line.symbol + 2000, .begin⟩] ∧
        (q.port x).heard = .line ∧ q.line = p.line ∧ q.log.next = p.log.next ∧
        (p.svc.outQ = [] → q.svc.outQ = (if (p.port x).announced then [] else [.signal x .offHook]) ++
          [.signal x (.channel (some .half) (p.line.symbol + 2000))])) ∧
    (p.inService = true → (p.port x).state = .dialling → p.isCaller x = false → p.capC < p.channelDemand + 2 →
      ∃ q : Part, Completes (.connect x) s q ∧ (q.port x).state = .dialling ∧ q.chan x = p.chan x ∧
        (q.port x).dialTimer = none ∧ (q.port x).announced = (p.port x).announced ∧ q.sched = p.sched ∧
        q.line = p.line ∧ q.log.next = p.log.next ∧ (p.svc.outQ = [] → q.svc.outQ = [.signal x .capacityHold])) ∧
    (p.inService = true → (p.port x).state = .dialling → p.isCaller x = true →
      (∀ g : Ring, (p.port (other x)).ring = some g → g.origin = .loc) →
      let called : List Msg := if (p.port x).announced then [] else [.signal x .offHook]
      let stopped (q : Part) : Prop :=
        (q.port (other x)).state = .idle ∧ (q.port (other x)).ring = none ∧ (q.port x).dialTimer = none ∧
        (q.port x).announced = true ∧ q.line = p.line ∧ q.log.next = p.log.next
      (∀ m : Mode, (m = .full ∧ p.channelDemand + 3 ≤ p.capC ∨ m = .half ∧ p.channelDemand + 2 = p.capC) →
        ∃ q : Part, Completes (.connect x) s q ∧ stopped q ∧ (q.port x).state = .connected ∧ (q.port x).heard = .line ∧
          q.chan x = some ⟨m, true, (0, 0), 0⟩ ∧
          q.sched.switches = p.sched.switches ++ [⟨x, p.line.symbol + 2000, .begin⟩] ∧
          (p.svc.outQ = [] →
            q.svc.outQ = called ++ [.signal x (.channel (some m) (p.line.symbol + 2000))])) ∧
      (p.capC < p.channelDemand + 2 →
        ∃ q : Part, Completes (.connect x) s q ∧ stopped q ∧ (q.port x).state = .dialling ∧ q.chan x = p.chan x ∧
          q.sched = p.sched ∧ (p.svc.outQ = [] → q.svc.outQ = called ++ [.signal x .capacityHold])) ∧
      ∀ k : CallTone, ∃ q : Part, Completes (.tone x k) s q ∧ (q.port x).heard = .tone .ringback ∧
        (q.port x).state = .dialling ∧ (q.port x).lastTone = some (k, true) ∧
        (q.port x).dialTimer = (p.port x).dialTimer ∧ (q.port (other x)).state = .ringing ∧
        q.line = p.line ∧ q.svc = p.svc) ∧
    (p.inService = true → (p.port x).state = .connected ∨ (p.port x).state = .held → ∀ c, p.chan x = some c →
      ∃ q : Part, Completes (.release x) s q ∧ (q.port x).state = .parked ∧ q.chan x = none ∧ q.hold x = none ∧
        (q.port x).howler = some 60000 ∧ (q.port x).heard = .tone .howler ∧ (q.port x).announced = (p.port x).announced ∧
        q.sched.switches.getLast? = some ⟨x, p.line.symbol + 2000, .finish⟩ ∧ q.line = p.line ∧
        q.log.next = p.log.next ∧ (x = .a → p.portB.state = .joined →
          q.portB.state = .parked ∧ q.voice.joinLink = false ∧ q.portB.howler = some 60000) ∧
        (p.svc.outQ = [] → q.svc.outQ = [.signal x (.channel none (p.line.symbol + 2000))])) ∧
    (p.inService = true → (p.port x).state = .dialling → p.portB.state ≠ .joined →
      ∃ q : Part, Completes (.release x) s q ∧ (q.port x).state = .parked ∧ q.chan x = none ∧
        (q.port x).howler = some 60000 ∧ (q.port x).heard = .tone .howler ∧ (q.port x).announced = (p.port x).announced ∧
        q.line = p.line) ∧
    (p.inService = true → (p.port x).state = .dialling → p.isCaller x = false → ∀ k : CallTone,
      ∃ q : Part, Completes (.tone x k) s q ∧ (q.port x).heard = heardTone k ∧ (q.port x).state = .dialling ∧
        (q.port x).dialTimer = (match k with
          | .dial => some 30000
          | .ringback => none
          | _ => (p.port x).dialTimer) ∧ q.line = p.line ∧ q.svc = p.svc) ∧
    ((p.port x).state = .dialling → (p.port x).dialTimer.isSome = true → p.isCaller x = false →
      ∃ q : Part, Completes (.dialTimeout x) s q ∧ (q.port x).state = .parked ∧ (q.port x).dialTimer = none ∧
        (q.port x).howler = some 60000 ∧ (p.inService = true → (q.port x).announced = false) ∧ q.line = p.line) ∧
    ((p.port x).state = .parked → (p.port x).howler.isSome = true →
      (∃ q : Part, Completes (.howlerTimeout x) s q ∧ (q.port x).howler = none ∧ (q.port x).heard = .silence ∧
        (q.port x).state = .parked ∧ (q.gen x).kind = .silent ∧ q.line = p.line ∧ q.svc = p.svc) ∧
      ((p.gen x).kind = .howler →
        Completes (.howlerStep x) s (p.setGen x { p.gen x with peak := min 4000 (2 * (p.gen x).peak) })))

/-- Rings (R104 to R108): a RING in service on an IDLE port starts its cadence's first on phase where its ring load,
with that of the other port where that one rings, is within the budget, and the other ring goes on; above the budget
it is refused with RING_LIMITED, notice and SIGNAL; on a port already ringing from the line it changes nothing, and
on a port in any other state it is answered by SIGNAL OFF_HOOK or RING_LIMITED by the port's hook; RING_STOP ends
it; overcurrent in an on phase trips and disables the port with one RING_OVERCURRENT record: ring load, cadence,
heat and origin (R148). A local ring that runs out leaves its port IDLE; a caller still DIALLING has its dial timer
at 30 s again and hears what R97 gives: in service the last TONE taken for it, one held during the ring from the
beginning of its cadence (R130, log entry 46), or silence, and out of service the no-service tone; in service one
that is not announced is announced by SIGNAL OFF_HOOK (R96, R107). The trip of a line ring in service (R106, R137)
is announced and asks for admission: the port is CONNECTED in FULL or HALF with its channel switch symbol named, or
DIALLING with CAPACITY_HOLD and no dial timer; the V it is judged against is that of the channels that exist (R137,
log entry 41). The trip of a local ring (R112): with a partner still DIALLING both enter INTERCOM and are withdrawn;
without one the port is DIALLING as from IDLE (R96). That announced and the channel switch symbol change also where
their SIGNAL is discarded at a queue full of SIGNALs is the model's choice (log entry 78), and that SIGNAL OFF_HOOK
stands ahead of SIGNAL CHANNEL its order (log entry 35). The four cadences are those of R104; any other number is
cadence 0. -/
def Obligations.RingsStartStopAndTrip : Prop :=
  (cadencePhases 0 = [400, 200, 400, 2000] ∧ cadencePhases 1 = [1000, 2000] ∧
     cadencePhases 2 = [250, 250, 250, 250, 250, 2250] ∧ cadencePhases 3 = [2000, 4000] ∧
     ∀ n : Nat, 3 < n → cadencePhases n = cadencePhases 0) ∧
  ∀ (s : State) (x : PortId) (c : Nat), s.part.running = true →
    let p := s.part
    (p.inService = true → (p.port x).state = .idle → p.underTest x = false →
      let y := other x
      let load := (p.port x).ringLoad + if (p.port y).state = .ringing then (p.port y).ringLoad else 0
      (load ≤ p.supply.budget →
        ∃ q : Part, Completes (.ring x c) s q ∧ (q.port x).state = .ringing ∧
          (q.port x).ring = some ⟨if c ≤ 3 then c else 0, 0, (cadencePhases c).headD 0, .line, none, none⟩ ∧
          (q.port y).state = (p.port y).state ∧ (q.port y).ring = (p.port y).ring ∧
          q.line = p.line ∧ q.svc = p.svc ∧ q.log = p.log) ∧
      (p.supply.budget < load →
        ∃ q : Part, Completes (.ring x c) s q ∧ (q.port x).state = .idle ∧ (q.port x).ring = (p.port x).ring ∧
          (p.svc.outQ = [] → q.svc.outQ = [.signal x .ringLimited]) ∧ q.line = p.line ∧
          (q.port y).state = (p.port y).state ∧ (q.port y).ring = (p.port y).ring ∧
          q.link = (p.post (.ringLimited x (p.port x).ringLoad p.supply.budget)).link)) ∧
    (p.inService = true → (p.port x).state ≠ .idle → p.underTest x = false →
      let fromLine : Prop := (p.port x).state = .ringing ∧ (p.port x).ring.map Ring.origin = some .line
      ∃ q : Part, Completes (.ring x c) s q ∧
        (∀ y : PortId, (q.port y).state = (p.port y).state ∧ (q.port y).ring = (p.port y).ring ∧
          (q.port y).hook = (p.port y).hook) ∧
        q.line = p.line ∧ q.link = p.link ∧ q.supply = p.supply ∧
        (fromLine → q.svc = p.svc ∧ q.log = p.log ∧ (q.port x).announced = (p.port x).announced) ∧
        (¬ fromLine → (p.port x).hook = .offHook →
          (q.port x).announced = true ∧ (p.svc.outQ = [] → q.svc.outQ = [.signal x .offHook])) ∧
        (¬ fromLine → (p.port x).hook = .onHook → (q.port x).announced = (p.port x).announced ∧
          (p.svc.outQ = [] → q.svc.outQ = [.signal x .ringLimited]))) ∧
    (∀ g : Ring, (p.port x).state = .ringing → (p.port x).ring = some g →
      (p.inService = true → g.origin = .line →
        ∃ q : Part, Completes (.ringStop x) s q ∧ (q.port x).state = .idle ∧ (q.port x).ring = none ∧ q.svc = p.svc ∧
          q.line = p.line) ∧
      Completes (.ringCadencePhase x) s
        (p.modPort x fun r => { r with ring := some { g with
          phase := (g.phase + 1) % (cadencePhases g.cadence).length
          phaseLeft := (cadencePhases g.cadence).getD ((g.phase + 1) % (cadencePhases g.cadence).length) 0 } }) ∧
      (g.origin = .loc → g.partner = none →
        ∃ q : Part, Completes (.localRingTimeout x) s q ∧ (q.port x).state = .idle ∧ (q.port x).ring = none ∧
          q.svc = p.svc ∧ q.line = p.line) ∧
      (g.origin = .loc → g.partner = some (other x) → (p.port (other x)).state = .dialling →
        let y := other x
        let tone := (p.port y).lastTone
        ∃ q : Part, Completes (.localRingTimeout x) s q ∧ (q.port x).state = .idle ∧ (q.port x).ring = none ∧
          (q.port y).state = .dialling ∧ (q.port y).dialTimer = some 30000 ∧ q.line = p.line ∧ q.sched = p.sched ∧
          (p.inService = true →
            (q.port y).heard = (match tone with
              | some k => heardTone k.1
              | none => .silence) ∧
            (∀ k, tone = some (k, true) → (q.gen y).pos = 0) ∧
            (q.port y).announced = true ∧
            (p.svc.outQ = [] → q.svc.outQ = if (p.port y).announced then [] else [.signal y .offHook])) ∧
          (p.inService = false →
            (q.port y).heard = .tone .noService ∧ (q.port y).announced = (p.port y).announced ∧ q.svc = p.svc)) ∧
      (p.diag.running = none → p.line.startPending = false → p.supply.relay = true → p.line.request = .part →
        p.supply.state ≠ .shutdown →
        (g.origin = .line → p.inService = true →
          let switchAt := p.line.symbol + 2000
          ∃ q : Part, Completes (.ringTrip x) s q ∧ (q.port x).hook = .offHook ∧ (q.port x).ring = none ∧
            (q.port x).announced = true ∧ (q.port x).dialTimer = none ∧ q.line = p.line ∧
            (∀ m : Mode, (m = .full ∧ p.channelDemand + 3 ≤ p.capC ∨ m = .half ∧ p.channelDemand + 2 = p.capC) →
              (q.port x).state = .connected ∧ q.chan x = some ⟨m, true, (0, 0), 0⟩ ∧ (q.port x).heard = .line ∧
              q.sched.switches = p.sched.switches ++ [⟨x, switchAt, .begin⟩] ∧
              (p.svc.outQ = [] → q.svc.outQ = [.signal x .offHook, .signal x (.channel (some m) switchAt)])) ∧
            (p.capC < p.channelDemand + 2 →
              (q.port x).state = .dialling ∧ q.chan x = p.chan x ∧ q.sched = p.sched ∧
              (p.svc.outQ = [] → q.svc.outQ = [.signal x .offHook, .signal x .capacityHold]))) ∧
        (g.origin = .loc → g.partner = some (other x) → (p.port (other x)).state = .dialling →
          ∃ q : Part, Completes (.ringTrip x) s q ∧ q.line = p.line ∧ q.sched = p.sched ∧
            (p.svc.outQ.length < 15 → q.log = p.log) ∧
            (q.port x).hook = .offHook ∧ (q.port x).ring = none ∧ q.chan x = p.chan x ∧
            ∀ y : PortId, (q.port y).state = .intercom ∧ (q.port y).dialTimer = none ∧ (q.port y).heard = .otherPort ∧
              (p.inService = true → (q.port y).announced = false)) ∧
        (g.origin = .loc → g.partner = none →
          ∃ q : Part, Completes (.ringTrip x) s q ∧ (q.port x).state = .dialling ∧ (q.port x).hook = .offHook ∧
            (q.port x).ring = none ∧ (q.port x).dialTimer = some 30000 ∧ q.line = p.line ∧ q.sched = p.sched ∧
            (p.inService = true → (q.port x).announced = true) ∧
            (p.inService = true → p.svc.outQ = [] → q.svc.outQ = [.signal x .offHook]))) ∧
      (g.phase % 2 = 0 → p.underTest x = false →
        ∃ q : Part, Completes (.ringOvercurrent x) s q ∧ (q.port x).state = .tripped ∧ (q.port x).enable = false ∧
          (q.port x).ring = none ∧ q.log.next = p.log.next + 1 ∧ (q.port x).heat = (p.port x).heat ∧ q.line = p.line ∧
          p.recorded q 0 1 .ringOvercurrent .major (sourceOf x) p.line.state
            [((p.port x).ringLoad : Int), (g.cadence : Int), ((p.port x).heat : Int),
             if g.origin = .line then 0 else 1]))

/-- A heat step (R109, R110): it adds 2 and the ring load in an on phase, held at 1000, and takes 3 off otherwise, not
below 0, drawing on the accumulator that holds its 100 ms, the on phase's first where both do (log entry 29); at
1000 the ring is cut to COOLDOWN of 30 s, or LOCKED_OUT within 600 s of the last trip, with a RING_THERMAL or
PORT_LOCKED_OUT record of the ring load, the cadence, the origin and the seconds since the last trip, or 0 (R148;
kept whole, log entry 90). The cooldown's end returns an enabled on-hook port to IDLE, takes an enabled off-hook one
to DIALLING as from IDLE (R96), and a port with its enable flag OFF to DISABLED. That the port in DIALLING is
announced also where its SIGNAL OFF_HOOK is discarded at a queue full of SIGNALs is the model's choice (log entry
78). -/
def Obligations.HeatStepsAndCooldown : Prop :=
  ∀ (s : State) (x : PortId), s.part.running = true →
    let p := s.part
    let r := p.port x
    (100 ≤ r.ringAcc → r.state = .ringing → r.heat + 2 + r.ringLoad < 1000 →
      ∃ q : Part, Completes (.heatStep x) s q ∧ (q.port x).heat = r.heat + 2 + r.ringLoad ∧
        (q.port x).ringAcc = r.ringAcc - 100 ∧ (q.port x).coolAcc = r.coolAcc ∧
        (q.port x).state = .ringing ∧ q.line = p.line ∧ q.log = p.log) ∧
    (r.ringAcc < 100 → 100 ≤ r.coolAcc →
      ∃ q : Part, Completes (.heatStep x) s q ∧ (q.port x).heat = r.heat - 3 ∧ (q.port x).state = r.state ∧
        (q.port x).ringAcc = r.ringAcc ∧ (q.port x).coolAcc = r.coolAcc - 100 ∧
        q.line = p.line ∧ q.log = p.log) ∧
    (∀ g : Ring, 100 ≤ r.ringAcc → r.state = .ringing → r.ring = some g → 1000 ≤ r.heat + 2 + r.ringLoad →
      ∃ q : Part, Completes (.heatStep x) s q ∧ (q.port x).heat = 1000 ∧ (q.port x).ring = none ∧
        (q.port x).trip = some p.time ∧ q.log.next = p.log.next + 1 ∧
        let details (since : Nat) : List Int :=
          [(r.ringLoad : Int), (g.cadence : Int), if g.origin = .line then 0 else 1, (since : Int)]
        (r.trip = none → p.recorded q 0 1 .ringThermal .minor (sourceOf x) p.line.state (details 0) ∧
          (q.port x).state = .cooldown ∧ (q.port x).cooldown = some 30000 ∧
          (q.port x).enable = r.enable) ∧
        ∀ t0, r.trip = some t0 →
          (p.time - t0 ≤ 600 →
            p.recorded q 0 1 .portLockedOut .major (sourceOf x) p.line.state (details (p.time - t0)) ∧
            (q.port x).state = .lockedOut ∧ (q.port x).cooldown = none ∧ (q.port x).enable = false) ∧
          (600 < p.time - t0 →
            p.recorded q 0 1 .ringThermal .minor (sourceOf x) p.line.state (details (p.time - t0)) ∧
            (q.port x).state = .cooldown ∧ (q.port x).cooldown = some 30000 ∧ (q.port x).enable = r.enable)) ∧
    (r.state = .cooldown → r.cooldown.isSome = true → r.enable = true → r.hook = .onHook →
      p.line.startPending = false → p.relayTarget = p.supply.relay →
      ∃ q : Part, Completes (.cooldownEnd x) s q ∧ (q.port x).state = .idle ∧ (q.port x).cooldown = none ∧
        q.line = p.line) ∧
    (r.state = .cooldown → r.cooldown.isSome = true → p.line.startPending = false → p.relayTarget = p.supply.relay →
      (r.enable = false →
        ∃ q : Part, Completes (.cooldownEnd x) s q ∧ (q.port x).state = .disabled ∧ (q.port x).cooldown = none ∧
          (q.port x).enable = false ∧ (q.port x).heat = r.heat ∧ (q.port x).trip = r.trip ∧ q.line = p.line ∧
          q.svc = p.svc ∧ q.log = p.log) ∧
      (r.enable = true → r.hook = .offHook →
        ∃ q : Part, Completes (.cooldownEnd x) s q ∧ (q.port x).state = .dialling ∧ (q.port x).cooldown = none ∧
          (q.port x).hook = .offHook ∧ (q.port x).dialTimer = some 30000 ∧ (q.port x).heat = r.heat ∧
          (q.port x).trip = r.trip ∧ q.line = p.line ∧
          (p.inService = false → (q.port x).announced = r.announced ∧ q.svc = p.svc ∧ q.log = p.log) ∧
          (p.inService = true → (q.port x).announced = true ∧
            (p.svc.outQ = [] → q.svc.outQ = [.signal x .offHook]))))

/-! ### Reports, supply and diagnostics -/

/-- The acknowledgements of reports (R153, R154), with no other record to send: a matching REPORT_ACK delivers the record
in flight; another sequence is ignored; the timer's expiry leaves it UNDELIVERED at three sends, and below three offers it
again at once where the outbound queue has room, else leaves it TO_SEND.
A record made with a log of 32 (R157) takes the place of the oldest that is DELIVERED, LOCAL_ONLY or UNDELIVERED, else of
the oldest of lower severity not in flight, else is discarded; each counts and sets LOG_LOST.
The end of the last report, its bytes all placed (R35, R135, R161, R186): the mode ends and the part is in SHUTDOWN, the
line in QUIET by a drop with cause SUPPLY, the record still SENT, port B shed, the data port closed and the relay
through. LAST_REPORT_DONE with a byte of the report still to be placed, or with no last report, changes nothing: that is
the model's reading of an event where the state does not admit it (log entry 3). -/
def Obligations.ReportsAreSettledToTheLast : Prop :=
  (∀ (s : State) (r : FaultRecord), s.part.running = true → s.part.inService = true →
     s.part.log.records = [r] → s.part.log.inFlight = some r.seq → r.delivery = .sent →
     let p := s.part
     let again : FaultRecord := { r with delivery := .sent, sends := r.sends + 1 }
     (Completes (.reportAck r.seq) s
       { p with
         svc := p.svc.withdrawReport r.seq
         log := { p.log with records := [{ r with delivery := .delivered }], inFlight := none, ackTimer := none } }) ∧
     (∀ k : Seq, k ≠ r.seq → Completes (.reportAck k) s p) ∧
     (p.log.ackTimer.isSome = true → 3 ≤ r.sends →
       Completes .reportAckTimeout s
         { p with log := { p.log with
             records := [{ r with delivery := .undelivered }], inFlight := none, ackTimer := none } }) ∧
     (p.log.ackTimer.isSome = true → r.sends < 3 → p.sched.lastReport = none → p.svc.outQ.length < 16 →
       Completes .reportAckTimeout s
         { p with
           svc := { p.svc with outQ := p.svc.outQ ++ [.faultReport again] }
           log := { p.log with records := [again], ackTimer := none } }) ∧
     (p.log.ackTimer.isSome = true → r.sends < 3 → 16 ≤ p.svc.outQ.length →
       Completes .reportAckTimeout s
         { p with log := { p.log with
             records := [{ r with delivery := .toSend }], inFlight := none, ackTimer := none } })) ∧
  (∀ s : State, s.part.running = true → s.part.inService = false → s.part.link.silenceTimer.isSome = true →
     s.part.link.hostSilent = false → s.part.log.records.length = 32 →
     let l := s.part.log
     let spent (z : FaultRecord) : Bool :=
       z.delivery == .delivered || z.delivery == .localOnly || z.delivery == .undelivered
     let lower (z : FaultRecord) : Bool :=
       (z.severity == .info || z.severity == .minor) && l.inFlight != some z.seq
     ∃ q : Part, Completes .hostSilenceTimeout s q ∧ q.log.lost = min 255 (l.lost + 1) ∧ q.link.logLost = true ∧
       q.log.next = l.next + 1 ∧
       (l.records.any spent = false → l.records.any lower = false → q.log.records = l.records) ∧
       ((l.records.any spent = true ∨ l.records.any lower = true) →
         ∃ r, q.log.records.getLast? = some r ∧ r.seq = l.next ∧ r.kind = .hostSilent ∧ r.severity = .major ∧
           q.log.records.dropLast =
             (if l.records.any spent = true then l.records.eraseP spent else l.records.eraseP lower))) ∧
  (∀ s : State, s.part.running = true → s.part.sched.lastReport = some [] → s.part.supply.state = .cutoff →
     s.part.inService = true → s.part.supply.tPresence = none → s.part.diag.running = none →
     ∃ q : Part, Completes .lastReportDone s q ∧ q.supply.state = .shutdown ∧ q.supply.budget = 0 ∧
       q.supply.hold = true ∧ q.dataOpen = false ∧ q.sched.lastReport = none ∧ q.line.state = .quiet ∧
       q.line.request = .through ∧ q.supply.relay = false ∧ q.portB.state = .shed ∧
       q.snapshot.map (·.cause) = some .supply ∧ q.log.next = s.part.log.next + 1 ∧ q.band.overlay = false ∧
       q.line.startPending = false ∧ q.access = s.part.access ∧
       (s.part.log.records.length < 32 → s.part.log.inFlight = s.part.log.lastSeq →
         ∀ r ∈ s.part.log.records, s.part.log.inFlight = some r.seq → r ∈ q.log.records)) ∧
  ∀ s : State, s.part.running = true → s.part.sched.lastReport ≠ some [] → Completes .lastReportDone s s.part

/-- The sensed inputs (R176, R177): a change of mains or battery is kept, a reading above 2000 as 2000 (log entry 33), and
each of the six debounce timers is judged by it: one whose condition holds starts, or goes on with the time it has run, and
one whose condition does not hold stands stopped; the mains decide every one of them. The state itself and the rest of the
part wait for an expiry. -/
def Obligations.InputsJudgeTheDebounceTimers : Prop :=
  ∀ s : State, s.part.running = true →
    let v := s.part.supply
    let runs (w : Supply) (mains : Bool) (battery : Nat) : Prop :=
      w = { v with
        mains := mains, battery := battery, tAbsence := w.tAbsence, tPresence := w.tPresence, tLow := w.tLow
        tCutoff := w.tCutoff, tReturn := w.tReturn, tRecovery := w.tRecovery } ∧
      w.tAbsence = (if v.state = .mains ∧ mains = false then some (v.tAbsence.getD 0) else none) ∧
      w.tPresence = (if v.state ≠ .mains ∧ mains = true then some (v.tPresence.getD 0) else none) ∧
      w.tLow = (if v.state = .battery ∧ mains = false ∧ battery < v.low then some (v.tLow.getD 0) else none) ∧
      w.tCutoff = (if (v.state = .battery ∨ v.state = .batteryLow) ∧ mains = false ∧ battery < v.cutoff then
        some (v.tCutoff.getD 0) else none) ∧
      w.tReturn = (if v.state = .batteryLow ∧ mains = false ∧ v.lowReturn ≤ battery then
        some (v.tReturn.getD 0) else none) ∧
      w.tRecovery = (if v.state = .shutdown ∧ mains = false ∧ 1160 ≤ battery then some (v.tRecovery.getD 0) else none)
    (∀ m : Bool, ∃ w : Supply, Completes (.mainsSenseChange m) s { s.part with supply := w } ∧ runs w m v.battery) ∧
    ∀ b : Nat, ∃ w : Supply, Completes (.batteryThresholdCrossing b) s { s.part with supply := w } ∧
      runs w v.mains (min 2000 b)

/-- The entries to the supply states out of service (R179 to R185), each at its timer's expiry: state, ring budget,
cutback, overlay, holds, mains lost at, and its one record, ON_BATTERY, BATTERY_LOW, MAINS_RESTORED or
SUPPLY_CUTOFF, with the voltage, the threshold and the seconds since the mains was lost as R148 gives it (kept
whole, log entry 90); from SHUTDOWN the part starts again as after POWER_ON, at the presence timer in MAINS and at
the recovery timer, with the mains absent, in BATTERY with its ON_BATTERY record. In service: the entry to BATTERY
raises SUPPLY (R72), which joins the pending reasons or starts a reshape; the entry to CUTOFF leaves the line
CARRYING, abandons an open reshape uncounted (R79), settles another record in flight (R162) and hands the
SUPPLY_CUTOFF report to the scheduler as the last (R161). The entries to BATTERY_LOW (R181), to BATTERY from
BATTERY_LOW (R180) and to MAINS (R184) set the overlay before they raise SUPPLY, so that a reshape they start is
offered on the new map. An entry to BATTERY from MAINS, or to BATTERY_LOW, that puts the ring budget below the load
that rings stops port B's ring, and port A's where its load alone is above the budget, each told by SIGNAL and
notice RING_LIMITED and a caller's dial timer at 30 s again; any other ring runs on (R182). At BATTERY_LOW a ringing
port B is shed and port A judged alone (R181, R183). That the RESHAPE_ABANDONED record is numbered ahead of the
SUPPLY_CUTOFF record, and that the record in flight is settled after the SUPPLY_CUTOFF record is made, is the
model's order (log entry 24). -/
def Obligations.SupplyEntriesSetTheirState : Prop :=
  (∀ s : State, s.part.running = true → (∀ x, (s.part.port x).state = .ringing → (s.part.port x).ring.isSome = true) →
    s.part.relayTarget = s.part.supply.relay → s.part.line.startPending = false →
    let p := s.part
    let held (on : Bool) : Prop :=
      p.inService = false ∨ p.line.state = .reshape ∨ p.line.state = .carrying ∧ p.line.move.isSome = true ∨
        payload (computeDown (perTone (resolve on p.band.windows)) p.load.setProfile p.load.averages
          (p.line.downInForce.getD [])) ≠ 0
    let runsOn (q : Part) (x : PortId) : Prop := (q.port x).state = (p.port x).state ∧ (q.port x).ring = (p.port x).ring
    let ended (q : Part) (x : PortId) : Prop :=
      (q.port x).ring = none ∧
      ((p.port x).ring.map Ring.origin = some .line → p.inService = true → p.svc.outQ = [] →
        Msg.signal x .ringLimited ∈ q.svc.outQ) ∧
      ((p.port x).ring.map Ring.origin = some .loc → ((p.port x).ring.map Ring.partner) = some (some (other x)) →
        (p.port (other x)).state = .dialling →
        (q.port (other x)).state = .dialling ∧ (q.port (other x)).dialTimer = some 30000)
    let cut (q : Part) (x : PortId) (budget : Nat) : Prop :=
      ended q x ∧ (q.port x).state = .idle ∧
      (p.link.notices = [] → Notice.ringLimited x (p.port x).ringLoad budget ∈ q.link.notices)
    (held p.band.overlay → p.supply.state = .mains → p.supply.tAbsence.isSome = true →
      ∃ q : Part, Completes .enterBattery s q ∧
        (p.ringingLoad ≤ 4 → ∀ x, (p.port x).state = .ringing → runsOn q x) ∧
        (4 < p.ringingLoad →
          (p.portB.state = .ringing → cut q .b 4) ∧
          (p.portA.state = .ringing → 4 < p.portA.ringLoad → cut q .a 4) ∧
          (p.portA.state = .ringing → p.portA.ringLoad ≤ 4 → runsOn q .a))) ∧
    (held true → p.supply.state = .battery → p.supply.tLow.isSome = true →
      ∃ q : Part, Completes .enterBatteryLow s q ∧
        (p.portB.state = .ringing → ended q .b ∧ q.portB.state = .shed) ∧
        (p.portA.state = .ringing → 2 < p.portA.ringLoad → cut q .a 2) ∧
        (p.portA.state = .ringing → p.portA.ringLoad ≤ 2 → runsOn q .a))) ∧
  (∀ s : State, s.part.running = true → s.part.inService = false →
    let p := s.part
    let made (q : Part) (kind : FaultKind) (severity : Severity) (details : List Int) : Prop :=
      q.log.next = p.log.next + 1 ∧ p.recorded q 0 1 kind severity .supply p.line.state details
    let onBattery (q : Part) : Prop := made q .onBattery .minor [(p.supply.battery : Int)]
    let low (q : Part) : Prop := made q .batteryLow .major [(p.supply.battery : Int), (p.supply.low : Int)]
    let restored (q : Part) : Prop := made q .mainsRestored .info
      [((p.time - p.supply.mainsLostAt.getD p.time : Nat) : Int), (p.supply.battery : Int)]
    (p.supply.state = .mains → p.supply.tAbsence.isSome = true →
      ∃ q : Part, Completes .enterBattery s q ∧ q.supply.state = .battery ∧ q.supply.budget = 4 ∧
        q.supply.cutback = 8 ∧ q.supply.mainsLostAt = some p.time ∧ q.band = p.band ∧ q.supply.hold = p.supply.hold ∧
        onBattery q ∧ q.line.reasons = p.line.reasons) ∧
    (p.supply.state = .battery → p.supply.tLow.isSome = true →
      ∃ q : Part, Completes .enterBatteryLow s q ∧ q.supply.state = .batteryLow ∧ q.supply.budget = 2 ∧
        q.supply.cutback = 16 ∧ q.band.overlay = true ∧ q.supply.hold = true ∧ q.dataOpen = false ∧
        q.sched.downBuffer = (if p.dataOpen then [] else p.sched.downBuffer) ∧ low q ∧
        (p.portB.state.offHook = false → q.portB.state = .shed) ∧
        (p.portB.state.offHook = true → q.portB.shedPending = true)) ∧
    (p.supply.state = .batteryLow → p.supply.tReturn.isSome = true →
      ∃ q : Part, Completes .batteryRecovered s q ∧ q.supply.state = .battery ∧ q.supply.budget = 4 ∧
        q.supply.cutback = 8 ∧ q.band.overlay = false ∧ q.supply.hold = false ∧ q.portB.shedPending = false ∧
        q.portB.state ≠ .shed ∧ q.log.next = p.log.next) ∧
    ((p.supply.state = .battery ∨ p.supply.state = .batteryLow) → p.supply.tPresence.isSome = true →
      ∃ q : Part, Completes .enterMains s q ∧ q.supply.state = .mains ∧ q.supply.budget = 10 ∧ q.supply.cutback = 0 ∧
        q.supply.mainsLostAt = none ∧ (p.supply.state = .batteryLow → q.band.overlay = false ∧ q.supply.hold = false) ∧
        restored q) ∧
    ((p.supply.state = .battery ∨ p.supply.state = .batteryLow) → p.supply.tCutoff.isSome = true →
      p.supply.mains = false →
      ∃ q : Part, Completes .enterCutoff s q ∧ q.supply.state = .shutdown ∧ q.supply.budget = 0 ∧
        q.supply.hold = true ∧ q.band.overlay = false ∧ q.line.state = .quiet ∧ q.portB.state = .shed ∧
        q.diag.running = none ∧
        made q .supplyCutoff .critical [(p.supply.battery : Int), (p.supply.cutoff : Int),
          ((p.time - p.supply.mainsLostAt.getD p.time : Nat) : Int)]) ∧
    (p.supply.state = .shutdown → p.supply.tPresence.isSome = true → p.supply.mains = true →
      ∃ q : Part, Completes .shutdownRecovery s q ∧ q.supply.state = .mains ∧ q.time = 0 ∧ q.log.records = [] ∧
        q.line.state = .quiet ∧ q.link.replies = []) ∧
    (p.supply.state = .shutdown → p.supply.tRecovery.isSome = true → p.supply.mains = false →
      1160 ≤ p.supply.battery → p.supply.battery ≤ 2000 →
      ∃ (q : Part) (r : FaultRecord), Completes .shutdownRecovery s q ∧ q.supply.state = .battery ∧
        q.supply.mains = false ∧ q.supply.battery = p.supply.battery ∧ q.supply.low = 1120 ∧ q.supply.cutoff = 1050 ∧
        q.supply.budget = 4 ∧ q.supply.cutback = 8 ∧ q.supply.mainsLostAt = some 0 ∧ q.supply.hold = false ∧
        q.supply.tRecovery = none ∧ q.time = 0 ∧ q.line.state = .quiet ∧ q.line.reasons = [] ∧ q.link.replies = [] ∧
        q.portB.state ≠ .shed ∧ q.log.records = [r] ∧ r.kind = .onBattery ∧ r.seq = 1 ∧ r.time = 0 ∧
        r.details = [(p.supply.battery : Int)] ∧ q.log.next = 2)) ∧
  ∀ s : State, s.part.running = true → s.part.inService = true →
    let p := s.part
    let made (q : Part) (kind : FaultKind) (severity : Severity) (details : List Int) : Prop :=
      q.log.next = p.log.next + 1 ∧ p.recorded q 0 1 kind severity .supply p.line.state details
    let onBattery (q : Part) : Prop := made q .onBattery .minor [(p.supply.battery : Int)]
    let low (q : Part) : Prop := made q .batteryLow .major [(p.supply.battery : Int), (p.supply.low : Int)]
    let restored (q : Part) : Prop := made q .mainsRestored .info
      [((p.time - p.supply.mainsLostAt.getD p.time : Nat) : Int), (p.supply.battery : Int)]
    (p.supply.state = .mains → p.supply.tAbsence.isSome = true →
      ((p.line.state = .reshape ∨ p.line.move.isSome = true) →
        ∃ q : Part, Completes .enterBattery s q ∧ q.supply.state = .battery ∧ q.supply.budget = 4 ∧
          q.supply.cutback = 8 ∧ q.line = { p.line with reasons := q.line.reasons } ∧ onBattery q ∧
          ∀ r, r ∈ q.line.reasons ↔ r ∈ p.line.reasons ∨ r = .supply) ∧
      (p.line.state = .carrying → p.line.move = none →
        payload (computeDown (perTone (resolve p.band.overlay p.band.windows)) p.load.setProfile p.load.averages
          (p.line.downInForce.getD [])) ≠ 0 →
        ∃ (q : Part) (x : Reshape), Completes .enterBattery s q ∧ q.supply.state = .battery ∧
          q.line.state = .reshape ∧ q.line.reshape = some x ∧ (∀ r, r ∈ x.reasons ↔ r ∈ p.line.reasons ∨ r = .supply) ∧
          q.line.reasons = [] ∧ onBattery q)) ∧
    let entered (q : Part) (st : SupplyState) (budget cutback : Nat) (on : Bool) : Prop :=
      q.supply.state = st ∧ q.supply.budget = budget ∧ q.supply.cutback = cutback ∧ q.band.overlay = on ∧
      q.supply.hold = on ∧ q.line.downInForce = p.line.downInForce ∧ q.line.upInForce = p.line.upInForce
    let raised (q : Part) (on : Bool) : Prop :=
      ((p.line.state = .reshape ∨ p.line.move.isSome = true) →
        q.line = { p.line with reasons := q.line.reasons } ∧ ∀ r, r ∈ q.line.reasons ↔ r ∈ p.line.reasons ∨ r = .supply) ∧
      (p.line.state = .carrying → p.line.move = none →
        payload (computeDown (perTone (resolve on p.band.windows)) p.load.setProfile p.load.averages
          (p.line.downInForce.getD [])) ≠ 0 →
        q.line.state = .reshape ∧ q.line.reasons = [] ∧ q.band.offeredMap = some (perTone (resolve on p.band.windows)) ∧
          ∃ x, q.line.reshape = some x ∧ ∀ r, r ∈ x.reasons ↔ r ∈ p.line.reasons ∨ r = .supply)
    ((p.line.state = .reshape ∨ p.line.move.isSome = true ∨
        payload (computeDown (perTone (resolve true p.band.windows)) p.load.setProfile p.load.averages
          (p.line.downInForce.getD [])) ≠ 0) →
      p.supply.state = .battery → p.supply.tLow.isSome = true →
      ∃ q : Part, Completes .enterBatteryLow s q ∧ entered q .batteryLow 2 16 true ∧ raised q true ∧ q.dataOpen = false ∧
        low q) ∧
    ((p.line.state = .reshape ∨ p.line.move.isSome = true ∨
        payload (computeDown (perTone (resolve false p.band.windows)) p.load.setProfile p.load.averages
          (p.line.downInForce.getD [])) ≠ 0) →
      p.supply.state = .batteryLow →
      (p.supply.tReturn.isSome = true → ∃ q : Part, Completes .batteryRecovered s q ∧ entered q .battery 4 8 false ∧
        raised q false ∧ q.log.next = p.log.next ∧ q.portB.shedPending = false ∧ q.portB.state ≠ .shed) ∧
      (p.supply.tPresence.isSome = true → ∃ q : Part, Completes .enterMains s q ∧ entered q .mains 10 0 false ∧
        raised q false ∧ restored q ∧ q.supply.mainsLostAt = none)) ∧
    ((p.line.state = .reshape ∨ p.line.move.isSome = true ∨
        payload (computeDown (perTone (resolve p.band.overlay p.band.windows)) p.load.setProfile p.load.averages
          (p.line.downInForce.getD [])) ≠ 0) →
      p.supply.state = .battery → p.supply.tPresence.isSome = true →
      ∃ q : Part, Completes .enterMains s q ∧ q.supply.state = .mains ∧ q.supply.budget = 10 ∧ q.supply.cutback = 0 ∧
        q.band.overlay = p.band.overlay ∧ q.supply.hold = p.supply.hold ∧ raised q p.band.overlay ∧
        restored q ∧ q.supply.mainsLostAt = none) ∧
    ((p.supply.state = .battery ∨ p.supply.state = .batteryLow) → p.supply.tCutoff.isSome = true →
      (∀ x, (p.port x).state ≠ .ringing) → p.log.records.length < 31 →
      ∃ (q : Part) (r : FaultRecord), Completes .enterCutoff s q ∧ q.supply.state = .cutoff ∧ q.supply.budget = 0 ∧
        q.supply.cutback = p.supply.cutback ∧ q.supply.hold = true ∧ q.dataOpen = false ∧ q.band.overlay = false ∧
        q.line.state = .carrying ∧ q.line.downInForce = p.line.downInForce ∧ q.diag.running = none ∧
        q.sched.lastReport = some (Msg.faultReport r).bytes ∧ r ∈ q.log.records ∧ r.kind = .supplyCutoff ∧
        r.severity = .critical ∧ r.source = .supply ∧ r.lineState = .carrying ∧ r.delivery = .sent ∧ r.sends = 1 ∧
        r.details = [(p.supply.battery : Int), (p.supply.cutoff : Int),
          ((p.time - p.supply.mainsLostAt.getD p.time : Nat) : Int)] ∧
        q.log.inFlight = some r.seq ∧ q.log.ackTimer = none ∧ q.log.next = r.seq + 1 ∧
        (p.line.state = .carrying → r.seq = p.log.next ∧
          ∀ k, p.log.inFlight = some k → k ≠ p.log.next → ∀ z ∈ p.log.records, z.seq = k →
            (if p.svc.holdsReport k then
              { z with delivery := .toSend, sends := z.sends - 1 }
            else { z with delivery := if z.sends < 3 then .toSend else .undelivered }) ∈ q.log.records) ∧
        (p.line.state = .reshape → r.seq = p.log.next + 1 ∧ q.line.abandoned = p.line.abandoned ∧
          q.line.downOffered = none ∧ q.line.upOffered = none ∧ q.line.reshape = none ∧ q.band.offeredMap = none))

/-- The tests' own events. A LOOP_TEST writes the attenuation table, clamped to 0 to 400, and its result: the length
from the attenuations of tones 64 and 256 at the profile's loss, and a LONG_LOOP record above 5000 m (R169, R170). A
noise phase writes the mean noise of the scan symbols that are not impulse symbols, or of all where every one is
(R172); with fewer than two events it ends the scan with its figures, with more the scan goes on to 17 s (R173). An
impulse symbol opens the next event, which is counted and lock-tested, or belongs to the last one (R81, R82, log
entry 52). A PORT_TEST stores the ring load, with a WET_WIRING record below 20 kilohm (R175). Every end stores the
result and clears the running test (R166); a start that waited for it alone then enters SOUNDING, and else the relay
is back at the line's request, port A with it (R24, R167, R171). LONG_LOOP carries the length and the loss,
WET_WIRING the leakage and the ring load (R148). That DIAG_DONE stands ahead of that entry is log entry 67. An exact
half is rounded to a free side (log entry 7). A tone measured at exactly 400 is not counted as clamped, the model's
reading of R170 (log entry 23). -/
def Obligations.TestsMeasureAndEnd : Prop :=
  (∀ (s : State) (t : RunningTest), s.part.running = true → s.part.diag.running = some t →
    let p := s.part
    let ends (q : Part) : Prop :=
      q.diag.running = none ∧
      (p.line.startPending = true → p.supply.state ≠ .cutoff → p.supply.state ≠ .shutdown →
        (p.line.state = .dropped ∧ p.supply.relay = true ∨
          (p.line.state = .quiet ∨ p.line.state = .fallback) ∧ p.portA.hook = .onHook) → q.soundingFrom p) ∧
      (p.line.startPending = false ∨ p.supply.state = .cutoff ∨ p.supply.state = .shutdown ∨
          p.line.state ≠ .dropped ∧ p.portA.hook = .offHook → q.line = p.line ∧
        (p.line.request = .through → q.supply.relay = false ∧ (p.supply.relay = true → q.portA.state = .through)))
    let figures (tab : List Int) (impulses : Nat) : DiagValues :=
      .noise t.lock (t.lock.map (·.period / 4)) t.events impulses ((tab.drop 6).foldr min ((tab.drop 6).headD 0))
        ((sumInt (tab.drop 6)).tdiv (tab.drop 6).length) ((tab.drop 6).foldr max ((tab.drop 6).headD 0))
    (t.test = .loopTest → ∀ xs : List Int,
      let table := (List.range 448).map fun k => if k ≤ 5 then 0 else max 0 (min 400 (roundNearest (xs.getD k 0)))
      let a64 := table.getD 64 0
      let a256 := table.getD 256 0
      let loss := p.load.setProfile.loss
      let len := if a256 ≤ a64 then 0 else (max 0 (min 12000 ((a256 - a64) * 1000 / loss))).toNat
      let clamped := ((List.range 448).filter fun k => decide (6 ≤ k ∧ 400 < roundNearest (xs.getD k 0))).length
      ∃ q : Part, Completes (.loopTestDone xs) s q ∧ ends q ∧
        q.diag.loop = some ⟨.loopTest, t.port, t.source, .done (.loop len a64 a256 loss clamped), t.start, 3000⟩ ∧
        q.diag.attenuation = some (table, t.start) ∧ q.log.next = p.log.next + (if 5000 < len then 1 else 0) ∧
        (5000 < len → p.recorded q 0 1 .longLoop .info .line p.line.state [(len : Int), loss]) ∧
        q.diag.noise = p.diag.noise ∧ q.diag.noiseTable = p.diag.noiseTable ∧ q.load = p.load ∧ q.band = p.band) ∧
    (t.test = .noiseScan → t.extended = false → ∀ xs : List ScanSymbol,
      let impulse (z : ScanSymbol) : Bool := decide (442 < 4 * z.impulseTones)
      let used := if xs.all impulse then xs else xs.filter fun z => !impulse z
      let table := (List.range 448).map fun k =>
        if k ≤ 5 then -40 else max (-40) (min 240 (meanQdb (sumInt (used.map fun z => z.noise.getD k 0)) used.length))
      let impulses := (xs.filter impulse).length
      (t.events < 2 →
        ∃ q : Part, Completes (.noisePhaseEnd xs) s q ∧ ends q ∧
          q.diag.noise = some ⟨.noiseScan, t.port, t.source, .done (figures table impulses), t.start, 1000⟩ ∧
          q.diag.noiseTable = some (table, t.start) ∧ q.diag.attenuation = p.diag.attenuation) ∧
      (2 ≤ t.events →
        ∃ q : Part, Completes (.noisePhaseEnd xs) s q ∧
          q.diag = { p.diag with
            running := some { t with extended := true, working := table, impulses := impulses } })) ∧
    (t.test = .noiseScan → t.extended = true →
      ∃ q : Part, Completes .noiseScanDone s q ∧ ends q ∧
        q.diag.noise =
          some ⟨.noiseScan, t.port, t.source, .done (figures t.working t.impulses), t.start, 17000⟩ ∧
        q.diag.noiseTable = some (t.working, t.start)) ∧
    (t.test = .noiseScan → ∀ y : Symbol,
      let history := (t.history ++ [y]).drop (t.history.length + 1 - 8)
      let continues : Bool := match t.impulse with
        | some last => decide ((y - last).toNat ≤ 5)
        | none => false
      Completes (.scanImpulseEvent y) s { p with diag := { p.diag with
        running := some (if continues then { t with impulse := some y } else
          { t with
            impulse := some y, events := t.events + 1, history := history
            lock := if (lockTest history).isSome then lockTest history else t.lock }) } }) ∧
    (t.test = .portTest → ∀ x : PortId, t.port = some x → ∀ load leakage : Int,
      let rl := (max 0 (min 10 (roundNearest load))).toNat
      let lk := (max 0 (min 1000 (roundNearest leakage))).toNat
      ∃ q : Part, Completes (.portTestDone load leakage) s q ∧ ends q ∧
        (q.port x).ringLoad = rl ∧ (q.port (other x)).ringLoad = (p.port (other x)).ringLoad ∧
        (match x with | .a => q.diag.portA | .b => q.diag.portB) =
          some ⟨.portTest, some x, t.source, .done (.port rl lk (p.port x).ringLoad), t.start, 2000⟩ ∧
        q.log.next = p.log.next + (if lk < 20 then 1 else 0) ∧
        (lk < 20 → p.recorded q 0 1 .wetWiring .major (sourceOf x) p.line.state [(lk : Int), (rl : Int)]) ∧ q.diag.loop = p.diag.loop)) ∧
  (∀ x : Int, (64 * roundNearest x - x).natAbs ≤ 32) ∧
  ∀ (sum : Int) (n : Nat), 0 < n → 2 * (64 * (n : Int) * meanQdb sum n - sum).natAbs ≤ 64 * n

/-! ### The arithmetic -/

/-- A sample time (R118, R124 to R126, R128): everything but the voice path stays; a port whose converter is off plays and
gives 0; a port plays what it hears: silence, its generator's tone, the line's sample, mixed with the other port's where
joined, or the other port, one sample time late in INTERCOM; the values given to the line lie within the linear range, the
mix of a joined port A among them; that a sample is mixed by the flag of the channel at the sample's own time is the model's
choice (log entry 81).
The voice bytes of a downstream symbol (R120, R122, R127): those of a live active channel become its pair of samples in
its mode, high half code first; in an erased symbol the last pair is halved twice toward zero, then 0, and counted. -/
def Obligations.SampleTimesPlayAndMix : Prop :=
  (∀ (s : State) (a b : Int), s.part.running = true → -4079 ≤ a → a ≤ 4079 → -4079 ≤ b → b ≤ 4079 →
    let p := s.part
    let mix (y z : Int) : Int := max (-4079) (min 4079 (y + z))
    let sa := if p.portA.state.converts then a else 0
    let sb := if p.portB.state.converts then b else 0
    ∃ v : Voice, Completes (.sampleTime a b) s { p with voice := v } ∧ v.chanA = p.voice.chanA ∧
      v.chanB = p.voice.chanB ∧ v.joinLink = p.voice.joinLink ∧ v.concealedA = p.voice.concealedA ∧
      v.lineA = p.voice.lineA.tail ∧ v.lineB = p.voice.lineB.tail ∧ v.micA.2 = sa ∧ v.micB.2 = sb ∧
      (((-4079 ≤ p.voice.upA.2 ∧ p.voice.upA.2 ≤ 4079) → -4079 ≤ v.upA.1 ∧ v.upA.1 ≤ 4079) ∧
        -4079 ≤ v.upA.2 ∧ v.upA.2 ≤ 4079 ∧ -4079 ≤ v.upB.2 ∧ v.upB.2 ≤ 4079) ∧
      v.upA.1 = p.voice.upA.2 ∧ v.upB.1 = p.voice.upB.2 ∧
      v.upB.2 = sb ∧
      v.upA.2 = (if p.voice.joinLink = true ∧ p.voice.chanA.map (·.active) = some true then mix sa sb else sa) ∧
      (p.portA.state = .disabled ∨ p.portA.state = .through → v.playA = 0 ∧ sa = 0) ∧
      (p.portB.state = .disabled ∨ p.portB.state = .shed → v.playB = 0 ∧ v.upB.2 = 0) ∧
      (p.portA.state.converts = true →
        (p.portA.heard = .silence → v.playA = 0) ∧
        (∀ k, p.portA.heard = .tone k → v.playA = (p.gen .a).sample) ∧
        (p.portA.heard = .line → v.playA =
          if p.voice.joinLink then mix (p.voice.lineA.headD 0) sb else p.voice.lineA.headD 0) ∧
        (p.portA.heard = .otherPort → v.playA = if p.portA.state = .intercom then p.voice.micB.2 else sb)) ∧
      (p.portB.state.converts = true →
        (p.portB.heard = .silence → v.playB = 0) ∧
        (∀ k, p.portB.heard = .tone k → v.playB = (p.gen .b).sample) ∧
        (p.portB.heard = .line → v.playB =
          if p.voice.joinLink then mix (p.voice.lineA.headD 0) sa else p.voice.lineB.headD 0) ∧
        (p.portB.heard = .otherPort → v.playB = if p.portB.state = .intercom then p.voice.micA.2 else sa))) ∧
  (∀ g : Generator, (g.sample.natAbs : Int) ≤ max 1000 g.peak ∧ (g.kind = .silent → g.sample = 0) ∧
    (g.kind = .howler → g.sample.natAbs ≤ g.peak) ∧
    (g.kind = .ringback → g.sample.natAbs ≤ 700 ∧ (8000 ≤ g.pos % 24000 → g.sample = 0)) ∧
    (g.kind = .busy → 4000 ≤ g.pos % 8000 → g.sample = 0)) ∧
  ∀ (s : State) (d : DownSymbol) (erased : Bool) (x : PortId), s.part.running = true → s.part.inService = true →
    let p := s.part
    (erased = false → p.tracker.state ≠ .locked ∧ p.tracker.window = none) →
    (erased = true → ∃ w, p.tracker.window = some w ∧ (p.line.symbol - w.1).toNat < 13) →
    ∀ c, p.chan x = some c → p.slot x = .live → c.active = true →
      let bs := (d.bytes.drop (match x with | .a => 1 | .b => 1 + p.alloc .a)).take c.mode.bytes
      let pair : Int × Int :=
        if erased then
          (if 2 ≤ c.erasedRun then (0, 0) else (c.last.1.tdiv 2, c.last.2.tdiv 2))
        else match c.mode with
          | .full => ((Code.ofByte (bs.getD 0 0)).expand, (Code.ofByte (bs.getD 1 0)).expand)
          | .half => ((Code.ofHalf ((bs.getD 0 0).extractLsb' 4 4)).expand, (Code.ofHalf ((bs.getD 0 0).extractLsb' 0 4)).expand)
      ∃ q : Part, Completes (.downstreamSymbol d) s q ∧
        q.chan x = some { c with erasedRun := if erased then min 3 (c.erasedRun + 1) else 0, last := pair } ∧
        (match x with | .a => q.voice.lineA | .b => q.voice.lineB) = [pair.1, pair.2] ∧
        (match x with | .a => q.voice.concealedA | .b => q.voice.concealedB) =
          min 4294967295 ((match x with | .a => p.voice.concealedA | .b => p.voice.concealedB) + if erased then 1 else 0)

/-- Expansion (R122): the magnitude of each code, and what compression followed by expansion costs. -/
def Obligations.ExpansionIsTheMiddleOfTheStep : Prop :=
  (∀ (neg : Bool) (seg k : Nat), seg ≤ 7 → k ≤ 15 →
    (Code.expand ⟨neg, seg, k⟩ =
        (if neg then -1 else 1) * (((16 + k) * 2 ^ seg - 16 + 2 ^ seg / 2 : Nat) : Int)) ∧
      (seg = 0 → Code.expand ⟨neg, seg, k⟩ = (if neg then -1 else 1) * (k : Int)) ∧
      (seg = 0 → k = 0 → Code.expand ⟨neg, seg, k⟩ = 0) ∧ (Code.expand ⟨neg, seg, k⟩).natAbs ≤ 4016) ∧
  (∃ c : Code, c.segment ≤ 7 ∧ c.step ≤ 15 ∧ c.expand = 4016) ∧
  ∀ x : Int, -4079 ≤ x → x ≤ 4079 → 2 * ((compress x).expand - x).natAbs ≤ 2 ^ (compress x).segment

/-- Compression (R119, R121, R123): sign, segment and step of every sample; the byte of a code is its sign in bit 7, its
segment in bits 6 to 4 and its step in bits 3 to 0, and its half code the sign in bit 3 and the segment below; every byte
and every half code is read by the same layout, a half code with the step at 8, so that the byte gives the code back and the
half code keeps sign and segment; the voice bytes of a pair are two bytes in FULL, and in HALF one with the earlier sample's
half code in its high half. -/
def Obligations.CompressionCodesAndBytesAgree : Prop :=
  (∀ x : Int,
    let c := compress x
    let m := min x.natAbs 4079
    (c.negative = true ↔ x < 0) ∧ c.segment ≤ 7 ∧ 16 * 2 ^ c.segment - 16 ≤ m ∧
      (∀ j, j ≤ 7 → 16 * 2 ^ j - 16 ≤ m → j ≤ c.segment) ∧ c.step ≤ 15 ∧
      (c.step : Int) = ((m + 16) / 2 ^ c.segment : Nat) - 16 ∧
      c.toByte.toNat = (if x < 0 then 128 else 0) + 16 * c.segment + c.step ∧
      c.half.toNat = (if x < 0 then 8 else 0) + c.segment ∧ Code.ofByte c.toByte = c ∧
      Code.ofHalf c.half = { c with step := 8 }) ∧
  (∀ b : Byte, Code.ofByte b = ⟨decide (128 ≤ b.toNat), b.toNat / 16 % 8, b.toNat % 16⟩) ∧
  (∀ h : BitVec 4, Code.ofHalf h = ⟨decide (8 ≤ h.toNat), h.toNat % 8, 8⟩) ∧
  ∀ x y : Int,
    (voiceBytes .full (x, y)).map BitVec.toNat = [(compress x).toByte.toNat, (compress y).toByte.toNat] ∧
    (voiceBytes .half (x, y)).map BitVec.toNat = [16 * (compress x).half.toNat + (compress y).half.toNat]

/-- The downstream cases (R52, R53): what each input gives its tone, for a profile as R42 leaves it. -/
def Obligations.HeadroomSettlesBitsAndGain : Prop :=
  ∀ (p : Profile) (S : Int), 2 ≤ p.maxBits → p.maxBits ≤ 12 →
    let w := settleTone p S
    let H := S - p.gap - p.margin
    let braw := H / 12
    let L := H - 12 * braw
    (H < 0 → w.entry = ⟨0, 0⟩ ∧ w.boosted = false) ∧
    (0 ≤ H → (p.maxBits : Int) ≤ braw →
      w.entry = ⟨p.maxBits, -(min (H - 12 * p.maxBits) 8)⟩ ∧ w.boosted = false) ∧
    (0 ≤ H → braw < p.maxBits → 9 ≤ L → 1 ≤ braw →
      (w.entry.b : Int) = braw + 1 ∧ w.entry.g = 12 - L ∧ w.boosted = true) ∧
    (0 ≤ H → braw < p.maxBits → L < 9 → 2 ≤ braw →
      (w.entry.b : Int) = braw ∧ w.entry.g = -(min L 8) ∧ w.boosted = false) ∧
    (0 ≤ H → braw < p.maxBits → (braw = 0 ∨ braw = 1 ∧ L < 9) → w.entry = ⟨0, 0⟩ ∧ w.boosted = false) ∧
    w.entry.b ≠ 1

/-- Every computed downstream table is sound (R39, R54): 448 entries, bits 0 or 2 to max_bits, gains -8 to +3 and 0 on
an unloaded tone, bits only on DOWN CARRY tones with an average, and a gain sum at most 0.
What the table is (R51, R54): each DOWN CARRY tone with an average settles on the average rounded to the nearest qdB,
halves away from zero, less the gain in force, held in -40 to 240; then the boosts are withdrawn from some tone up, no
further down than brings the gain sum to at most 0. -/
def Obligations.ComputedTablesAreValid : Prop :=
  ∀ (map : List Role) (p : Profile) (averages : List (Option Int)) (inForce : List LoadEntry),
    2 ≤ p.maxBits → p.maxBits ≤ 12 →
    let t := computeDown map p averages inForce
    t.length = 448 ∧ gainSum t ≤ 0 ∧
      ∀ (i : Nat) (e : LoadEntry), t[i]? = some e →
        (e.b = 0 ∨ 2 ≤ e.b ∧ e.b ≤ p.maxBits) ∧ -8 ≤ e.g ∧ e.g ≤ 3 ∧ (e.b = 0 → e.g = 0) ∧
          (e.b ≠ 0 → map[i]? = some .downCarry ∧ ∃ a, averages[i]? = some (some a))
    ∧
    let settled (i : Nat) : Work :=
      if map.getD i .unused = .downCarry then
        match averages.getD i none with
        | some a =>
          settleTone p (max (-40) (min 240
            ((if 0 ≤ a then (a + 32) / 64 else -((-a + 32) / 64)) - (inForce.getD i ⟨0, 0⟩).g)))
        | none => ⟨0, 0, ⟨0, 0⟩, false⟩
      else ⟨0, 0, ⟨0, 0⟩, false⟩
    let withdrawnFrom (k : Nat) : List LoadEntry := (List.range 448).map fun i =>
      let w := settled i
      if k ≤ i ∧ w.boosted = true then (if w.braw ≤ 1 then ⟨0, 0⟩ else ⟨w.braw, -(min w.left 8)⟩) else w.entry
    ∃ k : Nat, k ≤ 448 ∧ t = withdrawnFrom k ∧
      (k < 448 → (settled k).boosted = true ∧ 0 < ((withdrawnFrom (k + 1)).map (·.g)).sum)

/-- An entry's byte and its reading agree (R23, R210), both ways: every entry a byte can express comes back, every byte
comes back, and so does a whole table through the two segments of an UP_TABLE. -/
def Obligations.TableEntriesAndBytesAgree : Prop :=
  (∀ e : LoadEntry, e.b ≤ 15 → -8 ≤ e.g → e.g ≤ 7 → entryOfByte (entryToByte e) = e) ∧
  (∀ x : Byte, entryToByte (entryOfByte x) = x) ∧
  ∀ (t : List LoadEntry) (n : Byte), t.length = 448 → (∀ e ∈ t, e.b ≤ 15 ∧ -8 ≤ e.g ∧ e.g ≤ 7) →
    (collectSegment (some (collectSegment none n 0 ((t.map entryToByte).take 224))) n 1
      (((t.map entryToByte).drop 224).take 224)).table = some t
end

