-- ==== Sys2Proof/Laws/Outline.lean ====
section
/-! SUPPORT. The part's outline: the few figures that `Part.coherent` speaks of, and what every shared operation does to
them. One lemma per operation, to be cited in place of unfolding it. -/

namespace Sys2Proof.Machine

/-! ### The outline -/

/-- One truth for each port. -/
structure Ends where
  a : Bool
  b : Bool
  deriving DecidableEq, Repr

/-- The one of a port. -/
def Ends.at_ (e : Ends) : PortId → Bool
  | .a => e.a
  | .b => e.b

/-- The one of a port replaced. -/
def Ends.put (e : Ends) (p : PortId) (v : Bool) : Ends :=
  match p with
  | .a => { e with a := v }
  | .b => { e with b := v }

/-- The line's figures: its state, its relay request, the tables it has, and whether a switch or a valid table needs the
upstream one on offer. -/
structure LineOutline where
  state   : LineState
  request : RelayPos
  down    : Bool
  up      : Bool
  downOff : Bool
  upOff   : Bool
  marks   : Bool
  deriving DecidableEq, Repr

/-- The part's figures: the line's, the maps', the ports' (in a call; port A through), the channels', the supply's. -/
structure Outline where
  line    : LineOutline
  mapIn   : Bool
  mapOff  : Bool
  call    : Ends
  through : Bool
  chan    : Ends
  live    : Ends
  wait    : Ends
  shut    : Bool
  relay   : Bool
  deriving DecidableEq, Repr

/-- A port in one of the states that have a channel (R117). -/
def PortState.inCall (n : PortState) : Bool := n == .connected || n == .held

/-- The line's figures. -/
def Line.outline (l : Line) : LineOutline where
  state := l.state
  request := l.request
  down := l.downInForce.isSome
  up := l.upInForce.isSome
  downOff := l.downOffered.isSome
  upOff := l.upOffered.isSome
  marks := l.switch.isSome || l.upValid

/-- The maps' figures: in force, and on offer. -/
def Band.outline (b : Band) : Bool × Bool := (b.mapInForce.isSome, b.offeredMap.isSome)

/-- The channels that exist. -/
def Voice.outline (v : Voice) : Ends := ⟨v.chanA.isSome, v.chanB.isSome⟩

/-- A beginning waits for the port. -/
def waiting (ws : List ChanSwitch) (p : PortId) : Bool := ws.any fun w => decide (w.port = p ∧ w.what = .begin)

/-- The slots in use, and the beginnings that wait. -/
def Sched.outline (d : Sched) : Ends × Ends :=
  (⟨d.slotA == .live, d.slotB == .live⟩, ⟨waiting d.switches .a, waiting d.switches .b⟩)

/-- The supply is in SHUTDOWN, and where the relay stands. -/
def Supply.outline (v : Supply) : Bool × Bool := (v.state == .shutdown, v.relay)

/-- The part's figures. -/
def Part.outline (s : Part) : Outline where
  line := s.line.outline
  mapIn := s.band.outline.1
  mapOff := s.band.outline.2
  call := ⟨s.portA.state.inCall, s.portB.state.inCall⟩
  through := s.portA.state == .through
  chan := s.voice.outline
  live := s.sched.outline.1
  wait := s.sched.outline.2
  shut := s.supply.outline.1
  relay := s.supply.outline.2

/-- The line of the outline is in service. -/
def Outline.inService (o : Outline) : Bool := o.line.state.inService

/-- The outline of a coherent part. -/
def Outline.ok (o : Outline) : Prop :=
  (o.line.down = o.inService ∧ o.line.up = o.inService ∧ o.mapIn = o.inService ∧
    (o.line.request = .through ↔ o.line.state = .quiet ∨ o.line.state = .fallback) ∧
    (o.line.state = .loading ∨ o.line.state = .reshape → o.line.downOff = true ∧ o.mapOff = true) ∧
    (o.line.marks = true → o.line.upOff = true)) ∧
  (∀ p, o.chan.at_ p = o.call.at_ p ∧ (o.chan.at_ p = true → o.inService = true) ∧
    (o.live.at_ p = true → o.chan.at_ p = true) ∧ (o.wait.at_ p = true → o.chan.at_ p = true)) ∧
  o.through = !o.relay ∧ (o.shut = true → o.line.state = .quiet)

variable {s x y : Part} {o : Outline}

theorem Part.outline_call (s : Part) (p : PortId) : s.outline.call.at_ p = (s.port p).state.inCall := by
  cases p <;> rfl

theorem Part.outline_chan (s : Part) (p : PortId) : s.outline.chan.at_ p = (s.chan p).isSome := by cases p <;> rfl

theorem Part.outline_live (s : Part) (p : PortId) : s.outline.live.at_ p = (s.slot p == .live) := by cases p <;> rfl

theorem Part.outline_wait (s : Part) (p : PortId) : s.outline.wait.at_ p = waiting s.sched.switches p := by
  cases p <;> rfl

theorem waiting_iff (ws : List ChanSwitch) (p : PortId) :
    waiting ws p = true ↔ ∃ w ∈ ws, w.port = p ∧ w.what = .begin := by simp [waiting]

/-- A part is coherent exactly where its outline is, if it runs. -/
theorem Part.coherent_iff (s : Part) : s.coherent ↔ (s.running = true → s.outline.ok) := by
  unfold Part.coherent Part.lineCoherent Part.chanCoherent Outline.ok
  apply imp_congr_right
  intro _
  refine and_congr ?_ (and_congr (forall_congr' fun p => ?_) (and_congr ?_ ?_))
  · refine and_congr Iff.rfl (and_congr Iff.rfl (and_congr Iff.rfl (and_congr Iff.rfl (and_congr Iff.rfl ?_))))
    show _ ↔ ((s.line.switch.isSome || s.line.upValid) = true → _)
    rw [Bool.or_eq_true]
    exact Iff.rfl
  · rw [Part.outline_call, Part.outline_chan, Part.outline_live, Part.outline_wait, waiting_iff]
    refine and_congr ?_ (and_congr Iff.rfl (and_congr ?_ ?_))
    · refine Iff.trans ?_ Bool.eq_iff_iff.symm
      simp only [PortState.inCall, Bool.or_eq_true, beq_iff_eq]
    · simp
    · exact ⟨fun h ⟨w, hw, e, b⟩ => h w hw e b, fun h w hw e b => h ⟨w, hw, e, b⟩⟩
  · show _ ↔ (s.portA.state == .through) = !s.supply.relay
    refine Iff.trans ?_ Bool.eq_iff_iff.symm
    simp only [beq_iff_eq, Bool.not_eq_true']
  · show _ ↔ ((s.supply.state == .shutdown) = true → _)
    simp [Part.outline, Line.outline]

/-- A record that takes new fields has the outline it had, where the fields the outline speaks of keep theirs. -/
theorem Part.outline_mk {t li sn ld bd mo tr pa pb vo sc sv lg dg su ac lk} (h : x.outline = o)
    (h1 : li.outline = x.line.outline) (h2 : bd.outline = x.band.outline) (h3 : pa.state = x.portA.state)
    (h4 : pb.state = x.portB.state) (h5 : vo.outline = x.voice.outline) (h6 : sc.outline = x.sched.outline)
    (h7 : su.outline = x.supply.outline) :
    Part.outline ⟨x.running, t, li, sn, ld, bd, mo, tr, pa, pb, vo, sc, sv, lg, dg, su, ac, lk⟩ = o := by
  subst h
  simp only [Part.outline, h1, h2, h3, h4, h5, h6, h7]

/-! ### Queues, records and the data port -/

theorem Part.post_outline (n : Notice) (h : x.outline = o) : (x.post n).outline = o := h

theorem Part.enqueue_outline (m : Msg) (h : x.outline = o) : (x.enqueue m).outline = o := by
  unfold Part.enqueue
  repeat' (first | exact h | split)

theorem Part.tryOffer_outline (h : x.outline = o) : x.tryOffer.outline = o := by
  unfold Part.tryOffer
  repeat' (first | exact h | with_reducible apply Part.enqueue_outline | split)

theorem Part.storeRecord_outline (r : FaultRecord) (h : x.outline = o) : (x.storeRecord r).outline = o := h

theorem Part.makeRecordAt_outline (k : FaultKind) (src : FaultSource) (ls : LineState) (ds : List Int)
    (h : x.outline = o) : (x.makeRecordAt k src ls ds).outline = o := by
  unfold Part.makeRecordAt
  dsimp only
  repeat' (first | exact h | with_reducible apply Part.tryOffer_outline | split)

theorem Part.makeRecord_outline (k : FaultKind) (src : FaultSource) (ds : List Int) (h : x.outline = o) :
    (x.makeRecord k src ds).outline = o := Part.makeRecordAt_outline _ _ _ _ h

theorem Part.setHolds_outline (a b : Bool) (h : x.outline = o) : (x.setHolds a b).outline = o := by
  unfold Part.setHolds
  dsimp only
  split
  · refine Part.outline_mk h ?_ ?_ ?_ ?_ ?_ ?_ ?_ <;> rfl
  · exact h

/-! ### The records of a port -/

theorem Part.setPort_outline (p : PortId) (r : Port) (h : x.outline = o) (hr : r.state = (x.port p).state) :
    (x.setPort p r).outline = o := by
  cases p <;> refine Part.outline_mk h ?_ ?_ ?_ ?_ ?_ ?_ ?_ <;> first | rfl | exact hr

theorem Part.setChan_outline (p : PortId) (c : Option Channel) (h : x.outline = o) :
    (x.setChan p c).outline = { o with chan := o.chan.put p c.isSome } := by
  subst h; cases p <;> rfl

theorem Part.setGen_outline (p : PortId) (g : Generator) (h : x.outline = o) : (x.setGen p g).outline = o := by
  cases p <;> exact h

theorem Part.setSlot_outline (p : PortId) (v : Slot) (h : x.outline = o) :
    (x.setSlot p v).outline = { o with live := o.live.put p (v == .live) } := by
  subst h; cases p <;> rfl

theorem Part.setHold_outline (p : PortId) (v : Option Nat) (h : x.outline = o) : (x.setHold p v).outline = o := by
  cases p <;> exact h

theorem Part.modPort_outline (p : PortId) (f : Port → Port) (h : x.outline = o)
    (hf : (f (x.port p)).state = (x.port p).state) : (x.modPort p f).outline = o :=
  Part.setPort_outline p _ h hf

theorem Part.endTest_outline (e : DiagOutcome) (d : Nat) (h : x.outline = o) : (x.endTest e d).outline = o := by
  unfold Part.endTest
  split <;> exact h

theorem Part.abortTest_outline (w : AbortCause) (h : x.outline = o) : (x.abortTest w).outline = o :=
  Part.endTest_outline _ _ h

/-! ### Telephone ports -/

theorem Part.portEvent_outline (p : PortId) (e : PortEvent) (m : Option Mode) (h : x.outline = o) :
    (x.portEvent p e m).outline = o := h

theorem Part.signal_outline (p : PortId) (v : Signal) (h : x.outline = o) : (x.signal p v).outline = o :=
  Part.enqueue_outline _ h

theorem Part.sayOffHook_outline (p : PortId) (h : x.outline = o) : (x.sayOffHook p).outline = o :=
  Part.modPort_outline _ _ (Part.signal_outline _ _ h) rfl

theorem Part.sayOnHook_outline (p : PortId) (h : x.outline = o) : (x.sayOnHook p).outline = o :=
  Part.modPort_outline _ _ (Part.signal_outline _ _ h) rfl

theorem Part.withdraw_outline (p : PortId) (h : x.outline = o) : (x.withdraw p).outline = o := by
  unfold Part.withdraw
  repeat' (first | exact h | with_reducible apply Part.sayOnHook_outline | split)

/-- The outline with a port in another state. -/
def Outline.enter (o : Outline) (p : PortId) (n : PortState) : Outline :=
  { o with call := o.call.put p n.inCall, through := if p = .a then n == .through else o.through }

/-- Entering the state a port is in changes no figure. -/
theorem Part.outline_enter (s : Part) (p : PortId) : s.outline.enter p (s.port p).state = s.outline := by
  cases p <;> rfl

theorem Part.setState_outline (p : PortId) (n : PortState) (h : x.outline = o) :
    (x.modPort p fun r => { r with state := n }).outline = o.enter p n := by
  subst h; cases p <;> rfl

theorem Part.enterState_outline (p : PortId) (n : PortState) (m : Option Mode) (h : x.outline = o) :
    (x.enterState p n m).outline = o.enter p n := by
  unfold Part.enterState
  dsimp only
  split
  · rename_i hn
    subst h hn
    exact (Part.outline_enter x p).symm
  · split
    · exact Part.abortTest_outline _ (Part.setState_outline p n h)
    · exact Part.setState_outline p n h

/-- Neither in a call nor through: the states between which a port moves without a change of the outline. -/
def PortState.plain (n : PortState) : Bool := !n.inCall && n != .through

/-- A port that is in a plain state enters another one. -/
theorem Part.enterState_plain (p : PortId) (n : PortState) (m : Option Mode) (h : x.outline = o)
    (hx : (x.port p).state.plain = true) (hn : n.plain = true) : (x.enterState p n m).outline = o := by
  rw [Part.enterState_outline p n m h]
  subst h
  have h1 := Part.outline_enter x p
  unfold Outline.enter at h1 ⊢
  simp only [PortState.plain, Bool.and_eq_true, Bool.not_eq_true', bne_iff_ne, ne_eq] at hx hn
  simp only [hx.1, hn.1, beq_eq_false_iff_ne.2 hx.2, beq_eq_false_iff_ne.2 hn.2] at h1 ⊢
  exact h1


theorem Part.postRingLimited_outline (p : PortId) (h : x.outline = o) : (x.postRingLimited p).outline = o := h

theorem Part.releaseTone_outline (p : PortId) (h : x.outline = o) : (x.releaseTone p).outline = o := by
  unfold Part.releaseTone
  split
  · exact Part.setGen_outline _ _ (Part.modPort_outline _ _ h rfl)
  · exact h

theorem Part.callerBack_outline (p : PortId) (h : x.outline = o) : (x.callerBack p).outline = o := by
  unfold Part.callerBack
  dsimp only
  repeat' (first | exact h | rfl | with_reducible apply Part.sayOffHook_outline
                  | with_reducible apply Part.releaseTone_outline | with_reducible apply Part.modPort_outline | split)

/-- A ring that ends takes its port to the next state. -/
theorem Part.endRing_enter (p : PortId) (b : Bool) (n : PortState) (h : x.outline = o)
    (hg : (x.port p).ring.isSome = true) : (x.endRing p b n).outline = o.enter p n := by
  have h1 : ((x.modPort p fun r => { r with ring := none }).enterState p n none).outline = o.enter p n :=
    Part.enterState_outline _ _ _ (Part.modPort_outline _ _ h rfl)
  unfold Part.endRing
  dsimp only
  split
  · rename_i hn
    rw [hn] at hg
    exact absurd hg (by decide)
  · repeat' (first | exact h1 | with_reducible apply Part.callerBack_outline | with_reducible apply Part.signal_outline
                    | split)

/-- Where no ring is there, nothing ends. -/
theorem Part.endRing_none (p : PortId) (b : Bool) (n : PortState) (hg : (x.port p).ring = none) :
    x.endRing p b n = x := by
  unfold Part.endRing
  rw [hg]

theorem Part.endRing_plain (p : PortId) (b : Bool) (n : PortState) (h : x.outline = o)
    (hx : (x.port p).state.plain = true) (hn : n.plain = true) : (x.endRing p b n).outline = o := by
  have h1 : ((x.modPort p fun r => { r with ring := none }).enterState p n none).outline = o :=
    Part.enterState_plain p n none (Part.modPort_outline _ _ h rfl) (by cases p <;> exact hx) hn
  unfold Part.endRing
  dsimp only
  repeat' (first | exact h | exact h1 | with_reducible apply Part.callerBack_outline
                  | with_reducible apply Part.signal_outline | split)

theorem Part.isCaller_ringing {s : Part} {p : PortId} (h : s.isCaller p = true) :
    (s.port (other p)).state = .ringing := by
  unfold Part.isCaller at h
  simp only [Bool.and_eq_true, beq_iff_eq] at h
  exact h.1

theorem Part.dropRungBy_outline (p : PortId) (h : x.outline = o) : (x.dropRungBy p).outline = o := by
  unfold Part.dropRungBy
  split
  · rename_i hc
    exact Part.endRing_plain _ _ _ h (by rw [Part.isCaller_ringing hc]; rfl) rfl
  · exact h

theorem Part.park_outline (p : PortId) (h : x.outline = o) : (x.park p).outline = o.enter p .parked :=
  Part.dropRungBy_outline _ (Part.enterState_outline _ _ _ (Part.modPort_outline _ _ h rfl))

theorem Part.park_plain (p : PortId) (h : x.outline = o) (hx : (x.port p).state.plain = true) :
    (x.park p).outline = o :=
  Part.dropRungBy_outline _ (Part.enterState_plain _ _ _ (Part.modPort_outline _ _ h rfl) (by cases p <;> exact hx) rfl)

theorem Part.unlink_outline (h : x.outline = o) : x.unlink.outline = o := h

theorem Part.parkJoined_outline (h : x.outline = o) : x.parkJoined.outline = o := by
  unfold Part.parkJoined
  split
  · rename_i hj
    exact Part.park_plain .b h (by show x.portB.state.plain = true; rw [hj]; rfl)
  · exact h

theorem Part.toDialling_outline (p : PortId) (h : x.outline = o) : (x.toDialling p).outline = o.enter p .dialling := by
  have h1 := Part.enterState_outline p .dialling none (Part.modPort_outline p (fun r =>
    { r with dialTimer := some 30000, digit := none, lastTone := none, howler := none }) h rfl)
  unfold Part.toDialling
  dsimp only
  split
  · exact Part.sayOffHook_outline _ h1
  · exact h1

theorem Part.leaveCall_outline (p : PortId) (old : PortState) (h : x.outline = o) :
    (x.leaveCall p old).outline = o := by
  unfold Part.leaveCall
  dsimp only
  apply Part.dropRungBy_outline
  have h1 : (if old = .intercom ∧ (x.port (other p)).state = .intercom then x.park (other p) else x).outline = o := by
    split
    · rename_i hi
      exact Part.park_plain _ h (by rw [hi.2]; rfl)
    · exact h
  repeat' (first | exact h1 | with_reducible apply Part.parkJoined_outline
                  | with_reducible apply Part.unlink_outline | split)

/-! ### Channels -/

/-- The outline with a channel begun (R117, R138). -/
def Outline.begin (o : Outline) (p : PortId) : Outline :=
  { o with chan := o.chan.put p true, wait := o.wait.put p true }

/-- The outline with a channel ended, if there was one (R117, R138). -/
def Outline.finish (o : Outline) (p : PortId) : Outline :=
  if o.chan.at_ p then
    { o with chan := o.chan.put p false, live := o.live.put p false, wait := o.wait.put p false }
  else o

theorem Part.beginChannel_outline (p : PortId) (m : Mode) (h : x.outline = o) :
    (x.beginChannel p m).outline = o.begin p := by
  subst h
  unfold Part.beginChannel
  dsimp only
  apply Part.signal_outline
  cases p <;> simp [Part.outline, Part.setChan, Outline.begin, Ends.put, Sched.outline, Voice.outline, waiting]

theorem waiting_finish (ws : List ChanSwitch) (p q : PortId) (c : Channel) (k : Symbol) :
    waiting (ws.map (·.finish p c) ++ [⟨p, k, .finish⟩]) q = if p = q then false else waiting ws q := by
  unfold waiting
  rw [List.any_append, List.any_map]
  split
  · rename_i hp
    subst hp
    simp only [List.any_cons, List.any_nil, reduceCtorEq, and_false, decide_false, Bool.or_false, List.any_eq_false,
      Function.comp_apply, decide_eq_true_eq, not_and]
    intro w _
    unfold ChanSwitch.finish
    split
    · intro _; simp
    · rename_i hw
      exact fun e b => hw ⟨e, b⟩
  · rename_i hp
    simp only [List.any_cons, List.any_nil, reduceCtorEq, and_false, decide_false, Bool.or_false]
    congr 1
    funext w
    simp only [Function.comp_apply, decide_eq_decide]
    unfold ChanSwitch.finish
    split
    · rename_i hw
      constructor
      · intro e; exact absurd e.2 (by simp)
      · intro e; exact absurd (hw.1.symm.trans e.1) hp
    · exact Iff.rfl

theorem Part.endChannel_outline (p : PortId) (h : x.outline = o) : (x.endChannel p).outline = o.finish p := by
  subst h
  unfold Part.endChannel Outline.finish
  rw [Part.outline_chan]
  split
  · rename_i hc
    rw [hc]
    exact Part.setHold_outline _ _ rfl
  · rename_i c hc
    rw [hc]
    dsimp only
    apply Part.signal_outline
    cases p
    · simp only [Part.outline, Part.setChan, Part.setHold, Part.setSlot, Sched.outline, Voice.outline, Ends.put,
        waiting_finish, Part.slot]
      cases x.sched.slotA <;> simp [Slot.finish]
    · simp only [Part.outline, Part.setChan, Part.setHold, Part.setSlot, Sched.outline, Voice.outline, Ends.put,
        waiting_finish, Part.slot]
      cases x.sched.slotB <;> simp [Slot.finish]

theorem Part.hangUp_outline (p : PortId) (n : PortState) (h : x.outline = o) :
    (x.hangUp p n).outline = (o.finish p).enter p n :=
  Part.leaveCall_outline _ _ (Part.enterState_outline _ _ _
    (Part.modPort_outline _ _ (Part.endChannel_outline _ (Part.withdraw_outline _ h)) rfl))

theorem Part.startRing_outline (p : PortId) (c : Nat) (g : Origin) (q : Option PortId) (h : x.outline = o) :
    (x.startRing p c g q).outline = o.enter p .ringing := by
  unfold Part.startRing
  dsimp only
  have h1 := Part.enterState_outline p .ringing none (Part.modPort_outline p (fun r =>
    { r with ring := some ⟨c, 0, (cadencePhases c).headD 0, g, q, if g = .loc then some 60000 else none⟩ }) h rfl)
  split
  · exact Part.setGen_outline _ _ (Part.modPort_outline _ _ h1 rfl)
  · exact h1


/-! ### The line leaving service, the relay, what a port hears -/

/-- The outline with a port out of its call. -/
def Outline.uncall (o : Outline) (p : PortId) : Outline := { o with call := o.call.put p false }

/-- The outline with no channel and no arrangement. -/
def Outline.noChannels (o : Outline) : Outline :=
  { o with chan := ⟨false, false⟩, live := ⟨false, false⟩, wait := ⟨false, false⟩ }

/-- The outline with both ports and their channels out of service. -/
def Outline.unserve (o : Outline) : Outline := (o.noChannels.uncall .a).uncall .b

theorem Outline.uncall_enter (s : Part) (p : PortId) (n : PortState) (h : (s.port p).state ≠ .through)
    (hn : n.plain = true) : s.outline.enter p n = s.outline.uncall p := by
  simp only [PortState.plain, Bool.and_eq_true, Bool.not_eq_true', bne_iff_ne, ne_eq] at hn
  unfold Outline.enter Outline.uncall
  rw [hn.1]
  split
  · rename_i hp
    subst hp
    rw [beq_eq_false_iff_ne.2 hn.2]
    have : s.outline.through = false := beq_eq_false_iff_ne.2 h
    rw [← this]
  · rfl

theorem Outline.uncall_self (s : Part) (p : PortId) (h : (s.port p).state.inCall = false) :
    s.outline.uncall p = s.outline := by
  have h1 := Part.outline_call s p
  rw [h] at h1
  unfold Outline.uncall
  cases p
  · show { s.outline with call := ⟨false, s.outline.call.b⟩ } = s.outline
    rw [← h1]
    rfl
  · show { s.outline with call := ⟨s.outline.call.a, false⟩ } = s.outline
    rw [← h1]
    rfl

theorem Part.portLeavesService_outline (p : PortId) (h : x.outline = o) :
    (x.portLeavesService p).outline = o.uncall p := by
  unfold Part.portLeavesService
  dsimp only
  refine Part.modPort_outline _ _ ?_ rfl
  subst h
  split
  · rename_i hs
    rw [Part.park_outline p rfl, Outline.uncall_enter x p _ (by rw [hs]; decide) rfl]
  · rename_i hs
    rw [Part.park_outline p rfl, Outline.uncall_enter x p _ (by rw [hs]; decide) rfl]
  · rename_i hs
    rw [Part.park_outline p rfl, Outline.uncall_enter x p _ (by rw [hs]; decide) rfl]
  · rename_i hs
    rw [Outline.uncall_self x p (by rw [hs]; rfl)]
    split
    · exact Part.endRing_plain _ _ _ rfl (by rw [hs]; rfl) rfl
    · rfl
  · rename_i hs
    rw [Outline.uncall_self x p (by rw [hs]; rfl)]
    exact Part.modPort_outline _ _ rfl rfl
  · rename_i h1 h2 _ _ _
    refine (Outline.uncall_self x p ?_).symm
    simp only [PortState.inCall, Bool.or_eq_false_iff, beq_eq_false_iff_ne]
    exact ⟨h1, h2⟩

theorem Part.channelsEnd_outline (h : x.outline = o) : x.channelsEnd.outline = o.noChannels := by
  subst h; rfl

theorem Part.portsLeaveService_outline (h : x.outline = o) : x.portsLeaveService.outline = o.unserve :=
  Part.portLeavesService_outline _ (Part.portLeavesService_outline _ (Part.channelsEnd_outline h))

/-- The outline with port A through and without a channel record (R90). -/
def Outline.enterThrough (o : Outline) : Outline :=
  { o with chan := o.chan.put .a false, call := o.call.put .a false, through := true }

theorem Part.enterThrough_outline (h : x.outline = o) : x.enterThrough.outline = o.enterThrough := by
  unfold Part.enterThrough
  dsimp only
  apply Part.leaveCall_outline
  cases hg : x.portA.ring with
  | none =>
    rw [Part.endRing_none .a _ _ hg]
    rw [Part.enterState_outline _ _ _ (Part.modPort_outline _ _
      (Part.setHold_outline _ _ (Part.setChan_outline _ _ h)) rfl)]
    rfl
  | some g =>
    rw [Part.enterState_outline _ _ _ (Part.modPort_outline _ _ (Part.setHold_outline _ _ (Part.setChan_outline _ _
      (Part.endRing_enter .a false .through h (by show x.portA.ring.isSome = true; rw [hg]; rfl)))) rfl)]
    rfl

/-- The outline with the relay moved, and port A after it (R90, R187). -/
def Outline.move (o : Outline) (t : Bool) : Outline :=
  if t = o.relay then o
  else if t then { o with relay := true, call := o.call.put .a false, through := false }
  else { o.enterThrough with relay := false }

theorem Part.leaveThrough_outline (h : x.outline = o) :
    x.leaveThrough.outline = { o with call := o.call.put .a false, through := false } := by
  unfold Part.leaveThrough
  rw [Part.enterState_outline _ _ _ h]
  split <;> rfl

/-- Where the relay is driven through, the supply is in SHUTDOWN, or the line asks for it, or it was through (R187). -/
theorem Part.relayTarget_false (h : x.relayTarget = false) :
    x.outline.shut = true ∨ x.outline.line.request = .through ∨ x.outline.relay = false := by
  unfold Part.relayTarget at h
  split at h
  · rename_i hs
    exact .inl (beq_iff_eq.2 hs)
  · split at h
    · exact absurd h (by decide)
    · split at h
      · rename_i hr
        exact .inr (.inl hr)
      · exact .inr (.inr (Bool.or_eq_false_iff.1 h).1)

/-- In SHUTDOWN the relay is driven through (R187). -/
theorem Part.relayTarget_shut (h : x.supply.state = .shutdown) : x.relayTarget = false := by
  unfold Part.relayTarget
  rw [if_pos h]

theorem Part.settleRelay_outline (h : x.outline = o) : x.settleRelay.outline = o.move x.relayTarget := by
  unfold Part.settleRelay Outline.move
  dsimp only
  have hr : o.relay = x.supply.relay := by subst h; rfl
  rw [hr]
  split
  · exact h
  · split
    · rw [Part.leaveThrough_outline rfl]
      subst h; rename_i ht; rw [ht]; rfl
    · rw [Part.enterThrough_outline rfl]
      subst h; rename_i ht; rw [Bool.not_eq_true] at ht; rw [ht]; rfl

theorem Part.refreshPort_outline (p : PortId) (h : x.outline = o) : (x.refreshPort p).outline = o :=
  Part.setGen_outline _ _ (Part.modPort_outline _ _ h rfl)

theorem Part.refreshHeard_outline (h : x.outline = o) : x.refreshHeard.outline = o :=
  Part.refreshPort_outline _ (Part.refreshPort_outline _ h)

theorem Part.giveEvent_outline (p : PortId) (e : PortEvent) (v : Signal) (h : x.outline = o) :
    (x.giveEvent p e v).outline = o := by
  unfold Part.giveEvent
  dsimp only
  repeat' (first | exact h | with_reducible apply Part.signal_outline | split)

theorem Part.giveDigit_outline (p : PortId) (d : Digit) (b : Bool) (h : x.outline = o) :
    (x.giveDigit p d b).outline = o := by
  unfold Part.giveDigit
  dsimp only
  repeat' (first | exact h | rfl | with_reducible apply Part.giveEvent_outline
                  | with_reducible apply Part.modPort_outline | split)

theorem Part.declareHook_outline (p : PortId) (k : Hook) (h : x.outline = o) : (x.declareHook p k).outline = o :=
  Part.modPort_outline _ _ h rfl

/-! ### Capacity -/

/-- Slots in use are those of a port in a call: what the capacity rule needs and keeps. -/
def Outline.steady (o : Outline) : Prop := ∀ p, o.live.at_ p = true → o.call.at_ p = true ∧ o.chan.at_ p = true

theorem Outline.ok.steady (h : o.ok) : o.steady := fun p hl =>
  ⟨(h.2.1 p).1 ▸ (h.2.1 p).2.2.1 hl, (h.2.1 p).2.2.1 hl⟩

theorem Part.setChan_same (p : PortId) (c : Option Channel) (h : x.outline = o)
    (hc : c.isSome = (x.chan p).isSome) : (x.setChan p c).outline = o := by
  rw [Part.setChan_outline p c h, hc]
  subst h
  cases p <;> rfl

theorem Part.setSlot_same (p : PortId) (v : Slot) (h : x.outline = o) (hv : (v == .live) = (x.slot p == .live)) :
    (x.setSlot p v).outline = o := by
  rw [Part.setSlot_outline p v h, hv]
  subst h
  cases p <;> rfl

/-- A port in a call enters a state of a call. -/
theorem Part.enterState_call (p : PortId) (n : PortState) (m : Option Mode) (h : x.outline = o)
    (hx : (x.port p).state.inCall = true) (hn : n.inCall = true) : (x.enterState p n m).outline = o := by
  rw [Part.enterState_outline p n m h]
  subst h
  have h1 := Part.outline_enter x p
  have h2 : ∀ n : PortState, n.inCall = true → (n == .through) = false := by
    intro n hn; cases n <;> first | rfl | exact absurd hn (by decide)
  unfold Outline.enter at h1 ⊢
  rw [hx, h2 _ hx] at h1
  rw [hn, h2 _ hn]
  exact h1

theorem Part.setMode_outline (p : PortId) (m : Mode) (h : x.outline = o) : (x.setMode p m).outline = o := by
  unfold Part.setMode
  split
  · exact Part.setChan_same p _ h Option.isSome_map
  · rename_i hs
    exact Part.setSlot_same p _ h (by rw [hs]; rfl)
  · exact h

theorem Part.holdPort_outline (p : PortId) (h : x.outline = o) (ho : o.steady) : (x.holdPort p).outline = o := by
  unfold Part.holdPort
  split
  · rename_i hs
    have hc : (x.port p).state.inCall = true := by
      rw [← Part.outline_call, h]
      refine (ho p ?_).1
      rw [← h, Part.outline_live, hs]; rfl
    refine Part.setHold_outline _ _ (Part.signal_outline _ _ (Part.enterState_call _ _ _
      (Part.setChan_same p _ h Option.isSome_map) ?_ rfl))
    cases p <;> exact hc
  · rename_i hs
    exact Part.setSlot_same p _ h (by rw [hs]; rfl)
  · exact h

theorem Part.resumePort_outline (p : PortId) (h : x.outline = o) (ho : o.steady) : (x.resumePort p).outline = o := by
  unfold Part.resumePort
  split
  · rename_i hs
    have hc : (x.port p).state.inCall = true := by
      rw [← Part.outline_call, h]
      refine (ho p ?_).1
      rw [← h, Part.outline_live, hs]; rfl
    refine Part.signal_outline _ _ (Part.setHold_outline _ _ (Part.enterState_call _ _ _
      (Part.setChan_same p _ h Option.isSome_map) ?_ rfl))
    cases p <;> exact hc
  · rename_i hs
    exact Part.setSlot_same p _ h (by rw [hs]; rfl)
  · exact h

theorem Part.shrinkStep_outline (b : Bool) (f : Part → Part) (h : x.outline = o)
    (k : ∀ y : Part, y.outline = o → (f y).outline = o) : (x.shrinkStep b f).outline = o := by
  unfold Part.shrinkStep
  split
  · exact k _ h
  · exact h

theorem Part.shrink_outline (h : x.outline = o) (ho : o.steady) : x.shrink.outline = o := by
  unfold Part.shrink
  dsimp only
  exact Part.shrinkStep_outline _ _ (Part.shrinkStep_outline _ _ (Part.shrinkStep_outline _ _
    (Part.shrinkStep_outline _ _ h fun _ => Part.setMode_outline _ _) fun _ => Part.setMode_outline _ _)
    fun _ k => Part.holdPort_outline _ k ho) fun _ k => Part.holdPort_outline _ k ho

theorem Part.recordHold_outline (b : Part) (p : PortId) (h : x.outline = o) :
    (Part.recordHold b p x).outline = o := by
  unfold Part.recordHold
  repeat' (first | exact h | with_reducible apply Part.makeRecord_outline | split)

theorem Part.growStep_outline (b : Bool) (f : Part → Part) (h : x.outline = o)
    (k : ∀ y : Part, y.outline = o → (f y).outline = o) : (x.growStep b f).outline = o := by
  unfold Part.growStep
  split
  · exact k _ h
  · exact h

theorem Part.growth_outline (h : x.outline = o) (ho : o.steady) : x.growth.outline = o := by
  unfold Part.growth
  dsimp only
  exact Part.growStep_outline _ _ (Part.growStep_outline _ _ (Part.growStep_outline _ _
    (Part.growStep_outline _ _ h fun _ k => Part.resumePort_outline _ k ho) fun _ k => Part.resumePort_outline _ k ho)
    fun _ => Part.setMode_outline _ _) fun _ => Part.setMode_outline _ _

theorem Part.capacityRule_outline (h : x.outline = o) (ho : o.steady) : x.capacityRule.outline = o :=
  Part.growth_outline (Part.recordHold_outline _ _ (Part.recordHold_outline _ _ (Part.shrink_outline h ho))) ho

theorem Part.postRates_outline (h : x.outline = o) : x.postRates.outline = o := h

theorem Part.capacityRuleQuiet_outline (h : x.outline = o) (ho : o.steady) : x.capacityRuleQuiet.outline = o := by
  unfold Part.capacityRuleQuiet
  dsimp only
  split <;> exact Part.capacityRule_outline h ho

/-- A channel is admitted only where tables are in force (R136, R137). -/
theorem Part.admission_some {m : Mode} (h : x.admission = some m) : x.outline.line.down = true := by
  have hd : x.outline.line.down = x.line.downInForce.isSome := rfl
  rw [hd]
  cases hf : x.line.downInForce with
  | some _ => rfl
  | none =>
    have hc : x.capC = 0 := by simp [Part.capC, Part.capP, hf]
    unfold Part.admission at h
    rw [hc] at h
    simp at h

/-- What asking for a channel can do (R137): nothing but the refusal, or a channel begun, with the tables in force. -/
theorem Part.askChannel_cases (p : PortId) (f : Part → Part) (h : x.outline = o) :
    Part.askChannel p f x = f x ∨
      (o.line.down = true ∧ (Part.askChannel p f x).outline = (o.begin p).enter p .connected) := by
  unfold Part.askChannel
  split
  · rename_i m hm
    right
    refine ⟨by rw [← h]; exact Part.admission_some hm, ?_⟩
    dsimp only
    refine Part.enterState_outline _ _ _ (Part.modPort_outline _ _ (Part.beginChannel_outline p m ?_) rfl)
    split
    · exact h
    · exact Part.sayOffHook_outline _ h
  · exact .inl rfl

theorem ChanSwitch.apply_outline (w : ChanSwitch) (h : x.outline = o) :
    (w.apply x).outline = { o with live := o.live.put w.port (w.what == .begin) } := by
  unfold ChanSwitch.apply
  split <;> rename_i hw <;> rw [Part.setSlot_outline _ _ h, hw] <;> rfl


/-! ### Supply -/

theorem Part.retime_outline (h : x.outline = o) : x.retime.outline = o := h

theorem Part.postSupply_outline (p : Option SupplyState) (h : x.outline = o) : (x.postSupply p).outline = o := h

theorem Part.setOverlay_outline (b : Bool) (h : x.outline = o) : (x.setOverlay b).outline = o := by
  unfold Part.setOverlay
  dsimp only
  repeat' (first | exact h | split)

theorem Part.setBudget_outline (b c : Nat) (h : x.outline = o) : (x.setBudget b c).outline = o := h

theorem Part.stopRing_outline (p : PortId) (h : x.outline = o) : (x.stopRing p).outline = o := by
  unfold Part.stopRing
  split
  · rename_i hs
    exact Part.postRingLimited_outline _ (Part.endRing_plain _ _ _ h (by rw [hs]; rfl) rfl)
  · exact h

theorem Part.trimRings_outline (h : x.outline = o) : x.trimRings.outline = o := by
  unfold Part.trimRings
  dsimp only
  repeat' (first | exact h | with_reducible apply Part.stopRing_outline | split)

theorem Part.stopRings_outline (h : x.outline = o) : x.stopRings.outline = o :=
  Part.stopRing_outline _ (Part.stopRing_outline _ h)

theorem Part.shedPort_outline (h : x.outline = o) : x.shedPort.outline = o.uncall .b :=
  Part.enterState_outline .b .shed none (Part.modPort_outline _ _ h rfl)

theorem Part.shedAtLow_outline (h : x.outline = o) : x.shedAtLow.outline = o := by
  have h1 : x.portB.state.inCall = false → o.uncall .b = o := fun hc => by
    subst h; exact Outline.uncall_self x .b hc
  unfold Part.shedAtLow
  split
  · rename_i hs
    rw [Part.shedPort_outline (Part.endRing_plain .b true .idle h
      (by show x.portB.state.plain = true; rw [hs]; rfl) rfl)]
    exact h1 (by rw [hs]; rfl)
  · split
    · exact Part.modPort_outline _ _ h rfl
    · rename_i hs
      rw [Part.shedPort_outline h]
      refine h1 ?_
      cases hb : x.portB.state <;> rw [hb] at hs <;> first | rfl | exact absurd rfl hs

theorem Part.shedAtShutdown_outline (h : x.outline = o) : x.shedAtShutdown.outline = o.uncall .b := by
  unfold Part.shedAtShutdown
  dsimp only
  split
  · rename_i hs
    exact Part.shedPort_outline (Part.endRing_plain .b true .idle h
      (by show x.portB.state.plain = true; rw [hs]; rfl) rfl)
  · exact Part.leaveCall_outline _ _ (Part.modPort_outline _ _ (Part.shedPort_outline h) rfl)

theorem Part.endShedding_outline (h : x.outline = o) : x.endShedding.outline = o := by
  unfold Part.endShedding
  dsimp only
  have h1 := Part.modPort_outline .b (fun r => { r with shedPending := false }) h rfl
  split
  · rename_i hs
    refine Part.enterState_plain .b _ _ h1 ?_ ?_
    · show (x.modPort .b fun r => { r with shedPending := false }).portB.state.plain = true
      rw [hs]; rfl
    · split <;> rfl
  · exact h1

/-! ### Line -/

theorem Part.postLine_outline (l : LineState) (c : Option Cause) (r : List Reason) (h : x.outline = o) :
    (x.postLine l c r).outline = o := h

/-- The outline with the line at rest in a state out of service. -/
def Outline.rest (o : Outline) (st : LineState) : Outline :=
  { o with
    line := ⟨st, if st = .dropped then .part else .through, false, false, false, false, false⟩
    mapIn := false, mapOff := false }

/-- The outline of the neighbours once the line has left the state `was`. -/
def Outline.leave (o : Outline) (was : LineState) : Outline := if was.inService then o.unserve else o

theorem Part.restLine_outline (st : LineState) (h : x.outline = o) : (x.restLine st).outline = o.rest st := by
  subst h; rfl

theorem Part.logLeavesService_outline (h : x.outline = o) : x.logLeavesService.outline = o := by
  unfold Part.logLeavesService
  repeat' (first | exact h | split)

theorem Part.afterLeaving_outline (was : LineState) (h : x.outline = o) :
    (x.afterLeaving was).outline = o.leave was := by
  unfold Part.afterLeaving Outline.leave
  split
  · refine Part.portsLeaveService_outline (Part.logLeavesService_outline ?_)
    refine Part.outline_mk h ?_ ?_ ?_ ?_ ?_ ?_ ?_ <;> rfl
  · exact h

theorem Part.writeSnapshot_outline (c : Cause) (h : x.outline = o) : (x.writeSnapshot c).outline = o := h

theorem Part.beginCall_outline (h : x.outline = o) : x.beginCall.outline = o := h

theorem Part.sendTable_outline (t : List LoadEntry) (h : x.outline = o) : (x.sendTable t).outline = o :=
  Part.enqueue_outline _ (Part.enqueue_outline _ h)

theorem Part.receiveError_outline (h : x.outline = o) : x.receiveError.outline = o := by
  unfold Part.receiveError
  split <;> exact h

theorem Part.discardOffers_outline (h : x.outline = o) :
    x.discardOffers.outline =
      { o with mapOff := false, line := { o.line with downOff := false, upOff := false, marks := false } } := by
  subst h; rfl

/-- The outline of a reshape given up (R79). -/
def Outline.giveUp (o : Outline) : Outline :=
  { o with
    mapOff := false, line := { o.line with state := .carrying, downOff := false, upOff := false, marks := false } }

theorem Part.giveUp_outline (n : Nat) (h : x.outline = o) :
    Part.outline { x.discardOffers with line := { x.discardOffers.line with state := .carrying, abandoned := n } } =
      o.giveUp := by
  subst h; rfl

theorem Part.abandonCore_outline (c : AbandonCause) (k : Nat) (h : x.outline = o) :
    (x.abandonCore c k).outline = o.giveUp :=
  Part.postLine_outline _ _ _ (Part.giveUp_outline _ (Part.makeRecordAt_outline _ _ _ _ h))

theorem Part.nameSwitch_cases (d : Symbol) (h : x.outline = o) :
    (x.nameSwitch d).outline = o ∨ (x.nameSwitch d).outline = { o with line := { o.line with marks := true } } := by
  unfold Part.nameSwitch
  dsimp only
  split
  · right
    refine Part.enqueue_outline _ ?_
    subst h; rfl
  · exact .inl h

/-- Port A is not in a call while it is THROUGH. -/
theorem Part.outline_through (s : Part) : s.outline.through = true → s.outline.call.at_ .a = false := by
  show (s.portA.state == .through) = true → s.portA.state.inCall = false
  rw [beq_iff_eq]
  intro h
  rw [h]
  rfl

end Sys2Proof.Machine
end

