-- ==== Sys2Proof/Laws/Coherent.lean ====
section
/-! SUPPORT. That a coherent part stays one: by the line leaving or entering a state, a port taking or leaving a channel,
the relay moving, and so by the blocks of the events and by the owners' answers, one lemma each. -/

namespace Sys2Proof.Machine

variable {s x y : Part} {o : Outline}

/-! ### What keeps an outline coherent -/

theorem Ends.at_put (e : Ends) (p q : PortId) (v : Bool) : (e.put p v).at_ q = if p = q then v else e.at_ q := by
  cases p <;> cases q <;> rfl

/-- What `Outline.ok` says of the ports, whatever the line has. -/
def Outline.ends (o : Outline) : Prop :=
  (∀ p, o.chan.at_ p = o.call.at_ p ∧ (o.chan.at_ p = true → o.inService = true) ∧
    (o.live.at_ p = true → o.chan.at_ p = true) ∧ (o.wait.at_ p = true → o.chan.at_ p = true)) ∧ o.through = !o.relay

theorem Outline.ok.ends (h : o.ok) : o.ends := ⟨h.2.1, h.2.2.1⟩

/-- Out of service no port has a channel, a slot in use or a call (R103, R117). -/
theorem Outline.ends.idle (h : o.ends) (hs : o.inService = false) (p : PortId) :
    o.chan.at_ p = false ∧ o.call.at_ p = false ∧ o.live.at_ p = false ∧ o.wait.at_ p = false := by
  obtain ⟨h1, h2, h3, h4⟩ := h.1 p
  rw [hs] at h2
  have hc : o.chan.at_ p = false := by
    cases hc : o.chan.at_ p with
    | false => rfl
    | true => exact absurd (h2 hc) (by decide)
  rw [hc] at h1 h3 h4
  refine ⟨hc, h1.symm, ?_, ?_⟩
  · cases hl : o.live.at_ p with
    | false => rfl
    | true => exact absurd (h3 hl) (by decide)
  · cases hl : o.wait.at_ p with
    | false => rfl
    | true => exact absurd (h4 hl) (by decide)

/-- A line at rest, its neighbours out of service, is coherent (R10, R18, R103). -/
theorem Outline.ends.leave (h : o.ends) (st : LineState)
    (hst : st = .quiet ∨ st = .dropped ∨ st = .fallback) (hsh : o.shut = true → st = .quiet) :
    ((o.rest st).leave o.line.state).ok := by
  obtain ⟨h2, h3⟩ := id h
  have hin : (o.rest st).inService = false := by rcases hst with e | e | e <;> rw [e] <;> rfl
  have hreq : (o.rest st).line.request = .through ↔ st = .quiet ∨ st = .fallback := by
    rcases hst with e | e | e <;> rw [e] <;> simp [Outline.rest]
  have hld : ¬ (st = .loading ∨ st = .reshape) := by rcases hst with e | e | e <;> rw [e] <;> decide
  unfold Outline.leave
  split
  · refine ⟨⟨hin.symm, hin.symm, hin.symm, hreq, fun k => absurd k hld, fun k => absurd k
      (by simp [Outline.rest, Outline.unserve, Outline.uncall, Outline.noChannels])⟩, fun p => ?_, h3, hsh⟩
    cases p <;> simp [Outline.rest, Outline.unserve, Outline.uncall, Outline.noChannels, Ends.at_, Ends.put]
  · rename_i hs
    rw [Bool.not_eq_true] at hs
    refine ⟨⟨hin.symm, hin.symm, hin.symm, hreq, fun k => absurd k hld,
      fun k => absurd k (by simp [Outline.rest])⟩, fun p => ?_, h3, hsh⟩
    obtain ⟨k1, k2, k3, k4⟩ := h.idle hs p
    have e1 : o.chan.at_ p = false := k1
    have e2 : o.call.at_ p = false := k2
    have e3 : o.live.at_ p = false := k3
    have e4 : o.wait.at_ p = false := k4
    show o.chan.at_ p = o.call.at_ p ∧ (o.chan.at_ p = true → _) ∧ (o.live.at_ p = true → o.chan.at_ p = true) ∧
      (o.wait.at_ p = true → o.chan.at_ p = true)
    rw [e1, e2, e3, e4]
    simp

/-- The relay moves, and port A after it (R90, R187). -/
theorem Outline.ok.move (h : o.ok) (t : Bool) (hx : o.through = true → o.call.at_ .a = false)
    (ht : t = false → o.shut = true ∨ o.line.request = .through ∨ o.relay = false) : (o.move t).ok := by
  obtain ⟨h1, h2, h3, h4⟩ := id h
  unfold Outline.move
  split
  · exact h
  · rename_i hne
    split
    · rename_i htt
      have hr : o.relay = false := by
        cases hr : o.relay with
        | false => rfl
        | true => exact absurd (htt.trans hr.symm) hne
      have hth : o.through = true := by rw [h3, hr]; rfl
      have hca := hx hth
      refine ⟨h1, fun p => ?_, rfl, h4⟩
      have k := h2 p
      cases p
      · show o.chan.at_ .a = false ∧ _
        rw [hca] at k
        exact k
      · exact k
    · rename_i htf
      rw [Bool.not_eq_true] at htf
      have hr : o.relay = true := by
        cases hr : o.relay with
        | true => rfl
        | false => exact absurd (htf.trans hr.symm) hne
      have hq : o.line.state = .quiet ∨ o.line.state = .fallback := by
        rcases ht htf with e | e | e
        · exact .inl (h4 e)
        · exact h1.2.2.2.1.1 e
        · rw [hr] at e; exact absurd e (by decide)
      have hin : o.inService = false := by
        unfold Outline.inService
        rcases hq with e | e <;> rw [e] <;> rfl
      refine ⟨h1, fun p => ?_, rfl, h4⟩
      have k := h.ends.idle hin p
      cases p
      · show false = false ∧ (false = true → _) ∧ (o.live.at_ .a = true → _) ∧ (o.wait.at_ .a = true → _)
        rw [k.2.2.1, k.2.2.2]
        simp
      · exact h2 .b

/-- A channel ends and its port leaves the call (R101, R117). -/
theorem Outline.ok.finish (h : o.ok) (p : PortId) (n : PortState) (hn : n.plain = true)
    (ht : p = .a → o.through = false) : ((o.finish p).enter p n).ok := by
  obtain ⟨h1, h2, h3, h4⟩ := id h
  simp only [PortState.plain, Bool.and_eq_true, Bool.not_eq_true', bne_iff_ne, ne_eq] at hn
  have e1 : (n == .through) = false := beq_eq_false_iff_ne.2 hn.2
  have hc := (h2 p).1
  have hf : (o.finish p).chan.at_ p = false ∧ (o.finish p).live.at_ p = false ∧ (o.finish p).wait.at_ p = false := by
    unfold Outline.finish
    split
    · simp [Ends.at_put]
    · rename_i hcf
      rw [Bool.not_eq_true] at hcf
      refine ⟨hcf, ?_, ?_⟩
      · cases hl : o.live.at_ p with
        | false => rfl
        | true => exact absurd ((h2 p).2.2.1 hl) (by rw [hcf]; decide)
      · cases hl : o.wait.at_ p with
        | false => rfl
        | true => exact absurd ((h2 p).2.2.2 hl) (by rw [hcf]; decide)
  have hfo : ∀ q, q ≠ p → (o.finish p).chan.at_ q = o.chan.at_ q ∧ (o.finish p).live.at_ q = o.live.at_ q ∧
      (o.finish p).wait.at_ q = o.wait.at_ q := by
    intro q hq
    unfold Outline.finish
    split
    · simp [Ends.at_put, Ne.symm hq]
    · exact ⟨rfl, rfl, rfl⟩
  have hl : (o.finish p).line = o.line ∧ (o.finish p).mapIn = o.mapIn ∧ (o.finish p).mapOff = o.mapOff ∧
      (o.finish p).call = o.call ∧ (o.finish p).through = o.through ∧ (o.finish p).shut = o.shut ∧
      (o.finish p).relay = o.relay := by
    unfold Outline.finish
    split <;> exact ⟨rfl, rfl, rfl, rfl, rfl, rfl, rfl⟩
  obtain ⟨l1, l2, l3, l4, l5, l6, l7⟩ := hl
  unfold Outline.enter
  simp only [Outline.ok, Outline.inService, l1, l2, l3, l4, l5, l6, l7, Ends.at_put, e1, hn.1]
  refine ⟨h1, fun q => ?_, ?_, h4⟩
  · split
    · rename_i hpq
      subst hpq
      rw [hf.1, hf.2.1, hf.2.2]
      simp
    · rename_i hpq
      have := hfo q (Ne.symm hpq)
      rw [this.1, this.2.1, this.2.2]
      exact h2 q
  · split
    · rename_i hp
      rw [← h3, ht hp]
    · exact h3

/-- A channel begins and its port enters CONNECTED, in service (R99, R117). -/
theorem Outline.ok.begin (h : o.ok) (p : PortId) (hd : o.line.down = true) (ht : p = .a → o.through = false) :
    ((o.begin p).enter p .connected).ok := by
  obtain ⟨h1, h2, h3, h4⟩ := id h
  have hin : o.inService = true := h1.1.symm.trans hd
  refine ⟨h1, fun q => ?_, ?_, h4⟩
  · show (o.chan.put p true).at_ q = (o.call.put p true).at_ q ∧
      ((o.chan.put p true).at_ q = true → o.inService = true) ∧
      (o.live.at_ q = true → (o.chan.put p true).at_ q = true) ∧
      ((o.wait.put p true).at_ q = true → (o.chan.put p true).at_ q = true)
    simp only [Ends.at_put]
    split
    · simp [hin]
    · exact h2 q
  · show (if p = .a then false else o.through) = !o.relay
    split
    · rename_i hp
      rw [← h3, ht hp]
    · exact h3

/-- A port out of service is in no call already. -/
theorem Outline.ok.uncall (h : o.ok) (hs : o.inService = false) (p : PortId) : (o.uncall p).ok := by
  obtain ⟨h1, h2, h3, h4⟩ := id h
  refine ⟨h1, fun q => ?_, h3, h4⟩
  have k := h.ends.idle hs q
  have e : (o.call.put p false).at_ q = o.call.at_ q := by
    rw [Ends.at_put, k.2.1]
    split <;> rfl
  show o.chan.at_ q = (o.call.put p false).at_ q ∧ _
  rw [e]
  exact h2 q

/-- A reshape is given up (R79). -/
theorem Outline.ok.giveUp
    (h : ({ o with mapOff := true, line := { o.line with downOff := true } } : Outline).ok)
    (hs : o.line.state = .reshape) : o.giveUp.ok := by
  obtain ⟨h1, h2, h3, h4⟩ := h
  have hin : o.inService = true := by unfold Outline.inService; rw [hs]; rfl
  have hin' : o.giveUp.inService = true := rfl
  have e : ∀ q : Outline, q.line.state = o.line.state → q.inService = true := fun q hq => by
    unfold Outline.inService; rw [hq, hs]; rfl
  have r : ¬ o.line.request = .through := fun k => by
    have := h1.2.2.2.1.1 k
    rw [show ({ o with mapOff := true, line := { o.line with downOff := true } } : Outline).line.state = .reshape
      from hs] at this
    revert this; decide
  refine ⟨⟨h1.1.trans (e _ rfl), h1.2.1.trans (e _ rfl), h1.2.2.1.trans (e _ rfl),
    ⟨fun k => absurd k r, fun k => absurd k (by simp [Outline.giveUp])⟩, fun k => absurd k (by simp [Outline.giveUp]),
    fun k => absurd k (by simp [Outline.giveUp])⟩,
    fun p => ⟨(h2 p).1, fun _ => rfl, (h2 p).2.2⟩, h3, fun k => ?_⟩
  have := h4 k
  rw [show ({ o with mapOff := true, line := { o.line with downOff := true } } : Outline).line.state = .reshape
      from hs] at this
  exact absurd this (by decide)


/-! ### The operations that keep the part coherent -/

theorem Part.initial_outline_ok (m : Bool) (b : Nat) : (Part.initial m b).outline.ok := by
  have e : (Part.initial m b).outline = (Part.initial true 0).outline := by cases m <;> rfl
  rw [e]
  refine ⟨?_, fun p => ?_, rfl, ?_⟩
  · decide
  · cases p <;> decide
  · decide

theorem Part.postLine_ok (l : LineState) (c : Option Cause) (r : List Reason) (h : x.outline.ok) :
    (x.postLine l c r).outline.ok := h

theorem Part.settleRelay_ok (h : x.outline.ok) : x.settleRelay.outline.ok := by
  rw [Part.settleRelay_outline rfl]
  exact h.move _ (Part.outline_through x) Part.relayTarget_false

theorem Outline.move_line (o : Outline) (t : Bool) : (o.move t).line = o.line ∧ (o.move t).shut = o.shut := by
  unfold Outline.move
  repeat' (first | exact ⟨rfl, rfl⟩ | split)

/-- The relay's move leaves the line's state as it is. -/
theorem Part.settleRelay_state (s : Part) : s.settleRelay.line.state = s.line.state := by
  have := congrArg (fun q : Outline => q.line.state) (Part.settleRelay_outline (x := s) rfl)
  exact this.trans (congrArg LineOutline.state (Outline.move_line _ _).1)

theorem Outline.leave_line (o : Outline) (w : LineState) : (o.leave w).line = o.line ∧ (o.leave w).shut = o.shut := by
  unfold Outline.leave
  split <;> exact ⟨rfl, rfl⟩

/-- The neighbours and the relay once the line is in QUIET (R18, R90, R103). -/
theorem Part.quietAfter_ok (hy : y.outline = x.outline.rest .quiet)
    (h : x.outline.ends) :
    (y.afterLeaving x.line.state).settleRelay.outline.ok ∧
      (y.afterLeaving x.line.state).settleRelay.line.state = .quiet := by
  have h4 := Part.afterLeaving_outline x.line.state hy
  have h5 : (y.afterLeaving x.line.state).outline.ok := by
    rw [h4]
    exact h.leave .quiet (.inl rfl) fun _ => rfl
  refine ⟨Part.settleRelay_ok h5, ?_⟩
  rw [Part.settleRelay_state]
  have := congrArg (fun q : Outline => q.line.state) h4
  exact this.trans (congrArg LineOutline.state (Outline.leave_line _ _).1)

/-- The line goes to QUIET; the supply may have entered SHUTDOWN just before (R18, R35). -/
theorem Part.toQuiet_ok (c : Option Cause) (h : x.outline.ends) :
    (x.toQuiet c).outline.ok ∧ (x.toQuiet c).line.state = .quiet := by
  unfold Part.toQuiet
  cases c with
  | none =>
    dsimp only
    split <;> exact Part.quietAfter_ok (x := x) rfl h
  | some c =>
    dsimp only
    split <;> exact Part.quietAfter_ok (x := x) (Part.makeRecordAt_outline _ _ _ _ rfl) h

theorem Part.enterShutdown_ok (h : x.outline.ends) : x.enterShutdown.outline.ok := by
  unfold Part.enterShutdown
  dsimp only
  split
  · exact Part.initial_outline_ok _ _
  · have h1 : ∀ y : Part, y.outline = { x.outline with shut := true } →
        ((y.setHolds true y.link.silenceHold).setOverlay false).outline = { x.outline with shut := true } :=
      fun y hy => Part.setOverlay_outline _ (Part.setHolds_outline _ _ hy)
    specialize h1 { x with supply := { x.supply with state := .shutdown, budget := 0 } } rfl
    generalize Part.setOverlay false (Part.setHolds true _ _) = x1 at h1 ⊢
    obtain ⟨h2, h3⟩ := Part.toQuiet_ok (x := x1) (if x1.inService then some .supply else none) (by rw [h1]; exact h)
    generalize Part.toQuiet _ x1 = x2 at h2 h3 ⊢
    have h4 := Part.settleRelay_ok h2
    have h5 := (Part.settleRelay_state x2).trans h3
    show (x2.settleRelay.shedAtShutdown).outline.ok
    rw [Part.shedAtShutdown_outline rfl]
    refine h4.uncall ?_ _
    show x2.settleRelay.line.state.inService = false
    rw [h5]; rfl

theorem Part.proceedIfReporting_ok (b : Part) (h : x.outline.ok) : (Part.proceedIfReporting b x).outline.ok := by
  unfold Part.proceedIfReporting
  split
  · exact Part.enterShutdown_ok h.ends
  · exact h

/-- Where the line is not QUIET the supply is not in SHUTDOWN (R186). -/
theorem Outline.ok.awake (h : o.ok) (hs : o.line.state ≠ .quiet) : o.shut = false := by
  cases hh : o.shut with
  | false => rfl
  | true => exact absurd (h.2.2.2 hh) hs

theorem Part.dropLine_ok (c : Cause) (h : x.outline.ok) (hs : x.line.state ≠ .quiet) : (x.dropLine c).outline.ok := by
  unfold Part.dropLine
  dsimp only
  apply Part.proceedIfReporting_ok
  apply Part.postLine_ok
  rw [Part.afterLeaving_outline x.line.state (Part.makeRecordAt_outline _ _ _ _ (o := x.outline.rest .dropped) rfl)]
  exact h.ends.leave .dropped (.inr (.inl rfl)) fun k => absurd (h.2.2.2 k) hs

/-- An attempt fails (R31, R33), whatever the line had on offer by then. -/
theorem Part.failAttempt_ends (c : Cause) (f : Int) (h : x.outline.ends) (hs : x.outline.shut = false) :
    (x.failAttempt c f).outline.ok := by
  have hk : ∀ st : LineState, x.outline.shut = true → st = .quiet := fun _ k => absurd (hs.symm.trans k) Bool.false_ne_true
  unfold Part.failAttempt
  dsimp only
  split
  · apply Part.postLine_ok
    rw [Part.afterLeaving_outline x.line.state (Part.makeRecordAt_outline _ _ _ _ (o := x.outline.rest .dropped) rfl)]
    exact h.leave .dropped (.inr (.inl rfl)) (hk _)
  · apply Part.postLine_ok
    apply Part.settleRelay_ok
    rw [Part.afterLeaving_outline x.line.state
      (Part.makeRecord_outline _ _ _ (Part.makeRecordAt_outline _ _ _ _ (o := x.outline.rest .fallback) rfl))]
    exact h.leave .fallback (.inr (.inr rfl)) (hk _)

theorem Part.failAttempt_ok (c : Cause) (f : Int) (h : x.outline.ok) (hs : x.line.state ≠ .quiet) :
    (x.failAttempt c f).outline.ok := Part.failAttempt_ends c f h.ends (h.awake hs)


theorem Part.mayStart_outside (h : x.mayStart = true) :
    x.supply.state ≠ .shutdown ∧ (x.line.state = .dropped ∨ x.line.state = .quiet ∨ x.line.state = .fallback) := by
  unfold Part.mayStart at h
  simp only [Bool.and_eq_true, bne_iff_ne, ne_eq, Bool.or_eq_true, beq_iff_eq] at h
  refine ⟨h.1.2, ?_⟩
  rcases h.2 with e | ⟨e | e, -⟩
  · exact .inl e
  · exact .inr (.inl e)
  · exact .inr (.inr e)

theorem Part.enterSounding_ok (h : x.outline.ok) (hm : x.mayStart = true) : x.enterSounding.outline.ok := by
  obtain ⟨hs, hl⟩ := Part.mayStart_outside hm
  have hin : x.outline.inService = false := by
    show x.line.state.inService = false
    rcases hl with e | e | e <;> rw [e] <;> rfl
  obtain ⟨h1, h2, h3, h4⟩ := id h
  have hq : x.outline.shut = false := beq_eq_false_iff_ne.2 hs
  unfold Part.enterSounding
  dsimp only
  refine Part.beginCall_outline rfl ▸ ?_
  apply Part.postLine_ok
  apply Part.settleRelay_ok
  refine ⟨⟨h1.1.trans hin, h1.2.1.trans hin, h1.2.2.1.trans hin, ?_, ?_, ?_⟩, fun p => ?_, h3, fun k => ?_⟩
  · simp [Part.outline, Line.outline]
  · simp [Part.outline, Line.outline]
  · simp [Part.outline, Line.outline, Line.clearPhase]
  · obtain ⟨k1, k2, k3, k4⟩ := h.ends.idle hin p
    refine ⟨(h2 p).1, fun k => absurd (k1.symm.trans k) Bool.false_ne_true, (h2 p).2.2⟩
  · exact absurd (hq.symm.trans k) Bool.false_ne_true

theorem Part.soundingIfReady_ok (h : x.outline.ok) : x.soundingIfReady.outline.ok := by
  unfold Part.soundingIfReady
  split
  · rename_i hm; exact Part.enterSounding_ok h hm
  · exact h

theorem Part.settle_ok (h : x.outline.ok) : x.settle.outline.ok := by
  unfold Part.settle
  rw [Part.refreshHeard_outline rfl]
  exact Part.settleRelay_ok (Part.soundingIfReady_ok h)

/-! ### Reshapes -/

/-- A part whose line stands in RESHAPE, coherent but for the table and the map that are still to be offered. -/
def Part.reshaping (s : Part) : Prop :=
  ({ s.outline with mapOff := true, line := { s.outline.line with downOff := true } } : Outline).ok ∧
    s.line.state = .reshape

theorem Part.abandonCore_ok (c : AbandonCause) (k : Nat) (h : x.reshaping) :
    (x.abandonCore c k).outline.ok ∧ (x.abandonCore c k).line.state = .carrying := by
  have e := Part.abandonCore_outline c k (x := x) rfl
  refine ⟨?_, congrArg (fun q : Outline => q.line.state) e⟩
  rw [e]
  exact h.1.giveUp h.2

theorem Outline.ok.reshaping (h : x.outline.ok) (hs : x.line.state = .reshape) : x.reshaping := by
  obtain ⟨h1, h2, h3, h4⟩ := id h
  have k := h1.2.2.2.2.1 (.inr hs)
  refine ⟨?_, hs⟩
  have e : ({ x.outline with mapOff := true, line := { x.outline.line with downOff := true } } : Outline) = x.outline := by
    conv_rhs => rw [show x.outline = { x.outline with
      mapOff := x.outline.mapOff, line := { x.outline.line with downOff := x.outline.line.downOff } } from rfl]
    rw [k.1, k.2]
  rw [e]
  exact h

theorem Part.dropIfThird_ok (h : x.outline.ok) (hs : x.line.state ≠ .quiet) : x.dropIfThird.outline.ok := by
  unfold Part.dropIfThird
  split
  · exact Part.dropLine_ok _ h hs
  · exact h

theorem Part.computeReshape_ok (h : x.reshaping) : x.computeReshape.outline.ok := by
  unfold Part.computeReshape
  dsimp only
  split
  · obtain ⟨h1, h2⟩ := Part.abandonCore_ok .noPayload 0 (x := { x with
      band := { x.band with offeredMap := some x.band.configured }
      load := { x.load with offeredProfile := some x.load.setProfile } }) h
    exact Part.dropIfThird_ok h1 (by rw [h2]; decide)
  · rw [Part.sendTable_outline _ rfl]
    exact h.1

theorem Part.startReshape_ok (own : Bool) (set : List Reason) (h : x.outline.ok) (hs : x.line.state = .carrying) :
    (x.startReshape own set).outline.ok := by
  obtain ⟨h1, h2, h3, h4⟩ := id h
  have hin : x.outline.inService = true := by show x.line.state.inService = true; rw [hs]; rfl
  have hr : ¬ x.outline.line.request = .through := fun k => by
    have := h1.2.2.2.1.1 k
    rw [show x.outline.line.state = .carrying from hs] at this
    revert this; decide
  have hq := h.awake (by show x.line.state ≠ .quiet; rw [hs]; decide)
  unfold Part.startReshape
  dsimp only
  apply Part.computeReshape_ok
  have hk : Part.reshaping { x with
      line := { x.line with
        state := .reshape, reasons := [], reshape := some ⟨set, x.line.symbol + 8000, false⟩
        segs := none, upValid := false, switch := none } } := by
    refine ⟨⟨⟨h1.1.trans hin, h1.2.1.trans hin, h1.2.2.1.trans hin, ⟨fun k => absurd k hr, ?_⟩, fun _ => ⟨rfl, rfl⟩, ?_⟩,
      fun p => ⟨(h2 p).1, fun _ => rfl, (h2 p).2.2⟩, h3, fun k => absurd (hq.symm.trans k) Bool.false_ne_true⟩, rfl⟩
    · simp [Part.outline, Line.outline]
    · simp [Part.outline, Line.outline]
  have e : ∀ y z : Part, y.reshaping → z.outline = y.outline → z.reshaping := fun y z hy hz => by
    unfold Part.reshaping
    rw [hz]
    exact ⟨hy.1, (congrArg (fun q : Outline => q.line.state) hz).trans hy.2⟩
  split
  · exact e _ _ hk (Part.enqueue_outline _ rfl)
  · exact hk

theorem Part.canReshape_carrying (h : x.canReshape = true) : x.line.state = .carrying := by
  unfold Part.canReshape at h
  simp only [Bool.and_eq_true, beq_iff_eq] at h
  exact h.1.1

theorem Part.startPending_ok (h : x.outline.ok) : x.startPending.outline.ok := by
  unfold Part.startPending
  split
  · rename_i hc
    exact Part.startReshape_ok _ _ h (Part.canReshape_carrying (Bool.and_eq_true_iff.1 hc).1)
  · exact h

theorem Part.raise_ok (r : Reason) (h : x.outline.ok) : (x.raise r).outline.ok := by
  unfold Part.raise
  split
  · dsimp only
    split
    · rename_i hc
      exact Part.startReshape_ok _ _ h (Part.canReshape_carrying hc)
    · exact h
  · exact h

theorem Part.abandon_ok (c : AbandonCause) (k : Nat) (h : x.outline.ok) (hs : x.line.state = .reshape) :
    (x.abandon c k).outline.ok := by
  obtain ⟨h1, h2⟩ := Part.abandonCore_ok c k (h.reshaping hs)
  unfold Part.abandon
  dsimp only
  split
  · exact Part.dropLine_ok _ h1 (by rw [h2]; decide)
  · exact Part.startPending_ok h1

theorem Part.moveFails_ok (d : Bool) (h : x.outline.ok) : (x.moveFails d).outline.ok := by
  unfold Part.moveFails
  dsimp only
  split
  · exact Part.raise_ok _ h
  · exact Part.startPending_ok h

/-- A switch symbol is named once a valid upstream table is on offer (R29, R77). -/
theorem Part.nameSwitch_ok (d : Symbol) (h : x.outline.ok) (hu : x.line.upOffered.isSome = true) :
    (x.nameSwitch d).outline.ok := by
  obtain ⟨h1, h2, h3, h4⟩ := id h
  rcases Part.nameSwitch_cases d (x := x) rfl with e | e
  · rw [e]; exact h
  · rw [e]
    exact ⟨⟨h1.1, h1.2.1, h1.2.2.1, h1.2.2.2.1, h1.2.2.2.2.1, fun _ => hu⟩, h2, h3, h4⟩

/-! ### Calls -/

theorem Part.outline_notThrough (p : PortId) (hp : (x.port p).state ≠ .through) : p = .a → x.outline.through = false := by
  intro e
  subst e
  exact beq_eq_false_iff_ne.2 hp

theorem Part.hangUp_ok (p : PortId) (n : PortState) (h : x.outline.ok) (ht : p = .a → x.outline.through = false)
    (hn : n.plain = true) : (x.hangUp p n).outline.ok := by
  rw [Part.hangUp_outline p n rfl]
  exact h.finish p n hn ht

/-- A port parks and its channel, if it had one, ends (R98, R100, R141). -/
theorem Part.endAndPark_ok (p : PortId) (h : x.outline.ok) (ht : p = .a → x.outline.through = false) :
    ((x.endChannel p).park p).outline.ok := by
  rw [Part.park_outline p (Part.endChannel_outline p rfl)]
  exact h.finish p _ rfl ht

theorem Part.askChannel_ok (p : PortId) (f : Part → Part) (h : x.outline.ok) (ht : p = .a → x.outline.through = false)
    (hf : (f x).outline.ok) : (Part.askChannel p f x).outline.ok := by
  rcases Part.askChannel_cases p f (x := x) rfl with e | ⟨hd, e⟩
  · rw [e]; exact hf
  · rw [e]
    exact h.begin p hd ht

/-- The port is in no call and, if it is port A, not through: it moves between plain states without a trace. -/
def Outline.plainPort (o : Outline) (p : PortId) : Prop := o.call.at_ p = false ∧ (p = .a → o.through = false)

theorem Part.plainPort (p : PortId) (h : (x.port p).state.plain = true) : x.outline.plainPort p := by
  simp only [PortState.plain, Bool.and_eq_true, Bool.not_eq_true', bne_iff_ne, ne_eq] at h
  exact ⟨(Part.outline_call x p).trans h.1, Part.outline_notThrough p h.2⟩

theorem Outline.enter_plain (p : PortId) (n : PortState) (h : o.plainPort p) (hn : n.plain = true) :
    o.enter p n = o := by
  simp only [PortState.plain, Bool.and_eq_true, Bool.not_eq_true', bne_iff_ne, ne_eq] at hn
  obtain ⟨line, mapIn, mapOff, ⟨a, b⟩, through, chan, live, wait, shut, relay⟩ := o
  obtain ⟨h1, h2⟩ := h
  unfold Outline.enter
  rw [hn.1, beq_eq_false_iff_ne.2 hn.2]
  cases p
  · have k : through = false := h2 rfl
    have k1 : a = false := h1
    subst k k1
    rfl
  · have k1 : b = false := h1
    subst k1
    rfl

theorem Part.portsLeaveService_ok (h : x.outline.ok) (hs : x.inService = false) : x.portsLeaveService.outline.ok := by
  rw [Part.portsLeaveService_outline rfl]
  have e : x.outline.unserve.inService = false := hs
  obtain ⟨h1, h2, h3, h4⟩ := h
  refine ⟨h1, fun p => ?_, h3, h4⟩
  cases p <;> simp [Outline.unserve, Outline.uncall, Outline.noChannels, Ends.at_, Ends.put]

/-- The switches due go to their slots: those that begin a channel are of a channel that is there (R138). -/
theorem ChanSwitch.foldl_ok (ws : List ChanSwitch) (h : x.outline.ok)
    (hw : ∀ w ∈ ws, w.what = .begin → x.outline.chan.at_ w.port = true) :
    (ws.foldl (fun p w => w.apply p) x).outline.ok ∧
      (ws.foldl (fun p w => w.apply p) x).outline.line = x.outline.line := by
  induction ws generalizing x with
  | nil => exact ⟨h, rfl⟩
  | cons w ws ih =>
    have e := ChanSwitch.apply_outline w (x := x) rfl
    have h1 : (w.apply x).outline.ok := by
      rw [e]
      obtain ⟨k1, k2, k3, k4⟩ := h
      refine ⟨k1, fun p => ⟨(k2 p).1, (k2 p).2.1, ?_, (k2 p).2.2.2⟩, k3, k4⟩
      show (x.outline.live.put w.port (w.what == .begin)).at_ p = true → x.outline.chan.at_ p = true
      rw [Ends.at_put]
      split
      · rename_i hp
        intro hb
        rw [← hp]
        exact hw w (List.mem_cons_self ..) (beq_iff_eq.1 hb)
      · exact (k2 p).2.2.1
    obtain ⟨h2, h3⟩ := ih h1 fun v hv hb => by
      rw [e]
      exact hw v (List.mem_cons_of_mem _ hv) hb
    refine ⟨h2, h3.trans ?_⟩
    rw [e]

theorem dueSwitches_mem (ws : List ChanSwitch) (w : ChanSwitch) :
    (w ∈ (dueSwitches ws).1 ∨ w ∈ (dueSwitches ws).2) → w ∈ ws := by
  cases ws with
  | nil => simp [dueSwitches]
  | cons v vs =>
    simp only [dueSwitches, List.mem_cons]
    rintro ((h | h) | h)
    · exact .inl h
    · exact .inr ((List.takeWhile_prefix _).subset h)
    · exact .inr ((List.dropWhile_suffix _).subset h)

/-- The channel switch symbol (R138). -/
theorem Part.channelSwitch_ok (h : x.outline.ok) : x.channelSwitch.outline.ok := by
  unfold Part.channelSwitch
  dsimp only
  have hb : ∀ w ∈ x.sched.switches, w.what = .begin → x.outline.chan.at_ w.port = true := fun w hw e =>
    (h.2.1 w.port).2.2.2 (by rw [Part.outline_wait, waiting_iff]; exact ⟨w, hw, rfl, e⟩)
  have h1 : (Part.outline { x with sched := { x.sched with switches := (dueSwitches x.sched.switches).2 } }).ok := by
    obtain ⟨k1, k2, k3, k4⟩ := h
    refine ⟨k1, fun p => ⟨(k2 p).1, (k2 p).2.1, ?_, ?_⟩, k3, k4⟩
    · exact (k2 p).2.2.1
    · rw [Part.outline_wait, waiting_iff]
      rintro ⟨w, hw, e, b⟩
      rw [← e]
      exact hb w (dueSwitches_mem _ w (.inr hw)) b
  obtain ⟨h2, -⟩ := ChanSwitch.foldl_ok (dueSwitches x.sched.switches).1 h1 fun w hw b =>
    hb w (dueSwitches_mem _ w (.inl hw)) b
  rw [Part.capacityRuleQuiet_outline rfl h2.steady]
  exact h2


/-! ### The blocks of the commands: symbols, samples, ticks and tests change no figure -/

theorem Part.receiveVoice_outline (p : PortId) (bs : List Byte) (e : Bool) (h : x.outline = o) :
    (x.receiveVoice p bs e).outline = o := by
  unfold Part.receiveVoice
  split
  · rename_i c _ hc
    split
    · have hs : ∀ c' : Channel, (some c').isSome = (x.chan p).isSome := fun c' => by rw [hc]; rfl
      cases p
      · exact (Part.setChan_same .a _ h (hs (if e then c.conceal else c.receive bs)) : _)
      · exact (Part.setChan_same .b _ h (hs (if e then c.conceal else c.receive bs)) : _)
    · exact h
  · exact h

theorem Sched.dataByte_outline (a e : Bool) (d : Sched) (b : Byte) : (Sched.dataByte a e d b).outline = d.outline := by
  have h1 : ∀ (y : Sched) (f : List Byte) (e : Bool), (Sched.frameDone y a f e).outline = y.outline := fun y f e => by
    unfold Sched.frameDone
    repeat' (first | rfl | split)
  unfold Sched.dataByte
  dsimp only
  repeat' (first | rfl | exact h1 _ _ _ | split)

theorem Sched.dataBytes_outline (a e : Bool) (bs : List Byte) (d : Sched) :
    (bs.foldl (Sched.dataByte a e) d).outline = d.outline := by
  induction bs generalizing d with
  | nil => rfl
  | cons b bs ih => exact (ih _).trans (Sched.dataByte_outline a e d b)

theorem Part.handOn_outline (bs : List Byte) (e : Bool) (h : x.outline = o) : (x.handOn bs e).outline = o := by
  unfold Part.handOn
  dsimp only
  refine Part.outline_mk (Part.receiveVoice_outline _ _ _ (Part.receiveVoice_outline _ _ _ h)) rfl rfl rfl rfl rfl ?_ rfl
  exact Sched.dataBytes_outline _ _ _ _

theorem Part.loseLock_outline (w : Nat) (h : x.outline = o) : (x.loseLock w).outline = o :=
  Part.makeRecord_outline _ _ _ h

theorem Part.gainLock_outline (k : Symbol) (l : Lock) (h : x.outline = o) : (x.gainLock k l).outline = o :=
  Part.makeRecord_outline _ _ _ h

theorem Part.takeEvent_outline (k : Symbol) (h : x.outline = o) : (x.takeEvent k).outline = o := by
  unfold Part.takeEvent
  dsimp only
  repeat' (first | exact h | with_reducible apply Part.gainLock_outline | with_reducible apply Part.loseLock_outline
                  | split)

theorem Part.closeWindow_outline (h : x.outline = o) : x.closeWindow.outline = o := by
  unfold Part.closeWindow
  dsimp only
  repeat' (first | exact h | with_reducible apply Part.loseLock_outline | split)

theorem Part.downstream_outline (d : DownSymbol) (h : x.outline = o) : (x.downstream d).outline = o := by
  unfold Part.downstream
  dsimp only
  refine Part.outline_mk (Part.handOn_outline _ _ ?_) rfl rfl rfl rfl rfl rfl rfl
  split
  · exact Part.takeEvent_outline _ h
  · exact h

theorem Part.streamByte_outline (h : x.outline = o) : x.streamByte.2.outline = o := by
  have h1 : (if x.sched.burst.bytes.isEmpty then
      match x.svc.outQ with
      | m :: q =>
        Part.tryOffer
          { x with
            svc := { x.svc with outQ := q }
            sched := { x.sched with
              burst := ⟨m.bytes, match m with
                | .faultReport r => some r.seq
                | _ => none⟩ } }
      | [] => x
    else x).outline = o := by
    repeat' (first | exact h | with_reducible apply Part.tryOffer_outline | split)
  unfold Part.streamByte
  dsimp only
  split
  · exact h1
  · split <;> exact Part.outline_mk h1 rfl rfl rfl rfl rfl rfl rfl

theorem Part.burstBytes_outline (n : Nat) (h : x.outline = o) : (Part.burstBytes n x).2.outline = o := by
  induction n generalizing x with
  | zero => exact h
  | succ n ih =>
    have h1 := Part.streamByte_outline h
    unfold Part.burstBytes
    split
    · rename_i e; rw [e] at h1; exact h1
    · rename_i e; rw [e] at h1; exact ih h1

theorem Sched.dataSlots_outline (n : Nat) (d : Sched) : (d.dataSlots n).2.outline = d.outline := by
  induction n generalizing d with
  | zero => rfl
  | succ n ih =>
    refine (ih d.dataSlot.2).trans ?_
    unfold Sched.dataSlot
    repeat' (first | rfl | split)

theorem Part.fillReport_outline (r : List Byte) (u : Nat) (h : x.outline = o) : (x.fillReport r u).outline = o := h

theorem Part.fillSymbol_outline (u : Nat) (h : x.outline = o) : (x.fillSymbol u).outline = o := by
  unfold Part.fillSymbol
  dsimp only
  refine Part.outline_mk (Part.burstBytes_outline _ (Part.streamByte_outline h)) rfl rfl rfl rfl rfl ?_ rfl
  exact Sched.dataSlots_outline _ _

theorem Part.slowSymbol_outline (b : Byte) (snr : List Int) (h : x.outline = o) : (x.slowSymbol b snr).outline = o := by
  have h1 : ∀ y : Part, y.outline = o →
      (if y.line.state = .sounding then ([], y) else ([y.streamByte.1.getD 0], y.streamByte.2)).2.outline = o :=
    fun y hy => by
      split
      · exact hy
      · exact Part.streamByte_outline hy
  specialize h1 { x with svc := x.svc.receiveByte b false } h
  unfold Part.slowSymbol
  dsimp only
  generalize (if ({ x with svc := x.svc.receiveByte b false } : Part).line.state = .sounding then _ else _ :
    List Byte × Part) = u at h1 ⊢
  have h2 : ∀ y : Part, y.outline = o →
      (if y.line.state = .sounding then y else { y with line := { y.line with symbol := y.line.symbol + 1 } } :
        Part).outline = o := fun y hy => by
    split
    · exact hy
    · exact hy
  apply h2
  split
  · exact Part.outline_mk h1 rfl rfl rfl rfl rfl rfl rfl
  · exact Part.outline_mk h1 rfl rfl rfl rfl rfl rfl rfl

theorem Part.sampleTime_outline (a b : Int) (h : x.outline = o) : (x.sampleTime a b).outline = o := h

theorem Part.tick_outline (h : x.outline = o) : x.tick.outline = o := h

theorem Part.refuse_outline (src : Source) (c : ObjClass) (h : x.outline = o) : (x.refuse src c).outline = o := by
  unfold Part.refuse
  dsimp only
  split
  · exact h
  · exact Part.makeRecord_outline _ _ _ h

theorem Part.hostBack_outline (h : x.outline = o) : x.hostBack.outline = o := by
  unfold Part.hostBack
  dsimp only
  repeat' (first | exact h | with_reducible apply Part.setHolds_outline | with_reducible apply Part.makeRecord_outline
                  | with_reducible apply Part.outline_mk | rfl)

theorem Part.frameSeen_outline (h : x.outline = o) : x.frameSeen.outline = o := by
  unfold Part.frameSeen
  dsimp only
  split
  · exact Part.outline_mk (Part.hostBack_outline (x := x.gaveOut x.linkStatus) h) rfl rfl rfl rfl rfl rfl rfl
  · exact h

theorem Part.hostSilence_outline (h : x.outline = o) : x.hostSilence.outline = o := by
  unfold Part.hostSilence
  dsimp only
  split
  · exact h
  · repeat' (first | exact h | with_reducible apply Part.setHolds_outline | with_reducible apply Part.makeRecord_outline
                    | with_reducible apply Part.outline_mk | rfl)

theorem Part.sendParts_outline (tag : Byte) (k : Nat) (bs : List (List Byte)) (h : x.outline = o) :
    (x.sendParts tag k bs).outline = o := by
  induction bs generalizing x k with
  | nil => exact h
  | cons b bs ih =>
    unfold Part.sendParts
    split
    · exact ih _ (Part.enqueue_outline _ h)
    · exact h

theorem Part.operatorReply_outline (tag : Byte) (st : Status) (b : ReplyBody) (h : x.outline = o) :
    (x.operatorReply tag st b).outline = o := by
  unfold Part.operatorReply
  split
  · exact Part.sendParts_outline _ _ _ h
  · exact h

/-- A frame that is taken or not keeps the part coherent where the owner's answer does (R202). -/
theorem Part.takeFrame_ok (tag kind : Byte) (f : Part → Answer) (h : x.outline.ok)
    (hf : ∀ y : Part, y.outline = x.outline → (f y).1.outline.ok) : (x.takeFrame tag kind f).outline.ok := by
  have e := Part.frameSeen_outline (x := x) rfl
  unfold Part.takeFrame
  dsimp only
  split
  · exact e ▸ h
  · split
    · exact e ▸ h
    · exact hf _ e

/-- A command of either source keeps the part coherent where its owner's answer does (R195, R199, R202). -/
theorem Part.take_ok (v : Envelope) (k : Handling) (h : x.outline.ok)
    (hf : ∀ y : Part, y.outline = x.outline → (k.own y).1.outline.ok) : (x.take v k).outline.ok := by
  have h1 : ∀ (src : Source) (form : BodyForm) (y : Part), y.outline = x.outline → (y.answer src form k).1.outline.ok := by
    intro src form y hy
    unfold Part.answer
    split
    · exact (Part.refuse_outline _ _ hy).symm ▸ h
    · split
      · exact hf y hy
      · exact hy.symm ▸ h
  unfold Part.take
  split
  · refine Part.takeFrame_ok _ _ _ h fun y hy => ?_
    split
    · exact hy.symm ▸ h
    · exact h1 _ _ y hy
  · unfold Part.takeOperator
    split
    · dsimp only
      rw [Part.operatorReply_outline _ _ _ rfl]
      split
      · exact h
      · exact h1 _ _ x rfl
    · exact h

theorem Part.takeUnknown_ok (v : Envelope) (k : Byte) (h : x.outline.ok) : (x.takeUnknown v k).outline.ok := by
  unfold Part.takeUnknown
  split
  · exact Part.takeFrame_ok _ _ _ h fun y hy => hy.symm ▸ h
  · unfold Part.takeOperator
    split
    · dsimp only
      rw [Part.operatorReply_outline _ _ _ rfl]
      split <;> exact h
    · exact h

/-! ### Tests -/

theorem Part.loopDone_outline (m : List Int) (h : x.outline = o) : (x.loopDone m).outline = o := by
  unfold Part.loopDone
  dsimp only
  apply Part.endTest_outline
  split
  · exact Part.makeRecord_outline _ _ _ h
  · exact h

theorem Part.scanDone_outline (d : Nat) (h : x.outline = o) : (x.scanDone d).outline = o := by
  unfold Part.scanDone
  repeat' (first | exact h | with_reducible apply Part.endTest_outline | split)

theorem Part.noisePhaseEnd_outline (l : List ScanSymbol) (h : x.outline = o) : (x.noisePhaseEnd l).outline = o := by
  unfold Part.noisePhaseEnd
  split
  · exact h
  · dsimp only
    split
    · exact Part.scanDone_outline _ h
    · exact h

theorem Part.portTestDone_outline (p : PortId) (r l : Int) (h : x.outline = o) : (x.portTestDone p r l).outline = o := by
  unfold Part.portTestDone
  dsimp only
  repeat' (first | exact h | rfl | with_reducible apply Part.endTest_outline | with_reducible apply Part.makeRecord_outline
                  | with_reducible apply Part.modPort_outline | split)


/-! ### The blocks of the line's events -/

/-- Where only figures outside the outline change, a part stays coherent. -/
theorem Part.ok_of (e : y.outline = x.outline) (h : x.outline.ok) : y.outline.ok := e ▸ h

theorem Part.sendMove_outline (es : List MoveEntry) (h : x.outline = o) : (x.sendMove es).outline = o :=
  Part.enqueue_outline _ h

theorem Part.considerMove_ok (ms : List Margin) (h : x.outline.ok) : (x.considerMove ms).outline.ok := by
  unfold Part.considerMove
  split
  · exact h
  · split
    · split
      · exact Part.ok_of (Part.sendMove_outline _ rfl) h
      · exact Part.raise_ok _ h
    · exact h

/-- A line in service is not QUIET. -/
theorem Part.inService_notQuiet (h : x.inService = true) : x.line.state ≠ .quiet := by
  intro e
  have : x.line.state.inService = true := h
  rw [e] at this
  exact Bool.false_ne_true this

theorem Part.periodEnd_ok (h : x.outline.ok) (hs : x.inService = true) : x.periodEnd.outline.ok := by
  unfold Part.periodEnd
  dsimp only
  split
  · exact Part.dropLine_ok _ h (Part.inService_notQuiet hs)
  · split
    · exact Part.raise_ok _ h
    · exact Part.considerMove_ok _ h

theorem Part.moveAck_ok (n : Byte) (k : Symbol) (h : x.outline.ok) : (x.moveAck n k).outline.ok := by
  unfold Part.moveAck
  repeat' (first | exact h | with_reducible apply Part.moveFails_ok | with_reducible apply Part.raise_ok | split)

theorem Part.moveRefuse_ok (n : Byte) (h : x.outline.ok) : (x.moveRefuse n).outline.ok := by
  unfold Part.moveRefuse
  repeat' (first | exact h | with_reducible apply Part.moveFails_ok | split)

theorem Part.moveTimeout_ok (h : x.outline.ok) : x.moveTimeout.outline.ok := by
  unfold Part.moveTimeout
  split
  · exact Part.moveFails_ok _ h
  · exact h

/-- Tables in force that change by a move stay in force. -/
theorem Part.moved_outline (m : Option MoveFlight) (d u : Option (List LoadEntry)) (mo : Monitor) (h : x.outline = o)
    (hd : d.isSome = x.line.downInForce.isSome) (hu : u.isSome = x.line.upInForce.isSome) :
    Part.outline { x with line := { x.line with move := m, downInForce := d, upInForce := u }, monitor := mo } = o := by
  refine Part.outline_mk h ?_ rfl rfl rfl rfl rfl rfl
  simp only [Line.outline, hd, hu]

theorem Part.moveSwitch_ok (h : x.outline.ok) : x.moveSwitch.outline.ok := by
  unfold Part.moveSwitch
  split
  · rename_i n es dl k hm
    apply Part.startPending_ok
    have e := Part.moved_outline none (x.line.downInForce.map fun t => applyMove t es) x.line.upInForce
      { x.monitor with moveFailures := 0 } (x := x) rfl Option.isSome_map rfl
    rw [Part.capacityRuleQuiet_outline e h.steady]
    exact h
  · exact h

theorem Part.takeMove_outline (m : MoveMsg) (h : x.outline = o) : (x.takeMove m).outline = o := by
  unfold Part.takeMove
  dsimp only
  repeat' (first | exact h | with_reducible apply Part.enqueue_outline | split)

theorem Part.upstreamMoveSwitch_ok (h : x.outline.ok) : x.upstreamMoveSwitch.outline.ok := by
  unfold Part.upstreamMoveSwitch
  split
  · rename_i n es k hm
    dsimp only
    apply Part.startPending_ok
    have e := Part.moved_outline none x.line.downInForce (x.line.upInForce.map fun t => applyMove t es)
      x.monitor (x := x) rfl rfl Option.isSome_map
    split
    · exact Part.ok_of (Part.capacityRuleQuiet_outline e h.steady) h
    · exact Part.ok_of (Part.postRates_outline (Part.capacityRule_outline e h.steady)) h
  · exact h

theorem Part.reshapeOffer_ok (rs : List Reason) (h : x.outline.ok) : (x.reshapeOffer rs).outline.ok := by
  unfold Part.reshapeOffer
  split
  · rename_i hs
    split
    · exact Part.startReshape_ok _ _ h hs
    · exact h
  · split
    · split
      · split <;> exact h
      · exact h
    · exact h

theorem Part.recordLowRate_outline (h : x.outline = o) : x.recordLowRate.outline = o := by
  unfold Part.recordLowRate
  dsimp only
  split
  · exact Part.makeRecordAt_outline _ _ _ _ h
  · exact h

/-- A confirmed switch needs the upstream table on offer. -/
theorem Part.confirmed_offered (h : x.outline.ok) (hc : x.line.confirmed = true) :
    x.outline.line.upOff = true := by
  refine h.1.2.2.2.2.2 ?_
  unfold Line.confirmed at hc
  show (x.line.switch.isSome || x.line.upValid) = true
  cases hw : x.line.switch with
  | none => rw [hw] at hc; exact absurd hc Bool.false_ne_true
  | some w => rfl

theorem Part.reshapeSwitch_ok (h : x.outline.ok) (hs : x.line.state = .reshape) (hc : x.line.confirmed = true) :
    x.reshapeSwitch.outline.ok := by
  have hu := Part.confirmed_offered h hc
  obtain ⟨h1, h2, h3, h4⟩ := id h
  obtain ⟨hd, hm⟩ := h1.2.2.2.2.1 (.inr hs)
  have hr : ¬ x.outline.line.request = .through := fun k => by
    have := h1.2.2.2.1.1 k
    rw [show x.outline.line.state = .reshape from hs] at this
    revert this; decide
  have hq := h.awake (by show x.line.state ≠ .quiet; rw [hs]; decide)
  unfold Part.reshapeSwitch
  dsimp only
  apply Part.startPending_ok
  have e : ∀ z : Part, z.outline.ok →
      ((z.capacityRule.postLine .reshape none []).postRates.recordLowRate).outline.ok := fun z hz =>
    Part.ok_of (Part.recordLowRate_outline (Part.postRates_outline (Part.postLine_outline _ _ _
      (Part.capacityRule_outline rfl hz.steady)))) hz
  refine e _ ?_
  refine ⟨⟨hd, hu, hm, ⟨fun k => absurd k hr, ?_⟩, ?_, ?_⟩, fun p => ⟨(h2 p).1, fun _ => rfl, (h2 p).2.2⟩, h3,
    fun k => absurd (hq.symm.trans k) Bool.false_ne_true⟩
  · simp [Part.outline, Line.outline]
  · simp [Part.outline, Line.outline]
  · simp [Part.outline, Line.outline]

theorem Part.enterMeasuring_ok (h : x.outline.ok) (hs : x.line.state = .sounding) : x.enterMeasuring.outline.ok := by
  obtain ⟨h1, h2, h3, h4⟩ := id h
  have hin : x.outline.inService = false := by show x.line.state.inService = false; rw [hs]; rfl
  have hr : ¬ x.outline.line.request = .through := fun k => by
    have := h1.2.2.2.1.1 k
    rw [show x.outline.line.state = .sounding from hs] at this
    revert this; decide
  have hq := h.awake (by show x.line.state ≠ .quiet; rw [hs]; decide)
  have e : ∀ y : Part, y.outline = x.outline → Outline.ok (Part.outline { y with
      line := { y.line with
        state := .measuring, wakeTone := none, wakeLeft := none, callWindow := none, transmitter := .framing
        symbol := 0 }
      load := { y.load with averages := noAverages, measureSums := [], measureCount := 0 } }) := by
    intro y hy
    rw [← hy] at h1 h2 h3 hin hr hq
    refine ⟨⟨h1.1.trans hin, h1.2.1.trans hin, h1.2.2.1.trans hin, ⟨fun k => absurd k hr, ?_⟩, ?_, h1.2.2.2.2.2⟩,
      fun p => ⟨(h2 p).1, fun k => absurd (hin.symm.trans ((h2 p).2.1 k)) Bool.false_ne_true, (h2 p).2.2⟩, h3,
      fun k => absurd (hq.symm.trans k) Bool.false_ne_true⟩
    · simp [Part.outline, Line.outline]
    · simp [Part.outline, Line.outline]
  exact e _ (Part.enqueue_outline _ rfl)

theorem Part.enterLoading_ok (h : x.outline.ok) (hs : x.line.state = .measuring) : x.enterLoading.outline.ok := by
  obtain ⟨h1, h2, h3, h4⟩ := id h
  have hin : x.outline.inService = false := by show x.line.state.inService = false; rw [hs]; rfl
  have hr : ¬ x.outline.line.request = .through := fun k => by
    have := h1.2.2.2.1.1 k
    rw [show x.outline.line.state = .measuring from hs] at this
    revert this; decide
  have hq := h.awake (by show x.line.state ≠ .quiet; rw [hs]; decide)
  unfold Part.enterLoading
  dsimp only
  split
  · refine Part.failAttempt_ends _ _ ⟨fun p => ⟨(h2 p).1, fun k => ?_, (h2 p).2.2⟩, h3⟩ hq
    exact absurd (hin.symm.trans ((h2 p).2.1 k)) Bool.false_ne_true
  · rw [Part.sendTable_outline _ rfl]
    refine ⟨⟨h1.1.trans hin, h1.2.1.trans hin, h1.2.2.1.trans hin, ⟨fun k => absurd k hr, ?_⟩, fun _ => ⟨rfl, rfl⟩, ?_⟩,
      fun p => ⟨(h2 p).1, fun k => absurd (hin.symm.trans ((h2 p).2.1 k)) Bool.false_ne_true, (h2 p).2.2⟩, h3,
      fun k => absurd (hq.symm.trans k) Bool.false_ne_true⟩
    · simp [Part.outline, Line.outline, Part.postLine, Part.post]
    · simp [Part.outline, Line.outline, Part.postLine, Part.post]


theorem Part.measurementEnd_ok (h : x.outline.ok) (hs : x.line.state = .measuring) : x.measurementEnd.outline.ok := by
  unfold Part.measurementEnd
  dsimp only
  split
  · exact Part.failAttempt_ok _ _ h (by show x.line.state ≠ .quiet; rw [hs]; decide)
  · exact Part.enterLoading_ok h hs

/-- A valid upstream table on offer. -/
theorem Part.offerUp_ok (t : List LoadEntry) (r : Option Reshape) (h : x.outline.ok) :
    Outline.ok (Part.outline
      { x with line := { x.line with upOffered := some t, upValid := true, reshape := r } }) := by
  obtain ⟨h1, h2, h3, h4⟩ := h
  exact ⟨⟨h1.1, h1.2.1, h1.2.2.1, h1.2.2.2.1, h1.2.2.2.2.1, fun _ => rfl⟩, h2, h3, h4⟩

theorem Part.loadingTable_ok (n : Byte) (t : List LoadEntry) (h : x.outline.ok) (hs : x.line.state = .loading) :
    (x.loadingTable n t).outline.ok := by
  unfold Part.loadingTable
  split
  · exact h
  · split
    · exact Part.nameSwitch_ok _ (Part.offerUp_ok t x.line.reshape h) rfl
    · rename_i c k _
      have e : (x.enqueue (.tableReject n c k)).outline = x.outline := Part.enqueue_outline _ rfl
      have e1 : (x.enqueue (.tableReject n c k)).line.state = .loading :=
        (congrArg (fun q : Outline => q.line.state) e).trans hs
      have h1 : Outline.ok (Part.outline { x.enqueue (.tableReject n c k) with
          line := { (x.enqueue (.tableReject n c k)).line with
            rejections := (x.enqueue (.tableReject n c k)).line.rejections + 1 } }) :=
        Part.ok_of (Part.outline_mk e rfl rfl rfl rfl rfl rfl rfl) h
      dsimp only
      split
      · exact h1
      · exact Part.failAttempt_ok _ _ h1 (by
          show (x.enqueue (.tableReject n c k)).line.state ≠ .quiet
          rw [e1]; decide)

theorem Part.reshapeTable_ok (n : Byte) (t : List LoadEntry) (h : x.outline.ok) (hs : x.line.state = .reshape) :
    (x.reshapeTable n t).outline.ok := by
  unfold Part.reshapeTable
  split
  · exact h
  · rename_i r _
    split
    · exact h
    · split
      · exact Part.nameSwitch_ok _ (Part.offerUp_ok t (some { r with upTaken := true }) h) rfl
      · rename_i c k _
        have e : (Part.enqueue (.tableReject n c k)
            { x with line := { x.line with reshape := some { r with upTaken := true } } }).outline = x.outline :=
          Part.enqueue_outline _ rfl
        exact Part.abandon_ok _ _ (Part.ok_of e h) ((congrArg (fun q : Outline => q.line.state) e).trans hs)

theorem Part.upTable_ok (n : Byte) (g : Nat) (bs : List Byte) (h : x.outline.ok) : (x.upTable n g bs).outline.ok := by
  unfold Part.upTable
  split
  · exact Part.ok_of (Part.receiveError_outline rfl) h
  · split
    · rename_i hs
      dsimp only
      split
      · exact h
      · split
        · rename_i hl
          exact Part.loadingTable_ok _ _ h hl
        · rename_i hl
          exact Part.reshapeTable_ok _ _ h (hs.resolve_left hl)
    · exact h

theorem Part.acknowledge_outline (k : Symbol) (l : Line) : (l.acknowledge k).outline = l.outline := by
  unfold Line.acknowledge
  split
  · rename_i w hw
    split
    · unfold Line.outline
      rw [hw]
      rfl
    · rfl
  · rfl

theorem Part.dialsAnew_outline (p : PortId) (h : x.outline = o) : (x.dialsAnew p).outline = o := by
  unfold Part.dialsAnew
  dsimp only
  split
  · exact Part.modPort_outline _ _ (Part.sayOffHook_outline _ h) rfl
  · exact h

theorem Part.enterCarrying_ok (h : x.outline.ok) (hs : x.line.state = .loading) (hc : x.line.confirmed = true) :
    x.enterCarrying.outline.ok := by
  have hu := Part.confirmed_offered h hc
  obtain ⟨h1, h2, h3, h4⟩ := id h
  obtain ⟨hd, hm⟩ := h1.2.2.2.2.1 (.inl hs)
  have hr : ¬ x.outline.line.request = .through := fun k => by
    have := h1.2.2.2.1.1 k
    rw [show x.outline.line.state = .loading from hs] at this
    revert this; decide
  have hq := h.awake (by show x.line.state ≠ .quiet; rw [hs]; decide)
  unfold Part.enterCarrying
  dsimp only
  have e : ∀ z : Part, z.outline.ok → (Part.tryOffer
      { (((z.postLine .loading none []).postRates.dialsAnew .a).dialsAnew .b) with
        log := (((z.postLine .loading none []).postRates.dialsAnew .a).dialsAnew .b).log.lineUp }).outline.ok :=
    fun z hz => Part.ok_of (Part.tryOffer_outline (Part.outline_mk (Part.dialsAnew_outline _
      (Part.dialsAnew_outline _ (Part.postRates_outline (Part.postLine_outline _ _ _ rfl))))
      rfl rfl rfl rfl rfl rfl rfl)) hz
  refine e _ ?_
  refine ⟨⟨hd, hu, hm, ⟨fun k => absurd k hr, ?_⟩, ?_, ?_⟩, fun p => ⟨(h2 p).1, fun _ => rfl, (h2 p).2.2⟩, h3,
    fun k => absurd (hq.symm.trans k) Bool.false_ne_true⟩
  · simp [Part.outline, Line.outline]
  · simp [Part.outline, Line.outline]
  · simp [Part.outline, Line.outline, Line.clearPhase]

theorem Part.stopLine_ok (h : x.outline.ok) : x.stopLine.outline.ok :=
  Part.proceedIfReporting_ok _ (Part.toQuiet_ok none h.ends).1

theorem Part.clearFlag_outline (f : FlagName) (h : x.outline = o) : (x.clearFlag f).outline = o := by
  cases f <;> exact h

theorem Part.clearFlags_outline (h : x.outline = o) : x.clearFlags.outline = o := by
  unfold Part.clearFlags
  simp only [List.foldl_cons, List.foldl_nil]
  repeat' with_reducible apply Part.clearFlag_outline
  exact h

theorem Part.portBAfterReset_inCall (s : Part) : s.portBAfterReset.inCall = false := by
  unfold Part.portBAfterReset
  split <;> rfl

/-- COMMAND_FULL leaves the part coherent whatever it was (R209). -/
theorem Part.commandFull_ok (s : Part) : s.commandFull.outline.ok := by
  unfold Part.commandFull
  dsimp only
  generalize ((s.abortUntold.stopLine.enterState .a .through none).enterState .b
    s.abortUntold.stopLine.portBAfterReset none) = w
  refine Part.ok_of (Part.outline_mk (Part.clearFlags_outline rfl) rfl rfl rfl rfl rfl rfl rfl) ?_
  refine ⟨⟨rfl, rfl, rfl, ⟨fun _ => .inl rfl, fun _ => rfl⟩, ?_, ?_⟩, fun p => ?_, rfl, fun _ => rfl⟩
  · simp [Part.outline, Line.outline, Line.initial]
  · simp [Part.outline, Line.outline, Line.initial]
  · cases p
    · exact ⟨rfl, fun k => absurd k Bool.false_ne_true, fun k => absurd k Bool.false_ne_true,
        fun k => absurd k Bool.false_ne_true⟩
    · exact ⟨(Part.portBAfterReset_inCall w).symm, fun k => absurd k Bool.false_ne_true,
        fun k => absurd k Bool.false_ne_true, fun k => absurd k Bool.false_ne_true⟩

theorem Part.commandLine_ok (h : x.outline.ok) : x.commandLine.outline.ok := by
  unfold Part.commandLine
  dsimp only
  rw [Part.refreshHeard_outline rfl]
  apply Part.settleRelay_ok
  have h1 := Part.stopLine_ok (Part.ok_of (Part.abortTest_outline .reset (x := x) rfl) h)
  exact Part.ok_of (Part.outline_mk (x := (x.abortTest .reset).stopLine) rfl rfl rfl rfl rfl rfl rfl rfl) h1


/-! ### The blocks of the telephones' events and commands -/

theorem Part.holdExpires_ok (p : PortId) (h : x.outline.ok) (hs : (x.port p).state = .held) :
    (x.holdExpires p).outline.ok := by
  have e := Part.sayOnHook_outline p (x := x) rfl
  have h1 := Part.endAndPark_ok p (Part.ok_of e h) (by rw [e]; exact Part.outline_notThrough p (by rw [hs]; decide))
  unfold Part.holdExpires
  dsimp only
  split
  · exact Part.ok_of (Part.parkJoined_outline rfl) h1
  · exact h1

theorem Part.release_ok (p : PortId) (h : x.outline.ok) : (x.release p).outline.ok := by
  unfold Part.release
  dsimp only
  split
  · rename_i hs
    have ht : (x.port p).state ≠ .through := by
      intro k
      rw [k] at hs
      simp at hs
    have h1 := Part.endAndPark_ok p h (Part.outline_notThrough p ht)
    split
    · exact Part.ok_of (Part.parkJoined_outline rfl) h1
    · exact h1
  · exact h

theorem Part.connect_ok (p : PortId) (h : x.outline.ok) : (x.connect p).outline.ok := by
  unfold Part.connect
  split
  · rename_i hs
    have hd : (x.port p).state = .dialling := beq_iff_eq.1 (Bool.and_eq_true_iff.1 hs).2
    have e := Part.dropRungBy_outline p (x := x) rfl
    refine Part.askChannel_ok p _ (Part.ok_of e h) ?_ ?_
    · rw [e]; exact Part.outline_notThrough p (by rw [hd]; decide)
    · exact Part.ok_of (Part.signal_outline _ _ (Part.modPort_outline _ _ e rfl)) h
  · exact h

theorem Part.callTone_outline (p : PortId) (k : CallTone) (h : x.outline = o) : (x.callTone p k).outline = o := by
  unfold Part.callTone
  dsimp only
  split
  · exact Part.modPort_outline _ _ h rfl
  · exact h

/-- A trip of a ring (R106, R112). -/
theorem Part.ringTrip_ok (p : PortId) (h : x.outline.ok) (hs : (x.port p).state = .ringing) :
    (x.ringTrip p).outline.ok := by
  have hp : x.outline.plainPort p := Part.plainPort p (by rw [hs]; rfl)
  have e1 : (x.declareHook p .offHook).outline = x.outline := Part.declareHook_outline _ _ rfl
  have e2 := Part.modPort_outline p (fun r => { r with ring := none, dialTimer := none, digit := none, lastTone := none })
    e1 rfl
  have hd : ∀ y : Part, y.outline = x.outline → (y.toDialling p).outline.ok := fun y hy =>
    Part.ok_of ((Part.toDialling_outline p hy).trans (Outline.enter_plain p _ hp rfl)) h
  unfold Part.ringTrip
  dsimp only
  split
  · exact Part.ok_of e1 h
  · split
    · split
      · have e3 := Part.sayOffHook_outline p e2
        refine Part.askChannel_ok p _ (Part.ok_of e3 h) (by rw [e3]; exact hp.2) ?_
        exact Part.ok_of (Part.signal_outline _ _
          ((Part.enterState_outline p _ none e3).trans (Outline.enter_plain p _ hp rfl))) h
      · exact hd _ e2
    · rename_i q _ _
      split
      · rename_i hq
        have hqp : x.outline.plainPort q := by
          have := Part.plainPort (x := (x.declareHook p .offHook).modPort p fun r =>
            { r with ring := none, dialTimer := none, digit := none, lastTone := none }) q (by rw [hq]; rfl)
          rw [e2] at this
          exact this
        have e3 := Part.modPort_outline q (fun r => { r with dialTimer := none })
          (Part.withdraw_outline p ((Part.enterState_outline p .intercom none e2).trans (Outline.enter_plain p _ hp rfl))) rfl
        exact Part.ok_of (Part.withdraw_outline q
          ((Part.enterState_outline q .intercom none e3).trans (Outline.enter_plain q _ hqp rfl))) h
      · exact hd _ e2
    · exact hd _ e2

theorem Part.offHookAborts_ok (p : PortId) (h : x.outline.ok) : (x.offHookAborts p).outline.ok := by
  unfold Part.offHookAborts
  split
  · exact Part.settleRelay_ok (Part.ok_of (Part.abortTest_outline _ rfl) h)
  · exact h

theorem Part.declareHook_ok (p : PortId) (k : Hook) (h : x.outline.ok) : (x.declareHook p k).outline.ok :=
  Part.ok_of (Part.declareHook_outline _ _ rfl) h

theorem Part.offHook_ok (p : PortId) (h : x.outline.ok) : (x.offHook p).outline.ok := by
  unfold Part.offHook
  dsimp only
  split
  · exact h
  · split
    · exact Part.offHookAborts_ok _ (Part.declareHook_ok _ _ h)
    · split
      · exact h
      · split
        · rename_i hs
          exact Part.offHookAborts_ok _ (Part.ringTrip_ok _ h hs)
        · split
          · split
            · split
              · exact Part.declareHook_ok _ _ (Part.offHookAborts_ok _ h)
              · exact Part.offHookAborts_ok _ h
            · exact h
          · have h1 := Part.offHookAborts_ok p (Part.declareHook_ok p .offHook h)
            split
            · rename_i hs
              exact Part.ok_of ((Part.toDialling_outline p rfl).trans
                (Outline.enter_plain p _ (Part.plainPort p (by rw [hs]; rfl)) rfl)) h1
            · exact h1

theorem PortState.offHook_notThrough {n : PortState} (h : n.offHook = true) : n ≠ .through := by
  intro e
  rw [e] at h
  exact Bool.false_ne_true h

theorem Part.onHook_ok (p : PortId) (h : x.outline.ok) : (x.onHook p).outline.ok := by
  unfold Part.onHook
  dsimp only
  split
  · exact h
  · split
    · rename_i hs
      have e := Part.declareHook_outline p .onHook (x := x) rfl
      have ht := Part.outline_notThrough p (PortState.offHook_notThrough hs)
      rw [← e] at ht
      split
      · rename_i hb
        obtain ⟨rfl, -⟩ := hb
        exact Part.ok_of (Part.modPort_outline _ _ rfl rfl) (Part.hangUp_ok .b .shed (Part.ok_of e h) ht rfl)
      · exact Part.hangUp_ok p .idle (Part.ok_of e h) ht rfl
    · exact Part.ok_of (Part.modPort_outline _ _ (Part.declareHook_outline p .onHook rfl) rfl) h

theorem Part.breakEnds_outline (p : PortId) (ms : Nat) (h : x.outline = o) : (x.breakEnds p ms).outline = o := by
  unfold Part.breakEnds
  dsimp only
  repeat' (first | exact h | rfl | with_reducible apply Part.giveEvent_outline
                  | with_reducible apply Part.modPort_outline | split)

theorem Part.digitEnds_outline (p : PortId) (h : x.outline = o) : (x.digitEnds p).outline = o := by
  have e := Part.modPort_outline p (fun r => { r with digit := none }) h rfl
  unfold Part.digitEnds
  split
  · dsimp only
    split
    · exact Part.giveDigit_outline _ _ _ e
    · exact Part.giveEvent_outline _ _ _ e
  · exact h

theorem Part.toneDigit_outline (p : PortId) (d : Digit) (h : x.outline = o) : (x.toneDigit p d).outline = o := by
  unfold Part.toneDigit
  dsimp only
  split
  · exact Part.giveDigit_outline _ _ _ (Part.modPort_outline _ _ h rfl)
  · exact h

theorem Part.dialExpires_outline (p : PortId) (h : x.outline = o) : (x.dialExpires p).outline = o := by
  unfold Part.dialExpires
  split
  · rename_i hs
    rw [Part.park_outline p (Part.withdraw_outline p h)]
    subst h
    exact Outline.enter_plain p _ (Part.plainPort p (by rw [hs.1]; rfl)) rfl
  · exact h

/-- A plain port begins to ring (R104, R111). -/
theorem Part.startRing_plain (p : PortId) (c : Nat) (g : Origin) (q : Option PortId) (h : x.outline = o)
    (hp : o.plainPort p) : (x.startRing p c g q).outline = o :=
  (Part.startRing_outline p c g q h).trans (Outline.enter_plain p _ hp rfl)

theorem Part.takeRing_outline (p : PortId) (c : Nat) (h : x.outline = o) : (x.takeRing p c).outline = o := by
  unfold Part.takeRing
  dsimp only
  split
  · exact h
  · split
    · exact h
    · split
      · rename_i hs
        split
        · refine Part.startRing_plain _ _ _ _ h ?_
          rw [← h]
          exact Part.plainPort p (by rw [hs.1]; rfl)
        · exact Part.signal_outline _ _ h
      · split
        · exact Part.sayOffHook_outline _ h
        · exact Part.signal_outline _ _ h

theorem Part.overcurrent_outline (p : PortId) (h : x.outline = o) (hs : (x.port p).state = .ringing) :
    (x.overcurrent p).outline = o := by
  unfold Part.overcurrent
  dsimp only
  split
  · exact h
  · exact Part.makeRecord_outline _ _ _ (Part.modPort_outline _ _ (Part.endRing_plain _ _ _ h (by rw [hs]; rfl) rfl) rfl)

theorem Part.thermalTrip_outline (p : PortId) (h : x.outline = o) (hs : (x.port p).state = .ringing) :
    (x.thermalTrip p).outline = o := by
  unfold Part.thermalTrip
  dsimp only
  split
  · exact h
  · exact Part.makeRecord_outline _ _ _ (Part.modPort_outline _ _
      (Part.endRing_plain _ _ _ h (by rw [hs]; rfl) (by split <;> rfl)) rfl)

theorem Part.heatStep_outline (p : PortId) (h : x.outline = o) : (x.heatStep p).outline = o := by
  unfold Part.heatStep
  dsimp only
  split
  · have e : ∀ f : Port → Port, (∀ r, (f r).state = r.state) → (x.modPort p f).outline = o ∧
        ((x.modPort p f).port p).state = (x.port p).state := fun f hf =>
      ⟨Part.modPort_outline _ _ h (hf _), by cases p <;> exact hf _⟩
    split
    · rename_i hs
      obtain ⟨e1, e2⟩ := e (fun r => { r with
        heat := min 1000 ((x.port p).heat + 2 + (x.port p).ringLoad), ringAcc := (x.port p).ringAcc - 100 }) fun _ => rfl
      exact Part.thermalTrip_outline p e1 (e2.trans hs.2)
    · exact Part.modPort_outline _ _ h rfl
  · exact Part.modPort_outline _ _ h rfl

theorem Part.cooldownEnds_outline (p : PortId) (h : x.outline = o) : (x.cooldownEnds p).outline = o := by
  unfold Part.cooldownEnds
  dsimp only
  split
  · rename_i hs
    have hp : o.plainPort p := by rw [← h]; exact Part.plainPort p (by rw [hs.1]; rfl)
    have e := Part.modPort_outline p (fun r => { r with cooldown := none }) h rfl
    split
    · exact (Part.enterState_outline p _ none (Part.modPort_outline p (fun r => { r with hook := .onHook, digit := none })
        e rfl)).trans (Outline.enter_plain p _ hp rfl)
    · split
      · exact (Part.toDialling_outline p e).trans (Outline.enter_plain p _ hp rfl)
      · exact (Part.enterState_outline p _ none e).trans (Outline.enter_plain p _ hp rfl)
  · exact h

theorem Part.enableTripped_outline (p : PortId) (h : x.outline = o) (hp : o.plainPort p) :
    (x.enableTripped p).outline = o := by
  unfold Part.enableTripped
  split
  · exact (Part.toDialling_outline p h).trans (Outline.enter_plain p _ hp rfl)
  · exact (Part.enterState_outline p _ none h).trans (Outline.enter_plain p _ hp rfl)

theorem Part.portDisable_ok (p : PortId) (h : x.outline.ok) : (x.portDisable p).outline.ok := by
  have e := Part.modPort_outline p (fun r => { r with enable := false }) (x := x) rfl rfl
  unfold Part.portDisable
  dsimp only
  split
  · rename_i hs
    have hp : x.outline.plainPort p := Part.plainPort p (by rcases hs with k | k | k <;> rw [k] <;> rfl)
    exact Part.ok_of ((Part.enterState_outline p _ none (Part.modPort_outline p
      (fun r => { r with hook := .onHook, digit := none }) e rfl)).trans (Outline.enter_plain p _ hp rfl)) h
  · split
    · rename_i hs
      refine Part.ok_of (Part.endRing_plain p true _ e ?_ rfl) h
      have : ((x.modPort p fun r => { r with enable := false }).port p).state = (x.port p).state := by cases p <;> rfl
      rw [this, hs]; rfl
    · split
      · rename_i hs
        have ht := Part.outline_notThrough p (PortState.offHook_notThrough hs)
        rw [← e] at ht
        refine Part.ok_of (Part.modPort_outline _ _ rfl rfl) (Part.hangUp_ok p _ (Part.ok_of e h) ht ?_)
        split <;> rfl
      · exact Part.ok_of e h


/-! ### The blocks of the supply's events -/

theorem Part.toSupply_outline (st : SupplyState) (h : x.outline = o) (hs : o.shut = (st == .shutdown)) :
    (x.toSupply st).outline = o := by
  refine Part.outline_mk h rfl rfl rfl rfl rfl rfl ?_
  subst h
  show (st == .shutdown, x.supply.relay) = (x.supply.state == .shutdown, x.supply.relay)
  rw [← hs]
  rfl

theorem Part.retime_ok (h : x.outline.ok) : x.retime.outline.ok := h

theorem Part.postSupply_ok (p : Option SupplyState) (h : x.outline.ok) : (x.postSupply p).outline.ok := h

theorem Part.outline_shut (h : x.supply.state ≠ .shutdown) : x.outline.shut = false := beq_eq_false_iff_ne.2 h

theorem Part.enterBattery_ok (p : Option SupplyState) (h : x.outline.ok) (hs : x.supply.state ≠ .shutdown) :
    (x.enterBattery p).outline.ok := by
  unfold Part.enterBattery
  dsimp only
  apply Part.retime_ok
  apply Part.postSupply_ok
  apply Part.raise_ok
  refine Part.ok_of (Part.makeRecord_outline _ _ _ (Part.trimRings_outline (Part.setBudget_outline _ _ ?_))) h
  exact Part.outline_mk (Part.toSupply_outline .battery (x := x) rfl (Part.outline_shut hs)) rfl rfl rfl rfl rfl rfl rfl

theorem Part.recoverBattery_ok (h : x.outline.ok) (hs : x.supply.state ≠ .shutdown) :
    x.recoverBattery.outline.ok := by
  have e0 := Part.setOverlay_outline false (Part.toSupply_outline .battery (x := x) rfl (Part.outline_shut hs))
  unfold Part.recoverBattery
  dsimp only
  apply Part.retime_ok
  apply Part.postSupply_ok
  apply Part.raise_ok
  exact Part.ok_of (Part.setBudget_outline 4 8 (Part.endShedding_outline (Part.setHolds_outline false _ e0))) h

theorem Part.enterBatteryLow_ok (p : Option SupplyState) (h : x.outline.ok) (hs : x.supply.state ≠ .shutdown) :
    (x.enterBatteryLow p).outline.ok := by
  unfold Part.enterBatteryLow
  dsimp only
  apply Part.retime_ok
  apply Part.postSupply_ok
  apply Part.raise_ok
  exact Part.ok_of (Part.makeRecord_outline _ _ _ (Part.setHolds_outline _ _ (Part.trimRings_outline
    (Part.setBudget_outline _ _ (Part.shedAtLow_outline
      (Part.setOverlay_outline _ (Part.toSupply_outline .batteryLow rfl (Part.outline_shut hs)))))))) h

theorem Part.enterMains_ok (h : x.outline.ok) (hs : x.supply.state ≠ .shutdown) : x.enterMains.outline.ok := by
  have e0 := Part.toSupply_outline .mains (x := x) rfl (Part.outline_shut hs)
  unfold Part.enterMains
  dsimp only
  apply Part.retime_ok
  apply Part.postSupply_ok
  apply Part.raise_ok
  refine Part.ok_of (Part.outline_mk (Part.makeRecord_outline _ _ _ (Part.setBudget_outline _ _ ?_))
    rfl rfl rfl rfl rfl rfl rfl) h
  split
  · exact Part.endShedding_outline (Part.setHolds_outline _ _ (Part.setOverlay_outline _ e0))
  · exact e0

theorem Part.settleOther_outline (h : x.outline = o) : x.settleOther.outline = o := by
  unfold Part.settleOther
  split <;> exact h

theorem Part.startLastReport_outline (h : x.outline = o) : x.startLastReport.outline = o := by
  unfold Part.startLastReport
  dsimp only
  exact Part.outline_mk (Part.settleOther_outline (Part.storeRecord_outline _ h)) rfl rfl rfl rfl rfl rfl rfl

theorem Part.enterCutoff_ok (p : Option SupplyState) (h : x.outline.ok) (hs : x.supply.state ≠ .shutdown) :
    (x.enterCutoff p).outline.ok := by
  have e : ∀ y : Part, y.outline = x.outline →
      (((y.setHolds true y.link.silenceHold).setOverlay false).postSupply p).outline = x.outline := fun y hy =>
    Part.postSupply_outline _ (Part.setOverlay_outline _ (Part.setHolds_outline _ _ hy))
  have e1 := e ((((x.toSupply .cutoff).setBudget 0 (x.toSupply .cutoff).supply.cutback)).stopRings)
    (Part.stopRings_outline (Part.setBudget_outline _ _ (Part.toSupply_outline .cutoff rfl (Part.outline_shut hs))))
  unfold Part.enterCutoff
  dsimp only
  generalize Part.postSupply p (Part.setOverlay false (Part.setHolds true _ _)) = z at e1 ⊢
  have h1 : (if z.line.state = .reshape then z.abandon .supply 0 else z).outline.ok := by
    split
    · rename_i hz
      exact Part.abandon_ok _ _ (Part.ok_of e1 h) hz
    · exact Part.ok_of e1 h
  have h2 := Part.ok_of (Part.retime_outline (Part.abortTest_outline .supply rfl)) h1
  generalize ((if z.line.state = .reshape then z.abandon .supply 0 else z).abortTest .supply).retime = w at h2 ⊢
  split
  · exact Part.ok_of (Part.startLastReport_outline rfl) h2
  · exact Part.enterShutdown_ok (Part.ok_of (Part.storeRecord_outline _ rfl) h2).ends

/-- POWER_ON leaves the part coherent (R178). -/
theorem Part.powerOn_ok (m : Bool) (b : Nat) : (Part.powerOn m b).outline.ok := by
  have h := Part.initial_outline_ok m (min 2000 b)
  unfold Part.powerOn
  dsimp only
  split
  · exact h
  · rename_i hm
    have hs : (Part.initial m (min 2000 b)).supply.state ≠ .shutdown := fun k => SupplyState.noConfusion k
    split
    · exact Part.enterBattery_ok none h hs
    · split
      · exact Part.enterBatteryLow_ok none h hs
      · exact Part.enterCutoff_ok none h hs

/-! ### The owners' answers -/

theorem ownLineStart_ok (h : x.outline.ok) : (ownLineStart x).1.outline.ok := by
  unfold ownLineStart
  repeat' (first | exact h | with_reducible apply Part.settle_ok | split)

theorem ownLineStop_ok (h : x.outline.ok) : (ownLineStop x).1.outline.ok := Part.settle_ok (Part.stopLine_ok h)

theorem ownSetProfile_ok (f : ProfileFields) (h : x.outline.ok) : (ownSetProfile f x).1.outline.ok := by
  unfold ownSetProfile
  split <;> exact h

theorem Part.detectConflict_outline (c : List Window) (h : x.outline = o) : (x.detectConflict c).outline = o := by
  unfold Part.detectConflict
  dsimp only
  repeat' (first | exact h | with_reducible apply Part.makeRecord_outline | split)

theorem Part.acceptWindow_ok (c : List Window) (h : x.outline.ok) : (x.acceptWindow c).outline.ok := by
  have h1 : ∀ y : Part, y.outline.ok → (if y.inService then (y.raise .notch).refreshHeard else y).outline.ok := by
    intro y hy
    split
    · exact Part.ok_of (Part.refreshHeard_outline rfl) (Part.raise_ok _ hy)
    · exact hy
  unfold Part.acceptWindow
  dsimp only
  have e : Part.outline { x with band := { x.band with windows := c } } = x.outline :=
    Part.outline_mk rfl rfl rfl rfl rfl rfl rfl rfl
  apply h1
  split
  · exact Part.ok_of e h
  · exact Part.ok_of (Part.post_outline _ e) h

theorem ownSetBandWindow_ok (w : WindowArg) (h : x.outline.ok) : (ownSetBandWindow w x).1.outline.ok := by
  unfold ownSetBandWindow
  split
  · exact h
  · rename_i win _
    split
    · exact h
    · have h1 := Part.ok_of (Part.detectConflict_outline (x.band.windows.set w.number win) (x := x) rfl) h
      dsimp only
      split
      · exact h
      · split
        · exact h1
        · exact Part.acceptWindow_ok _ h1

theorem ownSetStrictPlan_ok (v : Option Bool) (h : x.outline.ok) : (ownSetStrictPlan v x).1.outline.ok := by
  unfold ownSetStrictPlan
  split <;> exact h

theorem ownRequestReshape_ok (src : Source) (h : x.outline.ok) : (ownRequestReshape src x).1.outline.ok := by
  unfold ownRequestReshape
  split
  · exact Part.ok_of (Part.refreshHeard_outline rfl) (Part.raise_ok _ h)
  · exact h

theorem onPort_ok (g : PortArg) (f : PortId → Part → Answer) (h : x.outline.ok)
    (hf : ∀ p, (f p x).1.outline.ok) : (onPort g f x).1.outline.ok := by
  unfold onPort
  split
  · exact hf _
  · exact h

theorem ownPortEnable_ok (g : PortArg) (h : x.outline.ok) : (ownPortEnable g x).1.outline.ok := by
  refine onPort_ok g _ h fun p => ?_
  have e := Part.modPort_outline p (fun r => { r with enable := true }) (x := x) rfl rfl
  dsimp only
  split
  · rename_i hs
    have hp : x.outline.plainPort p := Part.plainPort p (by rw [hs]; rfl)
    exact Part.settle_ok (Part.ok_of ((Part.enterState_outline p _ none (Part.modPort_outline p
      (fun r => { r with hook := .onHook }) e rfl)).trans (Outline.enter_plain p _ hp rfl)) h)
  · rename_i hs
    have hp : x.outline.plainPort p := Part.plainPort p (by rw [hs]; rfl)
    exact Part.settle_ok (Part.ok_of (Part.enableTripped_outline p e hp) h)
  · rename_i hs
    have hp : x.outline.plainPort p := Part.plainPort p (by rw [hs]; rfl)
    exact Part.settle_ok (Part.ok_of (Part.enableTripped_outline p
      (Part.modPort_outline p (fun r => { r with trip := none }) e rfl) hp) h)
  · exact Part.ok_of e h
  · exact Part.ok_of e h

theorem ownPortDisable_ok (g : PortArg) (h : x.outline.ok) : (ownPortDisable g x).1.outline.ok :=
  onPort_ok g _ h fun p => Part.settle_ok (Part.portDisable_ok p h)

theorem Part.localRing_ok (p : PortId) (c : Option PortId) (h : x.outline.ok) (hs : (x.port p).state = .idle) :
    (x.localRing p c).1.outline.ok := by
  unfold Part.localRing
  split
  · exact Part.ok_of (Part.refreshHeard_outline (Part.startRing_plain _ _ _ _ rfl (Part.plainPort p (by rw [hs]; rfl)))) h
  · exact h

theorem ownRingLocal_ok (g : PortArg) (h : x.outline.ok) : (ownRingLocal g x).1.outline.ok := by
  refine onPort_ok g _ h fun p => ?_
  split
  · exact h
  · split
    · exact h
    · split
      · exact h
      · rename_i hs
        exact Part.localRing_ok p _ h (not_not.1 hs)

theorem ownIntercom_ok (g k : PortArg) (h : x.outline.ok) : (ownIntercom g k x).1.outline.ok := by
  unfold ownIntercom
  split
  · exact h
  · split
    · split
      · exact h
      · split
        · exact h
        · split
          · exact h
          · rename_i hs
            exact Part.localRing_ok _ _ h (by
              by_contra n
              exact hs (.inr n))
    · exact h

theorem ownJoin_ok (h : x.outline.ok) : (ownJoin x).1.outline.ok := by
  unfold ownJoin
  split
  · exact h
  · split
    · rename_i hs
      have hp : x.outline.plainPort .b := Part.plainPort .b (by show x.portB.state.plain = true; rw [hs.2]; rfl)
      dsimp only
      refine Part.ok_of (Part.refreshHeard_outline (Part.dropRungBy_outline .b (Part.outline_mk
        ((Part.enterState_outline .b .joined none (Part.withdraw_outline .b (Part.modPort_outline .b
          (fun r => { r with dialTimer := none }) rfl rfl))).trans (Outline.enter_plain .b _ hp rfl))
        rfl rfl rfl rfl rfl rfl rfl))) h
    · exact h

theorem ownPart_ok (h : x.outline.ok) : (ownPart x).1.outline.ok := by
  unfold ownPart
  split
  · rename_i hs
    have hp : x.outline.plainPort .b := Part.plainPort .b (by show x.portB.state.plain = true; rw [hs]; rfl)
    exact Part.ok_of (Part.refreshHeard_outline ((Part.toDialling_outline .b (Part.unlink_outline rfl)).trans
      (Outline.enter_plain .b _ hp rfl))) h
  · exact h

theorem Part.startTest_ok (t : TestKind) (p : Option PortId) (src : Source) (h : x.outline.ok) :
    (x.startTest t p src).1.outline.ok := Part.settle_ok h

theorem Part.mayTest_ok (f : Part → Answer) (h : x.outline.ok) (hf : (f x).1.outline.ok) :
    (x.mayTest f).1.outline.ok := by
  unfold Part.mayTest
  repeat' (first | exact h | exact hf | split)

theorem ownRunDiag_ok (src : Source) (t : Option TestKind) (p : Option PortArg) (h : x.outline.ok) :
    (ownRunDiag src t p x).1.outline.ok := by
  unfold ownRunDiag
  split
  · exact h
  · exact h
  · split
    · exact h
    · refine Part.mayTest_ok _ h ?_
      dsimp only
      repeat' (first | exact h | with_reducible apply Part.startTest_ok | split)
  · refine Part.mayTest_ok _ h ?_
    repeat' (first | exact h | with_reducible apply Part.startTest_ok | split)
  · refine Part.mayTest_ok _ h ?_
    repeat' (first | exact h | with_reducible apply Part.startTest_ok | split)

theorem ownAbortDiag_ok (h : x.outline.ok) : (ownAbortDiag x).1.outline.ok := by
  unfold ownAbortDiag
  split
  · exact Part.settle_ok (Part.ok_of (Part.abortTest_outline _ rfl) h)
  · exact h

theorem ownAckFlags_ok (src : Source) (ns : List (Option FlagName)) (h : x.outline.ok) :
    (ownAckFlags src ns x).1.outline.ok := by
  have e : ∀ (fs : List FlagName) (y : Part), (fs.foldl (fun p f => p.clearFlag f) y).outline = y.outline := by
    intro fs
    induction fs with
    | nil => exact fun _ => rfl
    | cons f fs ih => exact fun y => (ih _).trans (Part.clearFlag_outline f rfl)
  unfold ownAckFlags
  split
  · exact h
  · exact Part.ok_of (e _ x) h

theorem ownReadTable_ok (t : Option TableName) (a c : Nat) (h : x.outline.ok) :
    (ownReadTable t a c x).1.outline.ok := by
  unfold ownReadTable
  repeat' (first | exact h | split)

theorem ownReset_ok (v : Option Scope) (h : x.outline.ok) : (ownReset v x).1.outline.ok := by
  unfold ownReset
  split
  · exact Part.commandFull_ok x
  · exact Part.commandLine_ok h
  · exact h

theorem ownClearLog_ok (h : x.outline.ok) : (ownClearLog x).1.outline.ok := h

theorem ownSetReportThreshold_ok (v : Option Severity) (h : x.outline.ok) :
    (ownSetReportThreshold v x).1.outline.ok := by
  unfold ownSetReportThreshold
  split <;> exact h

theorem ownSetSupplyLimits_ok (l c : Option Int) (h : x.outline.ok) : (ownSetSupplyLimits l c x).1.outline.ok := h

theorem ownPermission_ok (b : Bool) (c : Option ObjClass) (h : x.outline.ok) : (ownPermission b c x).1.outline.ok := by
  unfold ownPermission
  repeat' (first | exact h | split)

/-- Whatever owner a command of the catalogue has, its answer keeps the part coherent. -/
theorem handlingOf_ok (src : Source) (c : Command) (h : x.outline.ok) : ((handlingOf src c).own x).1.outline.ok := by
  cases c with
  | lineStart => exact ownLineStart_ok h
  | lineStop => exact ownLineStop_ok h
  | setProfile f => exact ownSetProfile_ok f h
  | setBandWindow w => exact ownSetBandWindow_ok w h
  | setStrictPlan v => exact ownSetStrictPlan_ok v h
  | requestReshape => exact ownRequestReshape_ok src h
  | portEnable p => exact ownPortEnable_ok p h
  | portDisable p => exact ownPortDisable_ok p h
  | ringLocal p => exact ownRingLocal_ok p h
  | intercom f t => exact ownIntercom_ok f t h
  | join => exact ownJoin_ok h
  | part => exact ownPart_ok h
  | getPortStatus p => exact onPort_ok p _ h fun _ => h
  | runDiag t p => exact ownRunDiag_ok src t p h
  | abortDiag => exact ownAbortDiag_ok h
  | getDiagResult t p =>
    show (ownGetDiagResult t p x).1.outline.ok
    unfold ownGetDiagResult
    repeat' (first | exact h | split)
  | clearLog => exact ownClearLog_ok h
  | setReportThreshold v => exact ownSetReportThreshold_ok v h
  | setSupplyLimits l c => exact ownSetSupplyLimits_ok l c h
  | grant c => exact ownPermission_ok true c h
  | withhold c => exact ownPermission_ok false c h
  | ackFlags ns => exact ownAckFlags_ok src ns h
  | readTable t a n => exact ownReadTable_ok t a n h
  | reset v => exact ownReset_ok v h
  | getProfile => exact h
  | getBandMap => exact h
  | getLineStatus => exact h
  | getSnapshot => exact h
  | getSupply => exact h
  | getAccess => exact h
  | setSilenceTimer v => exact h
  | getFlags => exact h
  | setStatsPeriod v => exact h
  | unknown k => exact h

/-- A command that acts on the part alone keeps it coherent where its action does. -/
theorem State.act_coherent {f : Part → Part} {s t : State} (hs : s.part.coherent)
    (hf : s.part.outline.ok → (f s.part).outline.ok) (h : s.act f = .next t) : t.part.coherent := by
  unfold State.act at h
  injection h with h
  subst h
  split
  · rename_i hr
    rw [Part.coherent_iff] at hs ⊢
    exact fun _ => hf (hs hr)
  · exact hs

end Sys2Proof.Machine
end

