-- ==== Sys2Proof/Laws/Kept.lean ====
section
/-! SUPPORT. What every shared operation keeps: the bounds of the queues and of the log, the fixed entries of the permission
table, and no more replies than before. One lemma per operation, to be cited in place of unfolding it. -/

namespace Sys2Proof.Machine

/-- From `s` to `t` the bounds and the fixed entries are kept, and no reply joins. -/
def Part.Kept (s t : Part) : Prop :=
  (s.access.perms.fixedEntries → t.access.perms.fixedEntries) ∧ t.link.replies.length ≤ s.link.replies.length ∧
    (s.bounded → t.bounded)

theorem Part.Kept.refl (s : Part) : s.Kept s := ⟨id, le_rfl, id⟩

theorem Part.Kept.trans {s t u : Part} (h : s.Kept t) (k : t.Kept u) : s.Kept u :=
  ⟨fun x => k.1 (h.1 x), le_trans k.2.1 h.2.1, fun x => k.2.2 (h.2.2 x)⟩

variable {s x y : Part}

/-- A record that takes new fields is kept where the bounded stores do not grow and the permissions stay. -/
theorem Part.Kept.mk {t l sn ld b m tr pa pb v sc sv lg dg su ac li} (h : s.Kept x)
    (h1 : ac.perms = x.access.perms) (h2 : li.replies.length ≤ x.link.replies.length)
    (h3 : li.notices.length ≤ x.link.notices.length) (h4 : sv.outQ.length ≤ x.svc.outQ.length)
    (h5 : lg.records.length ≤ x.log.records.length) (h6 : sc.upQueue.length ≤ x.sched.upQueue.length)
    (h7 : sc.downBuffer.length ≤ x.sched.downBuffer.length) :
    s.Kept ⟨x.running, t, l, sn, ld, b, m, tr, pa, pb, v, sc, sv, lg, dg, su, ac, li⟩ := by
  refine ⟨fun f => ?_, le_trans h2 h.2.1, fun f => ?_⟩
  · show ac.perms.fixedEntries
    rw [h1]; exact h.1 f
  · have g := h.2.2 f
    exact ⟨h2.trans g.1, h3.trans g.2.1, h4.trans g.2.2.1, h5.trans g.2.2.2.1, h6.trans g.2.2.2.2.1,
      h7.trans g.2.2.2.2.2⟩

/-- A fresh part keeps whatever is to be kept. -/
theorem Part.initial_kept (m : Bool) (b : Nat) : s.Kept (Part.initial m b) :=
  ⟨fun _ => ⟨true, true, true, rfl⟩, Nat.zero_le _, fun _ => by simp [Part.bounded, Part.initial, Link.initial,
    Service.initial, Log.initial, Sched.initial]⟩

/-! ### Lengths -/

theorem insertMsg_length (m : Msg) (q : List Msg) : (insertMsg m q).length = q.length + 1 := by
  unfold insertMsg
  split
  · have h := congrArg List.length (List.takeWhile_append_dropWhile (p := fun m : Msg => m.isSignal) (l := q))
    simp only [List.length_append, List.length_cons] at h ⊢
    omega
  · simp

theorem dropNewest_length {q : List Msg} {m : Msg} (h : newestOther q = some m) :
    (dropNewest q).length + 1 = q.length := by
  have hm := List.find?_some h
  have hmem := List.mem_of_find?_eq_some h
  simp only [List.mem_reverse] at hmem
  have h1 : (q.reverse.eraseP (!·.isSignal)).length = q.reverse.length - 1 :=
    List.length_eraseP_of_mem (a := m) (by simpa using hmem) hm
  have h2 : 0 < q.length := List.length_pos_of_mem hmem
  simp only [dropNewest, List.length_reverse] at h1 ⊢
  omega

theorem Log.modify_length (l : Log) (q : Seq) (f : FaultRecord → FaultRecord) :
    (l.modify q f).records.length = l.records.length := by simp [Log.modify]

theorem Log.settle_length (l : Log) : l.settle.records.length = l.records.length := by
  unfold Log.settle
  split <;> simp [Log.modify]

theorem Log.makeRoom_length {l : Log} (r : FaultRecord) (h : l.records.length ≤ 32) :
    (l.makeRoom r).1.length ≤ 32 := by
  unfold Log.makeRoom
  split
  · simp; omega
  · split
    · rename_i _ he
      obtain ⟨a, ha, hp⟩ := List.any_eq_true.1 he
      have h1 := List.length_eraseP_of_mem (p := fun r : FaultRecord => r.expendable) ha hp
      have := List.length_pos_of_mem ha
      simp only [List.length_append, List.length_singleton]
      rw [h1]; omega
    · split
      · rename_i _ _ he
        obtain ⟨a, ha, hp⟩ := List.any_eq_true.1 he
        have h1 := List.length_eraseP_of_mem (p := (·.yieldsTo l.inFlight r.severity)) ha hp
        have := List.length_pos_of_mem ha
        simp only [List.length_append, List.length_singleton]
        rw [h1]; omega
      · exact h

/-! ### Queues and records -/

theorem Part.post_kept (n : Notice) (h : s.Kept x) : s.Kept (x.post n) := by
  refine h.trans ⟨id, ?_, fun b => ⟨?_, ?_, b.2.2⟩⟩
  all_goals (simp only [Part.post, Link.post]; split)
  · exact le_rfl
  · exact le_rfl
  · exact b.1
  · exact b.1
  · rename_i hl
    simp; omega
  · simp only
    split
    · rename_i he
      obtain ⟨a, ha, hp⟩ := List.any_eq_true.1 he
      have h1 := List.length_eraseP_of_mem (p := fun n : Notice => n.isStats) ha hp
      have := List.length_pos_of_mem ha
      have := b.2.1
      simp only [List.length_append, List.length_singleton]
      rw [h1]; omega
    · exact b.2.1

theorem Log.displaced_length (l : Log) (m : Msg) : (l.displaced m).records.length = l.records.length := by
  unfold Log.displaced
  split
  · split
    · simp [Log.retract, Log.modify]
    · rfl
  · rfl

theorem Part.enqueue_kept (m : Msg) (h : s.Kept x) : s.Kept (x.enqueue m) := by
  refine h.trans ?_
  unfold Part.enqueue
  split
  · rename_i hl
    exact ⟨id, le_rfl, fun b => ⟨b.1, b.2.1, by simp only [insertMsg_length]; omega, b.2.2.2⟩⟩
  · split
    · exact Part.Kept.refl _
    · split
      · exact ⟨id, le_rfl, id⟩
      · rename_i _ _ hn
        have := dropNewest_length hn
        refine ⟨id, le_rfl, fun b => ⟨b.1, b.2.1, ?_, ?_, b.2.2.2.2⟩⟩
        · have := b.2.2.1
          simp only [insertMsg_length]; omega
        · show (x.log.displaced _).records.length ≤ 32
          rw [Log.displaced_length]
          exact b.2.2.2.1
    · exact ⟨id, le_rfl, id⟩

theorem Part.tryOffer_kept (h : s.Kept x) : s.Kept x.tryOffer := by
  unfold Part.tryOffer
  split
  · split
    · exact h
    · apply Part.enqueue_kept
      refine h.mk rfl le_rfl le_rfl le_rfl ?_ le_rfl le_rfl
      exact (Log.modify_length ..).le
  · exact h

theorem Part.storeRecord_kept (r : FaultRecord) (h : s.Kept x) : s.Kept (x.storeRecord r) := by
  refine h.trans ?_
  unfold Part.storeRecord
  refine Part.post_kept _ ⟨id, le_rfl, fun b => ⟨b.1, b.2.1, b.2.2.1, Log.makeRoom_length r b.2.2.2.1, b.2.2.2.2⟩⟩

theorem Part.makeRecordAt_kept (k : FaultKind) (src : FaultSource) (ls : LineState) (ds : List Int) (h : s.Kept x) :
    s.Kept (x.makeRecordAt k src ls ds) := by
  unfold Part.makeRecordAt
  dsimp only
  split
  · exact Part.tryOffer_kept (Part.storeRecord_kept _ h)
  · exact Part.storeRecord_kept _ h

theorem Part.makeRecord_kept (k : FaultKind) (src : FaultSource) (ds : List Int) (h : s.Kept x) :
    s.Kept (x.makeRecord k src ds) := Part.makeRecordAt_kept _ _ _ _ h

theorem Sched.close_upQueue (d : Sched) : d.close.upQueue.length ≤ d.upQueue.length := by
  simp [Sched.close, Sched.emptyBuffer]

theorem Part.setHolds_kept (a b : Bool) (h : s.Kept x) : s.Kept (x.setHolds a b) := by
  unfold Part.setHolds
  dsimp only
  split
  · refine h.mk rfl ?_ ?_ ?_ ?_ (Sched.close_upQueue _) (Nat.zero_le _) <;> exact le_rfl
  · exact h

/-! ### The records of a port -/

theorem Part.setPort_kept (p : PortId) (r : Port) (h : s.Kept x) : s.Kept (x.setPort p r) := by cases p <;> exact h

theorem Part.setChan_kept (p : PortId) (c : Option Channel) (h : s.Kept x) :
    s.Kept (x.setChan p c) := by cases p <;> exact h

theorem Part.setGen_kept (p : PortId) (g : Generator) (h : s.Kept x) : s.Kept (x.setGen p g) := by cases p <;> exact h

theorem Part.setSlot_kept (p : PortId) (v : Slot) (h : s.Kept x) : s.Kept (x.setSlot p v) := by cases p <;> exact h

theorem Part.setHold_kept (p : PortId) (v : Option Nat) (h : s.Kept x) :
    s.Kept (x.setHold p v) := by cases p <;> exact h

theorem Part.modPort_kept (p : PortId) (f : Port → Port) (h : s.Kept x) : s.Kept (x.modPort p f) := by
  unfold Part.modPort
  repeat' (first | exact h | with_reducible apply Part.setPort_kept)

theorem Part.endTest_kept (o : DiagOutcome) (d : Nat) (h : s.Kept x) : s.Kept (x.endTest o d) := by
  unfold Part.endTest
  split
  · exact h
  · exact Part.post_kept _ h

theorem Part.abortTest_kept (w : AbortCause) (h : s.Kept x) : s.Kept (x.abortTest w) := by
  unfold Part.abortTest
  repeat' (first | exact h | with_reducible apply Part.endTest_kept)

/-! ### Telephone ports -/

theorem Part.portEvent_kept (p : PortId) (e : PortEvent) (m : Option Mode) (h : s.Kept x) :
    s.Kept (x.portEvent p e m) := by
  unfold Part.portEvent
  repeat' (first | exact h | with_reducible apply Part.post_kept)

theorem Part.signal_kept (p : PortId) (v : Signal) (h : s.Kept x) : s.Kept (x.signal p v) := by
  unfold Part.signal
  repeat' (first | exact h | with_reducible apply Part.enqueue_kept)

theorem Part.sayOffHook_kept (p : PortId) (h : s.Kept x) : s.Kept (x.sayOffHook p) := by
  unfold Part.sayOffHook
  repeat' (first | exact h | with_reducible apply Part.signal_kept | with_reducible apply Part.modPort_kept)

theorem Part.sayOnHook_kept (p : PortId) (h : s.Kept x) : s.Kept (x.sayOnHook p) := by
  unfold Part.sayOnHook
  repeat' (first | exact h | with_reducible apply Part.signal_kept | with_reducible apply Part.modPort_kept)

theorem Part.withdraw_kept (p : PortId) (h : s.Kept x) : s.Kept (x.withdraw p) := by
  unfold Part.withdraw
  repeat' (first | exact h | with_reducible apply Part.sayOnHook_kept | split)

theorem Part.enterState_kept (p : PortId) (n : PortState) (m : Option Mode) (h : s.Kept x) :
    s.Kept (x.enterState p n m) := by
  unfold Part.enterState
  (try dsimp only)
  repeat' (first | exact h | with_reducible apply Part.portEvent_kept | with_reducible apply Part.abortTest_kept
                  | with_reducible apply Part.modPort_kept | split)

theorem Part.beginChannel_kept (p : PortId) (m : Mode) (h : s.Kept x) : s.Kept (x.beginChannel p m) := by
  unfold Part.beginChannel
  dsimp only
  apply Part.signal_kept
  exact (Part.setChan_kept p _ h).mk rfl le_rfl le_rfl le_rfl le_rfl le_rfl le_rfl

theorem Part.endChannel_kept (p : PortId) (h : s.Kept x) : s.Kept (x.endChannel p) := by
  unfold Part.endChannel
  split
  · exact Part.setHold_kept _ _ h
  · dsimp only
    apply Part.signal_kept
    exact (Part.setSlot_kept p _ (Part.setHold_kept p _ (Part.setChan_kept p _ h))).mk rfl le_rfl le_rfl le_rfl le_rfl
      le_rfl le_rfl

theorem Part.postRingLimited_kept (p : PortId) (h : s.Kept x) : s.Kept (x.postRingLimited p) := by
  unfold Part.postRingLimited
  repeat' (first | exact h | with_reducible apply Part.post_kept)

theorem Part.startRing_kept (p : PortId) (c : Nat) (o : Origin) (q : Option PortId) (h : s.Kept x) :
    s.Kept (x.startRing p c o q) := by
  unfold Part.startRing
  (try dsimp only)
  repeat' (first | exact h | with_reducible apply Part.setGen_kept | with_reducible apply Part.enterState_kept
                  | with_reducible apply Part.modPort_kept | split)

theorem Part.releaseTone_kept (p : PortId) (h : s.Kept x) : s.Kept (x.releaseTone p) := by
  unfold Part.releaseTone
  repeat' (first | exact h | with_reducible apply Part.setGen_kept | with_reducible apply Part.modPort_kept | split)

theorem Part.callerBack_kept (p : PortId) (h : s.Kept x) : s.Kept (x.callerBack p) := by
  unfold Part.callerBack
  (try dsimp only)
  repeat' (first | exact h | with_reducible apply Part.sayOffHook_kept | with_reducible apply Part.releaseTone_kept | with_reducible apply Part.modPort_kept | split)

theorem Part.endRing_kept (p : PortId) (b : Bool) (n : PortState) (h : s.Kept x) : s.Kept (x.endRing p b n) := by
  unfold Part.endRing
  (try dsimp only)
  repeat' (first | exact h | with_reducible apply Part.callerBack_kept
                  | with_reducible apply Part.enterState_kept | with_reducible apply Part.signal_kept
                  | with_reducible apply Part.modPort_kept | split)

theorem Part.dropRungBy_kept (p : PortId) (h : s.Kept x) : s.Kept (x.dropRungBy p) := by
  unfold Part.dropRungBy
  repeat' (first | exact h | with_reducible apply Part.endRing_kept | split)

theorem Part.park_kept (p : PortId) (h : s.Kept x) : s.Kept (x.park p) := by
  unfold Part.park
  repeat' (first | exact h | with_reducible apply Part.dropRungBy_kept
                  | with_reducible apply Part.enterState_kept | with_reducible apply Part.modPort_kept)

theorem Part.unlink_kept (h : s.Kept x) : s.Kept (x.unlink) := by
  unfold Part.unlink
  (try dsimp only)
  repeat' (first | exact h)

theorem Part.parkJoined_kept (h : s.Kept x) : s.Kept (x.parkJoined) := by
  unfold Part.parkJoined
  repeat' (first | exact h | with_reducible apply Part.unlink_kept | with_reducible apply Part.park_kept | split)

theorem Part.toDialling_kept (p : PortId) (h : s.Kept x) : s.Kept (x.toDialling p) := by
  unfold Part.toDialling
  (try dsimp only)
  repeat' (first | exact h | with_reducible apply Part.enterState_kept
                  | with_reducible apply Part.sayOffHook_kept | with_reducible apply Part.modPort_kept | split)

theorem Part.leaveCall_kept (p : PortId) (o : PortState) (h : s.Kept x) : s.Kept (x.leaveCall p o) := by
  unfold Part.leaveCall
  (try dsimp only)
  repeat' (first | exact h | with_reducible apply Part.parkJoined_kept | with_reducible apply Part.unlink_kept
                  | with_reducible apply Part.park_kept
                  | with_reducible apply Part.dropRungBy_kept | split)

theorem Part.hangUp_kept (p : PortId) (o : PortState) (h : s.Kept x) : s.Kept (x.hangUp p o) := by
  unfold Part.hangUp
  (try dsimp only)
  repeat' (first | exact h | with_reducible apply Part.leaveCall_kept | with_reducible apply Part.endChannel_kept
                  | with_reducible apply Part.enterState_kept
                  | with_reducible apply Part.withdraw_kept | with_reducible apply Part.modPort_kept)

theorem Part.portLeavesService_kept (p : PortId) (h : s.Kept x) : s.Kept (x.portLeavesService p) := by
  unfold Part.portLeavesService
  (try dsimp only)
  repeat' (first | exact h | with_reducible apply Part.park_kept | with_reducible apply Part.endRing_kept
                  | with_reducible apply Part.modPort_kept | split)

theorem Part.channelsEnd_kept (h : s.Kept x) : s.Kept (x.channelsEnd) := by
  unfold Part.channelsEnd
  (try dsimp only)
  repeat' (first | exact h)

theorem Part.portsLeaveService_kept (h : s.Kept x) : s.Kept (x.portsLeaveService) := by
  unfold Part.portsLeaveService
  repeat' (first | exact h | with_reducible apply Part.channelsEnd_kept
                  | with_reducible apply Part.portLeavesService_kept)

theorem Part.enterThrough_kept (h : s.Kept x) : s.Kept (x.enterThrough) := by
  unfold Part.enterThrough
  (try dsimp only)
  repeat' (first | exact h | with_reducible apply Part.leaveCall_kept | with_reducible apply Part.endRing_kept
                  | with_reducible apply Part.enterState_kept
                  | with_reducible apply Part.modPort_kept | with_reducible apply Part.setHold_kept
                  | with_reducible apply Part.setChan_kept)

theorem Part.leaveThrough_kept (h : s.Kept x) : s.Kept (x.leaveThrough) := by
  unfold Part.leaveThrough
  repeat' (first | exact h | with_reducible apply Part.enterState_kept)

theorem Part.settleRelay_kept (h : s.Kept x) : s.Kept (x.settleRelay) := by
  unfold Part.settleRelay
  (try dsimp only)
  repeat' (first | exact h | with_reducible apply Part.leaveThrough_kept
                  | with_reducible apply Part.enterThrough_kept | split)

theorem Part.refreshPort_kept (p : PortId) (h : s.Kept x) : s.Kept (x.refreshPort p) := by
  unfold Part.refreshPort
  (try dsimp only)
  repeat' (first | exact h | with_reducible apply Part.modPort_kept | with_reducible apply Part.setGen_kept)

theorem Part.refreshHeard_kept (h : s.Kept x) : s.Kept (x.refreshHeard) := by
  unfold Part.refreshHeard
  repeat' (first | exact h)

theorem Part.giveEvent_kept (p : PortId) (e : PortEvent) (v : Signal) (h : s.Kept x) : s.Kept (x.giveEvent p e v) := by
  unfold Part.giveEvent
  (try dsimp only)
  repeat' (first | exact h | with_reducible apply Part.signal_kept | with_reducible apply Part.portEvent_kept | split)

theorem Part.giveDigit_kept (p : PortId) (d : Digit) (b : Bool) (h : s.Kept x) : s.Kept (x.giveDigit p d b) := by
  unfold Part.giveDigit
  (try dsimp only)
  repeat' (first | exact h | with_reducible apply Part.giveEvent_kept | with_reducible apply Part.modPort_kept | split)

theorem Part.declareHook_kept (p : PortId) (k : Hook) (h : s.Kept x) : s.Kept (x.declareHook p k) := by
  unfold Part.declareHook
  repeat' (first | exact h | with_reducible apply Part.portEvent_kept | with_reducible apply Part.modPort_kept)

/-! ### Capacity -/

theorem Part.setMode_kept (p : PortId) (m : Mode) (h : s.Kept x) : s.Kept (x.setMode p m) := by
  unfold Part.setMode
  repeat' (first | exact h | with_reducible apply Part.setSlot_kept | with_reducible apply Part.setChan_kept | split)

theorem Part.holdPort_kept (p : PortId) (h : s.Kept x) : s.Kept (x.holdPort p) := by
  unfold Part.holdPort
  repeat' (first | exact h | with_reducible apply Part.enterState_kept | with_reducible apply Part.signal_kept
                  | with_reducible apply Part.setHold_kept
                  | with_reducible apply Part.setSlot_kept | with_reducible apply Part.setChan_kept | split)

theorem Part.resumePort_kept (p : PortId) (h : s.Kept x) : s.Kept (x.resumePort p) := by
  unfold Part.resumePort
  repeat' (first | exact h | with_reducible apply Part.enterState_kept | with_reducible apply Part.signal_kept
                  | with_reducible apply Part.setHold_kept
                  | with_reducible apply Part.setSlot_kept | with_reducible apply Part.setChan_kept | split)

theorem Part.shrinkStep_kept (b : Bool) (f : Part → Part) (h : s.Kept x) (k : ∀ y, s.Kept y → s.Kept (f y)) :
    s.Kept (x.shrinkStep b f) := by
  unfold Part.shrinkStep
  split
  · exact k _ h
  · exact h

theorem Part.shrink_kept (h : s.Kept x) : s.Kept (x.shrink) := by
  unfold Part.shrink
  dsimp only
  exact Part.shrinkStep_kept _ _ (Part.shrinkStep_kept _ _ (Part.shrinkStep_kept _ _ (Part.shrinkStep_kept _ _ h
    fun _ => Part.setMode_kept _ _) fun _ => Part.setMode_kept _ _) fun _ => Part.holdPort_kept _)
    fun _ => Part.holdPort_kept _

theorem Part.recordHold_kept (b : Part) (p : PortId) (h : s.Kept x) : s.Kept (Part.recordHold b p x) := by
  unfold Part.recordHold
  split
  · split
    · exact Part.makeRecord_kept _ _ _ h
    · exact h
  · exact h

theorem Part.growStep_kept (b : Bool) (f : Part → Part) (h : s.Kept x) (k : ∀ y, s.Kept y → s.Kept (f y)) :
    s.Kept (x.growStep b f) := by
  unfold Part.growStep
  split
  · exact k _ h
  · exact h

theorem Part.growth_kept (h : s.Kept x) : s.Kept (x.growth) := by
  unfold Part.growth
  dsimp only
  exact Part.growStep_kept _ _ (Part.growStep_kept _ _ (Part.growStep_kept _ _ (Part.growStep_kept _ _ h
    fun _ => Part.resumePort_kept _) fun _ => Part.resumePort_kept _) fun _ => Part.setMode_kept _ _)
    fun _ => Part.setMode_kept _ _

theorem Part.capacityRule_kept (h : s.Kept x) : s.Kept (x.capacityRule) := by
  unfold Part.capacityRule
  (try dsimp only)
  repeat' (first | exact h | with_reducible apply Part.growth_kept | with_reducible apply Part.recordHold_kept
                  | with_reducible apply Part.shrink_kept)

theorem Part.postRates_kept (h : s.Kept x) : s.Kept (x.postRates) := by
  unfold Part.postRates
  repeat' (first | exact h | with_reducible apply Part.post_kept)

theorem Part.capacityRuleQuiet_kept (h : s.Kept x) : s.Kept (x.capacityRuleQuiet) := by
  unfold Part.capacityRuleQuiet
  (try dsimp only)
  repeat' (first | exact h | with_reducible apply Part.postRates_kept
                  | with_reducible apply Part.capacityRule_kept | split)

theorem Part.askChannel_kept (p : PortId) (f : Part → Part) (h : s.Kept x) (k : ∀ y, s.Kept y → s.Kept (f y)) :
    s.Kept (Part.askChannel p f x) := by
  unfold Part.askChannel
  split
  · dsimp only
    apply Part.enterState_kept
    apply Part.modPort_kept
    apply Part.beginChannel_kept
    split
    · exact h
    · exact Part.sayOffHook_kept _ h
  · exact k _ h

theorem ChanSwitch.apply_kept (w : ChanSwitch) (h : s.Kept x) : s.Kept (w.apply x) := by
  unfold ChanSwitch.apply
  split <;> exact Part.setSlot_kept _ _ h

/-! ### Supply -/

theorem Part.retime_kept (h : s.Kept x) : s.Kept (x.retime) := by
  unfold Part.retime
  repeat' (first | exact h)

theorem Part.postSupply_kept (o : Option SupplyState) (h : s.Kept x) : s.Kept (x.postSupply o) := by
  unfold Part.postSupply
  repeat' (first | exact h | with_reducible apply Part.post_kept)

theorem Part.setOverlay_kept (b : Bool) (h : s.Kept x) : s.Kept (x.setOverlay b) := by
  unfold Part.setOverlay
  (try dsimp only)
  repeat' (first | exact h | with_reducible apply Part.post_kept | split)

theorem Part.setBudget_kept (b c : Nat) (h : s.Kept x) : s.Kept (x.setBudget b c) := by
  unfold Part.setBudget
  (try dsimp only)
  repeat' (first | exact h)

theorem Part.stopRing_kept (p : PortId) (h : s.Kept x) : s.Kept (x.stopRing p) := by
  unfold Part.stopRing
  repeat' (first | exact h | with_reducible apply Part.endRing_kept
                  | with_reducible apply Part.postRingLimited_kept | split)

theorem Part.trimRings_kept (h : s.Kept x) : s.Kept (x.trimRings) := by
  unfold Part.trimRings
  (try dsimp only)
  repeat' (first | exact h | with_reducible apply Part.stopRing_kept | split)

theorem Part.stopRings_kept (h : s.Kept x) : s.Kept (x.stopRings) := by
  unfold Part.stopRings
  repeat' (first | exact h | with_reducible apply Part.stopRing_kept)

theorem Part.shedPort_kept (h : s.Kept x) : s.Kept (x.shedPort) := by
  unfold Part.shedPort
  repeat' (first | exact h | with_reducible apply Part.enterState_kept)

theorem Part.shedAtLow_kept (h : s.Kept x) : s.Kept (x.shedAtLow) := by
  unfold Part.shedAtLow
  repeat' (first | exact h | with_reducible apply Part.shedPort_kept | with_reducible apply Part.endRing_kept
                  | with_reducible apply Part.modPort_kept | split)

theorem Part.shedAtShutdown_kept (h : s.Kept x) : s.Kept (x.shedAtShutdown) := by
  unfold Part.shedAtShutdown
  (try dsimp only)
  repeat' (first | exact h | with_reducible apply Part.shedPort_kept | with_reducible apply Part.leaveCall_kept
                  | with_reducible apply Part.endRing_kept
                  | with_reducible apply Part.modPort_kept | split)

theorem Part.endShedding_kept (h : s.Kept x) : s.Kept (x.endShedding) := by
  unfold Part.endShedding
  (try dsimp only)
  repeat' (first | exact h | with_reducible apply Part.enterState_kept | with_reducible apply Part.modPort_kept | split)

/-! ### Line -/

theorem Part.postLine_kept (o : LineState) (c : Option Cause) (r : List Reason) (h : s.Kept x) :
    s.Kept (x.postLine o c r) := by
  unfold Part.postLine
  repeat' (first | exact h | with_reducible apply Part.post_kept)

theorem Part.restLine_kept (o : LineState) (h : s.Kept x) : s.Kept (x.restLine o) := by
  unfold Part.restLine
  refine h.mk ?_ ?_ ?_ ?_ ?_ ?_ ?_ <;> first | rfl | exact le_rfl | exact Nat.zero_le _

theorem Part.logLeavesService_kept (h : s.Kept x) : s.Kept (x.logLeavesService) := by
  unfold Part.logLeavesService
  split
  · split <;> refine h.mk ?_ ?_ ?_ ?_ ?_ ?_ ?_ <;>
      first | rfl | exact le_rfl | exact (Log.modify_length ..).le
  · exact h
  · split
    · exact h
    · refine h.mk ?_ ?_ ?_ ?_ ?_ ?_ ?_ <;> first | rfl | exact le_rfl | exact (Log.settle_length _).le

theorem Part.afterLeaving_kept (o : LineState) (h : s.Kept x) : s.Kept (x.afterLeaving o) := by
  unfold Part.afterLeaving
  split
  · apply Part.portsLeaveService_kept
    apply Part.logLeavesService_kept
    refine h.mk ?_ ?_ ?_ ?_ ?_ ?_ ?_ <;> first | rfl | exact le_rfl | exact Nat.zero_le _
  · exact h

theorem Part.writeSnapshot_kept (c : Cause) (h : s.Kept x) : s.Kept (x.writeSnapshot c) := by
  unfold Part.writeSnapshot
  (try dsimp only)
  repeat' (first | exact h)

theorem Part.toQuiet_kept (c : Option Cause) (h : s.Kept x) : s.Kept (x.toQuiet c) := by
  unfold Part.toQuiet
  (try dsimp only)
  repeat' (first | exact h | with_reducible apply Part.writeSnapshot_kept | with_reducible apply Part.afterLeaving_kept
                  | with_reducible apply Part.restLine_kept | with_reducible apply Part.postLine_kept
                  | with_reducible apply Part.settleRelay_kept
                  | with_reducible apply Part.makeRecordAt_kept | split | with_reducible apply Part.Kept.mk
                  | exact le_rfl | rfl)

theorem Part.enterShutdown_kept (h : s.Kept x) : s.Kept (x.enterShutdown) := by
  unfold Part.enterShutdown
  dsimp only
  split
  · exact Part.initial_kept _ _
  · exact Part.postSupply_kept _ (Part.retime_kept (Part.shedAtShutdown_kept (Part.settleRelay_kept
      (Part.toQuiet_kept _ (Part.setOverlay_kept _ (Part.setHolds_kept _ _ h))))))

theorem Part.proceedIfReporting_kept (b : Part) (h : s.Kept x) : s.Kept (Part.proceedIfReporting b x) := by
  unfold Part.proceedIfReporting
  split
  · exact Part.enterShutdown_kept h
  · exact h

theorem Part.dropLine_kept (c : Cause) (h : s.Kept x) : s.Kept (x.dropLine c) := by
  unfold Part.dropLine
  (try dsimp only)
  repeat' (first | exact h | with_reducible apply Part.proceedIfReporting_kept
                  | with_reducible apply Part.writeSnapshot_kept
                  | with_reducible apply Part.afterLeaving_kept | with_reducible apply Part.restLine_kept
                  | with_reducible apply Part.postLine_kept
                  | with_reducible apply Part.makeRecordAt_kept | split | with_reducible apply Part.Kept.mk
                  | exact le_rfl | rfl)

theorem Part.failAttempt_kept (c : Cause) (f : Int) (h : s.Kept x) : s.Kept (x.failAttempt c f) := by
  unfold Part.failAttempt
  (try dsimp only)
  repeat' (first | exact h | with_reducible apply Part.afterLeaving_kept
                  | with_reducible apply Part.restLine_kept | with_reducible apply Part.postLine_kept
                  | with_reducible apply Part.settleRelay_kept | with_reducible apply Part.makeRecord_kept
                  | with_reducible apply Part.makeRecordAt_kept | split
                  | with_reducible apply Part.Kept.mk | exact le_rfl | rfl)

theorem Part.beginCall_kept (h : s.Kept x) : s.Kept (x.beginCall) := by
  unfold Part.beginCall
  (try dsimp only)
  repeat' (first | exact h)

theorem Part.enterSounding_kept (h : s.Kept x) : s.Kept (x.enterSounding) := by
  unfold Part.enterSounding
  (try dsimp only)
  repeat' (first | exact h | with_reducible apply Part.beginCall_kept | with_reducible apply Part.postLine_kept
                  | with_reducible apply Part.settleRelay_kept)

theorem Part.soundingIfReady_kept (h : s.Kept x) : s.Kept (x.soundingIfReady) := by
  unfold Part.soundingIfReady
  repeat' (first | exact h | with_reducible apply Part.enterSounding_kept | split)

theorem Part.settle_kept (h : s.Kept x) : s.Kept (x.settle) := by
  unfold Part.settle
  repeat' (first | exact h | with_reducible apply Part.soundingIfReady_kept
                  | with_reducible apply Part.refreshHeard_kept
                  | with_reducible apply Part.settleRelay_kept)

theorem Part.sendTable_kept (t : List LoadEntry) (h : s.Kept x) : s.Kept (x.sendTable t) := by
  unfold Part.sendTable
  exact Part.enqueue_kept _ (Part.enqueue_kept _ h)

theorem Part.nameSwitch_kept (d : Symbol) (h : s.Kept x) : s.Kept (x.nameSwitch d) := by
  unfold Part.nameSwitch
  dsimp only
  split
  · exact Part.enqueue_kept _ h
  · exact h

theorem Part.receiveError_kept (h : s.Kept x) : s.Kept (x.receiveError) := by
  unfold Part.receiveError
  (try dsimp only)
  repeat' (first | exact h | split)

theorem Part.discardOffers_kept (h : s.Kept x) : s.Kept (x.discardOffers) := by
  unfold Part.discardOffers
  (try dsimp only)
  repeat' (first | exact h)

theorem Part.abandonCore_kept (c : AbandonCause) (k : Nat) (h : s.Kept x) : s.Kept (x.abandonCore c k) := by
  unfold Part.abandonCore
  exact Part.postLine_kept _ _ _ (Part.discardOffers_kept (Part.makeRecordAt_kept _ _ _ _ h))

theorem Part.dropIfThird_kept (h : s.Kept x) : s.Kept (x.dropIfThird) := by
  unfold Part.dropIfThird
  repeat' (first | exact h | with_reducible apply Part.dropLine_kept | split)

theorem Part.computeReshape_kept (h : s.Kept x) : s.Kept (x.computeReshape) := by
  unfold Part.computeReshape
  dsimp only
  split
  · exact Part.dropIfThird_kept (Part.abandonCore_kept _ _ h)
  · exact Part.sendTable_kept _ h

theorem Part.startReshape_kept (o : Bool) (r : List Reason) (h : s.Kept x) : s.Kept (x.startReshape o r) := by
  unfold Part.startReshape
  dsimp only
  apply Part.computeReshape_kept
  split
  · exact Part.enqueue_kept _ (Part.postLine_kept _ _ _ h)
  · exact Part.postLine_kept _ _ _ h

theorem Part.startPending_kept (h : s.Kept x) : s.Kept (x.startPending) := by
  unfold Part.startPending
  repeat' (first | exact h | with_reducible apply Part.startReshape_kept | split)

theorem Part.raise_kept (r : Reason) (h : s.Kept x) : s.Kept (x.raise r) := by
  unfold Part.raise
  (try dsimp only)
  repeat' (first | exact h | with_reducible apply Part.startReshape_kept | split)

theorem Part.abandon_kept (c : AbandonCause) (k : Nat) (h : s.Kept x) : s.Kept (x.abandon c k) := by
  unfold Part.abandon
  (try dsimp only)
  repeat' (first | exact h | with_reducible apply Part.startPending_kept | with_reducible apply Part.abandonCore_kept
                  | with_reducible apply Part.dropLine_kept | split)

theorem Part.moveFails_kept (d : Bool) (h : s.Kept x) : s.Kept (x.moveFails d) := by
  unfold Part.moveFails
  dsimp only
  split
  · exact Part.raise_kept _ h
  · exact Part.startPending_kept h

end Sys2Proof.Machine
end

