-- ==== Sys2Proof/Laws/State.lean ====
section
/-! SUPPORT. One lemma per field per update of the part's record by the named operations of Machine/Ops.lean, and what each
accessor reads after each update, so that no later proof unfolds them. -/

namespace Sys2Proof.Machine

variable (s : Part) (p q : PortId)

/-! ### setPort -/

@[simp] theorem Part.setPort_running (r : Port) : (s.setPort p r).running = s.running := by cases p <;> rfl
@[simp] theorem Part.setPort_time (r : Port) : (s.setPort p r).time = s.time := by cases p <;> rfl
@[simp] theorem Part.setPort_line (r : Port) : (s.setPort p r).line = s.line := by cases p <;> rfl
@[simp] theorem Part.setPort_snapshot (r : Port) : (s.setPort p r).snapshot = s.snapshot := by cases p <;> rfl
@[simp] theorem Part.setPort_load (r : Port) : (s.setPort p r).load = s.load := by cases p <;> rfl
@[simp] theorem Part.setPort_band (r : Port) : (s.setPort p r).band = s.band := by cases p <;> rfl
@[simp] theorem Part.setPort_monitor (r : Port) : (s.setPort p r).monitor = s.monitor := by cases p <;> rfl
@[simp] theorem Part.setPort_tracker (r : Port) : (s.setPort p r).tracker = s.tracker := by cases p <;> rfl
@[simp] theorem Part.setPort_voice (r : Port) : (s.setPort p r).voice = s.voice := by cases p <;> rfl
@[simp] theorem Part.setPort_sched (r : Port) : (s.setPort p r).sched = s.sched := by cases p <;> rfl
@[simp] theorem Part.setPort_svc (r : Port) : (s.setPort p r).svc = s.svc := by cases p <;> rfl
@[simp] theorem Part.setPort_log (r : Port) : (s.setPort p r).log = s.log := by cases p <;> rfl
@[simp] theorem Part.setPort_diag (r : Port) : (s.setPort p r).diag = s.diag := by cases p <;> rfl
@[simp] theorem Part.setPort_supply (r : Port) : (s.setPort p r).supply = s.supply := by cases p <;> rfl
@[simp] theorem Part.setPort_access (r : Port) : (s.setPort p r).access = s.access := by cases p <;> rfl
@[simp] theorem Part.setPort_link (r : Port) : (s.setPort p r).link = s.link := by cases p <;> rfl
@[simp] theorem Part.port_setPort (r : Port) : (s.setPort p r).port p = r := by cases p <;> rfl
@[simp] theorem Part.port_setPort_other (r : Port) : (s.setPort p r).port (other p) = s.port (other p) := by cases p <;> rfl
@[simp] theorem Part.chan_setPort (r : Port) : (s.setPort p r).chan q = s.chan q := by cases p <;> cases q <;> rfl
@[simp] theorem Part.gen_setPort (r : Port) : (s.setPort p r).gen q = s.gen q := by cases p <;> cases q <;> rfl
@[simp] theorem Part.slot_setPort (r : Port) : (s.setPort p r).slot q = s.slot q := by cases p <;> cases q <;> rfl
@[simp] theorem Part.hold_setPort (r : Port) : (s.setPort p r).hold q = s.hold q := by cases p <;> cases q <;> rfl

/-! ### setChan -/

@[simp] theorem Part.setChan_running (c : Option Channel) : (s.setChan p c).running = s.running := by cases p <;> rfl
@[simp] theorem Part.setChan_time (c : Option Channel) : (s.setChan p c).time = s.time := by cases p <;> rfl
@[simp] theorem Part.setChan_line (c : Option Channel) : (s.setChan p c).line = s.line := by cases p <;> rfl
@[simp] theorem Part.setChan_snapshot (c : Option Channel) : (s.setChan p c).snapshot = s.snapshot := by cases p <;> rfl
@[simp] theorem Part.setChan_load (c : Option Channel) : (s.setChan p c).load = s.load := by cases p <;> rfl
@[simp] theorem Part.setChan_band (c : Option Channel) : (s.setChan p c).band = s.band := by cases p <;> rfl
@[simp] theorem Part.setChan_monitor (c : Option Channel) : (s.setChan p c).monitor = s.monitor := by cases p <;> rfl
@[simp] theorem Part.setChan_tracker (c : Option Channel) : (s.setChan p c).tracker = s.tracker := by cases p <;> rfl
@[simp] theorem Part.setChan_portA (c : Option Channel) : (s.setChan p c).portA = s.portA := by cases p <;> rfl
@[simp] theorem Part.setChan_portB (c : Option Channel) : (s.setChan p c).portB = s.portB := by cases p <;> rfl
@[simp] theorem Part.setChan_sched (c : Option Channel) : (s.setChan p c).sched = s.sched := by cases p <;> rfl
@[simp] theorem Part.setChan_svc (c : Option Channel) : (s.setChan p c).svc = s.svc := by cases p <;> rfl
@[simp] theorem Part.setChan_log (c : Option Channel) : (s.setChan p c).log = s.log := by cases p <;> rfl
@[simp] theorem Part.setChan_diag (c : Option Channel) : (s.setChan p c).diag = s.diag := by cases p <;> rfl
@[simp] theorem Part.setChan_supply (c : Option Channel) : (s.setChan p c).supply = s.supply := by cases p <;> rfl
@[simp] theorem Part.setChan_access (c : Option Channel) : (s.setChan p c).access = s.access := by cases p <;> rfl
@[simp] theorem Part.setChan_link (c : Option Channel) : (s.setChan p c).link = s.link := by cases p <;> rfl
@[simp] theorem Part.chan_setChan (c : Option Channel) : (s.setChan p c).chan p = c := by cases p <;> rfl
@[simp] theorem Part.chan_setChan_other (c : Option Channel) : (s.setChan p c).chan (other p) = s.chan (other p) := by cases p <;> rfl
@[simp] theorem Part.port_setChan (c : Option Channel) : (s.setChan p c).port q = s.port q := by cases p <;> cases q <;> rfl
@[simp] theorem Part.gen_setChan (c : Option Channel) : (s.setChan p c).gen q = s.gen q := by cases p <;> cases q <;> rfl
@[simp] theorem Part.slot_setChan (c : Option Channel) : (s.setChan p c).slot q = s.slot q := by cases p <;> cases q <;> rfl
@[simp] theorem Part.hold_setChan (c : Option Channel) : (s.setChan p c).hold q = s.hold q := by cases p <;> cases q <;> rfl

/-! ### setGen -/

@[simp] theorem Part.setGen_running (g : Generator) : (s.setGen p g).running = s.running := by cases p <;> rfl
@[simp] theorem Part.setGen_time (g : Generator) : (s.setGen p g).time = s.time := by cases p <;> rfl
@[simp] theorem Part.setGen_line (g : Generator) : (s.setGen p g).line = s.line := by cases p <;> rfl
@[simp] theorem Part.setGen_snapshot (g : Generator) : (s.setGen p g).snapshot = s.snapshot := by cases p <;> rfl
@[simp] theorem Part.setGen_load (g : Generator) : (s.setGen p g).load = s.load := by cases p <;> rfl
@[simp] theorem Part.setGen_band (g : Generator) : (s.setGen p g).band = s.band := by cases p <;> rfl
@[simp] theorem Part.setGen_monitor (g : Generator) : (s.setGen p g).monitor = s.monitor := by cases p <;> rfl
@[simp] theorem Part.setGen_tracker (g : Generator) : (s.setGen p g).tracker = s.tracker := by cases p <;> rfl
@[simp] theorem Part.setGen_portA (g : Generator) : (s.setGen p g).portA = s.portA := by cases p <;> rfl
@[simp] theorem Part.setGen_portB (g : Generator) : (s.setGen p g).portB = s.portB := by cases p <;> rfl
@[simp] theorem Part.setGen_sched (g : Generator) : (s.setGen p g).sched = s.sched := by cases p <;> rfl
@[simp] theorem Part.setGen_svc (g : Generator) : (s.setGen p g).svc = s.svc := by cases p <;> rfl
@[simp] theorem Part.setGen_log (g : Generator) : (s.setGen p g).log = s.log := by cases p <;> rfl
@[simp] theorem Part.setGen_diag (g : Generator) : (s.setGen p g).diag = s.diag := by cases p <;> rfl
@[simp] theorem Part.setGen_supply (g : Generator) : (s.setGen p g).supply = s.supply := by cases p <;> rfl
@[simp] theorem Part.setGen_access (g : Generator) : (s.setGen p g).access = s.access := by cases p <;> rfl
@[simp] theorem Part.setGen_link (g : Generator) : (s.setGen p g).link = s.link := by cases p <;> rfl
@[simp] theorem Part.gen_setGen (g : Generator) : (s.setGen p g).gen p = g := by cases p <;> rfl
@[simp] theorem Part.gen_setGen_other (g : Generator) : (s.setGen p g).gen (other p) = s.gen (other p) := by cases p <;> rfl
@[simp] theorem Part.port_setGen (g : Generator) : (s.setGen p g).port q = s.port q := by cases p <;> cases q <;> rfl
@[simp] theorem Part.chan_setGen (g : Generator) : (s.setGen p g).chan q = s.chan q := by cases p <;> cases q <;> rfl
@[simp] theorem Part.slot_setGen (g : Generator) : (s.setGen p g).slot q = s.slot q := by cases p <;> cases q <;> rfl
@[simp] theorem Part.hold_setGen (g : Generator) : (s.setGen p g).hold q = s.hold q := by cases p <;> cases q <;> rfl

/-! ### setSlot -/

@[simp] theorem Part.setSlot_running (x : Slot) : (s.setSlot p x).running = s.running := by cases p <;> rfl
@[simp] theorem Part.setSlot_time (x : Slot) : (s.setSlot p x).time = s.time := by cases p <;> rfl
@[simp] theorem Part.setSlot_line (x : Slot) : (s.setSlot p x).line = s.line := by cases p <;> rfl
@[simp] theorem Part.setSlot_snapshot (x : Slot) : (s.setSlot p x).snapshot = s.snapshot := by cases p <;> rfl
@[simp] theorem Part.setSlot_load (x : Slot) : (s.setSlot p x).load = s.load := by cases p <;> rfl
@[simp] theorem Part.setSlot_band (x : Slot) : (s.setSlot p x).band = s.band := by cases p <;> rfl
@[simp] theorem Part.setSlot_monitor (x : Slot) : (s.setSlot p x).monitor = s.monitor := by cases p <;> rfl
@[simp] theorem Part.setSlot_tracker (x : Slot) : (s.setSlot p x).tracker = s.tracker := by cases p <;> rfl
@[simp] theorem Part.setSlot_portA (x : Slot) : (s.setSlot p x).portA = s.portA := by cases p <;> rfl
@[simp] theorem Part.setSlot_portB (x : Slot) : (s.setSlot p x).portB = s.portB := by cases p <;> rfl
@[simp] theorem Part.setSlot_voice (x : Slot) : (s.setSlot p x).voice = s.voice := by cases p <;> rfl
@[simp] theorem Part.setSlot_svc (x : Slot) : (s.setSlot p x).svc = s.svc := by cases p <;> rfl
@[simp] theorem Part.setSlot_log (x : Slot) : (s.setSlot p x).log = s.log := by cases p <;> rfl
@[simp] theorem Part.setSlot_diag (x : Slot) : (s.setSlot p x).diag = s.diag := by cases p <;> rfl
@[simp] theorem Part.setSlot_supply (x : Slot) : (s.setSlot p x).supply = s.supply := by cases p <;> rfl
@[simp] theorem Part.setSlot_access (x : Slot) : (s.setSlot p x).access = s.access := by cases p <;> rfl
@[simp] theorem Part.setSlot_link (x : Slot) : (s.setSlot p x).link = s.link := by cases p <;> rfl
@[simp] theorem Part.slot_setSlot (x : Slot) : (s.setSlot p x).slot p = x := by cases p <;> rfl
@[simp] theorem Part.slot_setSlot_other (x : Slot) : (s.setSlot p x).slot (other p) = s.slot (other p) := by cases p <;> rfl
@[simp] theorem Part.port_setSlot (x : Slot) : (s.setSlot p x).port q = s.port q := by cases p <;> cases q <;> rfl
@[simp] theorem Part.chan_setSlot (x : Slot) : (s.setSlot p x).chan q = s.chan q := by cases p <;> cases q <;> rfl
@[simp] theorem Part.gen_setSlot (x : Slot) : (s.setSlot p x).gen q = s.gen q := by cases p <;> cases q <;> rfl
@[simp] theorem Part.hold_setSlot (x : Slot) : (s.setSlot p x).hold q = s.hold q := by cases p <;> cases q <;> rfl

/-! ### setHold -/

@[simp] theorem Part.setHold_running (t : Option Nat) : (s.setHold p t).running = s.running := by cases p <;> rfl
@[simp] theorem Part.setHold_time (t : Option Nat) : (s.setHold p t).time = s.time := by cases p <;> rfl
@[simp] theorem Part.setHold_line (t : Option Nat) : (s.setHold p t).line = s.line := by cases p <;> rfl
@[simp] theorem Part.setHold_snapshot (t : Option Nat) : (s.setHold p t).snapshot = s.snapshot := by cases p <;> rfl
@[simp] theorem Part.setHold_load (t : Option Nat) : (s.setHold p t).load = s.load := by cases p <;> rfl
@[simp] theorem Part.setHold_band (t : Option Nat) : (s.setHold p t).band = s.band := by cases p <;> rfl
@[simp] theorem Part.setHold_monitor (t : Option Nat) : (s.setHold p t).monitor = s.monitor := by cases p <;> rfl
@[simp] theorem Part.setHold_tracker (t : Option Nat) : (s.setHold p t).tracker = s.tracker := by cases p <;> rfl
@[simp] theorem Part.setHold_portA (t : Option Nat) : (s.setHold p t).portA = s.portA := by cases p <;> rfl
@[simp] theorem Part.setHold_portB (t : Option Nat) : (s.setHold p t).portB = s.portB := by cases p <;> rfl
@[simp] theorem Part.setHold_voice (t : Option Nat) : (s.setHold p t).voice = s.voice := by cases p <;> rfl
@[simp] theorem Part.setHold_svc (t : Option Nat) : (s.setHold p t).svc = s.svc := by cases p <;> rfl
@[simp] theorem Part.setHold_log (t : Option Nat) : (s.setHold p t).log = s.log := by cases p <;> rfl
@[simp] theorem Part.setHold_diag (t : Option Nat) : (s.setHold p t).diag = s.diag := by cases p <;> rfl
@[simp] theorem Part.setHold_supply (t : Option Nat) : (s.setHold p t).supply = s.supply := by cases p <;> rfl
@[simp] theorem Part.setHold_access (t : Option Nat) : (s.setHold p t).access = s.access := by cases p <;> rfl
@[simp] theorem Part.setHold_link (t : Option Nat) : (s.setHold p t).link = s.link := by cases p <;> rfl
@[simp] theorem Part.hold_setHold (t : Option Nat) : (s.setHold p t).hold p = t := by cases p <;> rfl
@[simp] theorem Part.hold_setHold_other (t : Option Nat) : (s.setHold p t).hold (other p) = s.hold (other p) := by cases p <;> rfl
@[simp] theorem Part.port_setHold (t : Option Nat) : (s.setHold p t).port q = s.port q := by cases p <;> cases q <;> rfl
@[simp] theorem Part.chan_setHold (t : Option Nat) : (s.setHold p t).chan q = s.chan q := by cases p <;> cases q <;> rfl
@[simp] theorem Part.gen_setHold (t : Option Nat) : (s.setHold p t).gen q = s.gen q := by cases p <;> cases q <;> rfl
@[simp] theorem Part.slot_setHold (t : Option Nat) : (s.setHold p t).slot q = s.slot q := by cases p <;> cases q <;> rfl

/-! ### modPort, post -/

@[simp] theorem Part.modPort_running (f : Port → Port) : (s.modPort p f).running = s.running := by cases p <;> rfl
@[simp] theorem Part.modPort_time (f : Port → Port) : (s.modPort p f).time = s.time := by cases p <;> rfl
@[simp] theorem Part.modPort_line (f : Port → Port) : (s.modPort p f).line = s.line := by cases p <;> rfl
@[simp] theorem Part.modPort_snapshot (f : Port → Port) : (s.modPort p f).snapshot = s.snapshot := by cases p <;> rfl
@[simp] theorem Part.modPort_load (f : Port → Port) : (s.modPort p f).load = s.load := by cases p <;> rfl
@[simp] theorem Part.modPort_band (f : Port → Port) : (s.modPort p f).band = s.band := by cases p <;> rfl
@[simp] theorem Part.modPort_monitor (f : Port → Port) : (s.modPort p f).monitor = s.monitor := by cases p <;> rfl
@[simp] theorem Part.modPort_tracker (f : Port → Port) : (s.modPort p f).tracker = s.tracker := by cases p <;> rfl
@[simp] theorem Part.modPort_voice (f : Port → Port) : (s.modPort p f).voice = s.voice := by cases p <;> rfl
@[simp] theorem Part.modPort_sched (f : Port → Port) : (s.modPort p f).sched = s.sched := by cases p <;> rfl
@[simp] theorem Part.modPort_svc (f : Port → Port) : (s.modPort p f).svc = s.svc := by cases p <;> rfl
@[simp] theorem Part.modPort_log (f : Port → Port) : (s.modPort p f).log = s.log := by cases p <;> rfl
@[simp] theorem Part.modPort_diag (f : Port → Port) : (s.modPort p f).diag = s.diag := by cases p <;> rfl
@[simp] theorem Part.modPort_supply (f : Port → Port) : (s.modPort p f).supply = s.supply := by cases p <;> rfl
@[simp] theorem Part.modPort_access (f : Port → Port) : (s.modPort p f).access = s.access := by cases p <;> rfl
@[simp] theorem Part.modPort_link (f : Port → Port) : (s.modPort p f).link = s.link := by cases p <;> rfl
@[simp] theorem Part.port_modPort (f : Port → Port) : (s.modPort p f).port p = f (s.port p) := by cases p <;> rfl
@[simp] theorem Part.port_modPort_other (f : Port → Port) :
    (s.modPort p f).port (other p) = s.port (other p) := by cases p <;> rfl
@[simp] theorem Part.post_running (n : Notice) : (s.post n).running = s.running := rfl
@[simp] theorem Part.post_time (n : Notice) : (s.post n).time = s.time := rfl
@[simp] theorem Part.post_line (n : Notice) : (s.post n).line = s.line := rfl
@[simp] theorem Part.post_snapshot (n : Notice) : (s.post n).snapshot = s.snapshot := rfl
@[simp] theorem Part.post_load (n : Notice) : (s.post n).load = s.load := rfl
@[simp] theorem Part.post_band (n : Notice) : (s.post n).band = s.band := rfl
@[simp] theorem Part.post_monitor (n : Notice) : (s.post n).monitor = s.monitor := rfl
@[simp] theorem Part.post_tracker (n : Notice) : (s.post n).tracker = s.tracker := rfl
@[simp] theorem Part.post_portA (n : Notice) : (s.post n).portA = s.portA := rfl
@[simp] theorem Part.post_portB (n : Notice) : (s.post n).portB = s.portB := rfl
@[simp] theorem Part.post_voice (n : Notice) : (s.post n).voice = s.voice := rfl
@[simp] theorem Part.post_sched (n : Notice) : (s.post n).sched = s.sched := rfl
@[simp] theorem Part.post_svc (n : Notice) : (s.post n).svc = s.svc := rfl
@[simp] theorem Part.post_log (n : Notice) : (s.post n).log = s.log := rfl
@[simp] theorem Part.post_diag (n : Notice) : (s.post n).diag = s.diag := rfl
@[simp] theorem Part.post_supply (n : Notice) : (s.post n).supply = s.supply := rfl
@[simp] theorem Part.post_access (n : Notice) : (s.post n).access = s.access := rfl
@[simp] theorem other_other : other (other p) = p := by cases p <;> rfl

/-! ### The outbound queue: what offering a message leaves alone -/

@[simp] theorem Service.displaced_outQ (v : Service) (m : Msg) : (v.displaced m).outQ = v.outQ := by cases m <;> rfl
@[simp] theorem Service.displaced_rx (v : Service) (m : Msg) : (v.displaced m).rx = v.rx := by cases m <;> rfl
@[simp] theorem Service.displaced_rxDone (v : Service) (m : Msg) : (v.displaced m).rxDone = v.rxDone := by cases m <;> rfl
@[simp] theorem Service.displaced_rxErrors (v : Service) (m : Msg) : (v.displaced m).rxErrors = v.rxErrors := by
  cases m <;> rfl
@[simp] theorem Service.displaced_discards (v : Service) (m : Msg) :
    (v.displaced m).discards = satAdd 65535 v.discards 1 := by cases m <;> rfl

/-- Offering a message (R21) changes the service channel and the log alone. -/
theorem Part.enqueue_frame (m : Msg) (s : Part) :
    s.enqueue m = { s with svc := (s.enqueue m).svc, log := (s.enqueue m).log } := by
  unfold Part.enqueue
  split
  · rfl
  · generalize newestOther s.svc.outQ = o
    cases m <;> first | rfl | (cases o <;> rfl)

/-- A queue with room takes the message, at its place, and the log is as it was (R21). -/
theorem Part.enqueue_room (m : Msg) (s : Part) (h : s.svc.outQ.length < 16) :
    s.enqueue m = { s with svc := { s.svc with outQ := insertMsg m s.svc.outQ } } := by
  unfold Part.enqueue
  rw [if_pos h]

end Sys2Proof.Machine
end

