-- ==== Sys2Proof/Laws/Taking.lean ====
section
/-! SUPPORT. What the making of a record and the noticing of a host's frame leave alone, and how a catalogue command that
is taken and permitted completes, whichever its source. -/

namespace Sys2Proof.Machine

theorem Part.enqueue_access_link (m : Msg) (s : Part) :
    (s.enqueue m).access = s.access ∧ (s.enqueue m).link = s.link := by
  unfold Part.enqueue
  split
  · simp
  · split <;> try split
    all_goals simp

theorem Part.tryOffer_access_link (s : Part) : s.tryOffer.access = s.access ∧ s.tryOffer.link = s.link := by
  unfold Part.tryOffer
  split
  · split
    · simp
    · exact Part.enqueue_access_link _ _
  · simp

theorem Part.storeRecord_access_replies (s : Part) (r : FaultRecord) :
    (s.storeRecord r).access = s.access ∧ (s.storeRecord r).link.replies = s.link.replies := by
  refine ⟨rfl, ?_⟩
  unfold Part.storeRecord Part.post Link.post
  dsimp only
  split <;> rfl

theorem Part.makeRecordAt_access_replies (s : Part) (k : FaultKind) (src : FaultSource) (ls : LineState) (ds : List Int) :
    (s.makeRecordAt k src ls ds).access = s.access ∧ (s.makeRecordAt k src ls ds).link.replies = s.link.replies := by
  unfold Part.makeRecordAt
  dsimp only
  split
  · rw [(Part.tryOffer_access_link _).1, (Part.tryOffer_access_link _).2]
    exact Part.storeRecord_access_replies _ _
  · exact Part.storeRecord_access_replies _ _

/-- Noticing a frame of the host keeps the access table and the replies (R191, R192). -/
theorem Part.frameSeen_access_replies (s : Part) :
    s.frameSeen.access = s.access ∧ s.frameSeen.link.replies = s.link.replies := by
  unfold Part.frameSeen
  dsimp only
  split
  · exact Part.makeRecordAt_access_replies _ _ _ _ _
  · exact ⟨rfl, rfl⟩

/-- A permission that is held refuses nothing (R195). -/
theorem State.permits.refuses {s : State} {e : Envelope} {c : ObjClass} {w : Bool} (h : s.permits e c w) :
    s.part.access.perms.refuses e.src (.permission c w) = none := by
  unfold State.permits at h
  simp [Perms.refuses, h]

/-- A catalogue command that is taken and not refused: its owner acts on the part that has heard it, and its answer goes
to its source (R195, R199, R202). -/
theorem State.takes.completes {s : State} {e : Envelope} (h : s.takes e) (k : Handling)
    (hj : s.part.access.perms.refuses e.src k.judge = none) :
    (s.act fun q => q.take e k) =
      .next { s with
        part := (k.own (s.part.heardFrom e)).1.answeredTo e k.kind (k.own (s.part.heardFrom e)).2.1
          (k.own (s.part.heardFrom e)).2.2 } := by
  obtain ⟨h1, h2, h3, h4, h5⟩ := h
  obtain ⟨src, tag, form⟩ := e
  have e1 := s.part.frameSeen_access_replies
  cases src with
  | loc =>
    have h6 : s.part.link.replies.length < 8 := h4 rfl
    simp only at h2 h3 hj
    simp only [State.act, h1, if_true, Part.take, Part.takeFrame, h2, if_false, e1.2, Nat.not_le.2 h6, h3, reduceCtorEq,
      Part.answer, e1.1, hj, Part.heardFrom, Part.answeredTo]
  | operator =>
    have h6 : s.part.line.state.messagesTravel = true := h5 rfl
    simp only at h2 h3 hj
    simp only [State.act, h1, if_true, Part.take, Part.takeOperator, h2, if_false, h6, h3, Part.answer, hj,
      Part.heardFrom, Part.answeredTo]

end Sys2Proof.Machine
end

