-- ==== Sys2Proof/Laws/Tones.lean ====
section
/-! SUPPORT. Lists of one entry per tone: reading an entry of `perTone`, and the computations over a map or a table that is
given by a function of the tone, with the reading done. -/

namespace Sys2Proof.Machine

theorem mem_tones {t : Nat} : t ∈ tones ↔ t < 448 := List.mem_range

@[simp] theorem perTone_length {α : Type} (f : Nat → α) : (perTone f).length = 448 := by simp [perTone, tones]

/-- Reading the entry of a tone. -/
theorem perTone_getD {α : Type} (f : Nat → α) (d : α) {t : Nat} (h : t < 448) : (perTone f).getD t d = f t := by
  simp [perTone, tones, List.getD, h]

theorem perTone_congr {α : Type} {f g : Nat → α} (h : ∀ t, t < 448 → f t = g t) : perTone f = perTone g :=
  List.map_congr_left fun t ht => h t (mem_tones.1 ht)

theorem isDown_perTone (r : Nat → Role) {t : Nat} (h : t < 448) : isDown (perTone r) t = (r t == .downCarry) := by
  rw [isDown, perTone_getD r _ h]

theorem isUp_perTone (r : Nat → Role) {t : Nat} (h : t < 448) : isUp (perTone r) t = (r t == .upCarry) := by
  rw [isUp, perTone_getD r _ h]

/-- The downstream computation over a map given by a function of the tone (R50 to R54). -/
theorem computeDown_perTone (r : Nat → Role) (p : Profile) (averages : List (Option Int)) (inForce : List LoadEntry) :
    computeDown (perTone r) p averages inForce =
      let works := perTone fun t =>
        if r t == .downCarry then
          match averages.getD t none with
          | some a => settleTone p (inputOf a (inForce.getD t entryOff).g)
          | none => .off
        else .off
      ((withdrawBoosts (sumInt (works.map (·.entry.g))) works.reverse).reverse).map (·.entry) := by
  refine congrArg (fun works : List Work =>
    ((withdrawBoosts (sumInt (works.map (·.entry.g))) works.reverse).reverse).map (·.entry)) (perTone_congr fun t h => ?_)
  exact congrArg (fun b : Bool =>
    if b then
      match averages.getD t none with
      | some a => settleTone p (inputOf a (inForce.getD t entryOff).g)
      | none => Work.off
    else Work.off) (isDown_perTone r h)

theorem find?_tones_congr {f g : Nat → Bool} (h : ∀ t, t < 448 → f t = g t) : tones.find? f = tones.find? g := by
  have : ∀ l : List Nat, (∀ t ∈ l, t < 448) → l.find? f = l.find? g := by
    intro l
    induction l with
    | nil => intro _; rfl
    | cons x xs ih =>
      intro hl
      simp [List.find?, h x (hl x (by simp)), ih fun t ht => hl t (by simp [ht])]
  exact this _ fun t ht => mem_tones.1 ht

/-- The lowest failing tone of a table given by a function of the tone. -/
theorem firstFailing_perTone (f : Nat → LoadEntry) (ok : Nat → LoadEntry → Bool) :
    firstFailing (perTone f) ok = tones.find? fun t => !ok t (f t) :=
  find?_tones_congr fun t h => by rw [perTone_getD f _ h]

end Sys2Proof.Machine
end

