-- ==== Sys2Proof/Tests/Slice0.lean ====
section
/-! SUPPORT. Tests: the checks of WellFormed on an ill-formed term each, the manual's worked examples, and one state for
the hypotheses of each obligation. Expected figures are the manual's, from the section named. -/

namespace Sys2Proof.Tests

open Sys2Proof.Machine

/-! ### WellFormed refuses -/

theorem test_wf_tag_zero : (Instr.lineStart ⟨.loc, 0, .fits⟩).wellFormed = false := by decide
theorem test_wf_battery : (Instr.powerOn false 2001).wellFormed = false := by decide
theorem test_wf_level : (Instr.batteryThresholdCrossing 2001).wellFormed = false := by decide
theorem test_wf_known_kind : (Instr.unknownKindCommand ⟨.loc, 1, .fits⟩ 33).wellFormed = false := by decide
theorem test_wf_operator_kind : (Instr.operatorCommand 1 .fits (.unknown 1)).wellFormed = false := by decide
theorem test_wf_segment : (Instr.upTable 0 2 []).wellFormed = false := by decide
theorem test_wf_segment_length : (Instr.upTable 0 1 [0]).wellFormed = false := by decide
theorem test_wf_reject_tone : (Instr.tableReject 0 .role 448).wellFormed = false := by decide
theorem test_wf_symbol : (Instr.downstreamSymbol ⟨true, 0, [], []⟩).wellFormed = false := by decide
theorem test_wf_move_empty : (Instr.move ⟨1, .up, 100, []⟩).wellFormed = false := by decide
theorem test_wf_move_down : (Instr.move ⟨1, .down, 100, [⟨6, 2, 0⟩]⟩).wellFormed = false := by decide
theorem test_wf_reasons : (Instr.reshapeOffer [.notch, .notch]).wellFormed = false := by decide
theorem test_wf_break : (Instr.breakEnd .a 300).wellFormed = false := by decide
theorem test_wf_loop : (Instr.loopTestDone []).wellFormed = false := by decide
theorem test_wf_scan : (Instr.noisePhaseEnd []).wellFormed = false := by decide
theorem test_wf_slow : (Instr.slowFramingSymbol 0 []).wellFormed = false := by decide
theorem test_wf_sample : (Instr.sampleTime 4080 0).wellFormed = false := by decide
theorem test_wf_accepts : (Instr.lineStart ⟨.loc, 1, .fits⟩).wellFormed = true := by decide

/-! ### The catalogue's table -/

theorem test_no_word_spells_a_command : decodeTableWord 8 1 = none := by decide

/-- R202, R210: LINE_STOP whole; a frame with tag 0; a GRANT with a body of 1021 bytes, unread. -/
theorem test_frames_read :
    readFrame false [2, 7, 0, 0] = some (.lineStop ⟨.loc, 7, .fits⟩) ∧
      readFrame false [25, 0, 0, 1, 0] = some (.frameNotTaken .tagZero) ∧
      readFrame false (25 :: 7 :: 0x03 :: 0xFD :: List.replicate 1021 0) = some (.grant ⟨.loc, 7, .overlong⟩ none) := by
  decide +kernel

/-- R202: the bytes shifted out in a write of five bytes at a full reply queue. -/
theorem test_bytes_of_a_write : writeBytes 0x02 5 = [0x02, 0x00, 0x00, 0x00, 0x00] := by decide

/-! ### Worked examples -/

/-- 1.9, step 3: W6 conflicts with W1 on 32 to 39. -/
theorem test_conflict_details :
    conflictDetails ((resetPlan.set 6 ⟨true, 32, 8, .up, .carry⟩)) = [32, 8, 1, 6] := by decide +kernel

/-- 1.9: steps 2 and 3 of the worked resolution, at their deciding tones. -/
theorem test_resolution :
    [5, 31, 35, 200, 447].map (resolve false ((resetPlan.set 5 ⟨true, 192, 16, .down, .quiet⟩).set 6
      ⟨true, 32, 8, .up, .carry⟩)) = [.quiet .fixed, .upCarry, .downCarry, .quiet .notch, .downCarry] := by decide

/-- 3.6: the seven tones of the worked computation. -/
theorem test_settle_tones :
    ([190, 175, 133, 82, 240, 92, 107] : List Int).map (fun S => (settleTone .default S).entry) =
      [⟨10, -8⟩, ⟨9, -5⟩, ⟨6, 1⟩, ⟨0, 0⟩, ⟨12, -8⟩, ⟨2, -6⟩, ⟨4, 3⟩] := by decide

/-- 3.7: the worked withdrawal, highest tone first. -/
theorem test_withdrawal :
    (withdrawBoosts 7 (([88, 83, 119, 107] : List Int).map (settleTone .default))).map (·.entry) =
      [⟨2, -2⟩, ⟨0, 0⟩, ⟨4, -8⟩, ⟨4, 3⟩] := by decide

/-- 4.7: the lock of the worked fence. -/
theorem test_fence_lock : lockTest [2000, 6010, 10005, 14012, 18003] = some ⟨4001, 80⟩ := by decide

/-- 9.6: the lock of the worked scan. -/
theorem test_scan_lock : lockTest [300, 2700, 5098, 7501, 9902] = some ⟨2401, 48⟩ := by decide

/-- 4.7: the second hit of the worked fence. -/
theorem test_fence_hit :
    ((Tracker.initial.hit 0).window, ({ Tracker.initial with period := some 4001, next := some 30008 }.hit 30013).period,
      ({ Tracker.initial with period := some 4001, next := some 30008 }.hit 30013).next) =
      (none, some 4002, some 34015) := by decide

/-- 6.3: the worked companding, expanded both ways. -/
theorem test_companding :
    ([0, 15, 16, 47, -1000, 3000, 4079, -5000] : List Int).map (fun x => ((compress x).expand, (compress x).expandHalf)) =
      [(0, 8), (15, 8), (17, 33), (47, 33), (-992, -768), (2992, 3120), (4016, 3120), (-4016, -3120)] := by decide

/-- 6.5: the second erased symbol of the worked concealment. -/
theorem test_concealment :
    (Channel.conceal (Channel.conceal ⟨.full, true, (1232, 1168), 0⟩)).last = (308, 292) := by decide

/-- 9.4 R170: the table of loop lengths. -/
theorem test_loop_lengths :
    [loopLength 60 300 60, loopLength 80 400 60, loopLength 80 400 20, loopLength 120 110 60] =
      [4000, 5333, 12000, 0] := by decide

/-- R31: the holdoffs of counts 1 to 8. -/
theorem test_holdoffs : [1, 2, 3, 4, 5, 6, 7, 8].map holdoffSeconds = [1, 2, 4, 8, 16, 32, 64, 64] := by decide

/-- R189: the two examples of the rule. -/
theorem test_limits :
    (newCutoff (newLow 1120 (some 1090)) 1050 (some 1080), newLow 1120 (some 1200),
      newCutoff (newLow 1120 (some 1200)) 1050 (some 1150)) = (1060, 1180, 1100) := by decide

/-- 5.3: the breaks of the worked pulse train. -/
theorem test_breaks :
    [breakKind 62 false, breakKind 9 true, breakKind 140 false, breakKind 120 true, breakKind 12 false, breakKind 299 true] =
      [.pulse, .ignored, .flash, .malformed, .malformed, .malformed] := by decide

/-! ### The code points of R210 -/

theorem test_entry_byte : entryToByte ⟨10, -8⟩ = 0xA8 := by decide
theorem test_entry_of_byte : entryOfByte 0xA8 = ⟨10, -8⟩ := by decide
theorem test_kinds : [kindOf .lineStart, kindOf .getFlags, kindOf (.reset (some .full))] = [1, 29, 33] := by decide

/-! ### A state and operands for the hypotheses of each statement that has any, at the ends of their ranges -/

/-- A state: the part after reset, changed. -/
def from_ (f : Part → Part) : State := ⟨[], f State.reset.part⟩

/-- The host's command, and the operator's. -/
def host : Envelope := ⟨.loc, 1, .fits⟩
def oper : Envelope := ⟨.operator, 255, .fits⟩

/-- The line record, a port's record, the supply and the link changed. -/
def onLine (f : Line → Line) (p : Part) : Part := { p with line := f p.line }
def onSupply (f : Supply → Supply) (p : Part) : Part := { p with supply := f p.supply }
def onSched (f : Sched → Sched) (p : Part) : Part := { p with sched := f p.sched }
def onLog (f : Log → Log) (p : Part) : Part := { p with log := f p.log }
def onLink (f : Link → Link) (p : Part) : Part := { p with link := f p.link }

/-- The line in a state. -/
def lineAt (l : LineState) : Part → Part := onLine fun x => { x with state := l }

/-- The part as it stands in CARRYING, with the relay at PART, port A in `a` and port B in `b`, both enabled. -/
def carrying (a b : PortState) (p : Part) : Part :=
  let t : List LoadEntry := List.replicate 448 ⟨4, 0⟩
  { p with
    line := { p.line with state := .carrying, request := .part, downInForce := some t, upInForce := some t }
    supply := { p.supply with relay := true }
    portA := { Port.initial a with enable := true }
    portB := { Port.initial b with enable := true } }

/-- Tables of `n` bytes each way. -/
def capacity (n : Nat) : Part → Part := onLine fun l =>
  { l with downInForce := some (List.replicate n ⟨8, 0⟩), upInForce := some (List.replicate n ⟨8, 0⟩) }

/-- A test that runs. -/
def aTest (t : TestKind) (p : Option PortId) (ext : Bool) (n : Nat) : RunningTest :=
  ⟨t, p, .loc, 0, 5, ext, [], 0, [], none, n, none⟩

/-- R171: an off-hook declared on port A aborts a LOOP_TEST, also the one that answers a local ring. -/
theorem test_ring_trip_aborts_loop_test :
    (let p := (from_ fun p =>
        { p with
          portA := { p.portA with state := .ringing, ring := some ⟨2, 1, 250, .loc, none, some 60000⟩ }
          supply := { p.supply with relay := true }
          diag := { p.diag with running := some (aTest .loopTest none false 0) } }).part
      let q := ((p.ringTrip .a).offHookAborts .a).settle
      (q.diag.running, q.diag.loop.map (·.outcome), q.portA.state, q.portA.hook)) =
      (none, some (.aborted .offHook), .through, .offHook) := by decide +kernel

/-- R128: the ringback of a caller begins its cadence with the local ring. -/
theorem test_ringback_begins_with_ring :
    (let p := (from_ fun p =>
        ({ p with
          portA := { p.portA with state := .dialling, hook := .offHook, lastTone := some (.ringback, false) }
          portB := { p.portB with state := .idle } } : Part).setGen .a ⟨.ringback, 4000, 500⟩).part
      let q := (p.startRing .b 2 .loc (some .a)).refreshHeard
      q.gen .a) = ⟨.ringback, 0, 500⟩ := by decide +kernel

/-- A fault record. -/
def aRecord (d : Delivery) (n : Nat) : FaultRecord := ⟨1, 0, .lineDrop, .major, .line, .carrying, [], d, n⟩

theorem witness_idle : State.reset.part.running = true := by decide

/-- Full queues; port A with a live channel in service, and a beginning that waits for port B's. -/
theorem witness_step_keeps :
    let full : Part := ((carrying .connected .connected (from_ (onLink fun l =>
      { l with replies := List.replicate 8 ⟨1, 1, .ok, .none⟩, notices := List.replicate 16 (.bandMap 1) })).part).setChan .a
      (some ⟨.full, true, (0, 0), 0⟩)).setChan .b (some ⟨.half, true, (0, 0), 0⟩)
    let s : State := ⟨[.timeCounterSecond], { onSched (fun x => { x with switches := [⟨.b, 100, .begin⟩] })
      (full.setSlot .a .live) with band := { full.band with mapInForce := some [] } }⟩
    s.part.bounded ∧ s.part.access.perms.fixedEntries ∧ s.part.coherent ∧ s.part.running = true ∧
      ∃ t, step s = .next t := by
  refine ⟨by unfold Part.bounded; decide, ⟨true, true, true, rfl⟩, fun _ => ⟨?_, ?_, by decide, by decide⟩, rfl, _, rfl⟩
  · unfold Part.lineCoherent; decide
  · intro x
    cases x <;> refine ⟨by decide, by decide, by decide, ?_⟩ <;> intro w hw <;> cases hw with
      | head => decide
      | tail _ h => cases h

theorem witness_power_on_battery : 1120 ≤ 1120 ∧ (1050 ≤ 1119 ∧ 1119 < 1120) ∧ 1049 < 1050 := by decide

theorem witness_stopped :
    (from_ fun p => { p with running := false }).part.running = false ∧
      ∀ m b, Instr.timeCounterSecond ≠ .powerOn m b := by
  refine ⟨by decide, by intro m b h; cases h⟩

theorem witness_frame_not_taken : State.reset.part.running = true ∧ State.reset.part.link.hostSilent = false := by decide

theorem witness_silence :
    (let s := from_ (onLink fun l => { l with hostSilent := true, notices := List.replicate 15 (.bandMap 1) })
     s.part.running = true ∧ s.part.link.hostSilent = true ∧ s.part.link.notices.length < 16 ∧
       s.part.link.silenceTimer.isSome = true) ∧
    State.reset.part.link.hostSilent = false := by decide

theorem witness_read_transaction :
    (from_ (onLink fun l => { l with replies := [⟨1, 1, .ok, .none⟩] })).part.link.replies = [⟨1, 1, .ok, .none⟩] ∧
    (let s := from_ (onLink fun l => { l with notices := [.bandMap 1] })
     s.part.link.replies = [] ∧ s.part.link.notices = [.bandMap 1]) ∧
    State.reset.part.link.notices = [] := by decide

theorem witness_host_takes : State.reset.takes host := by unfold State.takes; decide

theorem witness_operator_takes : (from_ (carrying .idle .idle)).takes oper := by unfold State.takes; decide

theorem witness_last_room :
    (from_ (onLink fun l => { l with replies := List.replicate 7 ⟨1, 1, .ok, .none⟩ })).takes host := by
  unfold State.takes; decide

theorem witness_ill_fitting :
    let s := from_ (carrying .idle .idle)
    s.part.line.state.messagesTravel = true ∧ (255 : Byte) ≠ 0 ∧ (∀ k, Command.lineStop ≠ .unknown k) ∧
      s.part.access.perms.refuses .operator (handlingOf .operator .lineStop).judge = none ∧
      s.part.access.perms.refuses .loc (handlingOf .loc .lineStop).judge = none ∧ s.part.link.replies.length < 8 ∧
      rowOf ⟨.loc, 255, .illFitting⟩ .lineStop = some (.lineStop ⟨.loc, 255, .illFitting⟩) ∧
      rowOf ⟨.loc, 255, .overlong⟩ (.unknown 255) = some (.unknownKindCommand ⟨.loc, 255, .overlong⟩ 255) := by
  refine ⟨by decide, by decide, nofun, by decide, by decide, by decide, rfl, rfl⟩

theorem witness_refused :
    let p := State.reset.part
    let q : Part := { p with access := p.access.setViol .operator ⟨true, 65535, none⟩ }
    p.access.perms.refuses .operator (.permission .portConfig true) = some .portConfig ∧
      (p.access.viol .operator).flag = false ∧ p.link.notices.length < 16 ∧
      q.access.perms.refuses .operator (.never .stats) = some .stats ∧ (q.access.viol .operator).flag = true := by
  decide

/-- CLEAR_LOG is the operator's alone, PORT_ENABLE the host's; the operator's body may be of any length. -/
theorem witness_refused_row :
    let e : Envelope := ⟨.loc, 255, .illFitting⟩
    let o : Envelope := ⟨.operator, 255, .overlong⟩
    let s := from_ (carrying .idle .idle)
    (rowOf e .clearLog = some (.clearLog e) ∧ s.takes { e with form := .fits } ∧ e.form ≠ .overlong ∧
      s.part.access.perms.refuses e.src (handlingOf e.src .clearLog).judge = some .faultLog) ∧
    (rowOf o (.portEnable .a) = some (.portEnable o .a) ∧ s.takes { o with form := .fits } ∧
      s.part.access.perms.refuses o.src (handlingOf o.src (.portEnable .a)).judge = some .portConfig) := by
  refine ⟨⟨rfl, by unfold State.takes; decide, by decide, by decide⟩, rfl, by unfold State.takes; decide, by decide⟩

theorem witness_operator_parts :
    let p := (from_ (carrying .idle .idle)).part
    let q : Part := { p with svc := { p.svc with outQ := List.replicate 15 .confirm } }
    p.line.state.messagesTravel = true ∧ q.line.state.messagesTravel = true ∧ q.svc.outQ.length < 16 ∧
      State.reset.part.line.state.messagesTravel = false := by decide

theorem witness_permits :
    State.reset.permits host .lineProfile true ∧ State.reset.permits host .lineProfile false ∧
      State.reset.permits host .linkControl true ∧ State.reset.permits host .portConfig true ∧
      State.reset.permits host .portConfig false ∧ State.reset.permits host .diag true ∧
      State.reset.permits host .diag false ∧ State.reset.permits host .stats false ∧
      State.reset.permits host .supplyConfig true ∧ State.reset.permits host .supplyConfig false ∧
      (∀ t, State.reset.permits host (tableClass t) false) ∧ (from_ (carrying .idle .idle)).permits oper .faultLog true := by
  unfold State.permits
  refine ⟨by decide, by decide, by decide, by decide, by decide, by decide, by decide, by decide, by decide, by decide, ?_,
    by decide⟩
  intro t; cases t <;> decide

/-- A STATS notice. -/
def aStats : Notice := .stats State.reset.part.stats

theorem witness_stats_period :
    let at_ (ns : List Notice) : Part := (from_ (onLink fun l => { l with statsTimer := some 1, notices := ns })).part
    (at_ []).link.statsTimer.isSome = true ∧ (at_ (List.replicate 15 (.bandMap 1))).link.notices.length < 16 ∧
      (16 ≤ (List.replicate 16 (Notice.bandMap 1)).length ∧ ∀ y : Stats, .stats y ∉ List.replicate 16 (Notice.bandMap 1)) ∧
      (at_ ([] ++ aStats :: List.replicate 15 aStats)).link.notices = [] ++ aStats :: List.replicate 15 aStats := by
  refine ⟨by decide, by decide, ⟨by decide, fun y h => ?_⟩, rfl⟩
  cases List.eq_of_mem_replicate h

theorem witness_grants :
    (from_ (carrying .idle .idle)).takes ⟨.operator, 1, .fits⟩ ∧ (ObjClass.diag = .lineProfile ∨ ObjClass.diag = .diag) ∧
      (none : Option ObjClass) ≠ some .lineProfile ∧ some ObjClass.linkControl ≠ some .diag ∧
      State.reset.takes ⟨.loc, 1, .fits⟩ := by
  unfold State.takes; decide

theorem witness_profile_refused :
    let s := from_ fun p => { p with access := { p.access with
      perms := { p.access.perms with lineProfile := ⟨false, true, true, true⟩ } } }
    s.takes host ∧ ¬ s.permits host .lineProfile false := by
  unfold State.takes State.permits; decide

theorem witness_read_table :
    (0 = 0 ∨ 64 < 0) ∧ (65 = 0 ∨ 64 < 65) ∧ (1 ≤ 64 ∧ 64 ≤ 64 ∧ 448 ≤ 448) ∧ (1 ≤ 1 ∧ 1 ≤ 64 ∧ 447 < 448) ∧
    State.reset.part.load.averages.getD 447 none = none ∧
    (let p := (from_ fun p => { p with
       load := { p.load with averages := [none, some (-2560)] }
       diag := { p.diag with attenuation := some ([0, 400], 7), noiseTable := some ([], 9) }
       log := { p.log with records := [aRecord .toSend 0] } }).part
     p.load.averages.getD 1 none = some (-2560) ∧ p.diag.attenuation = some ([0, 400], 7) ∧
       p.diag.noiseTable = some ([], 9) ∧ p.log.records[0]? = some (aRecord .toSend 0)) := by
  decide

/-- R12: a QUIET stretch with two causes is two runs. -/
theorem test_runs :
    runsOf [.quiet .fixed, .quiet .fixed, .quiet .notch, .downCarry, .downCarry] =
      [⟨0, 1, .quiet .fixed⟩, ⟨2, 2, .quiet .notch⟩, ⟨3, 4, .downCarry⟩] := by decide

theorem witness_resets :
    (State.reset.takes ⟨.loc, 1, .fits⟩ ∧ State.reset.permits ⟨.loc, 1, .fits⟩ .linkControl true ∧
      State.reset.part.supply.state ≠ .cutoff) ∧
    (let p := (from_ fun p => { carrying .idle .idle p with
       svc := { p.svc with rx := ([1], false), rxErrors := 65535 }
       diag := { p.diag with running := some (aTest .portTest (some .a) false 0) } }).part
     p.inService = true ∧ p.svc.rx.1 ≠ [] ∧ p.diag.running = some (aTest .portTest (some .a) false 0) ∧
       p.link.notices.length < 16) := by
  unfold State.takes State.permits; decide

theorem witness_line_start :
    (State.reset.part.line.state = .quiet ∧ State.reset.part.supply.state ≠ .shutdown ∧
      State.reset.part.portA.hook = .onHook ∧ State.reset.part.diag.running = none) ∧
    (let s := from_ fun p => { lineAt .fallback p with portA := { p.portA with hook := .offHook } }
     s.takes host ∧ s.permits host .lineProfile true ∧ s.part.line.state = .fallback ∧
       s.part.supply.state ≠ .cutoff ∧ s.part.portA.hook = .offHook) ∧
    (let s := from_ (onSupply fun v => { v with state := .cutoff })
     s.takes host ∧ s.permits host .lineProfile true ∧ s.part.supply.state = .cutoff) ∧
    (let s := from_ (lineAt .dropped)
     s.takes host ∧ s.permits host .lineProfile true ∧ s.part.line.state ≠ .quiet ∧ s.part.line.state ≠ .fallback) := by
  unfold State.takes State.permits; decide

theorem witness_line_stop :
    (let s := from_ (carrying .connected .idle)
     s.takes host ∧ s.permits host .lineProfile true ∧ s.part.supply.state ≠ .cutoff ∧
       (∀ x, (s.part.heardFrom host).underTest x = false) ∧ (s.part.heardFrom host).loopTesting = false ∧
       (s.part.heardFrom host).inService = true) ∧
    (let p := ((from_ fun p => onSched (fun d => { d with lastReport := some [] })
       (onSupply (fun v => { v with state := .cutoff }) (carrying .idle .idle p))).part).heardFrom host
     p.supply.state = .cutoff ∧ p.sched.lastReport.isSome = true ∧ p.inService = true ∧ p.supply.tPresence = none) := by
  unfold State.takes State.permits
  refine ⟨⟨by decide, by decide, by decide, ?_, by decide, by decide⟩, by decide⟩
  intro x; cases x <;> decide

theorem witness_set_profile :
    (⟨none, none, none, none, some 16001, some (some false), none⟩ : ProfileFields).upshift ≠ some none ∧
      (⟨none, none, none, none, none, some none, none⟩ : ProfileFields).upshift = some none := by decide

/-- W7 as QUIET on the last tones meets the first clause; the others are refused by number, base, line state and plan. -/
theorem witness_band_window :
    (7 ≤ 7 ∧ 447 ≤ 447 ∧ 4 ∈ [4, 8, 16, 32, 64, 128, 256] ∧ State.reset.part.line.state = .quiet ∧
      conflictTones (resetPlan.set 7 ⟨true, 444, 4, .down, .quiet⟩) = []) ∧
    (3 ∉ [4, 8, 16, 32, 64, 128, 256] ∧ windowOf ⟨8, some true, 0, 4, some .up, some .carry⟩ =
        some ⟨true, 0, 4, .up, .carry⟩ ∧ 7 < 8 ∧ 447 < 448) ∧
    (let p := (from_ (carrying .idle .idle)).part
     windowOf ⟨7, some true, 444, 4, some .down, some .carry⟩ = some ⟨true, 444, 4, .down, .carry⟩ ∧
       p.band.windows[7]? = some ⟨false, 0, 4, .down, .quiet⟩ ∧ p.inService = true ∧
       addsQuietOnly ⟨false, 0, 4, .down, .quiet⟩ ⟨true, 444, 4, .down, .carry⟩ = false) ∧
    (let p := (from_ fun p => { p with band := { p.band with strict := true } }).part
     windowOf ⟨7, some true, 444, 4, some .up, some .carry⟩ = some ⟨true, 444, 4, .up, .carry⟩ ∧
       p.line.state = .quiet ∧ p.band.strict = true ∧
       (conflictTones (p.band.windows.set 7 ⟨true, 444, 4, .up, .carry⟩)).isEmpty = false) := by
  decide +kernel

/-- In service: a window disabled before, and a QUIET one that grows by a tone, with a reshape to be had and without. -/
theorem witness_band_window_in_service :
    let one : List Window := [⟨true, 32, 32, .down, .carry⟩, ⟨false, 0, 4, .down, .quiet⟩]
    let ws := one.set 1 ⟨true, 444, 4, .down, .quiet⟩
    let p := (from_ fun p => { carrying .idle .idle p with
      band := { p.band with windows := one }, load := { p.load with averages := List.replicate 64 (some 6400) } }).part
    p.inService = true ∧ p.band.windows[1]? = some ⟨false, 0, 4, .down, .quiet⟩ ∧
      (∀ t, t < 448 → ¬ (ws.any (·.carries .down t) = true ∧ ws.any (·.carries .up t) = true)) ∧
      p.line.state = .carrying ∧ p.line.move = none ∧ p.supply.state ≠ .cutoff ∧
      payload (computeDown (perTone (resolve p.band.overlay ws)) p.load.setProfile p.load.averages
        (p.line.downInForce.getD [])) ≠ 0 ∧
      (let old : Window := ⟨true, 440, 4, .down, .quiet⟩
       let w : Window := ⟨true, 440, 8, .down, .quiet⟩
       old.cls = .quiet ∧ (∀ t, t < 448 → old.covers t = true → w.covers t = true) ∧ w.covers 444 = true ∧
         old.covers 444 = false) := by
  simp only [computeDown_perTone]
  decide +kernel

theorem witness_resolution :
    let w : Window := ⟨true, 444, 4, .up, .carry⟩
    let n : Window := ⟨true, 256, 256, .down, .quiet⟩
    5 ≤ 5 ∧ (5 < 256 ∧ 256 ≤ 256) ∧ (5 < 447 ∧ n ∈ [w, n] ∧ n.covers 447 = true ∧ n.cls = .quiet) ∧
      ((∀ v ∈ [w], v.covers 447 = true → v.cls = .carry) ∧ [w][0]? = some w ∧ w.covers 447 = true) ∧
      (5 < 6 ∧ ∀ v ∈ [w, n], v.covers 6 = false) := by
  decide

theorem witness_request_reshape :
    State.reset.part.inService = false ∧
    (let p := (from_ fun p => onLine (fun l => { l with move := some (.far 1 [] 100) }) (carrying .idle .idle p)).part
     p.inService = true ∧ p.line.move.isSome = true) ∧
    (let p := (from_ fun p => { carrying .idle .idle p with
       band := { p.band with windows := [⟨true, 32, 32, .down, .carry⟩] }
       load := { p.load with averages := List.replicate 64 (some 6400) } }).part
     p.line.state = .carrying ∧ p.line.move = none ∧ p.supply.state ≠ .cutoff ∧ p.svc.outQ = [] ∧
       payload (computeDown (perTone (resolve p.band.overlay p.band.windows)) p.load.setProfile p.load.averages
         (p.line.downInForce.getD [])) ≠ 0) := by
  simp only [computeDown_perTone]
  decide +kernel

theorem witness_port_enable :
    (State.reset.part.portB.state = .disabled ∧ State.reset.part.line.startPending = false ∧
      State.reset.part.relayTarget = State.reset.part.supply.relay) ∧
    (let p := (from_ (carrying .idle .lockedOut)).part
     p.portB.state = .lockedOut ∧ p.portB.hook = .onHook ∧ p.line.startPending = false ∧
       p.relayTarget = p.supply.relay ∧ p.portA.state = .idle ∧ p.portA.hook = .onHook ∧ p.portA.state ≠ .disabled) := by
  decide

theorem witness_port_disable :
    let g : Ring := ⟨0, 1, 200, .line, none, none⟩
    let p := (from_ fun p => ({ carrying .ringing .dialling p with
      portB := { Port.initial .dialling with shedPending := true } } : Part).modPort .a fun r => { r with ring := some g }).part
    p.line.startPending = false ∧ p.line.request = .part ∧ p.supply.relay = true ∧ p.supply.state = .mains ∧
      (p.portA.state = .ringing ∧ p.portA.ring = some g ∧ g.partner = none ∧ g.origin = .line ∧ p.inService = true ∧
        p.svc.outQ = []) ∧
      (p.portB.state.offHook = true ∧ p.portB.shedPending = true) := by
  decide

theorem witness_local_ring :
    (let p := (from_ (carrying .dialling .idle)).part
     p.portB.state = .idle ∧ p.underTest .b = false ∧ p.portA.state ≠ .ringing ∧ p.portA.state = .dialling ∧
       p.portB.ringLoad ≤ p.supply.budget) ∧
    (let p := (from_ fun p => onSupply (fun v => { v with budget := 2 }) (carrying .idle .shed p)).part
     p.supply.budget < p.portA.ringLoad ∧ p.portA.state = .idle ∧ p.portB.state = .shed) ∧
    (let p := (from_ fun p => { carrying .connected .idle p with
       diag := { p.diag with running := some (aTest .portTest (some .b) false 0) } }).part
     p.portB.state ≠ .shed ∧ p.underTest .b = true ∧ p.portA.state ≠ .idle ∧ p.portA.state ≠ .dialling ∧
       p.underTest .a = false) := by
  decide

theorem witness_join :
    (let p := (from_ (carrying .connected .dialling)).part
     p.portA.state = .connected ∧ p.portB.state = .dialling) ∧
    (let p := (from_ (carrying .connected .joined)).part
     p.portB.state = .joined ∧ p.portB.state ≠ .shed ∧ p.inService = true) ∧
    State.reset.part.portB.state ≠ .joined := by decide

theorem witness_diagnostics :
    (State.reset.part.line.state = .quiet ∧ State.reset.part.diag.running = none ∧
      State.reset.part.supply.state ≠ .cutoff ∧ State.reset.part.supply.state ≠ .shutdown ∧
      State.reset.part.portA.hook = .onHook ∧ State.reset.part.portB.state = .disabled ∧
      State.reset.part.relayTarget = State.reset.part.supply.relay) ∧
    (from_ fun p => { p with diag := { p.diag with running := some (aTest .noiseScan none false 0) } }).part.diag.running =
      some (aTest .noiseScan none false 0) := by decide

theorem witness_sounding :
    (let p := (from_ (onLine fun l => { l with state := .dropped, startPending := true })).part
     p.line.state = .dropped ∧ p.line.startPending = true ∧ p.diag.running = none ∧ p.supply.state = .mains) ∧
    (let p := (from_ (onLine fun l =>
       { l with state := .sounding, wakeLeft := some 0, callWindow := some 0, callsSent := 4 })).part
     p.line.state = .sounding ∧ p.line.wakeLeft.isSome = true ∧ p.line.callWindow.isSome = true ∧ p.line.callsSent < 5 ∧
       p.svc.outQ.length < 16) ∧
    (from_ fun p => { lineAt .sounding p with
      svc := { p.svc with outQ := List.replicate 16 .confirm } }).part.svc.outQ.length = 16 := by decide

theorem witness_failed_attempt :
    (let p := (from_ (onLine fun l =>
       { l with state := .sounding, callWindow := some 0, callsSent := 5, attempts := 7 })).part
     p.running = true ∧ p.line.state = .sounding ∧ p.line.callWindow.isSome = true ∧ 5 ≤ p.line.callsSent ∧
       p.line.attempts < 8) ∧
    (let p := (from_ (onLine fun l => { l with state := .loading, attempts := 8 })).part
     p.line.state = .loading ∧ 8 ≤ p.line.attempts ∧ p.loopTesting = false) ∧
    (from_ (lineAt .measuring)).part.line.state = .measuring := by decide

/-- MEASURING under a plan of tones 32 to 63, with the sums of one symbol. -/
def measured (sums : List Int) : Part :=
  (from_ fun p => { lineAt .measuring p with
    band := { p.band with windows := [⟨true, 32, 32, .down, .carry⟩] }
    load := { p.load with measureCount := 1, measureSums := sums } }).part

/-- The table of such a measurement. -/
def measuredTable (p : Part) : List LoadEntry :=
  computeDown (perTone (resolve p.band.overlay p.band.windows)) p.load.setProfile p.seededAverages []

/-- 31 tones heard. -/
theorem witness_measurement_fails :
    let p := measured (List.replicate 63 15360 ++ [-2560])
    p.line.state = .measuring ∧ tonesHeard p.seededAverages < 32 := by
  decide +kernel

/-- 32 tones heard, at the top of the range. -/
theorem witness_measurement_loads :
    let p := measured (List.replicate 64 15360)
    32 ≤ tonesHeard p.seededAverages ∧ payload (measuredTable p) ≠ 0 ∧
      p.load.setProfile.floor ≤ ((payload (measuredTable p) * 32 : Nat) : Int) ∧ p.svc.outQ = [] ∧
      p.line.startPending = false := by
  simp only [measuredTable, computeDown_perTone]
  decide +kernel

/-- 32 tones heard, with no headroom. -/
theorem witness_measurement_low :
    let p := measured (List.replicate 64 0)
    32 ≤ tonesHeard p.seededAverages ∧
      (payload (measuredTable p) = 0 ∨ ((payload (measuredTable p) * 32 : Nat) : Int) < p.load.setProfile.floor) := by
  simp only [measuredTable, computeDown_perTone]
  decide +kernel

/-- The upstream table that loads tones 6 to 31 with 3 bits is valid over the reset plan. -/
theorem witness_valid_table :
    validateTable (perTone (resolve false resetPlan)) 12
      (perTone fun t => if 6 ≤ t ∧ t ≤ 31 then ⟨3, 0⟩ else ⟨0, 0⟩) = none := by
  simp only [validateTable, firstFailing_perTone]
  decide +kernel

/-- Its two segments, and one that loads tone 32, which is DOWN CARRY. -/
theorem witness_loading :
    let table : List LoadEntry := perTone fun t => if 6 ≤ t ∧ t ≤ 31 then ⟨3, 0⟩ else ⟨0, 0⟩
    let es := (table.map entryToByte).take 224
    let fs := (table.map entryToByte).drop 224
    let p := (from_ fun p => { (onLine (fun l => { l with
      state := .loading, request := .part, segs := some ⟨255, some es, none⟩, loadingDeadline := some 12000,
      rejections := 1 }) p) with
      supply := { p.supply with relay := true }, portA := Port.initial .disabled
      band := { p.band with offeredMap := some (perTone (resolve false resetPlan)) } }).part
    es.length = 224 ∧ fs.length = 224 ∧ p.running = true ∧ p.line.state = .loading ∧
      p.relayTarget = p.supply.relay ∧ p.line.segs = some ⟨255, some es, none⟩ ∧ p.line.upValid = false ∧
      p.svc.outQ.length < 16 ∧ p.load.profileInForce.maxBits = 12 ∧ (es ++ fs).map entryOfByte = table ∧
      p.line.loadingDeadline = some 12000 ∧ later 12000 (p.line.symbol + 200) = true ∧
      (validateTable [] 12 (List.replicate 448 ⟨2, 0⟩)).isSome = true ∧ p.line.rejections < 2 := by
  refine ⟨by decide +kernel, by decide +kernel, rfl, rfl, rfl, rfl, rfl, by decide, rfl, ?_, rfl, by decide, by decide +kernel,
    by decide⟩
  rw [List.take_append_drop]
  decide +kernel

theorem witness_loading_settled :
    let p := (from_ fun p => { (onLine (fun l => { l with state := .loading, request := .part, rejections := 2 }) p) with
      supply := { p.supply with relay := true }, portA := Port.initial .disabled }).part
    p.refreshHeard = p ∧ p.line.segs = none ∧ 2 ≤ p.line.rejections := ⟨rfl, rfl, by decide⟩

theorem witness_confirmation :
    let at_ (lost : Option Symbol) : Part := (from_ fun p =>
      { onLine (fun l => { l with state := .loading, switch := some ⟨1, true, false, false⟩ }) p with
        svc := { p.svc with switchLost := lost } }).part
    (at_ none).line.state = .loading ∧ (at_ none).line.switch = some ⟨1, true, false, false⟩ ∧
      later 1 (at_ none).line.symbol = true ∧ (at_ none).line.state.messagesTravel = true ∧
      (at_ none).svc.switchLost ≠ some 1 ∧ (at_ (some 1)).svc.switchLost = some 1 ∧
      State.reset.part.line.state.messagesTravel = false := by decide

/-- A switch symbol that is reached without its SWITCH_ACK, one whose SWITCH never left, and one marked as gone by. -/
theorem witness_switch_symbol_reached :
    ∀ l ∈ [LineState.loading, .reshape], ∀ placed : Bool,
      let at_ (a : Symbol) (gone : Bool) : Part :=
        (from_ (onLine fun x => { x with state := l, switch := some ⟨a, placed, false, gone⟩ })).part
      (at_ 0 false).running = true ∧ (at_ 0 false).line.state = l ∧ later 0 (at_ 0 false).line.symbol = false ∧
        (at_ 0 false).line.switch = some ⟨0, placed, false, false⟩ ∧ later 1 (at_ 1 false).line.symbol = true ∧
        (at_ 0 true).line.switch = some ⟨0, placed, false, true⟩ := by decide

theorem witness_enter_carrying :
    let p := (from_ (onLine fun l => { l with state := .loading, switch := some ⟨1, true, true, false⟩ })).part
    p.line.state = .loading ∧ p.line.confirmed = true := by decide

/-- An UNDELIVERED MAJOR record beside an UNDELIVERED MINOR one, with room for its report and without. -/
theorem witness_lines_up :
    let major : FaultRecord := { aRecord .undelivered 3 with seq := 1, severity := .major }
    let again : FaultRecord := { major with delivery := .toSend, sends := 0 }
    let minor : FaultRecord := { aRecord .undelivered 3 with seq := 2, severity := .minor }
    let p (q : List Msg) (flight : Option Seq) : Part := (from_ fun p => { onLine (fun l =>
        { l with state := .loading, switch := some ⟨1, true, true, false⟩ }) p with
      log := { p.log with records := [major, minor], inFlight := flight }, svc := { p.svc with outQ := q } }).part
    (p [] none).line.confirmed = true ∧ (p [] none).log.inFlight = none ∧ (p [] none).sched.lastReport = none ∧
      (p [] none).svc.outQ.length < 14 ∧ chooseReport [again, minor] = some again ∧
      16 ≤ (p (List.replicate 16 .confirm) none).svc.outQ.length ∧ (∀ r ∈ [minor], r.delivery ≠ .toSend) ∧
      (p [] (some 1)).log.inFlight = some 1 ∧ (p [] (some 1)).svc.outQ.length < 15 := by decide

/-- R152: of two TO_SEND records of one severity behind a SENT one, the older; where none is TO_SEND, none. -/
theorem test_oldest_report :
    let r (seq : Seq) (sev : Severity) (d : Delivery) : FaultRecord :=
      { aRecord d 0 with seq := seq, severity := sev }
    (chooseReport [r 1 .critical .sent, r 2 .minor .toSend, r 3 .major .toSend, r 4 .major .toSend]).map (·.seq) = some 3 ∧
      chooseReport [r 1 .critical .sent] = none := by decide

theorem witness_expiries :
    (let p := (from_ (onLine fun l => { l with state := .dropped, holdoff := some 0 })).part
     p.line.state = .dropped ∧ p.line.holdoff.isSome = true ∧ p.diag.running = none) ∧
    (let p := (from_ fun p => { (onLine (fun l => { l with state := .fallback, retry := some 0 }) p) with
       diag := { p.diag with running := some (aTest .noiseScan none false 0) } }).part
     p.supply.state = .mains ∧ p.line.state = .fallback ∧ p.line.retry.isSome = true ∧ p.portA.hook = .onHook ∧
       p.diag.running.isSome = true) := by decide

theorem witness_service_drop :
    let p := (from_ (carrying .idle .idle)).part
    p.running = true ∧ p.inService = true ∧ p.supply.state ≠ .cutoff := by decide

/-- A part in service at a symbol, with a tracker. -/
def tracking (y : Symbol) (t : Tracker) : Part :=
  (from_ fun p => { onLine (fun l => { l with symbol := y }) (carrying .idle .idle p) with tracker := t }).part

/-- The four events of a fence of 4000 symbols, and the fifth. -/
theorem witness_symbols :
    let p := tracking 16000 { Tracker.initial with state := .searching, history := [0, 4000, 8000, 12000] }
    let opens (d : DownSymbol) : Bool := !d.sync || decide ((((p.line.downInForce.getD []).filter fun e =>
      decide (e.b ≠ 0)).length) < 4 * d.errored)
    p.inService = true ∧ p.tracker.state = .searching ∧ p.tracker.window = none ∧ p.tracker.event = none ∧
      (opens ⟨true, 112, [], []⟩ = false ∧ opens ⟨true, 113, [], []⟩ = true ∧ opens ⟨false, 0, [], []⟩ = true) ∧
      lockTest (p.tracker.history ++ [16000]) = some ⟨4000, 80⟩ ∧ lockTest ([] ++ [16000]) = none ∧
      decide (5 < ((16000 : Symbol) - 15995).toNat) = false ∧ decide (5 < ((16000 : Symbol) - 15994).toNat) = true := by
  decide +kernel

theorem witness_locked :
    let t : Tracker := ⟨.locked, [], none, some 4000, some 16006, none, 1, 1⟩
    let p := tracking 16000 t
    (p.tracker.state = .locked ∧ p.tracker.window = none ∧ p.tracker.next = some (16000 + 6) ∧
      (16000 - 15988 : Symbol).toNat < 13) ∧
    (let p := tracking 16010 { t with window := some (16000, false) }
     p.tracker.window = some (16000, false) ∧ p.tracker.next = some 16006 ∧ p.tracker.period = some 4000 ∧
       (16010 - 16000 : Symbol).toNat < 13) ∧
    ((tracking 9 t).tracker.next ≠ some (9 + 6) ∧ t.stray < 2 ∧ 2 ≤ { t with stray := 2 }.stray) ∧
    (let q := tracking 16013 { t with window := some (16000, false) }
     q.tracker.window = some (16000, false) ∧ q.tracker.absence < 2 ∧ q.tracker.next = some 16006 ∧
       q.tracker.period = some 4000) ∧
    (tracking 5 { t with window := some (5, true) }).tracker.window = some (5, true) ∧
    2 ≤ { t with absence := 2 }.absence := by
  decide

/-- Outside any window in LOCKED, at the last symbol of a window and at the first after it, and a second event in a window
that has had its hit. -/
theorem witness_raw_class :
    let t : Tracker := ⟨.locked, [], some (16001, 16001), some 4000, some 16006, none, 1, 1⟩
    let h : Tracker := { t with window := some (16000, true) }
    ((tracking 15999 t).tracker.window = none ∧ (tracking 15999 t).tracker.state = .locked ∧
      (tracking 15999 t).tracker.next ≠ some (15999 + 6) ∧ (tracking 16000 t).tracker.next = some (16000 + 6)) ∧
    ((tracking 16013 h).tracker.window = some (16000, true) ∧ 13 ≤ ((16013 : Symbol) - 16000).toNat ∧
      ((16012 : Symbol) - 16000).toNat < 13) ∧
    ((tracking 16012 h).tracker.event = some (16001, 16001) ∧ decide (5 < ((16012 : Symbol) - 16001).toNat) = true) := by
  decide

/-- One DOWN CARRY tone of four bits at 110 qdB. -/
theorem witness_quiet_period :
    let p := (from_ fun p => onLine (fun l => { l with downInForce := some (List.replicate 32 ⟨0, 0⟩ ++ [⟨4, 0⟩]) })
      { carrying .idle .idle p with
        band := { p.band with mapInForce := some (List.replicate 33 .downCarry) }
        load := { p.load with averages := List.replicate 33 (some 7040) } }).part
    let l := p.load.update (p.band.mapInForce.getD [])
    let ms := marginsOf l.profileInForce.gap l.averages (p.line.downInForce.getD [])
    p.inService = true ∧ p.monitor.counts.errored + p.monitor.counts.impulse ≤ 300 ∧ ms.length = 1 ∧
      (∀ m ∈ ms, (l.profileInForce.minMargin : Int) ≤ m.m) ∧ averageMargin ms ≤ l.profileInForce.margin + 24 ∧
      l.profileInForce.minMargin ≤ averageMargin ms ∧ p.relayTarget = p.supply.relay ∧ p.line.startPending = false ∧
      p.load.averages[32]? = some (some 7040) := by
  decide +kernel

/-- Thirty-two DOWN CARRY tones at an average, in force with `b` bits but tone 33, with `c`. -/
def loaded (average : Int) (b c : Nat) (f : Part → Part) : Part :=
  (from_ fun p => f (onLine (fun l => { l with
      downInForce := some (List.replicate 32 ⟨0, 0⟩ ++ ⟨b, 0⟩ :: ⟨c, 0⟩ :: List.replicate 30 ⟨b, 0⟩) })
    { carrying .idle .idle p with
      band := { p.band with windows := [⟨true, 32, 32, .down, .carry⟩] }
      load := { p.load with averages := List.replicate 64 (some average) } })).part

/-- The margins and the average the period's end sees. -/
def marginsSeen (p : Part) : List Margin :=
  let l := p.load.update (p.band.mapInForce.getD [])
  marginsOf l.profileInForce.gap l.averages (p.line.downInForce.getD [])

theorem witness_severe :
    let p := loaded 7040 4 4 fun p => { p with monitor := { p.monitor with severeRun := 39, counts := ⟨0, 301, 0, 0⟩ } }
    p.inService = true ∧ p.monitor.counts.errored + p.monitor.counts.impulse > 300 ∧ 39 ≤ p.monitor.severeRun ∧
      p.supply.state ≠ .cutoff := by decide +kernel

theorem witness_triggers :
    (let p := loaded 7040 12 12 fun p => { p with monitor := { p.monitor with lowRun := 7 } }
     averageMargin (marginsSeen p) < p.load.profileInForce.minMargin ∧ 7 ≤ p.monitor.lowRun ∧
       ¬ (p.monitor.counts.errored + p.monitor.counts.impulse > 300) ∧ p.line.state = .carrying ∧ p.line.move = none ∧
       payload (computeDown (perTone (resolve p.band.overlay p.band.windows)) p.load.setProfile
         (p.load.update (p.band.mapInForce.getD [])).averages (p.line.downInForce.getD [])) ≠ 0) ∧
    (let p := loaded 8000 2 2 fun p => onSupply (fun v => { v with state := .cutoff })
       { p with monitor := { p.monitor with highRun := 239 } }
     let f := p.load.profileInForce
     f.minMargin ≤ averageMargin (marginsSeen p) ∧ f.margin + 24 < averageMargin (marginsSeen p) ∧
       239 ≤ p.monitor.highRun ∧ f.upshift = true ∧ p.supply.state = .cutoff) := by
  simp only [computeDown_perTone]
  decide +kernel

/-- A move that is built takes a bit from tone 32 for tone 33; with no tone to take it, none is. -/
theorem witness_own_move :
    (let p := loaded 7040 12 2 id
     lowest (marginsSeen p) = some ⟨32, ⟨12, 0⟩, -72⟩ ∧ p.monitor.lowRun < 7 ∧ p.line.state = .carrying ∧
       p.line.move = none ∧ p.line.reasons = [] ∧ p.relayTarget = p.supply.relay ∧
       averageMargin (marginsSeen p) ≤ p.load.profileInForce.margin + 24 ∧
       buildMove p.load.profileInForce (p.line.downInForce.getD []) (marginsSeen p) ⟨32, ⟨12, 0⟩, -72⟩ =
         some [⟨32, ⟨11, 0⟩⟩, ⟨33, ⟨3, 0⟩⟩]) ∧
    (let p := loaded 7040 12 12 id
     lowest (marginsSeen p) = some ⟨32, ⟨12, 0⟩, -72⟩ ∧
       buildMove p.load.profileInForce (p.line.downInForce.getD []) (marginsSeen p) ⟨32, ⟨12, 0⟩, -72⟩ = none ∧
       p.supply.state ≠ .cutoff ∧
       payload (computeDown (perTone (resolve p.band.overlay p.band.windows)) p.load.setProfile
         (p.load.update (p.band.mapInForce.getD [])).averages (p.line.downInForce.getD [])) ≠ 0) := by
  simp only [computeDown_perTone]
  decide +kernel

/-- R67: the recipients of a donor of two bits, of three with one margin the two lowest tones; one too few; and a gain sum
that stays above 0 where the donor's own gain does not bring it down. -/
theorem test_move_is_built :
    let avg : List (Option Int) := List.replicate 5 (some 8000)
    let table (g : Int) (b : Nat) : List LoadEntry := [⟨2, g⟩, ⟨4, 0⟩, ⟨4, 0⟩, ⟨b, 0⟩]
    let ms (g : Int) (b : Nat) := marginsOf 38 avg (table g b)
    let d (g : Int) : Margin := ⟨0, ⟨2, g⟩, 63⟩
    (d 1 ∈ ms 1 4) ∧
      buildMove .default (table 1 4) (ms 1 4) (d 1) = some [⟨0, ⟨0, 0⟩⟩, ⟨1, ⟨5, 0⟩⟩, ⟨2, ⟨5, 0⟩⟩] ∧
      (buildMove .default [⟨2, 1⟩, ⟨4, 0⟩] (marginsOf 38 avg [⟨2, 1⟩, ⟨4, 0⟩]) (d 1)).isSome = false ∧
      (buildMove .default [⟨2, 1⟩, ⟨4, 1⟩, ⟨4, 0⟩] (marginsOf 38 avg [⟨2, 1⟩, ⟨4, 1⟩, ⟨4, 0⟩]) (d 1)).isSome = false := by
  decide +kernel

theorem witness_moves :
    (let p := (from_ fun p => onLine (fun l => { l with move := some (.own 255 [⟨40, ⟨3, 0⟩⟩] 0 none) })
       (carrying .disabled .disabled p)).part
     p.line.state = .carrying ∧ p.line.move = some (.own 255 [⟨40, ⟨3, 0⟩⟩] 0 none) ∧
       inMoveRange 40 p.line.symbol = true ∧ inMoveRange 8000 p.line.symbol = true ∧ p.monitor.moveFailures < 2 ∧
       p.line.reasons = [] ∧ p.relayTarget = p.supply.relay ∧ p.line.startPending = false) ∧
    (from_ (onLine fun l => { l with move := some (.own 255 [] 0 (some 40)) })).part.line.move =
      some (.own 255 [] 0 (some 40)) := by decide

theorem witness_moves_settled :
    let p := (from_ (carrying .disabled .disabled)).part
    p.refreshHeard = p := rfl

theorem witness_far_moves :
    let up : List LoadEntry := List.replicate 6 ⟨0, 0⟩ ++ List.replicate 26 ⟨3, 0⟩
    let p := (from_ fun p => onLine (fun l => { l with upInForce := some up })
      { carrying .idle .idle p with band := { p.band with mapInForce := some (List.replicate 32 .upCarry) } }).part
    let m : MoveMsg := ⟨1, .up, 40, [⟨31, ⟨4, 0⟩⟩]⟩
    moveFits m = true ∧ p.line.move = none ∧ inMoveRange m.switchAt p.line.symbol = true ∧
      validateMove (p.band.mapInForce.getD []) p.load.profileInForce.maxBits (p.line.upInForce.getD []) m.entries = none ∧
      inMoveRange 39 p.line.symbol = false ∧ inMoveRange 8001 p.line.symbol = false ∧
      moveFits ⟨1, .up, 40, []⟩ = false ∧ p.svc.outQ.length < 16 := by
  decide +kernel

theorem witness_reshapes :
    (let p := (from_ fun p => onLine (fun l => { l with move := some (.far 1 [] 100) }) (carrying .idle .idle p)).part
     p.line.state = .carrying ∧ p.line.move.isSome = true ∧ p.supply.state ≠ .cutoff) ∧
    (let p := (from_ (onLine fun l =>
       { l with state := .reshape, switch := some ⟨1, true, true, false⟩, abandoned := 1 })).part
     p.line.state = .reshape ∧ p.line.confirmed = true ∧ p.line.reasons = [] ∧ p.line.abandoned < 2) ∧
    (let p := (from_ (onLine fun l => { l with state := .reshape, abandoned := 2 })).part
     2 ≤ p.line.abandoned ∧ p.log.records.length < 32) := by decide

/-- A part in CARRYING that has no tone to load: at the first and second abandonment, and at the third. -/
theorem witness_no_payload :
    let at_ (n : Nat) : Part := (from_ fun p => onLine (fun l => { l with abandoned := n, reasons := [.notch] })
      { carrying .idle .idle p with band := { p.band with windows := [] } }).part
    (∀ n ∈ [0, 1, 2], (at_ n).running = true ∧ (at_ n).line.state = .carrying ∧ (at_ n).line.move = none ∧
      (at_ n).relayTarget = (at_ n).supply.relay ∧ (at_ n).log.records.length < 32 ∧ (at_ n).line.reasons.Nodup ∧
      (at_ n).line.abandoned = n) ∧
    payload (computeDown (perTone (resolve (at_ 0).band.overlay (at_ 0).band.windows)) (at_ 0).load.setProfile
      (at_ 0).load.averages ((at_ 0).line.downInForce.getD [])) = 0 := by
  simp only [computeDown_perTone]
  decide +kernel

theorem witness_reshape_table :
    let table : List LoadEntry := perTone fun t => if 6 ≤ t ∧ t ≤ 31 then ⟨3, 0⟩ else ⟨0, 0⟩
    let es := (table.map entryToByte).take 224
    let fs := (table.map entryToByte).drop 224
    let x : Reshape := ⟨[.notch], 8000, false⟩
    let p := (from_ fun p => { onLine (fun l => { l with
        state := .reshape, reshape := some x, segs := some ⟨255, some es, none⟩, abandoned := 1 }) (carrying .idle .idle p) with
      band := { p.band with offeredMap := some (perTone (resolve false resetPlan)) }
      load := { p.load with offeredProfile := some .default } }).part
    fs.length = 224 ∧ p.line.state = .reshape ∧ p.line.reshape = some x ∧ x.upTaken = false ∧
      p.line.segs = some ⟨255, some es, none⟩ ∧ (p.load.offeredProfile.map (·.maxBits)).getD 0 = 12 ∧
      p.band.offeredMap.getD [] = perTone (resolve false resetPlan) ∧ later 8000 (p.line.symbol + 200) = true ∧
      later 200 (p.line.symbol + 200) = false ∧
      p.svc.outQ.length < 16 ∧ p.relayTarget = p.supply.relay ∧ p.line.abandoned < 2 ∧ p.line.reasons = [] ∧
      (es ++ fs).map entryOfByte = table ∧ { x with upTaken := true }.upTaken = true := by
  refine ⟨by decide +kernel, rfl, rfl, rfl, rfl, rfl, rfl, by decide, by decide, by decide, rfl, by decide, rfl, ?_, rfl⟩
  rw [List.take_append_drop]
  decide +kernel

theorem witness_arrangement :
    let ch : Channel := ⟨.full, true, (0, 0), 0⟩
    let p := (from_ fun p => (({ carrying .connected .held p with
      sched := { p.sched with switches := [⟨.a, 2000, .begin⟩] } } : Part).setChan .a (some ch)).setHold .b (some 0)).part
    p.sched.switches = [⟨.a, 2000, .begin⟩] ∧ p.chan .a = some ch ∧ ch.active = true ∧ ch.mode = .full ∧
      p.slot (other .a) = .empty ∧ 3 ≤ p.capC ∧ p.portB.state = .held ∧ (p.hold .b).isSome = true := by
  decide +kernel

/-- A channel that enters with two bytes and with one; and port B's as port A's slots are given up, HALF and HELD. -/
theorem witness_capacity :
    (let ch : Channel := ⟨.full, true, (0, 0), 0⟩
     let p (n : Nat) := (from_ fun p => (capacity n ({ carrying .connected .idle p with
       sched := { p.sched with switches := [⟨.a, 0, .begin⟩] } } : Part)).setChan .a (some ch)).part
     (p 2).inService = true ∧ (p 2).capC = 2 ∧ (p 2).chan .a = some ch ∧ (p 2).slot .b = .empty ∧ (p 1).capC = 1 ∧
       (p 1).portA.state = .connected ∧ (p 1).portB.state ≠ .joined ∧ (p 1).log.records.length < 32) ∧
    (let p (a : Bool) (n : Nat) := (from_ fun p => (capacity n ({ carrying .parked .held p with
       sched := { p.sched with switches := [⟨.a, 0, .finish⟩], slotA := .ended .full true, slotB := .live } } :
         Part)).setChan .b (some ⟨.half, a, (0, 0), 0⟩)).part
     (p true 3).sched.switches = [⟨other .b, 0, .finish⟩] ∧ (p true 3).slot (other .b) = .ended .full true ∧
       (p true 3).slot .b = .live ∧ (p true 3).chan .b = some ⟨.half, true, (0, 0), 0⟩ ∧ 3 ≤ (p true 3).capC ∧
       (p false 2).portB.state = .held ∧ 2 ≤ (p false 2).capC ∧ (p false 2).svc.outQ = []) := by
  decide +kernel

theorem witness_symbol_bytes :
    (let p := (from_ (carrying .idle .idle)).part
     p.inService = true ∧ p.sched.lastReport = none ∧
       1 + (p.upVoice .a).length + (p.upVoice .b).length ≤ p.capU.getD 0 ∧ p.loopTesting = false ∧
       { p.line with transmitter := .service }.transmitter = .service ∧
       (∀ r ∈ p.log.records, r.delivery ≠ .toSend)) ∧
    (let p := (from_ fun p => onSched (fun d => { d with upQueue := [List.replicate 64 1], headPlaced := 65 })
       (onLog (fun l => { l with inFlight := some 1 }) (carrying .idle .idle p))).part
     p.log.inFlight.isSome = true ∧ p.sched.upQueue = [List.replicate 64 1] ∧
       p.sched.headPlaced < (List.replicate 64 (1 : Byte)).length + 2) ∧
    (from_ fun p => onSched (fun d => { d with lastReport := some [1] }) (carrying .idle .idle p)).part.sched.lastReport =
      some [1] ∧
    (from_ (lineAt .sounding)).part.line.state = .sounding ∧ (from_ (lineAt .measuring)).part.line.state = .measuring ∧
    447 < (List.replicate 448 (-2561 : Int)).length := by
  decide +kernel

theorem witness_stream_port :
    (let p := State.reset.part
     p.inService = false ∧ p.sched.downBuffer = [] ∧ p.sched.arrival = .idle ∧ p.link.silenceTimer.isSome = true ∧
       p.link.hostSilent = false ∧ p.dataOpen = true) ∧
    (let p := (from_ fun p => { carrying .idle .idle p with
       sched := { p.sched with upQueue := List.replicate 23 [], downBuffer := [([], false)] } }).part
     p.inService = true ∧ p.dataOpen = true ∧ p.sched.upQueue.length < 24 ∧ p.sched.downBuffer = [([], false)] ∧
       p.supply.state ≠ .cutoff) ∧
    (let at_ (a : Arrival) : Part := (from_ fun p => onSched (fun d => { d with arrival := a }) (carrying .idle .idle p)).part
     (at_ .cut).sched.arrival = .cut ∧ (at_ .doomed).sched.arrival = .doomed ∧ (at_ .begun).sched.arrival = .begun) ∧
    ((List.replicate 63 (0 : Byte)).length < 64 ∧ 64 ≤ (List.replicate 64 (0 : Byte)).length ∧
      (List.replicate 1536 (0 : Byte)).length ≤ 1536 ∧ 24 ≤ (List.replicate 24 ([] : List Byte)).length) := by
  decide +kernel

/-- A message with an empty body and its check byte; an erased symbol, the last of its window; and a record too short. -/
theorem witness_downstream_bytes :
    (let bs : List Byte := [1, 0] ++ [255]
     3 ≤ bs.length ∧ bs.length = 3 + (bs.getD 1 0).toNat ∧ bs.foldr (· + ·) 0 = 0 ∧
       ([1, 0] : List Byte).length < 3) ∧
    (let p := tracking 16012 { Tracker.initial with state := .locked, window := some (16000, false) }
     p.tracker.window = some (16000, false) ∧ (p.line.symbol - 16000).toNat < 13) ∧
    ((tracking 1 { Tracker.initial with state := .searching }).tracker.state ≠ .locked) ∧
    (State.reset.part.sched.assembly = .idle ∧ (0 : Byte) ≠ 255 ∧ (0 : Byte).toNat * 256 + (63 : Byte).toNat < 64 ∧
      1536 < (6 : Byte).toNat * 256 + (1 : Byte).toNat) := by
  decide

theorem witness_hook :
    (let p := (from_ (carrying .idle .idle)).part
     p.running = true ∧ p.diag.running = none ∧ p.line.startPending = false ∧ p.line.request = .part ∧
       p.supply.relay = true ∧ p.supply.state = .mains ∧ p.portA.state = .idle ∧ p.portA.hook = .onHook) ∧
    (let p := (from_ fun p => (carrying .dialling .idle p).modPort .a fun r => { r with hook := .offHook }).part
     p.portA.state = .dialling ∧ p.portA.hook = .offHook ∧ p.isCaller .a = false ∧ p.portA.shedPending = false ∧
       p.portB.state ≠ .joined ∧ p.chan .a = none) ∧
    (let p := (from_ fun p => onSupply (fun v => { v with state := .batteryLow })
       ((carrying .idle .parked p).modPort .b fun r => { r with hook := .offHook, shedPending := true })).part
     p.supply.state ≠ .shutdown ∧ p.supply.relay = true ∧ p.portB.state = .parked ∧ p.portB.hook = .offHook ∧
       p.portB.shedPending = true ∧ p.inService = true ∧ p.svc.outQ = []) := by decide

theorem witness_digits :
    (let p := (from_ fun p => p.modPort .b fun r => { r with state := .dialling, digit := some 10 }).part
     p.portB.state = .dialling ∧ p.portB.digit = some 10 ∧ pulseDigit 10 = some (.num 0) ∧ p.inService = false ∧
       p.isCaller .b = false) ∧
    (let q (l : List Msg) : Part := (from_ fun p => onLog (fun l => { l with inFlight := some 1 })
       { carrying .idle .dialling p with svc := { p.svc with outQ := l } }).part
     let sig := List.replicate 15 (Msg.signal .a .offHook)
     (q []).portB.state = .dialling ∧ (q []).inService = true ∧ (q []).isCaller .b = false ∧
       (∀ m ∈ sig, m.isSignal = true) ∧ Msg.isSignal (.switch 5) = false ∧
       Msg.isSignal (.faultReport (aRecord .sent 1)) = false ∧ (q (sig ++ [])).svc.outQ.length < 16 ∧
       16 ≤ (q (sig ++ [.switch 5])).svc.outQ.length ∧ ([.switch 5] : List Msg).getLast? = some (.switch 5) ∧
       (q (sig ++ [.faultReport (aRecord .sent 1)])).log.inFlight = some (aRecord .sent 1).seq) ∧
    (35 ≤ 35 ∧ 35 ≤ 80 ∧ 35 ≤ 80 ∧ 80 ≤ 80 ∧ 11 < 12 ∧ 95 ≤ 95 ∧ 260 ≤ 260) := by decide

theorem witness_calls :
    (let p := (from_ (carrying .dialling .idle)).part
     p.inService = true ∧ p.portA.state = .dialling ∧ p.isCaller .a = false ∧ p.channelDemand + 3 ≤ p.capC ∧
       p.portB.state ≠ .joined) ∧
    (let p := (from_ fun p => (carrying .dialling .idle p).modPort .a fun r => { r with dialTimer := some 0 }).part
     p.portA.state = .dialling ∧ p.portA.dialTimer.isSome = true) ∧
    (let p := (from_ fun p => ((carrying .parked .idle p).modPort .a fun r => { r with howler := some 0 }).setGen .a
       ⟨.howler, 0, 4000⟩).part
     p.portA.state = .parked ∧ p.portA.howler.isSome = true ∧ (p.gen .a).kind = .howler) := by
  decide +kernel

theorem witness_rings :
    (let p := (from_ fun p => (carrying .idle .idle p).modPort .a fun r => { r with ringLoad := 10 }).part
     p.inService = true ∧ p.portA.state = .idle ∧ p.underTest .a = false ∧ p.portB.state ≠ .ringing ∧
       p.portA.ringLoad ≤ p.supply.budget) ∧
    (let p := (from_ fun p => onSupply (fun v => { v with budget := 2 }) (carrying .idle .idle p)).part
     p.supply.budget < p.portA.ringLoad) ∧
    (let g : Ring := ⟨0, 0, 400, .line, none, none⟩
     let q (n : Nat) : Part := (from_ fun p => (capacity n (carrying .idle .idle p)).modPort .b fun r =>
       { r with state := .ringing, ring := some g }).part
     let p := q 3
     p.portB.state = .ringing ∧ p.portB.ring = some g ∧ g.origin = .line ∧ p.inService = true ∧
       p.diag.running = none ∧ p.line.startPending = false ∧ p.supply.relay = true ∧ p.line.request = .part ∧
       p.supply.state ≠ .shutdown ∧ g.phase % 2 = 0 ∧ p.underTest .b = false ∧ p.channelDemand + 3 ≤ p.capC ∧
       p.svc.outQ = [] ∧ (q 2).channelDemand + 2 = (q 2).capC ∧ (q 1).capC < (q 1).channelDemand + 2) ∧
    (let g : Ring := ⟨2, 0, 250, .loc, some .a, some 0⟩
     let p := (from_ fun p => (carrying .dialling .idle p).modPort .b fun r => { r with state := .ringing, ring := some g }).part
     g.origin = .loc ∧ g.partner = some (other .b) ∧ (p.port (other .b)).state = .dialling ∧
       { g with partner := none }.partner = none) ∧
    (let g : Ring := ⟨0, 0, 400, .line, none, none⟩
     let p (n : Nat) : Part := (from_ fun p => ((carrying .idle .ringing p).modPort .b fun r =>
       { r with ring := some g, ringLoad := n }).modPort .a fun r => { r with ringLoad := 5 }).part
     (p 5).portA.state = .idle ∧ (p 5).portB.state = .ringing ∧ (p 5).portB.ring = some g ∧
       (p 5).portA.ringLoad + (p 5).portB.ringLoad ≤ (p 5).supply.budget ∧
       (p 6).supply.budget < (p 6).portA.ringLoad + (p 6).portB.ringLoad ∧ (p 5).underTest .b = false) ∧
    (let p := (from_ fun p => (carrying .connected .cooldown p).modPort .a fun r => { r with hook := .offHook }).part
     p.inService = true ∧ p.portA.state ≠ .idle ∧ p.portA.state ≠ .ringing ∧ p.portA.hook = .offHook ∧
       p.portB.state ≠ .idle ∧ p.portB.state ≠ .ringing ∧ p.portB.hook = .onHook ∧ p.underTest .a = false ∧
       p.svc.outQ = []) := by decide +kernel

/-- A local ring whose caller dials, with a TONE held for it: in service, announced and not, and out of service. -/
theorem witness_local_ring_runs_out :
    let g : Ring := ⟨2, 0, 250, .loc, some .a, some 0⟩
    let at_ (l : LineState) (ann : Bool) : Part := (from_ fun p => (lineAt l (((carrying .dialling .ringing p).modPort .b
      fun r => { r with ring := some g }).modPort .a fun r =>
      { r with hook := .offHook, announced := ann, lastTone := some (.ringback, true) }))).part
    (∀ ann : Bool, (at_ .carrying ann).inService = true ∧ (at_ .carrying ann).portB.ring = some g ∧
      (at_ .carrying ann).portB.state = .ringing ∧ g.origin = .loc ∧ g.partner = some (other .b) ∧
      ((at_ .carrying ann).port (other .b)).state = .dialling ∧ (at_ .carrying ann).svc.outQ = [] ∧
      ((at_ .carrying ann).port (other .b)).lastTone = some (.ringback, true) ∧
      ((at_ .carrying ann).port (other .b)).announced = ann) ∧
    (at_ .quiet false).inService = false ∧ (at_ .quiet false).running = true ∧
      ((at_ .quiet false).port (other .b)).state = .dialling := by decide

theorem witness_heat :
    (let r : Port := { Port.initial .ringing with ringAcc := 100, heat := 994 }
     100 ≤ r.ringAcc ∧ r.state = .ringing ∧ r.heat + 2 + r.ringLoad < 1000) ∧
    (let r : Port := { Port.initial .idle with ringAcc := 99, coolAcc := 100 }
     r.ringAcc < 100 ∧ 100 ≤ r.coolAcc) ∧
    (let r : Port := { Port.initial .ringing with
       ringAcc := 100, heat := 995, ring := some ⟨0, 0, 400, .line, none, none⟩, trip := some 400 }
     r.ring = some ⟨0, 0, 400, .line, none, none⟩ ∧ 1000 ≤ r.heat + 2 + r.ringLoad ∧ r.trip = some 400 ∧
       1000 - 400 ≤ 600 ∧ 600 < 1001 - 400) ∧
    (let p := (from_ fun p => (carrying .idle .cooldown p).modPort .b fun r => { r with cooldown := some 0 }).part
     p.portB.state = .cooldown ∧ p.portB.cooldown.isSome = true ∧ p.portB.enable = true ∧ p.portB.hook = .onHook ∧
       p.line.startPending = false ∧ p.relayTarget = p.supply.relay) ∧
    (let p (on : Bool) : Part := (from_ fun p => (carrying .idle .cooldown p).modPort .b fun r =>
       { r with cooldown := some 0, enable := on, hook := .offHook }).part
     (p true).portB.enable = true ∧ (p true).portB.hook = .offHook ∧ (p true).portB.cooldown.isSome = true ∧
       (p true).line.startPending = false ∧ (p true).relayTarget = (p true).supply.relay ∧
       (p true).inService = true ∧ (p true).svc.outQ = [] ∧ (p false).portB.enable = false ∧
       (p false).portB.state = .cooldown ∧ (p false).relayTarget = (p false).supply.relay) := by decide

theorem witness_reports :
    (let p (n : Nat) := (from_ fun p => { carrying .idle .idle p with
       svc := { p.svc with outQ := List.replicate n .confirm }
       log := { p.log with records := [aRecord .sent 3], inFlight := some 1, ackTimer := some 0 } }).part
     (p 0).inService = true ∧ (p 0).log.records = [aRecord .sent 3] ∧ (p 0).log.inFlight = some (aRecord .sent 3).seq ∧
       (aRecord .sent 3).delivery = .sent ∧ (p 0).log.ackTimer.isSome = true ∧ 3 ≤ (aRecord .sent 3).sends ∧
       (aRecord .sent 2).sends < 3 ∧ (2 : Seq) ≠ (aRecord .sent 3).seq ∧ (p 0).sched.lastReport = none ∧
       (p 15).svc.outQ.length < 16 ∧ 16 ≤ (p 16).svc.outQ.length) ∧
    (let full (r : FaultRecord) : Part := (from_ (onLog fun l => { l with
       records := r :: List.replicate 31 (aRecord .toSend 0), lost := 255 })).part
     (full (aRecord .toSend 0)).inService = false ∧ (full (aRecord .toSend 0)).link.silenceTimer.isSome = true ∧
       (full (aRecord .toSend 0)).link.hostSilent = false ∧ (full (aRecord .toSend 0)).log.records.length = 32 ∧
       (full (aRecord .toSend 0)).log.records.any (fun z => z.severity == .info || z.severity == .minor) = false ∧
       (full { aRecord .delivered 1 with severity := .critical }).log.records.any (·.delivery == .delivered) = true ∧
       (full { aRecord .toSend 0 with severity := .minor }).log.records.any
         (fun z => z.severity == .minor && (none : Option Seq) != some z.seq) = true) ∧
    (let p := (from_ fun p => onLog (fun l => { l with records := [aRecord .sent 1], inFlight := some 1, lastSeq := some 1 })
       { onSupply (fun v => { v with state := .cutoff }) (carrying .idle .idle p) with
         sched := { p.sched with lastReport := some [] } }).part
     p.sched.lastReport = some [] ∧ p.supply.state = .cutoff ∧ p.inService = true ∧ p.supply.tPresence = none ∧
       p.diag.running = none ∧ p.log.records.length < 32 ∧ p.log.inFlight = p.log.lastSeq ∧
       p.log.inFlight = some (aRecord .sent 1).seq) ∧
    State.reset.part.sched.lastReport ≠ some [] := by decide

/-- R177: the mains return in BATTERY below both thresholds: the two timers of the battery stop, the presence timer starts. -/
theorem test_mains_return_stops_the_timers :
    (let v : Supply := { Supply.initial false 1000 with state := .battery, tLow := some 900, tCutoff := some 400 }
     let w := { v with mains := true }.retime
     (w.tLow, w.tCutoff, w.tPresence, w.tAbsence)) = (none, none, some 0, none) := by decide

theorem witness_supply :
    State.reset.part.inService = false ∧
    (let v : Supply := { Supply.initial false 1240 with tAbsence := some 50 }
     v.state = .mains ∧ v.tAbsence.isSome = true) ∧
    (let v : Supply := { Supply.initial false 1040 with state := .battery, tLow := some 0, tCutoff := some 0 }
     v.state = .battery ∧ v.tLow.isSome = true ∧ v.tCutoff.isSome = true ∧ v.mains = false) ∧
    (let v : Supply := { Supply.initial true 1200 with state := .batteryLow, tReturn := some 0, tPresence := some 0 }
     v.state = .batteryLow ∧ v.tReturn.isSome = true ∧ v.tPresence.isSome = true) ∧
    (let v : Supply := { Supply.initial true 900 with state := .shutdown, tPresence := some 2000 }
     v.state = .shutdown ∧ v.tPresence.isSome = true ∧ v.mains = true) ∧
    (let v : Supply := { Supply.initial false 1160 with state := .shutdown, tRecovery := some 5000 }
     v.state = .shutdown ∧ v.tRecovery.isSome = true ∧ v.mains = false ∧ 1160 ≤ v.battery ∧ v.battery ≤ 2000) ∧
    (State.reset.part.portB.state.offHook = false ∧ PortState.offHook .dialling = true) := by decide

theorem witness_supply_in_service :
    (let p := (from_ fun p => { onSupply (fun v => { v with tAbsence := some 100 }) (carrying .idle .idle p) with
       band := { p.band with windows := [⟨true, 32, 32, .down, .carry⟩] }
       load := { p.load with averages := List.replicate 64 (some 6400) } }).part
     p.inService = true ∧ p.supply.state = .mains ∧ p.supply.tAbsence.isSome = true ∧ p.line.state = .carrying ∧
       p.line.move = none ∧
       payload (computeDown (perTone (resolve p.band.overlay p.band.windows)) p.load.setProfile p.load.averages
         (p.line.downInForce.getD [])) ≠ 0) ∧
    (let p (l : LineState) := (from_ fun p => lineAt l (onLog (fun l => { l with
         records := [aRecord .sent 1], inFlight := some 1, next := 2 })
       (onSupply (fun v => { v with state := .battery, tCutoff := some 1000 }) (carrying .connected .idle p)))).part
     (p .carrying).supply.tCutoff.isSome = true ∧ (∀ x, ((p .carrying).port x).state ≠ .ringing) ∧
       (p .carrying).log.records.length < 31 ∧ (p .carrying).log.inFlight = some (aRecord .sent 1).seq ∧
       (aRecord .sent 1).seq ≠ (p .carrying).log.next ∧ (p .reshape).inService = true ∧
       (p .reshape).line.state = .reshape) := by
  simp only [computeDown_perTone]
  refine ⟨by decide +kernel, by decide, ?_, by decide, by decide, by decide, by decide, by decide⟩
  intro x; cases x <;> decide

/-- Rings within the lowered budget and above it, on port A alone, on both and on port B, at the entries to BATTERY and to
BATTERY_LOW; each of the four ways no reshape without a payload comes in between. -/
theorem witness_rings_at_supply_entries :
    let line : Ring := ⟨0, 0, 400, .line, none, none⟩
    let loc : Ring := ⟨2, 0, 250, .loc, some .a, some 60000⟩
    let at_ (st : SupplyState) (l : LineState) (a b : PortState) (ga gb : Option Ring) (la lb : Nat) : Part :=
      (from_ fun p => onSupply (fun v => { v with state := st, tAbsence := some 0, tLow := some 0 })
        (lineAt l (((carrying a b p).modPort .a fun r => { r with ring := ga, ringLoad := la }).modPort .b fun r =>
          { r with ring := gb, ringLoad := lb }))).part
    let both (st : SupplyState) (l : LineState) := at_ st l .ringing .ringing (some line) (some line)
    let local_ (st : SupplyState) (l : LineState) := at_ st l .dialling .ringing none (some loc) 5
    (∀ x, ((both .mains .reshape 2 2).port x).state = .ringing ∧ ((both .mains .reshape 2 2).port x).ring.isSome = true) ∧
    ((both .mains .reshape 2 2).running = true ∧ (both .mains .reshape 2 2).line.state = .reshape ∧
      (both .mains .reshape 2 2).relayTarget = (both .mains .reshape 2 2).supply.relay ∧
      (both .mains .reshape 2 2).line.startPending = false ∧ (both .mains .reshape 2 2).supply.tAbsence.isSome = true) ∧
    ((both .mains .reshape 2 2).ringingLoad ≤ 4 ∧ 4 < (both .mains .reshape 3 2).ringingLoad ∧
      (both .mains .reshape 4 1).portA.ringLoad ≤ 4 ∧ 4 < (both .mains .reshape 5 1).portA.ringLoad) ∧
    ((both .battery .reshape 2 1).supply.tLow.isSome = true ∧ (both .battery .reshape 2 1).portA.ringLoad ≤ 2 ∧
      2 < (both .battery .reshape 3 1).portA.ringLoad ∧ (both .battery .reshape 2 1).supply.state = .battery) ∧
    ((both .mains .reshape 2 2).inService = true ∧ (both .mains .reshape 2 2).svc.outQ = [] ∧
      (both .mains .reshape 2 2).link.notices = [] ∧
      (both .mains .reshape 2 2).portB.ring.map Ring.origin = some .line) ∧
    ((local_ .mains .reshape 5).portB.ring.map Ring.origin = some .loc ∧
      (local_ .mains .reshape 5).portB.ring.map Ring.partner = some (some (other .b)) ∧
      4 < (local_ .mains .reshape 5).ringingLoad ∧ ((local_ .mains .reshape 5).port (other .b)).state = .dialling) ∧
    ((local_ .mains .quiet 5).inService = false ∧ (local_ .mains .carrying 5).line.state = .carrying ∧
      { (local_ .mains .carrying 5).line with move := some (.far 1 [] 40) }.move.isSome = true) := by
  refine ⟨?_, by decide, by decide, by decide, by decide, by decide, by decide⟩
  intro x; cases x <;> decide

theorem witness_tests :
    let run (t : RunningTest) : Part := (from_ fun p => { p with diag := { p.diag with running := some t } }).part
    ((run (aTest .loopTest none false 0)).diag.running = some (aTest .loopTest none false 0)) ∧
    ((aTest .noiseScan none false 1).extended = false ∧ (aTest .noiseScan none false 1).events < 2 ∧
      2 ≤ (aTest .noiseScan none false 2).events) ∧
    (aTest .noiseScan none true 2).extended = true ∧
    ((run (aTest .portTest (some .b) false 0)).diag.running = some (aTest .portTest (some .b) false 0) ∧
      (aTest .portTest (some .b) false 0).port = some .b) ∧
    ((aTest .noiseScan none false 0).impulse = none ∧ ((105 : Symbol) - 100).toNat ≤ 5) := by decide

theorem witness_samples :
    (-4079 : Int) ≤ -4079 ∧ (-4079 : Int) ≤ 4079 ∧ (4079 : Int) ≤ 4079 ∧
    State.reset.part.portA.state = .through ∧
    (let p := (from_ fun p => { carrying .connected .joined p with
       voice := { p.voice with joinLink := true, chanA := some ⟨.full, true, (0, 0), 0⟩ } }).part
     p.portA.state.converts = true ∧ p.portB.state.converts = true ∧ p.voice.joinLink = true ∧
       (p.voice.chanA.map (·.active)) = some true) ∧
    (let p := (from_ fun p => (carrying .intercom .intercom p).modPort .a fun r => { r with heard := .otherPort }).part
     p.portA.state = .intercom ∧ p.portA.heard = .otherPort) ∧
    (let c : Channel := ⟨.half, true, (1232, 1168), 2⟩
     let p := (({ tracking 16012 { Tracker.initial with state := .locked, window := some (16000, false) } with
       sched := { State.reset.part.sched with slotA := .live } } : Part).setChan .a (some c))
     p.inService = true ∧ p.slot .a = .live ∧ p.chan .a = some c ∧ c.active = true ∧ 2 ≤ c.erasedRun ∧
       p.tracker.window = some (16000, false) ∧ (p.line.symbol - 16000).toNat < 13) ∧
    (let p := (from_ (carrying .idle .idle)).part
     p.portA.heard = .silence ∧ (p.portA.state.converts = true ∨ PortState.converts .dialling = true)) := by decide

theorem witness_arithmetic :
    (7 ≤ 7 ∧ 15 ≤ 15 ∧ (-4079 : Int) ≤ 4079) ∧ (2 ≤ Profile.default.maxBits ∧ Profile.default.maxBits ≤ 12) ∧
    (let H (S : Int) : Int := S - Profile.default.gap - Profile.default.margin
     H 61 < 0 ∧ 0 ≤ H 62 ∧ ((12 : Int) ≤ H 206 / 12) ∧ (H 206 - 12 * (H 206 / 12) = 0) ∧
       (1 ≤ H 83 / 12 ∧ 9 ≤ H 83 - 12 * (H 83 / 12)) ∧ (2 ≤ H 86 / 12 ∧ H 86 - 12 * (H 86 / 12) < 9) ∧
       H 62 / 12 = 0) ∧
    (15 ≤ 15 ∧ (-8 : Int) ≤ -8 ∧ (7 : Int) ≤ 7 ∧ (List.replicate 448 (⟨15, -8⟩ : LoadEntry)).length = 448) := by
  decide +kernel

theorem witness_whole_table :
    ∀ e ∈ List.replicate 448 (⟨15, 7⟩ : LoadEntry), e.b ≤ 15 ∧ -8 ≤ e.g ∧ e.g ≤ 7 := by
  intro e h; rw [List.eq_of_mem_replicate h]; decide

/-! ### Further clauses, and a reset at a full notice queue -/

/-- R115, R204: the port states that COMMAND_FULL sets are offered to a full notice queue, and the count of the lost is
kept (log entry 66). -/
theorem test_reset_counts_its_own_notices :
    (let p := (from_ fun p => onLink (fun l => { l with notices := List.replicate 16 (.bandMap 1) })
        (p.modPort .b fun r => { r with state := .idle })).part
     (p.commandFull.portB.state, p.commandFull.link.noticesLostCount, p.commandFull.link.noticesLost,
       p.commandFull.link.notices)) = (.disabled, 1, false, []) := by decide +kernel

/-- W6 UP over the DOWN window W1 (1.9, step 3), with the strict plan OFF. -/
theorem witness_band_window_conflict :
    let p := State.reset.part
    let ws := p.band.windows.set 6 ⟨true, 32, 8, .up, .carry⟩
    p.line.state = .quiet ∧ p.band.strict = false ∧ p.band.conflictFlag = false ∧ p.link.notices.length < 16 ∧
      ((List.range 448).filter fun t => ws.any (·.carries .down t) && ws.any (·.carries .up t)) ≠ [] := by
  decide +kernel

theorem witness_port_states :
    (let p := (from_ fun p => (carrying .idle .lockedOut p).modPort .b fun r =>
       { r with hook := .offHook, trip := some 400, heat := 1000 }).part
     p.portB.state = .lockedOut ∧ p.portB.hook = .offHook ∧ p.line.startPending = false ∧
       p.relayTarget = p.supply.relay ∧ p.inService = true ∧ p.svc.outQ = []) ∧
    (∀ st ∈ [PortState.cooldown, .shed, .through, .disabled],
      let p := (from_ (carrying .idle st)).part
      p.portB.state = st ∧ p.line.startPending = false ∧ p.relayTarget = p.supply.relay) ∧
    State.reset.part.inService = false := by decide

/-- A state in CARRYING whose downstream table has a payload to offer. -/
def offering (p : Part) : Part :=
  let q := carrying .idle .idle p
  { q with
    band := { q.band with windows := [⟨true, 32, 32, .down, .carry⟩] }
    load := { q.load with averages := List.replicate 64 (some 6400) } }

theorem witness_move_failed :
    let at_ (m : Option MoveFlight) : Part := (from_ fun p => onLine (fun l => { l with move := m, lateMove := some 1 })
      { offering p with monitor := { p.monitor with moveFailures := 2 } }).part
    let own := some (MoveFlight.own 1 [⟨40, ⟨3, 0⟩⟩] 2000 none)
    (at_ own).line.state = .carrying ∧ (at_ own).refreshHeard = at_ own ∧
      (at_ own).relayTarget = (at_ own).supply.relay ∧ (at_ own).line.startPending = false ∧
      (at_ own).line.move = own ∧ 2 ≤ (at_ own).monitor.moveFailures ∧
      inMoveRange 39 (at_ own).line.symbol = false ∧ inMoveRange 8001 (at_ own).line.symbol = false ∧
      ((at_ none).line.move = none ∧ (at_ none).line.lateMove = some 1) ∧
      (at_ own).supply.state ≠ .cutoff ∧
      payload (computeDown (perTone (resolve (at_ own).band.overlay (at_ own).band.windows)) (at_ own).load.setProfile
        (at_ own).load.averages ((at_ own).line.downInForce.getD [])) ≠ 0 ∧
      (let p := (lineAt .reshape (at_ none))
       p.line.state = .reshape ∧ p.line.move = none ∧ p.line.lateMove = some 1) ∧
      ((onSupply (fun v => { v with state := .cutoff }) (at_ own)).supply.state = .cutoff) := by
  simp only [computeDown_perTone]
  decide +kernel

theorem witness_reshape_offer :
    (let p := (from_ offering).part
     p.running = true ∧ p.supply.state ≠ .cutoff ∧ p.line.state = .carrying ∧ p.line.move = none ∧
       p.relayTarget = p.supply.relay ∧ p.svc.outQ.length < 15 ∧
       payload (computeDown (perTone (resolve p.band.overlay p.band.windows)) p.load.setProfile p.load.averages
         (p.line.downInForce.getD [])) ≠ 0) ∧
    (let p (taken : Bool) : Part := (from_ fun p => onLine (fun l => { l with
       state := .reshape, reasons := [.notch], abandoned := 1, reshape := some ⟨[.margin], 8000, taken⟩ }) (offering p)).part
     (p true).line.state = .reshape ∧ (p true).line.abandoned < 2 ∧ (p true).line.reasons ≠ [] ∧
       (p true).line.reshape = some ⟨[.margin], 8000, true⟩ ∧ (p false).line.reshape = some ⟨[.margin], 8000, false⟩) := by
  simp only [computeDown_perTone]
  decide +kernel

theorem witness_on_hook :
    let at_ (a b : PortState) : Part := (from_ fun p => (((carrying a b p).modPort .a fun r =>
      { r with hook := .offHook, announced := true }).modPort .b fun r =>
      { r with hook := .offHook, shedPending := true }).setChan .a (some ⟨.half, true, (0, 0), 0⟩)).part
    (∀ st ∈ [PortState.dialling, .connected, .held, .intercom, .joined, .parked],
      (at_ st .joined).portA.state = st ∧ (at_ st .joined).portA.hook = .offHook ∧ (at_ .idle st).portB.state = st) ∧
      (at_ .connected .joined).line.request = .part ∧ (at_ .connected .joined).supply.relay = true ∧
      (at_ .connected .joined).diag.running = none ∧ (at_ .connected .joined).chan .a = some ⟨.half, true, (0, 0), 0⟩ ∧
      (at_ .connected .joined).svc.outQ = [] ∧ (at_ .intercom .intercom).portB.state = .intercom ∧
      (at_ .connected .joined).portB.shedPending = true ∧
      (((at_ .dialling .idle).modPort .b fun r =>
        { r with state := .ringing, ring := some ⟨2, 0, 250, .loc, some .a, none⟩ }).isCaller .a = true) := by
  decide

theorem witness_breaks :
    (let p := (from_ fun p => (carrying .connected .held p).modPort .a fun r => { r with digit := some 10 }).part
     p.inService = true ∧ p.portA.state = .connected ∧ p.portA.digit = some 10 ∧ p.svc.outQ = [] ∧
       pulseDigit 10 = some (.num 0) ∧ pulseDigit 11 = none ∧ p.portB.state = .held ∧ p.portB.digit = none) ∧
    (∀ ms ∈ [12, 34, 81, 94, 261, 299], 12 ≤ ms ∧ ms < 300 ∧ ¬ (35 ≤ ms ∧ ms ≤ 80) ∧ ¬ (95 ≤ ms ∧ ms ≤ 260)) ∧
    (95 ≤ 95 ∧ 260 ≤ 260) ∧
    (let p (b : PortState) : Part := (from_ fun p => ((carrying .dialling b p).modPort .a fun r =>
       { r with digit := some 10 }).modPort .b fun r => { r with
         digit := some 11, ring := some ⟨0, 0, 400, .loc, some .a, some 60000⟩ }).part
     (p .held).inService = true ∧ (p .held).portA.state = .dialling ∧ (p .held).portA.digit = some 10 ∧
       (p .held).isCaller .a = false ∧ (p .held).svc.outQ = [] ∧ (p .held).portB.state = .held ∧
       (p .held).portB.digit = some 11 ∧ (p .ringing).isCaller .a = true) := by decide

theorem witness_connect :
    let at_ (n : Nat) : Part := (from_ fun p => capacity n (carrying .dialling .idle p)).part
    (at_ 2).inService = true ∧ (at_ 2).portA.state = .dialling ∧ (at_ 2).isCaller .a = false ∧
      (at_ 2).capC = (at_ 2).channelDemand + 2 ∧ (at_ 2).svc.outQ = [] ∧ (at_ 1).capC < (at_ 1).channelDemand + 2 ∧
      (let p := (from_ fun p => (carrying .connected .joined p).setChan .a (some ⟨.full, true, (0, 0), 0⟩)).part
       p.portA.state = .connected ∧ p.chan .a = some ⟨.full, true, (0, 0), 0⟩ ∧ p.portB.state = .joined) ∧
      (let g : Ring := ⟨0, 0, 400, .loc, some .a, some 60000⟩
       let p (n : Nat) : Part := (from_ fun p => (capacity n (carrying .dialling .ringing p)).modPort .b fun r =>
         { r with ring := some g }).part
       (p 3).inService = true ∧ (p 3).portA.state = .dialling ∧ (p 3).isCaller .a = true ∧ (p 3).portB.ring = some g ∧
         g.origin = .loc ∧ (p 3).channelDemand + 3 ≤ (p 3).capC ∧ (p 2).channelDemand + 2 = (p 2).capC ∧
         (p 1).capC < (p 1).channelDemand + 2 ∧ (p 3).svc.outQ = []) := by
  decide +kernel

/-- A fifth event that passes no lock test, in SEARCHING. -/
theorem witness_no_lock :
    let p := tracking 40000 { Tracker.initial with state := .searching, history := [1, 2, 3, 4] }
    p.inService = true ∧ p.tracker.state = .searching ∧ p.tracker.window = none ∧ p.tracker.event = none ∧
      lockTest ((p.tracker.history ++ [p.line.symbol]).drop (p.tracker.history.length + 1 - 8)) = none := by decide

/-- A tone of the measurable set and one outside it, measured and not. -/
theorem witness_seeded :
    (32 < 448 ∧ resolve false resetPlan 32 = .downCarry) ∧ (0 < 448 ∧ resolve false resetPlan 0 ≠ .downCarry) := by
  decide +kernel

/-- R57: ROLE before GAIN, whatever the tones; the lowest failing tone; BITS at its ends; GAIN_SUM before CAPACITY. -/
theorem test_checks_in_order :
    let up : List Role := List.replicate 8 .upCarry
    validateTable up 12 [⟨2, 4⟩, ⟨12, 0⟩, ⟨13, 0⟩, ⟨1, 0⟩] = some (.bits, 2) ∧
      validateTable up 12 (List.replicate 8 ⟨0, 4⟩ ++ [⟨2, 0⟩]) = some (.role, 8) ∧
      validateTable up 12 [⟨2, -8⟩, ⟨2, 3⟩, ⟨0, 1⟩, ⟨2, 4⟩] = some (.gain, 3) ∧
      validateTable up 12 [⟨2, 3⟩] = some (.gainSum, 0) ∧ validateTable up 12 [⟨7, 0⟩] = some (.capacity, 0) := by
  decide +kernel

/-- A MOVE that names a tone twice, one that does not, and a tone at the table's end. -/
theorem witness_move_forms :
    ¬ (([⟨40, ⟨2, 0⟩⟩, ⟨40, ⟨3, 0⟩⟩] : List MoveEntry).map (·.tone)).Nodup ∧
      (([⟨40, ⟨2, 0⟩⟩, ⟨447, ⟨3, 0⟩⟩] : List MoveEntry).map (·.tone)).Nodup ∧
      447 < (List.replicate 448 (⟨0, 0⟩ : LoadEntry)).length ∧
      (∀ x ∈ ([⟨40, ⟨2, 0⟩⟩] : List MoveEntry), x.tone ≠ 446) := by decide +kernel

/-- R64: the worst margin stands at the lowest of two tones with it. -/
theorem test_worst_margin_tie :
    lowest [⟨40, ⟨2, 0⟩, 5⟩, ⟨41, ⟨2, 0⟩, 3⟩, ⟨50, ⟨3, 0⟩, 3⟩] = some ⟨41, ⟨2, 0⟩, 3⟩ := by decide

/-- A table segment and a reply piece at their longest. -/
theorem witness_message_lengths :
    (List.replicate 224 (0 : Byte)).length = 224 ∧ (List.replicate 247 (0 : Byte)).length ≤ 247 := by
  simp only [List.length_replicate]; decide

/-- The entries to BATTERY_LOW, from it and to MAINS in service, with a reshape to be had under each overlay, and with a
move in flight. -/
theorem witness_supply_entries_in_service :
    let at_ (st : SupplyState) (m : Option MoveFlight) : Part := (from_ fun p => onLine (fun l => { l with move := m })
      (onSupply (fun v => { v with state := st, tLow := some 0, tReturn := some 0, tPresence := some 0 }) (offering p))).part
    (∀ on : Bool, payload (computeDown (perTone (resolve on (at_ .battery none).band.windows))
      (at_ .battery none).load.setProfile (at_ .battery none).load.averages
      ((at_ .battery none).line.downInForce.getD [])) ≠ 0) ∧
    (at_ .battery none).inService = true ∧ (at_ .battery none).line.state = .carrying ∧
      (at_ .battery none).line.move = none ∧ (at_ .battery (some (.far 1 [] 40))).line.move.isSome = true ∧
      (at_ .battery none).supply.state = .battery ∧ (at_ .battery none).supply.tLow.isSome = true ∧
      (at_ .battery none).supply.tPresence.isSome = true ∧ (at_ .batteryLow none).supply.state = .batteryLow ∧
      (at_ .batteryLow none).supply.tReturn.isSome = true ∧ (at_ .batteryLow none).supply.tPresence.isSome = true := by
  simp only [computeDown_perTone]
  decide +kernel

/-- 6.3: the voice bytes of −1000 then 3000, FULL and HALF. -/
theorem test_voice_bytes :
    voiceBytes .full (-1000, 3000) = [0xDF, 0x77] ∧ voiceBytes .half (-1000, 3000) = [0xD7] := by decide

/-- A local ring beside a ringing port, its load with the other's at the budget and one above it; INTERCOM above the budget,
to a port under test, to a port that is not IDLE, and with either port SHED. -/
theorem witness_local_ring_refusals :
    let at_ (a b : PortState) (budget : Nat) (t : Option RunningTest) : Part := (from_ fun p =>
      onSupply (fun v => { v with budget := budget }) { carrying a b p with diag := { p.diag with running := t } }).part
    ((at_ .ringing .idle 6 none).portB.state = .idle ∧ (at_ .ringing .idle 6 none).underTest .b = false ∧
      (at_ .ringing .idle 6 none).portA.state = .ringing ∧
      (at_ .ringing .idle 6 none).portB.ringLoad + (at_ .ringing .idle 6 none).portA.ringLoad = 6 ∧
      (at_ .ringing .idle 5 none).supply.budget < 6) ∧
    (let p := at_ .dialling .idle 2 none
     p.portA.state = .dialling ∧ p.portB.state = .idle ∧ p.underTest .b = false ∧ p.supply.budget < p.portB.ringLoad) ∧
    (let p := at_ .dialling .idle 6 (some (aTest .portTest (some .b) false 0))
     p.portB.state ≠ .shed ∧ p.underTest .b = true ∧ p.portA.state ≠ .shed) ∧
    (let p := at_ .dialling .parked 6 none
     p.portA.state = .dialling ∧ p.portB.state ≠ .idle ∧ p.portB.state ≠ .shed ∧ p.underTest .b = false) ∧
    (at_ .shed .dialling 0 none).portA.state = .shed := by decide

/-- JOIN of an announced port B in service, of one that is not announced, and of a shed one, with room for one message. -/
theorem witness_join_signals :
    let at_ (b : PortState) (n : Bool) : Part := (from_ fun p =>
      { (carrying .connected b p).modPort .b fun r => { r with announced := n } with
        svc := { p.svc with outQ := List.replicate 15 .confirm } }).part
    ((at_ .dialling true).portA.state = .connected ∧ (at_ .dialling true).portB.state = .dialling ∧
      (at_ .dialling true).inService = true ∧ (at_ .dialling true).portB.announced = true ∧
      (at_ .dialling true).svc.outQ.length < 16) ∧
    (at_ .dialling false).portB.announced = false ∧ (at_ .shed true).portB.state = .shed := by decide

/-- The refusals of RUN_DIAG, and a running test of each kind, the LOOP_TEST with the relay to go back. -/
theorem witness_diagnostic_refusals :
    let at_ (l : LineState) (v : SupplyState) (t : Option RunningTest) : Part := (from_ fun p =>
      onSupply (fun w => { w with state := v }) { lineAt l p with diag := { p.diag with running := t } }).part
    ((at_ .quiet .mains none).diag.running = none ∧ (at_ .quiet .mains none).supply.state ≠ .cutoff ∧
      (at_ .quiet .mains none).supply.state ≠ .shutdown ∧ (at_ .dropped .mains none).line.state = .dropped ∧
      (at_ .fallback .mains none).line.state = .fallback ∧
      ∀ l ∈ [LineState.sounding, .measuring, .loading, .carrying, .reshape],
        ¬((at_ l .mains none).line.state = .quiet ∨ (at_ l .mains none).line.state = .dropped ∨
          (at_ l .mains none).line.state = .fallback)) ∧
    ((at_ .quiet .cutoff none).supply.state = .cutoff ∧ (at_ .quiet .shutdown none).supply.state = .shutdown) ∧
    ((at_ .quiet .mains none).modPort .a fun r => { r with hook := .offHook }).portA.hook = .offHook ∧
    (let p := (from_ (carrying .shed .parked)).part
     p.portA.state = .shed ∧ p.portB.state ≠ .idle ∧ p.portB.state ≠ .disabled ∧ p.portB.state ≠ .shed ∧
       p.relayTarget = p.supply.relay) ∧
    (∀ t ∈ [aTest .loopTest none false 0, aTest .noiseScan none true 0, aTest .portTest (some .a) false 0,
        aTest .portTest (some .b) false 0],
      (at_ .quiet .mains (some t)).diag.running = some t ∧ (at_ .quiet .mains (some t)).link.notices.length < 16) ∧
    (let p := onSupply (fun v => { v with relay := true }) (at_ .quiet .mains (some (aTest .loopTest none false 0)))
     p.supply.relay = true ∧ p.line.request = .through ∧ p.line.startPending = false) := by decide

/-- At entry to CARRYING: a port that dials unannounced, a caller beside it, an announced port and one in another state. -/
theorem witness_enter_carrying_ports :
    let g : Ring := ⟨2, 0, 250, .loc, some .b, some 60000⟩
    let at_ (a b : PortState) (n : Bool) : Part := (from_ fun p => onLine (fun l =>
      { l with state := .loading, switch := some ⟨1, true, true, false⟩ })
      (((carrying a b p).modPort .a fun r => { r with ring := some g }).modPort .b fun r => { r with announced := n })).part
    ((at_ .dialling .dialling false).line.confirmed = true ∧ (at_ .dialling .dialling false).line.state = .loading ∧
      ∀ x, ((at_ .dialling .dialling false).port x).state = .dialling ∧
        ((at_ .dialling .dialling false).port x).announced = false ∧
        (at_ .dialling .dialling false).isCaller x = false) ∧
    ((at_ .ringing .dialling false).portB.state = .dialling ∧ (at_ .ringing .dialling false).isCaller .b = true) ∧
    (at_ .idle .dialling true).portB.announced = true ∧ (at_ .idle .parked false).portB.state ≠ .dialling ∧
    (at_ .idle .idle false).svc.outQ.length < 15 ∧ (at_ .idle .idle false).link.notices.length < 15 := by
  refine ⟨⟨by decide, by decide, fun x => by cases x <;> decide⟩, by decide⟩

/-- At a drop: ports of calls, rings of each origin, ports that dial alone and as a caller, and a port in INTERCOM. -/
theorem witness_drop_ports :
    let at_ (a b : PortState) (o : Origin) (c : Option PortId) : Part := (from_ fun p =>
      (carrying a b p).modPort .a fun r => { r with ring := some ⟨2, 0, 250, o, c, none⟩ }).part
    (let p := at_ .connected .joined .line none
     p.running = true ∧ p.inService = true ∧ p.supply.relay = true ∧ p.supply.state ≠ .shutdown ∧
       p.supply.state ≠ .cutoff ∧ p.portA.state = .connected ∧ p.portB.state = .joined) ∧
    (at_ .idle .held .line none).portB.state = .held ∧
    (let p := at_ .ringing .dialling .line none
     p.portA.state = .ringing ∧ p.portA.ring = some ⟨2, 0, 250, .line, none, none⟩ ∧ p.portB.state = .dialling ∧
       p.isCaller .b = false) ∧
    (at_ .ringing .idle .loc none).portA.ring = some ⟨2, 0, 250, .loc, none, none⟩ ∧
    (let p := at_ .ringing .dialling .loc (some .b)
     p.portB.state = .dialling ∧ (p.port (other .b)).state = .ringing ∧
       (p.port (other .b)).ring = some ⟨2, 0, 250, .loc, some .b, none⟩) ∧
    (at_ .intercom .intercom .line none).portA.state ∉ [PortState.connected, .held, .joined, .ringing, .dialling] := by
  decide

/-- An event that opens at the very symbol at which the window opens, and one that goes on into it. -/
theorem witness_hit_opens_window :
    let t : Tracker := ⟨.locked, [], some (15990, 15994), some 4000, some 16006, none, 1, 1⟩
    (tracking 16000 t).inService = true ∧ (tracking 16000 t).tracker.state = .locked ∧
      (tracking 16000 t).tracker.window = none ∧ (tracking 16000 t).tracker.next = some (16000 + 6) ∧
      (tracking 16000 t).tracker.period = some 4000 ∧ (tracking 16000 t).tracker.event = some (15990, 15994) ∧
      decide (5 < ((16000 : Symbol) - 15994).toNat) = true ∧ decide (5 < ((16000 : Symbol) - 15995).toNat) = false := by
  decide

/-- A move of either end that resolves with a reason pending, by its refusal, its timer or its switch symbol, with a reshape
to be had before the switch and after it; in CUTOFF; and one of the exchange unit's that changes U, and one that does not. -/
theorem witness_move_resolves_with_reasons :
    let es : List MoveEntry := [⟨40, ⟨3, 0⟩⟩]
    let at_ (m : MoveFlight) : Part := (from_ fun p => onLine (fun l => { l with move := some m, reasons := [.notch] })
      { offering p with monitor := { p.monitor with moveFailures := 1 } }).part
    let own := at_ (.own 255 es 2000 none)
    own.line.state = .carrying ∧ own.refreshHeard = own ∧ own.relayTarget = own.supply.relay ∧
      own.line.startPending = false ∧ own.line.move = some (.own 255 es 2000 none) ∧ own.monitor.moveFailures < 2 ∧
      own.line.reasons ≠ [] ∧ own.supply.state ≠ .cutoff ∧ own.svc.outQ.length < 8 ∧ own.link.notices.length < 8 ∧
      (onSupply (fun v => { v with state := .cutoff }) own).supply.state = .cutoff ∧
      (at_ (.own 255 es 2000 (some 40))).line.move = some (.own 255 es 2000 (some 40)) ∧
      (at_ (.far 0 es 40)).line.move = some (.far 0 es 40) ∧
      (∀ down ∈ [own.line.downInForce, own.line.downInForce.map (applyMove · es)],
        payload (computeDown (perTone (resolve own.band.overlay own.band.windows)) own.load.setProfile own.load.averages
          (down.getD [])) ≠ 0) ∧
      own.line.upInForce.map (fun t => payload (applyMove t (List.replicate 8 ⟨40, ⟨0, 0⟩⟩))) ≠ own.capU ∧
      own.line.upInForce.map (fun t => payload (applyMove t [⟨40, ⟨5, 0⟩⟩])) = own.capU := by
  simp only [computeDown_perTone]
  decide +kernel

/-- An open reshape that its deadline, a TABLE_REJECT or an UP_TABLE abandons, with no reason pending, with one, and at the
third time; and one that switches, below its floor and at it, with a reason pending and without. -/
theorem witness_reshape_ends :
    let table : List LoadEntry := List.replicate 64 ⟨4, 0⟩
    let at_ (n : Nat) (rs : List Reason) (floor : Int) : Part := (from_ fun p =>
      let q := offering p
      { onLine (fun l => { l with
          state := .reshape, reasons := rs, abandoned := n, reshape := some ⟨[.margin, .farEnd], 8000, true⟩
          switch := some ⟨1, true, true, false⟩, downOffered := some table, upOffered := some table
          session := some ⟨0, 0, 255⟩ }) q with
        load := { q.load with offeredProfile := some { Profile.default with floor := floor } } }).part
    let p := at_ 1 [.notch] 1024
    p.line.state = .reshape ∧ p.supply.state ≠ .cutoff ∧ p.line.reshape = some ⟨[.margin, .farEnd], 8000, true⟩ ∧
      p.line.abandoned < 2 ∧ p.line.reasons ≠ [] ∧ p.line.move = none ∧ (at_ 1 [] 0).line.reasons = [] ∧
      2 ≤ (at_ 2 [] 0).line.abandoned ∧ p.log.records.length < 30 ∧ p.link.notices.length < 8 ∧
      p.svc.outQ.length < 8 ∧ p.line.confirmed = true ∧ p.relayTarget = p.supply.relay ∧ p.sched.slotA = .empty ∧
      p.sched.slotB = .empty ∧ 32 * payload (p.line.downOffered.getD []) = 1024 ∧
      (p.load.offeredProfile.map (·.floor)) = some 1024 ∧ ((at_ 1 [] 1056).load.offeredProfile.map (·.floor)) = some 1056 ∧
      (∀ down ∈ [p.line.downInForce, p.line.downOffered],
        payload (computeDown (perTone (resolve p.band.overlay p.band.windows)) p.load.setProfile p.load.averages
          (down.getD [])) ≠ 0) := by
  simp only [computeDown_perTone]
  decide +kernel

/-- An invalid UP_TABLE: a bit on a tone that is not the part's. -/
theorem witness_up_table_rejected :
    let es : List Byte := List.replicate 224 0x20
    let fs : List Byte := List.replicate 224 0x20
    let p := (from_ fun p => { onLine (fun l => { l with
        state := .reshape, reshape := some ⟨[.notch], 8000, false⟩, segs := some ⟨0, some es, none⟩ })
        (carrying .idle .idle p) with
      band := { p.band with offeredMap := some [] }, load := { p.load with offeredProfile := some .default } }).part
    fs.length = 224 ∧ p.line.state = .reshape ∧ p.line.reshape = some ⟨[.notch], 8000, false⟩ ∧
      p.line.segs = some ⟨0, some es, none⟩ ∧ p.svc.outQ.length < 16 ∧ p.relayTarget = p.supply.relay ∧
      validateTable (p.band.offeredMap.getD []) ((p.load.offeredProfile.map (·.maxBits)).getD 0)
        ((es ++ fs).map entryOfByte) = some (.role, 0) := by
  decide +kernel

/-- Port A live in FULL and port B in HALF, at the least U that holds them; and slots of ended channels. -/
theorem witness_voice_bytes :
    let at_ (a b : Slot) : Part := (from_ fun p => ((((capacity 4 (carrying .connected .connected p)).setChan .a
      (some ⟨.full, true, (0, 0), 0⟩)).setChan .b (some ⟨.half, true, (0, 0), 0⟩)).setSlot .a a).setSlot .b b).part
    (at_ .live .live).inService = true ∧ (at_ .live .live).sched.lastReport = none ∧
      (at_ .live .live).slot .a = .live ∧ (at_ .live .live).chan .a = some ⟨.full, true, (0, 0), 0⟩ ∧
      (at_ .live .live).slot .b = .live ∧ (at_ .live .live).chan .b = some ⟨.half, true, (0, 0), 0⟩ ∧
      1 + 2 + 1 ≤ (at_ .live .live).capU.getD 0 ∧ (at_ (.ended .half true) (.ended .full false)).slot .a = .ended .half true ∧
      (at_ (.ended .half true) (.ended .full false)).slot .b = .ended .full false := by decide +kernel

/-- 7.7: the shrink of its first reshape and the growth of its second; and the shrink of two FULL calls at every C below. -/
theorem test_capacity_tables :
    let full : Place := some (.full, true)
    let half : Place := some (.half, true)
    let held : Place := some (.half, false)
    [5, 4, 3, 2, 1].map (shrunkPlaces · full full) =
        [(full, full), (full, half), (half, half), (half, held), (held, held)] ∧
      grownPlaces 2 half held = (half, held) ∧ grownPlaces 6 half held = (full, full) ∧
      [5, 4, 3, 2, 1].map (grownPlaces · held held) =
        [(full, full), (full, half), (half, half), (half, held), (held, held)] := by decide

/-- Port A live and port B about to enter, both CONNECTED in FULL, at the capacity `c`; or both HELD. -/
def twoCalls (c : Nat) (active : Bool) : Part := (from_ fun p =>
  let st : PortState := if active then .connected else .held
  let ch : Channel := ⟨if active then .full else .half, active, (1, 2), 1⟩
  onSched (fun x => { x with switches := [⟨.b, 7, .begin⟩, ⟨.a, 8, .finish⟩] })
    (onLog (fun l => { l with records := List.replicate 29 (aRecord .toSend 0) })
      { ((((capacity c (carrying st st p)).setChan .a (some ch)).setChan .b (some ch)).setSlot .a .live) with
        svc := { p.svc with outQ := List.replicate 13 .confirm } })).part

/-- 7.7: at C = 2 port A is left in HALF and port B HELD, which alone is told and recorded. -/
theorem test_shrink_of_two_calls :
    let q := match exec .channelSwitch ⟨[], twoCalls 2 true⟩ with
      | .next t => t.part
      | _ => twoCalls 2 true
    q.portA.state = .connected ∧ q.mode .a = some .half ∧ q.portB.state = .held ∧ q.hold .b = some 30000 ∧
      (q.log.records.drop 29).map (·.details) = [[2, 2, 1, 2]] := by decide +kernel

/-- Two ports in the arrangement from the one's channel switch symbol on, at every capacity that shrinks or grows them, with
the last room for messages and records; and a switch symbol of each kind. -/
theorem witness_two_channels :
    (∀ c ∈ [1, 2, 3, 4, 5], ∀ active ∈ [true, false],
      let p := twoCalls c active
      p.running = true ∧ p.inService = true ∧ p.sched.switches = ⟨.b, 7, .begin⟩ :: [⟨.a, 8, .finish⟩] ∧
        (∀ z ∈ ([⟨.a, 8, .finish⟩] : List ChanSwitch), z.at_ ≠ 7) ∧ p.capC = c ∧ p.svc.outQ.length < 14 ∧
        p.log.records.length + 3 ≤ 32 ∧ p.link.notices.length < 8 ∧
        Place.bytes (p.view .a) = (if active then 2 else 0)) ∧
    (onSched (fun x => { x with switches := [⟨.a, 8, .finish⟩] }) (twoCalls 3 true)).sched.switches = ⟨.a, 8, .finish⟩ :: [] ∧
    (onSched (fun x => { x with switches := [⟨.a, 8, .beginEnded .full true⟩] }) (twoCalls 3 true)).sched.switches =
      ⟨.a, 8, .beginEnded .full true⟩ :: [] := by decide +kernel

/-- The last room for one record, for two and for three, and for the notices that follow them. -/
theorem witness_record_room :
    let at_ (n : Nat) : Part := (from_ (onLog fun l => { l with records := List.replicate n (aRecord .toSend 0) })).part
    (at_ 31).log.records.length + 1 ≤ 32 ∧ (at_ 30).log.records.length + 2 ≤ 32 ∧ (at_ 29).log.records.length + 3 ≤ 32 ∧
      (onLink (fun l => { l with notices := List.replicate 11 aStats }) (at_ 0)).link.notices.length < 12 := by decide +kernel

/-- Port A in a state with a hook, port B idle, the line in a state with a start that waits or none, the relay through
exactly where port A is THROUGH, and a running test or none: nothing waits to follow. -/
def telephone (a : PortState) (h : Hook) (l : LineState) (waits : Bool) (t : Option RunningTest) : Part := (from_ fun p =>
  let out : Bool := l == .quiet || l == .fallback
  { (onSupply (fun v => { v with relay := a != .through }) (onLine (fun x => { x with
      state := l, startPending := waits, request := if out then .through else .part }) p)) with
    portA := { Port.initial a with enable := true, hook := h }
    portB := { Port.initial .idle with enable := true }
    diag := { p.diag with running := t } }).part

/-- A hook declared in a state that it does not change, and one that finds its hook so already, in SHED and in SHUTDOWN. -/
theorem witness_hook_kept :
    (∀ st ∈ [PortState.tripped, .cooldown, .lockedOut, .disabled, .idle], ∀ h ∈ [Hook.onHook, .offHook],
      let p := telephone st h .dropped false none
      p.mayStart = false ∧ p.relayTarget = p.supply.relay ∧ p.refreshHeard = p ∧ p.running = true ∧
        p.supply.state ≠ .shutdown ∧ p.underTest .a = false ∧ p.loopTesting = false ∧ p.portA.state = st ∧
        p.portA.hook = h ∧ p.link.notices.length < 10) ∧
    (∀ h ∈ [Hook.onHook, .offHook],
      let p := telephone .through h .fallback false none
      p.mayStart = false ∧ p.relayTarget = p.supply.relay ∧ p.refreshHeard = p ∧ p.portA.state = .through ∧
        p.portA.hook = h) ∧
    (let p := telephone .shed .onHook .dropped false none
     p.mayStart = false ∧ p.relayTarget = p.supply.relay ∧ p.refreshHeard = p ∧ p.portA.state = .shed) ∧
    (let p := onSupply (fun v => { v with state := .shutdown }) (telephone .through .onHook .quiet false none)
     p.mayStart = false ∧ p.relayTarget = p.supply.relay ∧ p.refreshHeard = p ∧ p.supply.state = .shutdown) := by decide +kernel

/-- A start that waits for port A's on-hook alone, in both states it can wait in; and the relay's move that waits for it. -/
theorem witness_start_waits_for_hook :
    (∀ l ∈ [LineState.quiet, .fallback],
      let p := telephone .through .offHook l true none
      p.mayStart = false ∧ p.relayTarget = p.supply.relay ∧ p.refreshHeard = p ∧ p.supply.relay = false ∧
        p.line.startPending = true ∧ p.diag.running = none ∧ p.supply.state ≠ .cutoff ∧ p.line.state = l ∧
        p.link.notices.length < 12) ∧
    (let p := telephone .through .offHook .dropped false none
     p.mayStart = false ∧ p.relayTarget = p.supply.relay ∧ p.refreshHeard = p ∧ p.supply.relay = false ∧
       p.line.request = .part) := by decide +kernel

/-- An off-hook while the port rings, and from IDLE beside a test that does not watch it. -/
theorem witness_off_hook_beside_a_test :
    (telephone .ringing .onHook .dropped false none).portA.state = .ringing ∧
    (let p := telephone .idle .onHook .dropped true (some (aTest .noiseScan none false 0))
     p.mayStart = false ∧ p.relayTarget = p.supply.relay ∧ p.refreshHeard = p ∧ p.portA.state = .idle ∧
       p.portA.hook = .onHook ∧ p.underTest .a = false ∧ p.loopTesting = false) := by decide +kernel

/-- An off-hook that aborts a PORT_TEST or a LOOP_TEST on port A, in each state the port can be in, with the request at PART
and at THROUGH, and with a start that waits for the test's end or none. -/
theorem witness_off_hook_aborts :
    (∀ st ∈ [PortState.idle, .disabled], ∀ waits ∈ [true, false],
      let t := aTest .portTest (some .a) false 0
      let p := telephone st .onHook .dropped waits (some t)
      p.mayStart = false ∧ p.relayTarget = p.supply.relay ∧ p.refreshHeard = p ∧ p.diag.running = some t ∧
        t.test = .portTest ∧ t.port = some .a ∧ p.portA.state = st ∧ p.portA.hook = .onHook ∧ p.line.state = .dropped ∧
        p.supply.relay = true ∧ p.line.startPending = waits ∧ p.supply.state ≠ .cutoff ∧ p.link.notices.length < 10) ∧
    (∀ st ∈ [PortState.idle, .disabled, .tripped, .cooldown, .lockedOut], ∀ l ∈ [LineState.quiet, .fallback, .dropped],
      ∀ waits ∈ [true, false],
      let t := aTest .loopTest none false 0
      let p := telephone st .onHook l waits (some t)
      p.mayStart = false ∧ p.relayTarget = p.supply.relay ∧ p.refreshHeard = p ∧ p.diag.running = some t ∧
        t.test = .loopTest ∧ p.portA.state = st ∧ p.portA.hook = .onHook ∧
        p.line.request = (if l = .dropped then .part else .through)) := by decide +kernel

/-- A DISABLED port under a PORT_TEST whose hook stands OFF_HOOK, for its on-hook and for an off-hook declared afresh. -/
theorem witness_disabled_under_test :
    let p := telephone .disabled .offHook .dropped false (some (aTest .portTest (some .a) false 0))
    p.mayStart = false ∧ p.relayTarget = p.supply.relay ∧ p.refreshHeard = p ∧ p.portA.state = .disabled ∧
      p.underTest .a = true ∧ p.portA.hook = .offHook := by decide +kernel

/-- A test's end that a start waits for, with the line DROPPED and with it QUIET or FALLBACK and port A on-hook; one that
waits for port A too; and one that no start waits for. -/
theorem witness_start_waits_for_test :
    (∀ t ∈ [aTest .loopTest none false 0, aTest .noiseScan none false 1, aTest .noiseScan none true 2,
        aTest .portTest (some .b) false 0], ∀ l ∈ [LineState.quiet, .fallback, .dropped],
      let st : PortState := if t.test = .loopTest ∨ l = .dropped then .idle else .through
      let p := telephone st .onHook l true (some t)
      p.running = true ∧ p.diag.running = some t ∧ p.line.startPending = true ∧ p.supply.state ≠ .cutoff ∧
        p.supply.state ≠ .shutdown ∧ p.line.state = l ∧ p.portA.hook = .onHook ∧
        (l = .dropped → p.supply.relay = true) ∧ p.link.notices.length < 12) ∧
    (let p := telephone .through .offHook .quiet true (some (aTest .noiseScan none false 1))
     p.line.state ≠ .dropped ∧ p.portA.hook = .offHook) ∧
    (let p := telephone .idle .onHook .quiet false (some (aTest .loopTest none false 0))
     p.line.startPending = false ∧ p.line.request = .through ∧ p.supply.relay = true) := by decide +kernel

/-- R24, 2.12: port A's on-hook that the start waited for. -/
theorem test_on_hook_lets_the_start_enter :
    (match exec (.onHook .a) ⟨[], telephone .through .offHook .quiet true none⟩ with
      | .next t => some (t.part.line.state, t.part.line.callsSent, t.part.supply.relay, t.part.portA.state)
      | _ => none) = some (.sounding, 1, true, .idle) := by decide +kernel

/-- R171: the off-hook of a LOOP_TEST in QUIET, with the request at THROUGH. -/
theorem test_off_hook_ends_loop_test :
    (match exec (.offHook .a) ⟨[], telephone .idle .onHook .quiet false (some (aTest .loopTest none false 0))⟩ with
      | .next t => some (t.part.portA.state, t.part.portA.hook, t.part.supply.relay, t.part.diag.running)
      | _ => none) = some (.through, .offHook, false, none) := by decide +kernel

/-- A timer that GET_LINE_STATUS shows, at a whole second, and a running test that GET_DIAG_RESULT times. -/
theorem witness_status_times :
    let p := onLine (fun l => { l with holdoff := some 5000 }) State.reset.part
    p.line.holdoff = some 5000 ∧ p.lineStatus.holdoff = some (msToSeconds 5000) := ⟨rfl, rfl⟩

end Sys2Proof.Tests
end

section
/-! SUPPORT and the settled statement: the downstream computation's settling of one tone (R52, R53). One equation for each
of R52's cases; R53 is a step of its own that every case but the first goes through. -/

namespace Sys2Proof.Machine

/-- R53's step: a tone with fewer than two bits carries nothing and is not boosted. -/
def Work.dropSingleBit (w : Work) : Work :=
  if w.entry.b ≤ 1 then { w with entry := entryOff, boosted := false } else w

theorem Work.dropSingleBit_of_le_one {w : Work} (h : w.entry.b ≤ 1) :
    w.dropSingleBit = { w with entry := entryOff, boosted := false } := if_pos h

theorem Work.dropSingleBit_of_two_le {w : Work} (h : 2 ≤ w.entry.b) : w.dropSingleBit = w :=
  if_neg (Nat.not_le.mpr h)

theorem Work.dropSingleBit_bits_ne_one (w : Work) : w.dropSingleBit.entry.b ≠ 1 := by
  rcases Nat.lt_or_ge 1 w.entry.b with h | h
  · rw [Work.dropSingleBit_of_two_le h]
    exact Nat.ne_of_gt h
  · rw [Work.dropSingleBit_of_le_one h]
    exact Nat.zero_ne_one

section Cases
variable {p : Profile} {S H : Int} {n : Nat}

/-- R52, not loadable. -/
theorem settleTone_of_neg (hH : S - p.gap - p.margin = H) (hneg : H < 0) : settleTone p S = Work.off := by
  subst hH
  exact if_pos hneg

/-- R52 for a headroom with `n` for b_raw: capped, boosted or trimmed, and then R53. -/
theorem settleTone_of_nonneg (hH : S - p.gap - p.margin = H) (h0 : 0 ≤ H) (hn : H / 12 = n) :
    settleTone p S = Work.dropSingleBit
      (if p.maxBits ≤ n then ⟨n, H - 12 * n, ⟨p.maxBits, -(min (H - 12 * p.maxBits) 8)⟩, false⟩
      else if 9 ≤ H - 12 * n then ⟨n, H - 12 * n, ⟨n + 1, 12 - (H - 12 * n)⟩, true⟩
      else ⟨n, H - 12 * n, ⟨n, -(min (H - 12 * n) 8)⟩, false⟩) := by
  have hbraw : (H / 12).toNat = n := by rw [hn, Int.toNat_natCast]
  subst hH hbraw
  exact if_neg (Int.not_lt.mpr h0)

theorem settleTone_of_capped (hH : S - p.gap - p.margin = H) (h0 : 0 ≤ H) (hn : H / 12 = n) (hcap : p.maxBits ≤ n) :
    settleTone p S =
      (⟨n, H - 12 * n, ⟨p.maxBits, -(min (H - 12 * p.maxBits) 8)⟩, false⟩ : Work).dropSingleBit := by
  rw [settleTone_of_nonneg hH h0 hn, if_pos hcap]

theorem settleTone_of_boosted (hH : S - p.gap - p.margin = H) (h0 : 0 ≤ H) (hn : H / 12 = n) (hcap : n < p.maxBits)
    (hleft : 9 ≤ H - 12 * n) :
    settleTone p S = (⟨n, H - 12 * n, ⟨n + 1, 12 - (H - 12 * n)⟩, true⟩ : Work).dropSingleBit := by
  rw [settleTone_of_nonneg hH h0 hn, if_neg (Nat.not_le.mpr hcap), if_pos hleft]

theorem settleTone_of_trimmed (hH : S - p.gap - p.margin = H) (h0 : 0 ≤ H) (hn : H / 12 = n) (hcap : n < p.maxBits)
    (hleft : H - 12 * n < 9) :
    settleTone p S = (⟨n, H - 12 * n, ⟨n, -(min (H - 12 * n) 8)⟩, false⟩ : Work).dropSingleBit := by
  rw [settleTone_of_nonneg hH h0 hn, if_neg (Nat.not_le.mpr hcap), if_neg (Int.not_le.mpr hleft)]

/-- R53 takes the whole tone: from b_raw = 0, whether boosted or trimmed, and from b_raw = 1 where it is trimmed. -/
theorem settleTone_of_single_bit (hH : S - p.gap - p.margin = H) (h0 : 0 ≤ H) (hn : H / 12 = n) (hcap : n < p.maxBits)
    (hbits : n = 0 ∨ n = 1 ∧ H - 12 * n < 9) : settleTone p S = ⟨n, H - 12 * n, entryOff, false⟩ := by
  rcases Int.lt_or_le (H - 12 * n) 9 with hleft | hleft
  · rw [settleTone_of_trimmed hH h0 hn hcap hleft, Work.dropSingleBit_of_le_one (show n ≤ 1 by omega)]
  · rw [settleTone_of_boosted hH h0 hn hcap hleft, Work.dropSingleBit_of_le_one (show n + 1 ≤ 1 by omega)]

end Cases

theorem settleTone_bits_ne_one (p : Profile) (S : Int) : (settleTone p S).entry.b ≠ 1 := by
  rcases Int.lt_or_le (S - p.gap - p.margin) 0 with hneg | h0
  · rw [settleTone_of_neg rfl hneg]
    exact Nat.zero_ne_one
  · obtain ⟨n, hn⟩ := Int.eq_ofNat_of_zero_le (Int.ediv_nonneg h0 (by decide : (0 : Int) ≤ 12))
    rw [settleTone_of_nonneg rfl h0 hn]
    exact Work.dropSingleBit_bits_ne_one _

/-- Settles O58: each clause is the equation of its case of R52, and R53 on the entry that the case gives. -/
theorem headroomSettlesBitsAndGain : Obligations.HeadroomSettlesBitsAndGain := by
  intro p S htwo _
  dsimp only
  generalize hH : S - p.gap - p.margin = H
  refine ⟨fun hneg => ?notLoadable, fun h0 => ?capped, fun h0 => ?boosted, fun h0 => ?trimmed, fun h0 => ?singleBit,
    settleTone_bits_ne_one p S⟩
  case notLoadable =>
    rw [settleTone_of_neg hH hneg]
    exact ⟨rfl, rfl⟩
  all_goals
    obtain ⟨n, hn⟩ := Int.eq_ofNat_of_zero_le (Int.ediv_nonneg h0 (by decide : (0 : Int) ≤ 12))
    rw [hn]
  case capped =>
    intro hcap
    rw [settleTone_of_capped hH h0 hn (Int.ofNat_le.mp hcap), Work.dropSingleBit_of_two_le htwo]
    exact ⟨rfl, rfl⟩
  case boosted =>
    intro hcap hleft hbraw
    rw [settleTone_of_boosted hH h0 hn (Int.ofNat_lt.mp hcap) hleft,
      Work.dropSingleBit_of_two_le (show 2 ≤ n + 1 by omega)]
    exact ⟨rfl, rfl, rfl⟩
  case trimmed =>
    intro hcap hleft hbraw
    rw [settleTone_of_trimmed hH h0 hn (Int.ofNat_lt.mp hcap) hleft,
      Work.dropSingleBit_of_two_le (Int.ofNat_le.mp hbraw)]
    exact ⟨rfl, rfl, rfl⟩
  case singleBit =>
    intro hcap hbits
    rw [settleTone_of_single_bit hH h0 hn (Int.ofNat_lt.mp hcap) (by omega)]
    exact ⟨rfl, rfl⟩

end Sys2Proof.Machine
end

section
/-! SUPPORT and the settled statement: what a code expands to, and how far that stands from the sample compressed (R121,
R122). The lemmas are about magnitudes, as naturals offset by the 16 of both rules; the sign comes in once, at the end. -/

namespace Sys2Proof.Machine

/-- The sign of a sample as a factor. -/
def signFactor (negative : Bool) : Int := if negative then -1 else 1

theorem natAbs_signFactor_mul (negative : Bool) (y : Int) : (signFactor negative * y).natAbs = y.natAbs := by
  cases negative <;> simp [signFactor]

theorem signFactor_mul_natAbs (x : Int) : signFactor (decide (x < 0)) * (x.natAbs : Int) = x := by
  rcases Int.lt_or_le x 0 with hneg | hnonneg
  · rw [decide_eq_true hneg, show signFactor true = -1 from rfl]
    omega
  · rw [decide_eq_false (Int.not_lt.mpr hnonneg), show signFactor false = 1 from rfl]
    omega

/-! ### Expansion -/

/-- The magnitude of R122, as a natural. -/
def Code.magnitude (c : Code) : Nat := (16 + c.step) * 2 ^ c.segment - 16 + 2 ^ c.segment / 2

/-- Without the truncated subtraction: the offset of 16 is within the code's first factor. -/
theorem Code.magnitude_add_offset (c : Code) :
    c.magnitude + 16 = (16 + c.step) * 2 ^ c.segment + 2 ^ c.segment / 2 := by
  have hoffset : 16 * 1 ≤ (16 + c.step) * 2 ^ c.segment := Nat.mul_le_mul (by omega) Nat.one_le_two_pow
  unfold Code.magnitude
  omega

theorem Code.expand_eq_sign_mul_magnitude (c : Code) : c.expand = signFactor c.negative * (c.magnitude : Int) := by
  have hmagnitude : (c.magnitude : Int) = (16 + c.step) * 2 ^ c.segment - 16 + (2 ^ c.segment : Nat) / 2 := by
    have hoffset := congrArg (Nat.cast : Nat → Int) c.magnitude_add_offset
    push_cast at hoffset ⊢
    linarith only [hoffset]
  rw [hmagnitude]
  cases hsign : c.negative <;> simp [Code.expand, signFactor, hsign]

theorem Code.natAbs_expand (c : Code) : c.expand.natAbs = c.magnitude := by
  rw [c.expand_eq_sign_mul_magnitude, natAbs_signFactor_mul, Int.natAbs_natCast]

theorem Code.magnitude_of_segment_zero {c : Code} (h : c.segment = 0) : c.magnitude = c.step := by
  simp [Code.magnitude, h]

theorem Code.magnitude_le {c : Code} (hsegment : c.segment ≤ 7) (hstep : c.step ≤ 15) : c.magnitude ≤ 4016 := by
  have hpow : 2 ^ c.segment ≤ 2 ^ 7 := Nat.pow_le_pow_right (by decide) hsegment
  have hprod : (16 + c.step) * 2 ^ c.segment ≤ 31 * 2 ^ 7 := Nat.mul_le_mul (by omega) hpow
  have hoffset := c.magnitude_add_offset
  omega

/-! ### Compression, and what it costs -/

/-- R121's choice of segment: with the offset of 16, a magnitude in segment s stands from 16 × 2^s on. -/
theorem offset_segmentOf_le (m : Nat) : 16 * 2 ^ segmentOf m ≤ m + 16 := by
  unfold segmentOf
  split_ifs <;> omega

/-- The step's subtraction of R121 takes nothing off below 0. -/
theorem add_step_compress {x : Int} (hx : x.natAbs ≤ 4079) :
    16 + (compress x).step = (x.natAbs + 16) / 2 ^ (compress x).segment := by
  have hfloor : 16 ≤ (x.natAbs + 16) / 2 ^ segmentOf x.natAbs :=
    (Nat.le_div_iff_mul_le (Nat.two_pow_pos _)).mpr (offset_segmentOf_le _)
  simp only [compress, Nat.min_eq_left hx]
  exact Nat.add_sub_cancel' hfloor

/-- The offset magnitude is the quotient times 2^s plus a remainder, its expansion the quotient times 2^s plus half of 2^s:
the error stands between the remainder and the half. -/
theorem magnitude_compress_error {x : Int} (hx : x.natAbs ≤ 4079) :
    2 * ((compress x).magnitude - x.natAbs : Int).natAbs ≤ 2 ^ (compress x).segment := by
  have hexpanded := (compress x).magnitude_add_offset
  rw [add_step_compress hx] at hexpanded
  have hdivision := Nat.div_add_mod' (x.natAbs + 16) (2 ^ (compress x).segment)
  have hremainder := Nat.mod_lt (x.natAbs + 16) (Nat.two_pow_pos (compress x).segment)
  omega

/-- A sample and its code have one sign, so the error is that of the magnitudes. -/
theorem natAbs_expand_compress_sub (x : Int) :
    ((compress x).expand - x).natAbs = ((compress x).magnitude - x.natAbs : Int).natAbs := by
  have hsample : signFactor (compress x).negative * (x.natAbs : Int) = x := signFactor_mul_natAbs x
  calc ((compress x).expand - x).natAbs
      = (signFactor (compress x).negative * ((compress x).magnitude - x.natAbs : Int)).natAbs := by
        rw [Int.mul_sub, hsample, Code.expand_eq_sign_mul_magnitude]
    _ = _ := natAbs_signFactor_mul _ _

/-- Settles O56: the magnitude of each code, its largest, 31 × 128 − 16 + 64, and the half step of a compression. -/
theorem expansionIsTheMiddleOfTheStep : Obligations.ExpansionIsTheMiddleOfTheStep := by
  refine ⟨fun neg seg k hseg hk => ⟨?magnitude, ?segmentZero, ?zero, ?bound⟩,
    ⟨⟨false, 7, 15⟩, by decide, by decide, by decide⟩, fun x hlow hhigh => ?error⟩
  case magnitude => exact Code.expand_eq_sign_mul_magnitude ⟨neg, seg, k⟩
  case segmentZero =>
    intro h
    rw [Code.expand_eq_sign_mul_magnitude, Code.magnitude_of_segment_zero h]
    rfl
  case zero =>
    intro h hzero
    rw [Code.expand_eq_sign_mul_magnitude, Code.magnitude_of_segment_zero h, hzero]
    exact Int.mul_zero _
  case bound =>
    rw [Code.natAbs_expand]
    exact Code.magnitude_le hseg hk
  case error =>
    rw [natAbs_expand_compress_sub]
    exact magnitude_compress_error (by omega)

end Sys2Proof.Machine
end

section
/-! SUPPORT. What the blocks of the events keep: the bounds of the queues and of the log, the fixed entries of the
permission table, and no more replies than before. One lemma per block, from those of Laws/Kept.lean. -/

namespace Sys2Proof.Machine

variable {s x y : Part}

/-- A record that takes new fields is kept where the permissions and the bounded stores are those it had. -/
theorem Part.Kept.update {t l sn ld b m tr pa pb v sc sv lg dg su ac li} (h : s.Kept x)
    (hperms : ac.perms = x.access.perms := by rfl) (hreplies : li.replies = x.link.replies := by rfl)
    (hnotices : li.notices = x.link.notices := by rfl) (hout : sv.outQ = x.svc.outQ := by rfl)
    (hlog : lg.records = x.log.records := by rfl) (hup : sc.upQueue = x.sched.upQueue := by rfl)
    (hdown : sc.downBuffer = x.sched.downBuffer := by rfl) :
    s.Kept ⟨x.running, t, l, sn, ld, b, m, tr, pa, pb, v, sc, sv, lg, dg, su, ac, li⟩ :=
  h.mk hperms (hreplies ▸ le_rfl) (hnotices ▸ le_rfl) (hout ▸ le_rfl) (hlog ▸ le_rfl) (hup ▸ le_rfl) (hdown ▸ le_rfl)

/-! ### Downstream and upstream symbols -/

theorem Part.receiveVoice_kept (p : PortId) (bs : List Byte) (e : Bool) (h : s.Kept x) :
    s.Kept (x.receiveVoice p bs e) := by
  unfold Part.receiveVoice
  split
  · split
    · cases p <;> exact h
    · exact h
  · exact h

theorem Sched.dataByte_upQueue (a e : Bool) (d : Sched) (b : Byte) :
    (Sched.dataByte a e d b).upQueue = d.upQueue := by
  unfold Sched.dataByte Sched.frameDone
  split
  · split <;> rfl
  · split <;> rfl
  · dsimp only
    split <;> rfl
  · dsimp only
    split
    · split <;> rfl
    · rfl

theorem Sched.dataByte_downBuffer (a e : Bool) (d : Sched) (b : Byte) (h : d.downBuffer.length ≤ 4) :
    (Sched.dataByte a e d b).downBuffer.length ≤ 4 := by
  unfold Sched.dataByte Sched.frameDone
  split
  · split <;> exact h
  · split <;> exact h
  · dsimp only
    split <;> exact h
  · dsimp only
    split
    · split
      · rename_i hroom
        simp only [Bool.and_eq_true, decide_eq_true_eq] at hroom
        simpa using hroom.2
      · exact h
    · exact h

theorem Sched.dataBytes_bounded (a e : Bool) (bs : List Byte) (d : Sched) :
    (bs.foldl (Sched.dataByte a e) d).upQueue = d.upQueue ∧
      (d.downBuffer.length ≤ 4 → (bs.foldl (Sched.dataByte a e) d).downBuffer.length ≤ 4) := by
  induction bs generalizing d with
  | nil => exact ⟨rfl, id⟩
  | cons b bs ih =>
    obtain ⟨hup, hdown⟩ := ih (Sched.dataByte a e d b)
    exact ⟨hup.trans (Sched.dataByte_upQueue a e d b), fun h => hdown (Sched.dataByte_downBuffer a e d b h)⟩

theorem Service.receiveByte_outQ (v : Service) (b : Byte) (e : Bool) : (v.receiveByte b e).outQ = v.outQ := by
  unfold Service.receiveByte
  dsimp only
  split
  · rfl
  · split <;> rfl

/-- The records of the service channel and of the data port may change while their queues keep their bounds. -/
theorem Part.Kept.queues {sv : Service} {sc : Sched} (h : s.Kept x) (hout : sv.outQ.length ≤ x.svc.outQ.length)
    (hup : x.sched.upQueue.length ≤ 24 → sc.upQueue.length ≤ 24)
    (hdown : x.sched.downBuffer.length ≤ 4 → sc.downBuffer.length ≤ 4) :
    s.Kept { x with svc := sv, sched := sc } :=
  h.trans ⟨id, le_rfl, fun ⟨hr, hn, ho, hl, hu, hd⟩ => ⟨hr, hn, hout.trans ho, hl, hup hu, hdown hd⟩⟩

theorem Part.handOn_kept (bs : List Byte) (e : Bool) (h : s.Kept x) : s.Kept (x.handOn bs e) := by
  unfold Part.handOn
  dsimp only
  have hvoice := Part.receiveVoice_kept .b ((bs.drop (1 + x.alloc .a)).take (x.alloc .b)) e
    (Part.receiveVoice_kept .a ((bs.drop 1).take (x.alloc .a)) e h)
  refine hvoice.queues ?_ (fun hu => ?_) (Sched.dataBytes_bounded _ _ _ _).2
  · split
    · rw [Service.receiveByte_outQ]
    · exact le_rfl
  · rwa [(Sched.dataBytes_bounded _ _ _ _).1]

theorem Part.loseLock_kept (w : Nat) (h : s.Kept x) : s.Kept (x.loseLock w) :=
  Part.post_kept _ (Part.makeRecord_kept _ _ _ h)

theorem Part.gainLock_kept (k : Symbol) (l : Lock) (h : s.Kept x) : s.Kept (x.gainLock k l) :=
  Part.post_kept _ (Part.makeRecord_kept _ _ _ h)

theorem Part.takeEvent_kept (k : Symbol) (h : s.Kept x) : s.Kept (x.takeEvent k) := by
  unfold Part.takeEvent
  dsimp only
  repeat' (first | exact h | with_reducible apply Part.gainLock_kept | with_reducible apply Part.loseLock_kept | split)

theorem Part.closeWindow_kept (h : s.Kept x) : s.Kept x.closeWindow := by
  unfold Part.closeWindow
  dsimp only
  repeat' (first | exact h | with_reducible apply Part.loseLock_kept | split)

theorem Part.downstream_kept (d : DownSymbol) (h : s.Kept x) : s.Kept (x.downstream d) := by
  unfold Part.downstream
  dsimp only
  refine Part.Kept.trans (t := Part.handOn _ _ _) ?_ ⟨id, le_rfl, id⟩
  apply Part.handOn_kept
  split
  · exact Part.takeEvent_kept _ h
  · exact h

/-- The message at the queue's head in the burst queue, where that is empty, and a report tried (R134, R152). -/
def Part.burstReady (s : Part) : Part :=
  if s.sched.burst.bytes.isEmpty then
    match s.svc.outQ with
    | m :: q =>
      Part.tryOffer
        { s with
          svc := { s.svc with outQ := q }
          sched := { s.sched with
            burst := ⟨m.bytes, match m with
              | .faultReport r => some r.seq
              | _ => none⟩ } }
    | [] => s
  else s

/-- The first byte of the burst queue taken (R134, R152). -/
def Part.burstTaken (s : Part) : Option Byte × Part :=
  match s.sched.burst.bytes with
  | [] => (none, s)
  | b :: rest =>
    if rest.isEmpty then
      (some b,
        { s with
          sched := { s.sched with burst := ⟨[], none⟩ }
          log :=
            if s.sched.burst.report.isSome && s.sched.burst.report == s.log.inFlight then
              { s.log with ackTimer := some 2000 }
            else s.log })
    else (some b, { s with sched := { s.sched with burst := ⟨rest, s.sched.burst.report⟩ } })

/-- A byte of the service stream: the burst queue is made ready, and its first byte taken. -/
theorem Part.streamByte_eq (s : Part) : s.streamByte = s.burstReady.burstTaken := rfl

theorem Part.burstReady_kept (h : s.Kept x) : s.Kept x.burstReady := by
  unfold Part.burstReady
  split
  · split
    · rename_i hq
      refine Part.tryOffer_kept (h.queues ?_ id id)
      simp [hq]
    · exact h
  · exact h

theorem Part.burstTaken_kept (h : s.Kept x) : s.Kept x.burstTaken.2 := by
  unfold Part.burstTaken
  split
  · exact h
  · split
    · refine Part.Kept.update h (hlog := ?_)
      split <;> rfl
    · exact h

theorem Part.streamByte_kept (h : s.Kept x) : s.Kept x.streamByte.2 := by
  rw [Part.streamByte_eq]
  exact Part.burstTaken_kept (Part.burstReady_kept h)

theorem Part.burstBytes_kept (n : Nat) (h : s.Kept x) : s.Kept (Part.burstBytes n x).2 := by
  induction n generalizing x with
  | zero => exact h
  | succ n ih =>
    have hbyte := Part.streamByte_kept h
    unfold Part.burstBytes
    split
    · rename_i hb
      rwa [hb] at hbyte
    · rename_i hb
      rw [hb] at hbyte
      exact ih hbyte

theorem Sched.dataSlots_bounded (n : Nat) (d : Sched) :
    (d.dataSlots n).2.upQueue.length ≤ d.upQueue.length ∧ (d.dataSlots n).2.downBuffer = d.downBuffer := by
  induction n generalizing d with
  | zero => exact ⟨le_rfl, rfl⟩
  | succ n ih =>
    have hslot : d.dataSlot.2.upQueue.length ≤ d.upQueue.length ∧ d.dataSlot.2.downBuffer = d.downBuffer := by
      unfold Sched.dataSlot
      split
      · exact ⟨le_rfl, rfl⟩
      · rename_i hq
        dsimp only
        split <;> simp [hq]
    obtain ⟨hup, hdown⟩ := ih d.dataSlot.2
    exact ⟨hup.trans hslot.1, hdown.trans hslot.2⟩

theorem Part.fillReport_kept (r : List Byte) (u : Nat) (h : s.Kept x) : s.Kept (x.fillReport r u) := h

theorem Part.fillSymbol_kept (u : Nat) (h : s.Kept x) : s.Kept (x.fillSymbol u) := by
  unfold Part.fillSymbol
  have hburst := Part.burstBytes_kept (min 4 (u - (1 + (x.upVoice .a).length + (x.upVoice .b).length)))
    (Part.streamByte_kept h)
  obtain ⟨hup, hdown⟩ := Sched.dataSlots_bounded
    (u - (1 + (x.upVoice .a).length + (x.upVoice .b).length) - (Part.burstBytes
      (min 4 (u - (1 + (x.upVoice .a).length + (x.upVoice .b).length))) x.streamByte.2).1.length)
    (Part.burstBytes (min 4 (u - (1 + (x.upVoice .a).length + (x.upVoice .b).length))) x.streamByte.2).2.sched
  exact hburst.queues le_rfl hup.trans (fun hd => hdown ▸ hd)

theorem Part.slowSymbol_kept (b : Byte) (snr : List Int) (h : s.Kept x) : s.Kept (x.slowSymbol b snr) := by
  have hrx : s.Kept ({ x with svc := x.svc.receiveByte b false } : Part) :=
    Part.Kept.update h (hout := Service.receiveByte_outQ ..)
  have hup := Part.streamByte_kept hrx
  unfold Part.slowSymbol
  dsimp only
  by_cases hs : x.line.state = .sounding
  · rw [if_pos hs]
    repeat' (first | exact Part.Kept.update hrx | split)
  · rw [if_neg hs]
    repeat' (first | exact Part.Kept.update hup | split)

theorem Part.frameBegins_kept (h : s.Kept x) : s.Kept x.frameBegins := by
  unfold Part.frameBegins
  split <;> exact h

theorem Part.frameEnds_kept (f : List Byte) (h : s.Kept x) : s.Kept (x.frameEnds f) := by
  unfold Part.frameEnds
  dsimp only
  repeat' (first | exact h | split)
  rename_i hroom
  refine h.queues (sv := x.svc) le_rfl (fun _ => ?_) id
  simp only [List.length_append, List.length_singleton]
  omega

/-! ### Bring-up -/

theorem Part.enterMeasuring_kept (h : s.Kept x) : s.Kept x.enterMeasuring :=
  Part.postLine_kept _ _ _ (Part.enqueue_kept .confirm h)

theorem Part.enterLoading_kept (h : s.Kept x) : s.Kept x.enterLoading := by
  unfold Part.enterLoading
  dsimp only
  split
  · exact Part.failAttempt_kept _ _ (Part.Kept.update (Part.postLine_kept _ _ _ h))
  · exact Part.sendTable_kept _ (Part.Kept.update (Part.postLine_kept _ _ _ h))

theorem Part.measurementEnd_kept (h : s.Kept x) : s.Kept x.measurementEnd := by
  unfold Part.measurementEnd
  dsimp only
  split
  · exact Part.failAttempt_kept _ _ h
  · exact Part.enterLoading_kept h

theorem Part.loadingTable_kept (n : Byte) (t : List LoadEntry) (h : s.Kept x) : s.Kept (x.loadingTable n t) := by
  unfold Part.loadingTable
  split
  · exact h
  · split
    · exact Part.nameSwitch_kept _ h
    · rename_i c k _
      have hreject := Part.enqueue_kept (.tableReject n c k) h
      dsimp only
      split
      · exact hreject
      · exact Part.failAttempt_kept _ _ hreject

theorem Part.reshapeTable_kept (n : Byte) (t : List LoadEntry) (h : s.Kept x) : s.Kept (x.reshapeTable n t) := by
  unfold Part.reshapeTable
  dsimp only
  repeat' (first | exact h | with_reducible apply Part.nameSwitch_kept | with_reducible apply Part.abandon_kept
                  | with_reducible apply Part.enqueue_kept | split)

theorem Part.upTable_kept (n : Byte) (g : Nat) (bs : List Byte) (h : s.Kept x) : s.Kept (x.upTable n g bs) := by
  unfold Part.upTable
  dsimp only
  repeat' (first | exact h | with_reducible apply Part.receiveError_kept | with_reducible apply Part.loadingTable_kept
                  | with_reducible apply Part.reshapeTable_kept | split)

theorem Part.dialsAnew_kept (p : PortId) (h : s.Kept x) : s.Kept (x.dialsAnew p) := by
  unfold Part.dialsAnew
  dsimp only
  repeat' (first | exact h | with_reducible apply Part.modPort_kept | with_reducible apply Part.sayOffHook_kept | split)

theorem Part.enterCarrying_kept (h : s.Kept x) : s.Kept x.enterCarrying := by
  unfold Part.enterCarrying
  apply Part.tryOffer_kept
  refine Part.Kept.mk (Part.dialsAnew_kept .b (Part.dialsAnew_kept .a (Part.postRates_kept
    (Part.postLine_kept .loading none [] ?_)))) rfl le_rfl le_rfl le_rfl ?_ le_rfl le_rfl
  · exact h
  · simp [Log.lineUp]

/-! ### In service -/

theorem Part.sendMove_kept (es : List MoveEntry) (h : s.Kept x) : s.Kept (x.sendMove es) := Part.enqueue_kept _ h

theorem Part.considerMove_kept (ms : List Margin) (h : s.Kept x) : s.Kept (x.considerMove ms) := by
  unfold Part.considerMove
  repeat' (first | exact h | with_reducible apply Part.sendMove_kept | with_reducible apply Part.raise_kept | split)

theorem Part.periodEnd_kept (h : s.Kept x) : s.Kept x.periodEnd := by
  unfold Part.periodEnd
  dsimp only
  repeat' (first | exact h | with_reducible apply Part.dropLine_kept | with_reducible apply Part.raise_kept
                  | with_reducible apply Part.considerMove_kept | split)

theorem Part.moveAck_kept (n : Byte) (k : Symbol) (h : s.Kept x) : s.Kept (x.moveAck n k) := by
  unfold Part.moveAck
  repeat' (first | exact h | with_reducible apply Part.moveFails_kept | with_reducible apply Part.raise_kept | split)

theorem Part.moveRefuse_kept (n : Byte) (h : s.Kept x) : s.Kept (x.moveRefuse n) := by
  unfold Part.moveRefuse
  repeat' (first | exact h | with_reducible apply Part.moveFails_kept | split)

theorem Part.moveTimeout_kept (h : s.Kept x) : s.Kept x.moveTimeout := by
  unfold Part.moveTimeout
  repeat' (first | exact h | with_reducible apply Part.moveFails_kept | split)

theorem Part.moveSwitch_kept (h : s.Kept x) : s.Kept x.moveSwitch := by
  unfold Part.moveSwitch
  dsimp only
  repeat' (first | exact h | with_reducible apply Part.startPending_kept
                  | with_reducible apply Part.capacityRuleQuiet_kept | split)

theorem Part.takeMove_kept (m : MoveMsg) (h : s.Kept x) : s.Kept (x.takeMove m) := by
  unfold Part.takeMove
  dsimp only
  repeat' (first | exact h | with_reducible apply Part.enqueue_kept | split)

theorem Part.upstreamMoveSwitch_kept (h : s.Kept x) : s.Kept x.upstreamMoveSwitch := by
  unfold Part.upstreamMoveSwitch
  dsimp only
  repeat' (first | exact h | with_reducible apply Part.startPending_kept | with_reducible apply Part.postRates_kept
                  | with_reducible apply Part.capacityRuleQuiet_kept | with_reducible apply Part.capacityRule_kept | split)

theorem Part.reshapeOffer_kept (rs : List Reason) (h : s.Kept x) : s.Kept (x.reshapeOffer rs) := by
  unfold Part.reshapeOffer
  repeat' (first | exact h | with_reducible apply Part.startReshape_kept | split)

theorem Part.recordLowRate_kept (h : s.Kept x) : s.Kept x.recordLowRate := by
  unfold Part.recordLowRate
  dsimp only
  repeat' (first | exact h | with_reducible apply Part.makeRecordAt_kept | split)

theorem Part.reshapeSwitch_kept (h : s.Kept x) : s.Kept x.reshapeSwitch := by
  unfold Part.reshapeSwitch
  dsimp only
  repeat' (first | exact h | with_reducible apply Part.startPending_kept | with_reducible apply Part.recordLowRate_kept
                  | with_reducible apply Part.postRates_kept | with_reducible apply Part.postLine_kept
                  | with_reducible apply Part.capacityRule_kept)

theorem ChanSwitch.foldl_kept (ws : List ChanSwitch) (h : s.Kept x) : s.Kept (ws.foldl (fun p w => w.apply p) x) := by
  induction ws generalizing x with
  | nil => exact h
  | cons w ws ih => exact ih (ChanSwitch.apply_kept w h)

theorem Part.channelSwitch_kept (h : s.Kept x) : s.Kept x.channelSwitch :=
  Part.capacityRuleQuiet_kept (ChanSwitch.foldl_kept _ h)

theorem Part.holdExpires_kept (p : PortId) (h : s.Kept x) : s.Kept (x.holdExpires p) := by
  unfold Part.holdExpires
  dsimp only
  repeat' (first | exact h | with_reducible apply Part.parkJoined_kept | with_reducible apply Part.park_kept
                  | with_reducible apply Part.endChannel_kept | with_reducible apply Part.sayOnHook_kept | split)

/-! ### The telephones -/

theorem Part.offHookAborts_kept (p : PortId) (h : s.Kept x) : s.Kept (x.offHookAborts p) := by
  unfold Part.offHookAborts
  repeat' (first | exact h | with_reducible apply Part.settleRelay_kept | with_reducible apply Part.abortTest_kept | split)

theorem Part.ringTrip_kept (p : PortId) (h : s.Kept x) : s.Kept (x.ringTrip p) := by
  have hhook := Part.declareHook_kept p .offHook h
  unfold Part.ringTrip
  dsimp only
  repeat' (first | exact hhook | with_reducible apply Part.askChannel_kept | with_reducible apply Part.toDialling_kept
                  | with_reducible apply Part.sayOffHook_kept | with_reducible apply Part.withdraw_kept
                  | with_reducible apply Part.enterState_kept | with_reducible apply Part.modPort_kept | split)
  intro z hz
  exact Part.signal_kept _ _ (Part.enterState_kept _ _ _ hz)

theorem Part.offHook_kept (p : PortId) (h : s.Kept x) : s.Kept (x.offHook p) := by
  unfold Part.offHook
  dsimp only
  repeat' (first | exact h | with_reducible apply Part.offHookAborts_kept | with_reducible apply Part.declareHook_kept
                  | with_reducible apply Part.ringTrip_kept | with_reducible apply Part.toDialling_kept | split)

theorem Part.onHook_kept (p : PortId) (h : s.Kept x) : s.Kept (x.onHook p) := by
  unfold Part.onHook
  dsimp only
  repeat' (first | exact h | with_reducible apply Part.modPort_kept | with_reducible apply Part.hangUp_kept
                  | with_reducible apply Part.declareHook_kept | split)

theorem Part.breakEnds_kept (p : PortId) (ms : Nat) (h : s.Kept x) : s.Kept (x.breakEnds p ms) := by
  unfold Part.breakEnds
  dsimp only
  repeat' (first | exact h | with_reducible apply Part.giveEvent_kept | with_reducible apply Part.modPort_kept | split)

theorem Part.digitEnds_kept (p : PortId) (h : s.Kept x) : s.Kept (x.digitEnds p) := by
  unfold Part.digitEnds
  dsimp only
  repeat' (first | exact h | with_reducible apply Part.giveEvent_kept | with_reducible apply Part.giveDigit_kept
                  | with_reducible apply Part.modPort_kept | split)

theorem Part.toneDigit_kept (p : PortId) (d : Digit) (h : s.Kept x) : s.Kept (x.toneDigit p d) := by
  unfold Part.toneDigit
  dsimp only
  repeat' (first | exact h | with_reducible apply Part.giveDigit_kept | with_reducible apply Part.modPort_kept | split)

theorem Part.dialExpires_kept (p : PortId) (h : s.Kept x) : s.Kept (x.dialExpires p) := by
  unfold Part.dialExpires
  repeat' (first | exact h | with_reducible apply Part.park_kept | with_reducible apply Part.withdraw_kept | split)

theorem Part.connect_kept (p : PortId) (h : s.Kept x) : s.Kept (x.connect p) := by
  unfold Part.connect
  split
  · refine Part.askChannel_kept _ _ (Part.dropRungBy_kept _ h) fun z hz => ?_
    exact Part.signal_kept _ _ (Part.modPort_kept _ _ hz)
  · exact h

theorem Part.release_kept (p : PortId) (h : s.Kept x) : s.Kept (x.release p) := by
  unfold Part.release
  dsimp only
  repeat' (first | exact h | with_reducible apply Part.parkJoined_kept | with_reducible apply Part.park_kept
                  | with_reducible apply Part.endChannel_kept | split)

theorem Part.callTone_kept (p : PortId) (k : CallTone) (h : s.Kept x) : s.Kept (x.callTone p k) := by
  unfold Part.callTone
  dsimp only
  repeat' (first | exact h | with_reducible apply Part.modPort_kept | split)

theorem Part.takeRing_kept (p : PortId) (c : Nat) (h : s.Kept x) : s.Kept (x.takeRing p c) := by
  unfold Part.takeRing
  dsimp only
  repeat' (first | exact h | with_reducible apply Part.startRing_kept | with_reducible apply Part.signal_kept
                  | with_reducible apply Part.postRingLimited_kept | with_reducible apply Part.sayOffHook_kept | split)

theorem Part.overcurrent_kept (p : PortId) (h : s.Kept x) : s.Kept (x.overcurrent p) := by
  unfold Part.overcurrent
  dsimp only
  repeat' (first | exact h | with_reducible apply Part.makeRecord_kept | with_reducible apply Part.modPort_kept
                  | with_reducible apply Part.endRing_kept | split)

theorem Part.thermalTrip_kept (p : PortId) (h : s.Kept x) : s.Kept (x.thermalTrip p) := by
  unfold Part.thermalTrip
  dsimp only
  split
  · exact h
  · exact Part.makeRecord_kept _ _ _ (Part.modPort_kept _ _ (Part.endRing_kept _ _ _ h))

theorem Part.heatStep_kept (p : PortId) (h : s.Kept x) : s.Kept (x.heatStep p) := by
  unfold Part.heatStep
  dsimp only
  repeat' (first | exact h | with_reducible apply Part.thermalTrip_kept | with_reducible apply Part.modPort_kept | split)

theorem Part.cooldownEnds_kept (p : PortId) (h : s.Kept x) : s.Kept (x.cooldownEnds p) := by
  unfold Part.cooldownEnds
  dsimp only
  repeat' (first | exact h | with_reducible apply Part.enterState_kept | with_reducible apply Part.toDialling_kept
                  | with_reducible apply Part.modPort_kept | split)

/-! ### The supply -/

theorem Part.toSupply_kept (st : SupplyState) (h : s.Kept x) : s.Kept (x.toSupply st) := h

theorem Part.enterBattery_kept (p : Option SupplyState) (h : s.Kept x) : s.Kept (x.enterBattery p) := by
  unfold Part.enterBattery
  exact Part.retime_kept (Part.postSupply_kept _ (Part.raise_kept _ (Part.makeRecord_kept _ _ _
    (Part.trimRings_kept (Part.setBudget_kept _ _ h)))))

theorem Part.recoverBattery_kept (h : s.Kept x) : s.Kept x.recoverBattery := by
  unfold Part.recoverBattery
  dsimp only
  repeat' (first | with_reducible apply Part.retime_kept | with_reducible apply Part.postSupply_kept
                  | with_reducible apply Part.raise_kept | with_reducible apply Part.setBudget_kept
                  | with_reducible apply Part.endShedding_kept | with_reducible apply Part.setHolds_kept
                  | with_reducible apply Part.setOverlay_kept | exact h)

theorem Part.enterBatteryLow_kept (p : Option SupplyState) (h : s.Kept x) : s.Kept (x.enterBatteryLow p) := by
  unfold Part.enterBatteryLow
  dsimp only
  repeat' (first | with_reducible apply Part.retime_kept | with_reducible apply Part.postSupply_kept
                  | with_reducible apply Part.raise_kept | with_reducible apply Part.makeRecord_kept
                  | with_reducible apply Part.setHolds_kept | with_reducible apply Part.trimRings_kept
                  | with_reducible apply Part.setBudget_kept | with_reducible apply Part.shedAtLow_kept
                  | with_reducible apply Part.setOverlay_kept | exact h)

theorem Part.enterMains_kept (h : s.Kept x) : s.Kept x.enterMains := by
  have hback : s.Kept (if x.supply.state = .batteryLow then
      (((x.toSupply .mains).setOverlay false).setHolds false (x.toSupply .mains).link.silenceHold).endShedding
      else x.toSupply .mains) := by
    split
    · exact Part.endShedding_kept (Part.setHolds_kept _ _ (Part.setOverlay_kept _ h))
    · exact h
  unfold Part.enterMains
  exact Part.retime_kept (Part.postSupply_kept _ (Part.raise_kept _ (Part.Kept.trans (Part.makeRecord_kept _ _ _
    (Part.setBudget_kept 10 0 hback)) ⟨id, le_rfl, id⟩)))

theorem Part.settleOther_kept (h : s.Kept x) : s.Kept x.settleOther := by
  unfold Part.settleOther
  split
  · refine h.mk rfl le_rfl le_rfl le_rfl ?_ le_rfl le_rfl
    split
    · simp [Log.retract, Log.modify]
    · rw [Log.settle_length]
  · exact h

theorem Part.startLastReport_kept (h : s.Kept x) : s.Kept x.startLastReport := by
  unfold Part.startLastReport
  dsimp only
  refine Part.Kept.mk (Part.settleOther_kept (Part.storeRecord_kept _ h)) rfl le_rfl le_rfl le_rfl ?_ le_rfl le_rfl
  rw [Log.modify_length]

theorem Part.enterCutoff_kept (p : Option SupplyState) (h : s.Kept x) : s.Kept (x.enterCutoff p) := by
  unfold Part.enterCutoff
  dsimp only
  repeat' (first | with_reducible apply Part.startLastReport_kept
                  | with_reducible apply Part.enterShutdown_kept | with_reducible apply Part.storeRecord_kept
                  | with_reducible apply Part.retime_kept | with_reducible apply Part.abortTest_kept
                  | with_reducible apply Part.abandon_kept | with_reducible apply Part.postSupply_kept
                  | with_reducible apply Part.setOverlay_kept | with_reducible apply Part.setHolds_kept
                  | with_reducible apply Part.stopRings_kept | with_reducible apply Part.setBudget_kept | split | exact h)

theorem Part.powerOn_kept (m : Bool) (b : Nat) : s.Kept (Part.powerOn m b) := by
  have hfresh : s.Kept (Part.initial m (min 2000 b)) := Part.initial_kept m (min 2000 b)
  unfold Part.powerOn
  generalize Part.initial m (min 2000 b) = fresh at hfresh ⊢
  dsimp only
  split
  · exact Part.retime_kept hfresh
  · split
    · exact Part.enterBattery_kept _ hfresh
    · split
      · exact Part.enterBatteryLow_kept _ hfresh
      · exact Part.enterCutoff_kept _ hfresh

/-! ### The message link and the reports -/

theorem Access.setViol_perms (a : Access) (src : Source) (v : Violation) : (a.setViol src v).perms = a.perms := by
  cases src <;> rfl

theorem Part.refuse_kept (src : Source) (c : ObjClass) (h : s.Kept x) : s.Kept (x.refuse src c) := by
  have hviol : s.Kept { x with
      access := x.access.setViol src ⟨true, satAdd 65535 (x.access.viol src).count 1, some c⟩ } :=
    h.mk (Access.setViol_perms _ _ _) le_rfl le_rfl le_rfl le_rfl le_rfl le_rfl
  unfold Part.refuse
  dsimp only
  repeat' (first | exact hviol | with_reducible apply Part.makeRecord_kept | split)

theorem Part.hostBack_kept (h : s.Kept x) : s.Kept x.hostBack := by
  unfold Part.hostBack
  exact Part.Kept.update (Part.setHolds_kept _ _ (Part.makeRecord_kept _ _ _ h))

theorem Part.frameSeen_kept (h : s.Kept x) : s.Kept x.frameSeen := by
  have hgave : s.Kept (x.gaveOut x.linkStatus) := h
  unfold Part.frameSeen
  dsimp only
  refine Part.Kept.trans (t := if (x.gaveOut x.linkStatus).link.hostSilent then (x.gaveOut x.linkStatus).hostBack
    else x.gaveOut x.linkStatus) ?_ ⟨id, le_rfl, id⟩
  split
  · exact Part.hostBack_kept hgave
  · exact hgave

theorem Part.hostSilence_kept (h : s.Kept x) : s.Kept x.hostSilence := by
  unfold Part.hostSilence
  dsimp only
  split
  · exact h
  · exact Part.Kept.update (Part.setHolds_kept _ _ (Part.makeRecord_kept _ _ _ h))

theorem Part.reportAck_kept (q : Seq) (h : s.Kept x) : s.Kept (x.reportAck q) := by
  unfold Part.reportAck
  refine Part.tryOffer_kept (h.mk rfl le_rfl le_rfl ?_ ?_ le_rfl le_rfl)
  · exact List.length_filter_le _ _
  · rw [Log.modify_length]

theorem Part.sendParts_kept (tag : Byte) (k : Nat) (bs : List (List Byte)) (h : s.Kept x) :
    s.Kept (x.sendParts tag k bs) := by
  induction bs generalizing x k with
  | nil => exact h
  | cons b bs ih =>
    unfold Part.sendParts
    split
    · exact ih _ (Part.enqueue_kept _ h)
    · exact h

theorem Part.operatorReply_kept (tag : Byte) (st : Status) (b : ReplyBody) (h : s.Kept x) :
    s.Kept (x.operatorReply tag st b) := by
  unfold Part.operatorReply
  split
  · exact Part.sendParts_kept _ _ _ h
  · exact h

/-! ### Tests -/

theorem Part.loopDone_kept (m : List Int) (h : s.Kept x) : s.Kept (x.loopDone m) := by
  unfold Part.loopDone
  dsimp only
  repeat' (first | with_reducible apply Part.endTest_kept | with_reducible apply Part.makeRecord_kept | split | exact h)

theorem Part.scanDone_kept (d : Nat) (h : s.Kept x) : s.Kept (x.scanDone d) := by
  unfold Part.scanDone
  repeat' (first | exact h | with_reducible apply Part.endTest_kept | split)

theorem Part.noisePhaseEnd_kept (l : List ScanSymbol) (h : s.Kept x) : s.Kept (x.noisePhaseEnd l) := by
  unfold Part.noisePhaseEnd
  dsimp only
  repeat' (first | with_reducible apply Part.scanDone_kept | split | exact h)

theorem Part.portTestDone_kept (p : PortId) (r l : Int) (h : s.Kept x) : s.Kept (x.portTestDone p r l) := by
  unfold Part.portTestDone
  dsimp only
  repeat' (first | with_reducible apply Part.endTest_kept | with_reducible apply Part.makeRecord_kept
                  | with_reducible apply Part.modPort_kept | split | exact h)

end Sys2Proof.Machine
end

section
/-! SUPPORT. What the owners' answers and a catalogue command keep: the bounds and the fixed entries, with the one reply that
a taken frame is answered by (R202). -/

namespace Sys2Proof.Machine

variable {s x y : Part}

theorem Part.stopLine_kept (h : s.Kept x) : s.Kept x.stopLine :=
  Part.proceedIfReporting_kept _ (Part.toQuiet_kept _ h)

theorem Part.detectConflict_kept (c : List Window) (h : s.Kept x) : s.Kept (x.detectConflict c) := by
  unfold Part.detectConflict
  dsimp only
  repeat' (first | exact h | with_reducible apply Part.makeRecord_kept | split)

theorem Part.acceptWindow_kept (c : List Window) (h : s.Kept x) : s.Kept (x.acceptWindow c) := by
  unfold Part.acceptWindow
  dsimp only
  repeat' (first | with_reducible apply Part.refreshHeard_kept | with_reducible apply Part.raise_kept
                 | with_reducible apply Part.post_kept | split | exact h)

theorem ownLineStart_kept (h : s.Kept x) : s.Kept (ownLineStart x).1 := by
  unfold ownLineStart
  repeat' (first | exact h | with_reducible apply Part.settle_kept | split)

theorem ownSetProfile_kept (f : ProfileFields) (h : s.Kept x) : s.Kept (ownSetProfile f x).1 := by
  unfold ownSetProfile
  split <;> exact h

theorem ownSetBandWindow_kept (w : WindowArg) (h : s.Kept x) : s.Kept (ownSetBandWindow w x).1 := by
  unfold ownSetBandWindow
  dsimp only
  repeat' (first | exact h | with_reducible apply Part.acceptWindow_kept | with_reducible apply Part.detectConflict_kept
                 | split)

theorem ownSetStrictPlan_kept (v : Option Bool) (h : s.Kept x) : s.Kept (ownSetStrictPlan v x).1 := by
  cases v <;> exact h

theorem ownRequestReshape_kept (src : Source) (h : s.Kept x) : s.Kept (ownRequestReshape src x).1 := by
  unfold ownRequestReshape
  split
  · exact Part.refreshHeard_kept (Part.raise_kept _ h)
  · exact h

theorem onPort_kept (g : PortArg) (f : PortId → Part → Answer) (h : s.Kept x) (hf : ∀ p, s.Kept (f p x).1) :
    s.Kept (onPort g f x).1 := by
  unfold onPort
  split
  · exact hf _
  · exact h

theorem Part.enableTripped_kept (p : PortId) (h : s.Kept x) : s.Kept (x.enableTripped p) := by
  unfold Part.enableTripped
  repeat' (first | exact h | with_reducible apply Part.toDialling_kept | with_reducible apply Part.enterState_kept | split)

theorem ownPortEnable_kept (g : PortArg) (h : s.Kept x) : s.Kept (ownPortEnable g x).1 := by
  refine onPort_kept g _ h fun p => ?_
  dsimp only
  repeat' (first | with_reducible apply Part.settle_kept | with_reducible apply Part.enableTripped_kept
                 | with_reducible apply Part.enterState_kept | with_reducible apply Part.modPort_kept | split | exact h)

theorem Part.portDisable_kept (p : PortId) (h : s.Kept x) : s.Kept (x.portDisable p) := by
  unfold Part.portDisable
  dsimp only
  repeat' (first | with_reducible apply Part.enterState_kept | with_reducible apply Part.endRing_kept
                 | with_reducible apply Part.hangUp_kept | with_reducible apply Part.modPort_kept | split | exact h)

theorem ownPortDisable_kept (g : PortArg) (h : s.Kept x) : s.Kept (ownPortDisable g x).1 :=
  onPort_kept g _ h fun p => Part.settle_kept (Part.portDisable_kept p h)

theorem Part.localRing_kept (p : PortId) (c : Option PortId) (h : s.Kept x) : s.Kept (x.localRing p c).1 := by
  unfold Part.localRing
  split
  · exact Part.refreshHeard_kept (Part.startRing_kept _ _ _ _ h)
  · exact Part.postRingLimited_kept _ h

theorem ownRingLocal_kept (g : PortArg) (h : s.Kept x) : s.Kept (ownRingLocal g x).1 := by
  refine onPort_kept g _ h fun p => ?_
  repeat' (first | exact h | with_reducible apply Part.localRing_kept | split)

theorem ownIntercom_kept (g k : PortArg) (h : s.Kept x) : s.Kept (ownIntercom g k x).1 := by
  unfold ownIntercom
  repeat' (first | exact h | with_reducible apply Part.localRing_kept | split)

theorem ownJoin_kept (h : s.Kept x) : s.Kept (ownJoin x).1 := by
  unfold ownJoin
  split
  · exact h
  · split
    · exact Part.refreshHeard_kept (Part.dropRungBy_kept _ (Part.Kept.update (Part.enterState_kept _ _ _
        (Part.withdraw_kept _ (Part.modPort_kept _ _ h)))))
    · exact h

theorem ownPart_kept (h : s.Kept x) : s.Kept (ownPart x).1 := by
  unfold ownPart
  split
  · exact Part.refreshHeard_kept (Part.toDialling_kept _ h)
  · exact h

theorem Part.startTest_kept (t : TestKind) (p : Option PortId) (src : Source) (h : s.Kept x) :
    s.Kept (x.startTest t p src).1 := Part.settle_kept h

theorem ownRunDiag_kept (src : Source) (t : Option TestKind) (p : Option PortArg) (h : s.Kept x) :
    s.Kept (ownRunDiag src t p x).1 := by
  unfold ownRunDiag Part.mayTest
  dsimp only
  repeat' (first | exact h | with_reducible apply Part.startTest_kept | split)

theorem ownAbortDiag_kept (h : s.Kept x) : s.Kept (ownAbortDiag x).1 := by
  unfold ownAbortDiag
  split
  · exact Part.settle_kept (Part.abortTest_kept _ h)
  · exact h

theorem Part.clearFlag_kept (f : FlagName) (h : s.Kept x) : s.Kept (x.clearFlag f) := by
  cases f <;> exact h

theorem Part.foldl_clearFlag_kept (fs : List FlagName) (h : s.Kept x) :
    s.Kept (fs.foldl (fun p f => p.clearFlag f) x) := by
  induction fs generalizing x with
  | nil => exact h
  | cons f fs ih => exact ih (Part.clearFlag_kept f h)

theorem ownAckFlags_kept (src : Source) (ns : List (Option FlagName)) (h : s.Kept x) :
    s.Kept (ownAckFlags src ns x).1 := by
  unfold ownAckFlags
  split
  · exact h
  · exact Part.foldl_clearFlag_kept _ h

theorem ownReadTable_kept (t : Option TableName) (a c : Nat) (h : s.Kept x) : s.Kept (ownReadTable t a c x).1 := by
  unfold ownReadTable
  dsimp only
  repeat' (first | exact h | split)

theorem ownGetDiagResult_kept (t : Option TestKind) (p : Option PortArg) (h : s.Kept x) :
    s.Kept (ownGetDiagResult t p x).1 := by
  unfold ownGetDiagResult
  repeat' (first | exact h | split)

theorem ownClearLog_kept (h : s.Kept x) : s.Kept (ownClearLog x).1 :=
  h.mk rfl le_rfl le_rfl le_rfl (List.length_filter_le _ _) le_rfl le_rfl

theorem ownSetReportThreshold_kept (v : Option Severity) (h : s.Kept x) : s.Kept (ownSetReportThreshold v x).1 := by
  cases v <;> exact h

/-- A grant changes one of the three entries that are not fixed (R193, R198). -/
theorem Perms.fixedEntries_setLocWrite {p : Perms} (k : ObjClass) (v : Bool) (h : p.fixedEntries) :
    (p.setLocWrite k v).fixedEntries := by
  obtain ⟨a, b, c, rfl⟩ := h
  cases k with
  | lineProfile => exact ⟨v, b, c, rfl⟩
  | diag => exact ⟨a, v, c, rfl⟩
  | supplyConfig => exact ⟨a, b, v, rfl⟩
  | _ => exact ⟨a, b, c, rfl⟩

theorem ownPermission_kept (v : Bool) (c : Option ObjClass) (h : s.Kept x) : s.Kept (ownPermission v c x).1 := by
  unfold ownPermission
  split
  · split
    · exact h.trans ⟨Perms.fixedEntries_setLocWrite _ v, le_rfl, id⟩
    · exact h
  · exact h

theorem Part.abortUntold_kept (h : s.Kept x) : s.Kept x.abortUntold := h

theorem Part.commandFull_kept (h : s.Kept x) : s.Kept x.commandFull := by
  have hstates := Part.enterState_kept .b x.abortUntold.stopLine.portBAfterReset none
    (Part.enterState_kept .a .through none (Part.stopLine_kept (Part.abortUntold_kept h)))
  unfold Part.commandFull
  refine Part.Kept.mk (Part.foldl_clearFlag_kept _ (Part.Kept.mk hstates rfl le_rfl le_rfl ?_ le_rfl ?_ ?_)) rfl ?_ ?_
    le_rfl le_rfl le_rfl le_rfl <;> exact Nat.zero_le _

theorem Part.commandLine_kept (h : s.Kept x) : s.Kept x.commandLine := by
  have hstop := Part.stopLine_kept (Part.abortTest_kept .reset h)
  exact Part.refreshHeard_kept (Part.settleRelay_kept
    (Part.Kept.mk hstop rfl le_rfl le_rfl le_rfl le_rfl (Nat.zero_le _) (Nat.zero_le _)))

theorem ownReset_kept (v : Option Scope) (h : s.Kept x) : s.Kept (ownReset v x).1 := by
  rcases v with _ | _ | _
  · exact h
  · exact Part.commandFull_kept h
  · exact Part.commandLine_kept h

/-- Whatever owner a command of the catalogue has, its answer keeps the bounds and the fixed entries. -/
theorem handlingOf_kept (src : Source) (c : Command) (h : s.Kept x) : s.Kept ((handlingOf src c).own x).1 := by
  cases c with
  | lineStart => exact ownLineStart_kept h
  | lineStop => exact Part.settle_kept (Part.stopLine_kept h)
  | setProfile f => exact ownSetProfile_kept f h
  | setBandWindow w => exact ownSetBandWindow_kept w h
  | setStrictPlan v => exact ownSetStrictPlan_kept v h
  | requestReshape => exact ownRequestReshape_kept src h
  | portEnable p => exact ownPortEnable_kept p h
  | portDisable p => exact ownPortDisable_kept p h
  | ringLocal p => exact ownRingLocal_kept p h
  | intercom f t => exact ownIntercom_kept f t h
  | join => exact ownJoin_kept h
  | part => exact ownPart_kept h
  | getPortStatus p => exact onPort_kept p _ h fun _ => h
  | runDiag t p => exact ownRunDiag_kept src t p h
  | abortDiag => exact ownAbortDiag_kept h
  | getDiagResult t p => exact ownGetDiagResult_kept t p h
  | clearLog => exact ownClearLog_kept h
  | setReportThreshold v => exact ownSetReportThreshold_kept v h
  | grant c => exact ownPermission_kept true c h
  | withhold c => exact ownPermission_kept false c h
  | ackFlags ns => exact ownAckFlags_kept src ns h
  | readTable t a n => exact ownReadTable_kept t a n h
  | reset v => exact ownReset_kept v h
  | _ => exact h

/-! ### A catalogue command, from its frame to its reply -/

/-- The bounds, and the fixed entries of the permission table. -/
def Part.Safe (s : Part) : Prop := s.bounded ∧ s.access.perms.fixedEntries

theorem Part.Kept.safe {t : Part} (h : s.Kept t) (hs : s.Safe) : t.Safe := ⟨h.2.2 hs.1, h.1 hs.2⟩

/-- The one reply of a frame taken at a queue of fewer than 8 replies finds room (R202). -/
theorem Part.takeFrame_safe (tag kind : Byte) (f : Part → Answer) (hs : s.Safe) (hf : ∀ z, s.Kept z → z.Kept (f z).1) :
    (s.takeFrame tag kind f).Safe := by
  have hseen : s.Kept s.frameSeen := Part.frameSeen_kept (Part.Kept.refl s)
  unfold Part.takeFrame
  dsimp only
  split
  · exact Part.Kept.safe hseen hs
  · split
    · exact Part.Kept.safe hseen hs
    · rename_i hroom
      have howner := hf s.frameSeen hseen
      obtain ⟨⟨hreplies, hrest⟩, hperms⟩ := Part.Kept.safe (hseen.trans howner) hs
      refine ⟨⟨?_, hrest⟩, hperms⟩
      have hfewer : (f s.frameSeen).1.link.replies.length ≤ s.frameSeen.link.replies.length := howner.2.1
      simp only [Part.reply, List.length_append, List.length_singleton]
      omega

theorem Part.answer_kept (src : Source) (form : BodyForm) (k : Handling) (h : s.Kept x)
    (hown : s.Kept (k.own x).1) : s.Kept (x.answer src form k).1 := by
  unfold Part.answer
  split
  · exact Part.refuse_kept _ _ h
  · split
    · exact hown
    · exact h

theorem Part.takeOperator_kept (tag : Byte) (f : Part → Answer) (hf : s.Kept (f s).1) :
    s.Kept (s.takeOperator tag f) := by
  unfold Part.takeOperator
  split
  · apply Part.operatorReply_kept
    split
    · exact Part.Kept.refl s
    · exact hf
  · exact Part.Kept.refl s

theorem Part.take_safe (e : Envelope) (k : Handling) (hs : s.Safe) (hown : ∀ z : Part, z.Kept (k.own z).1) :
    (s.take e k).Safe := by
  unfold Part.take
  split
  · refine Part.takeFrame_safe _ _ _ hs fun z _ => ?_
    split
    · exact Part.Kept.refl z
    · exact Part.answer_kept _ _ _ (Part.Kept.refl z) (hown z)
  · exact Part.Kept.safe (Part.takeOperator_kept _ _ (Part.answer_kept _ _ _ (Part.Kept.refl s) (hown s))) hs

theorem Part.takeUnknown_safe (e : Envelope) (k : Byte) (hs : s.Safe) : (s.takeUnknown e k).Safe := by
  unfold Part.takeUnknown
  split
  · exact Part.takeFrame_safe _ _ _ hs fun z _ => Part.Kept.refl z
  · exact Part.Kept.safe (Part.takeOperator_kept _ _ (Part.Kept.refl s)) hs

end Sys2Proof.Machine
end

section
/-! SUPPORT and the settled statement: every step keeps the bounds, the fixed permissions and what holds between the blocks
(O3). Each command is a block of Machine/ on the part, so its two lemmas, of what it keeps and of the outline it leaves,
are put together here, one line per command. -/

namespace Sys2Proof.Machine

variable {x y : Part} {s t : State}

/-- The invariant of a run: the bounds, the fixed permissions, and what holds between the blocks. -/
def Part.Sound (x : Part) : Prop := x.Safe ∧ x.coherent

/-- From `x` to `y` the bounds and the fixed entries are kept, and a coherent outline stays coherent. -/
def Part.Keeps (x y : Part) : Prop := x.Kept y ∧ (x.outline.ok → y.outline.ok)

theorem Part.Keeps.refl (x : Part) : x.Keeps x := ⟨Part.Kept.refl x, id⟩

/-- A block that leaves the outline as it is. -/
theorem Part.Keeps.same (hk : x.Kept y) (ho : y.outline = x.outline) : x.Keeps y := ⟨hk, Part.ok_of ho⟩

/-- A command that acts under a condition, and does nothing else. -/
theorem Part.Keeps.guarded {c : Prop} [Decidable c] (h : c → x.Keeps y) : x.Keeps (if c then y else x) := by
  split
  · exact h ‹c›
  · exact Part.Keeps.refl x

theorem Part.Keeps.settle (h : x.Keeps y) : x.Keeps y.settle :=
  ⟨Part.settle_kept h.1, fun ok => Part.settle_ok (h.2 ok)⟩

theorem Part.Keeps.refreshHeard (h : x.Keeps y) : x.Keeps y.refreshHeard :=
  ⟨Part.refreshHeard_kept h.1, fun ok => Part.ok_of (Part.refreshHeard_outline rfl) (h.2 ok)⟩

theorem Part.Keeps.sound (h : x.Keeps y) (hx : x.Sound) (hr : x.running = true) : y.Sound :=
  ⟨Part.Kept.safe h.1 hx.1, (Part.coherent_iff y).2 fun _ => h.2 ((Part.coherent_iff x).1 hx.2 hr)⟩

/-- A command acts on a part that runs, and leaves a stopped one as it is. -/
theorem State.act_sound {f : Part → Part} (hs : s.part.Sound) (h : s.act f = .next t)
    (hf : s.part.running = true → (f s.part).Sound) : t.part.Sound := by
  unfold State.act at h
  injection h with h
  subst h
  split
  · exact hf ‹_›
  · exact hs

theorem State.act_keeps {f : Part → Part} (hs : s.part.Sound) (h : s.act f = .next t) (hf : s.part.Keeps (f s.part)) :
    t.part.Sound := State.act_sound hs h fun hr => Part.Keeps.sound hf hs hr

/-- A command of the catalogue, from its frame or message to its answer (R195, R199, R202). -/
theorem Part.take_sound (e : Envelope) (c : Command) (hx : x.Sound) (hr : x.running = true) :
    (x.take e (handlingOf e.src c)).Sound := by
  have hok : x.outline.ok := (Part.coherent_iff x).1 hx.2 hr
  refine ⟨Part.take_safe e _ hx.1 fun z => handlingOf_kept e.src c (Part.Kept.refl z), ?_⟩
  exact (Part.coherent_iff _).2 fun _ => Part.take_ok e _ hok fun y hy => handlingOf_ok e.src c (Part.ok_of hy hok)

theorem Part.takeUnknown_sound (e : Envelope) (k : Byte) (hx : x.Sound) (hr : x.running = true) :
    (x.takeUnknown e k).Sound :=
  ⟨Part.takeUnknown_safe e k hx.1, (Part.coherent_iff _).2 fun _ =>
    Part.takeUnknown_ok e k ((Part.coherent_iff x).1 hx.2 hr)⟩

/-- Any row of the catalogue. -/
theorem State.act_take_sound {e : Envelope} {c : Command} (hs : s.part.Sound)
    (h : (s.act fun q => q.take e (handlingOf e.src c)) = .next t) : t.part.Sound :=
  State.act_sound hs h (Part.take_sound e c hs)

/-! ### Commands whose action is written out in their row -/

theorem Part.notQuiet {l : LineState} (h : x.line.state = l) (hl : l ≠ .quiet) : x.line.state ≠ .quiet := h ▸ hl

theorem Part.bringUp_notQuiet (h : x.line.state = .sounding ∨ x.line.state = .measuring ∨ x.line.state = .loading) :
    x.line.state ≠ .quiet := by
  rcases h with h | h | h <;> rw [h] <;> decide

theorem Part.supply_notShutdown {v : SupplyState} (h : x.supply.state = v) (hv : v ≠ .shutdown) :
    x.supply.state ≠ .shutdown := h ▸ hv

theorem Part.coherent_of_stopped (h : x.running = false) : x.coherent := fun hr => absurd hr (by rw [h]; decide)

theorem Link.release_le (l : Link) :
    l.release.replies.length ≤ l.replies.length ∧ l.release.notices.length ≤ l.notices.length := by
  unfold Link.release
  split <;> simp_all

/-- A read transaction takes a frame from a queue, or shows one alone (R203). -/
theorem execReadTransaction_sound (whole : Bool) (hs : s.part.Sound) (h : execReadTransaction whole s = .next t) :
    t.part.Sound := by
  refine State.act_keeps hs h (.same ?_ rfl)
  refine (Part.Kept.refl s.part).mk rfl ?_ ?_ le_rfl le_rfl le_rfl le_rfl
  · cases whole
    · exact le_rfl
    · exact (Link.release_le _).1
  · cases whole
    · exact le_rfl
    · exact (Link.release_le _).2

theorem execFrameNotTaken_sound (why : NotTaken) (hs : s.part.Sound) (h : execFrameNotTaken why s = .next t) :
    t.part.Sound := by
  refine State.act_keeps hs h ?_
  have hseen : s.part.Keeps s.part.frameSeen :=
    .same (Part.frameSeen_kept (Part.Kept.refl _)) (Part.frameSeen_outline rfl)
  cases why with
  | incomplete => exact Part.Keeps.refl s.part
  | overlong => exact Part.Keeps.refl s.part
  | tagZero => exact hseen
  | heldOff => exact hseen

theorem execOperatorCommand_sound (tag : Byte) (form : BodyForm) (c : Command) (hs : s.part.Sound)
    (h : execOperatorCommand tag form c s = .next t) : t.part.Sound := by
  refine State.act_sound hs h fun hr => ?_
  split
  · exact Part.takeUnknown_sound _ _ hs hr
  · exact Part.take_sound ⟨.operator, tag, form⟩ c hs hr

theorem execCallWindowExpiry_sound (hs : s.part.Sound) (h : execCallWindowExpiry s = .next t) : t.part.Sound := by
  refine State.act_keeps hs h (.guarded fun ⟨hl, _⟩ => ?_)
  split
  · exact .same (Part.beginCall_kept (Part.Kept.refl _)) (Part.beginCall_outline rfl)
  · exact .settle ⟨Part.failAttempt_kept _ _ (Part.Kept.refl _), fun ok =>
      Part.failAttempt_ok _ _ ok (Part.notQuiet hl (by decide))⟩

theorem execTableReject_sound (n : Byte) (c : Check) (k : Nat) (hs : s.part.Sound)
    (h : execTableReject n c k s = .next t) : t.part.Sound := by
  refine State.act_keeps hs h ?_
  split
  · rename_i hl
    exact .settle ⟨Part.failAttempt_kept _ _ (Part.Kept.refl _), fun ok =>
      Part.failAttempt_ok _ _ ok (Part.notQuiet hl (by decide))⟩
  · refine .guarded fun hl => .settle ⟨Part.abandon_kept _ _ (Part.Kept.refl _), fun ok => Part.abandon_ok _ _ ok hl⟩

theorem execSwitchSymbolWithoutAck_sound (hs : s.part.Sound) (h : execSwitchSymbolWithoutAck s = .next t) :
    t.part.Sound := by
  refine State.act_keeps hs h (.guarded fun _ => ?_)
  split
  · rename_i w hw
    split
    · exact Part.Keeps.refl s.part
    · refine .same (Part.Kept.refl _) (Part.outline_mk rfl ?_ rfl rfl rfl rfl rfl rfl)
      simp [Line.outline, hw]
  · exact Part.Keeps.refl s.part

theorem execDrop_sound (hs : s.part.Sound) (h : execDrop s = .next t) : t.part.Sound := by
  refine State.act_keeps hs h ?_
  split
  · rename_i hin
    exact .settle ⟨Part.dropLine_kept _ (Part.Kept.refl _), fun ok => Part.dropLine_ok _ ok (Part.inService_notQuiet hin)⟩
  · refine .guarded fun hl => .settle ⟨Part.failAttempt_kept _ _ (Part.Kept.refl _), fun ok =>
      Part.failAttempt_ok _ _ ok (Part.bringUp_notQuiet hl)⟩

theorem execUpstreamSymbolFill_sound (hs : s.part.Sound) (h : execUpstreamSymbolFill s = .next t) : t.part.Sound := by
  refine State.act_keeps hs h (.guarded fun _ => ?_)
  split
  · exact .same (Part.fillReport_kept _ _ (Part.Kept.refl _)) (Part.fillReport_outline _ _ rfl)
  · exact .same (Part.fillSymbol_kept _ (Part.Kept.refl _)) (Part.fillSymbol_outline _ rfl)

theorem execMove_sound (m : MoveMsg) (hs : s.part.Sound) (h : execMove m s = .next t) : t.part.Sound := by
  refine State.act_keeps hs h ?_
  split
  · exact .same (Part.receiveError_kept (Part.Kept.refl _)) (Part.receiveError_outline rfl)
  · exact .guarded fun _ => .same (Part.takeMove_kept m (Part.Kept.refl _)) (Part.takeMove_outline m rfl)

theorem execEnterMains_sound (hs : s.part.Sound) (h : execEnterMains s = .next t) : t.part.Sound := by
  have henter : s.part.supply.state ≠ .shutdown → s.part.Keeps s.part.enterMains.settle := fun hv =>
    .settle ⟨Part.enterMains_kept (Part.Kept.refl _), fun ok => Part.enterMains_ok ok hv⟩
  refine State.act_keeps hs h (.guarded fun _ => ?_)
  split
  · exact henter (Part.supply_notShutdown ‹_› (by decide))
  · exact henter (Part.supply_notShutdown ‹_› (by decide))
  · exact Part.Keeps.refl s.part
  · exact Part.Keeps.refl s.part
  · exact Part.Keeps.refl s.part

theorem execLastReportDone_sound (hs : s.part.Sound) (h : execLastReportDone s = .next t) : t.part.Sound :=
  State.act_keeps hs h (.guarded fun _ => .settle ⟨Part.enterShutdown_kept (Part.Kept.refl _), fun ok =>
    Part.enterShutdown_ok (Outline.ok.ends ok)⟩)

theorem Part.powerOn_sound (m : Bool) (b : Nat) (hx : x.Sound) : (Part.powerOn m b).Sound :=
  ⟨Part.Kept.safe (Part.powerOn_kept (s := x) m b) hx.1, (Part.coherent_iff _).2 fun _ => Part.powerOn_ok m b⟩

theorem execShutdownRecovery_sound (hs : s.part.Sound) (h : execShutdownRecovery s = .next t) : t.part.Sound := by
  refine State.act_sound hs h fun _ => ?_
  split
  · exact Part.powerOn_sound _ _ hs
  · exact hs

theorem execPortTestDone_sound (r l : Int) (hs : s.part.Sound) (h : execPortTestDone r l s = .next t) :
    t.part.Sound := by
  refine State.act_keeps hs h ?_
  split
  · split
    · exact .settle (.same (Part.portTestDone_kept _ _ _ (Part.Kept.refl _)) (Part.portTestDone_outline _ _ _ rfl))
    · exact Part.Keeps.refl s.part
  · exact Part.Keeps.refl s.part

theorem execUpstreamFrameArrival_sound (f : FrameArrival) (hs : s.part.Sound)
    (h : execUpstreamFrameArrival f s = .next t) : t.part.Sound := by
  refine State.act_keeps hs h ?_
  split
  · refine .same (Part.frameBegins_kept (Part.Kept.refl _)) ?_
    unfold Part.frameBegins
    split <;> rfl
  · refine .same (Part.frameEnds_kept _ (Part.Kept.refl _)) ?_
    unfold Part.frameEnds
    dsimp only
    repeat' (first | rfl | split)

theorem execStreamPortTakesFrame_sound (hs : s.part.Sound) (h : execStreamPortTakesFrame s = .next t) :
    t.part.Sound := by
  refine State.act_keeps hs h ?_
  split
  · rename_i hb
    refine .same ((Part.Kept.refl s.part).mk rfl le_rfl le_rfl le_rfl le_rfl le_rfl ?_) rfl
    simp [hb]
  · exact Part.Keeps.refl s.part

/-! ### Every command -/

/-- Whatever command runs, in whatever state, it keeps the invariant. -/
theorem exec_sound (i : Instr) (hs : s.part.Sound) (h : exec i s = .next t) : t.part.Sound := by
  have kept : s.part.Kept s.part := Part.Kept.refl s.part
  cases i with
  | powerOn m b => injection h with h; subst h; exact Part.powerOn_sound m b hs
  | coreSupplyCollapse =>
    unfold exec execCoreSupplyCollapse at h
    exact State.act_sound hs h fun _ => ⟨hs.1, Part.coherent_of_stopped rfl⟩
  | frameNotTaken why => exact execFrameNotTaken_sound why hs h
  | unknownKindCommand e k => exact State.act_sound hs h (Part.takeUnknown_sound e k hs)
  | readTransaction w => exact execReadTransaction_sound w hs h
  | operatorCommand g b c => exact execOperatorCommand_sound g b c hs h
  | serviceMessageError =>
    exact State.act_keeps hs h (.same (Part.receiveError_kept kept) (Part.receiveError_outline rfl))
  | enterSounding =>
    exact State.act_keeps hs h (.guarded fun hm => .refreshHeard ⟨Part.enterSounding_kept kept, fun ok =>
      Part.enterSounding_ok ok hm⟩)
  | wakeToneEnd => exact State.act_keeps hs h (.guarded fun _ => .same kept rfl)
  | callWindowExpiry => exact execCallWindowExpiry_sound hs h
  | answer =>
    exact State.act_keeps hs h (.guarded fun hl => ⟨Part.enterMeasuring_kept kept, fun ok => Part.enterMeasuring_ok ok hl⟩)
  | measurementEnd =>
    exact State.act_keeps hs h (.guarded fun hl => .settle ⟨Part.measurementEnd_kept kept, fun ok =>
      Part.measurementEnd_ok ok hl⟩)
  | upTable n g bs =>
    refine State.act_keeps (f := fun q => (q.upTable n g bs).settle) hs h ?_
    exact .settle ⟨Part.upTable_kept n g bs kept, Part.upTable_ok n g bs⟩
  | tableReject n c k => exact execTableReject_sound n c k hs h
  | switchAck k =>
    exact State.act_keeps hs h (.guarded fun _ => .same
      (Part.Kept.update kept) (Part.outline_mk rfl (Part.acknowledge_outline k _) rfl rfl rfl rfl rfl rfl))
  | switchSymbolWithoutAck => exact execSwitchSymbolWithoutAck_sound hs h
  | loadingTimeout =>
    exact State.act_keeps hs h (.guarded fun hl => .settle ⟨Part.failAttempt_kept _ _ kept, fun ok =>
      Part.failAttempt_ok _ _ ok (Part.notQuiet hl (by decide))⟩)
  | enterCarrying =>
    exact State.act_keeps hs h (.guarded fun ⟨hl, hc⟩ => .refreshHeard ⟨Part.enterCarrying_kept kept, fun ok =>
      Part.enterCarrying_ok ok hl hc⟩)
  | holdoffExpiry => exact State.act_keeps hs h (.guarded fun _ => .settle (.same kept rfl))
  | retryExpiry => exact State.act_keeps hs h (.guarded fun _ => .settle (.same kept rfl))
  | drop => exact execDrop_sound hs h
  | downstreamSymbol d =>
    exact State.act_keeps hs h (.guarded fun _ => .same (Part.downstream_kept d kept) (Part.downstream_outline d rfl))
  | upstreamSymbolFill => exact execUpstreamSymbolFill_sound hs h
  | syncLoss =>
    exact State.act_keeps hs h (.guarded fun hin => .settle ⟨Part.dropLine_kept _ kept, fun ok =>
      Part.dropLine_ok _ ok (Part.inService_notQuiet hin)⟩)
  | monitoringPeriodEnd =>
    exact State.act_keeps hs h (.guarded fun hin => .settle ⟨Part.periodEnd_kept kept, fun ok => Part.periodEnd_ok ok hin⟩)
  | erasureWindowClose => exact State.act_keeps hs h (.same (Part.closeWindow_kept kept) (Part.closeWindow_outline rfl))
  | moveAck n k => exact State.act_keeps hs h (.guarded fun _ => .settle ⟨Part.moveAck_kept n k kept, Part.moveAck_ok n k⟩)
  | moveRefuse n => exact State.act_keeps hs h (.guarded fun _ => .settle ⟨Part.moveRefuse_kept n kept, Part.moveRefuse_ok n⟩)
  | moveAnswerTimeout => exact State.act_keeps hs h (.guarded fun _ => .settle ⟨Part.moveTimeout_kept kept, Part.moveTimeout_ok⟩)
  | moveSwitch => exact State.act_keeps hs h (.guarded fun _ => .settle ⟨Part.moveSwitch_kept kept, Part.moveSwitch_ok⟩)
  | move m => exact execMove_sound m hs h
  | upstreamMoveSwitch =>
    exact State.act_keeps hs h (.guarded fun _ => .settle ⟨Part.upstreamMoveSwitch_kept kept, Part.upstreamMoveSwitch_ok⟩)
  | reshapeOffer rs =>
    refine State.act_keeps (f := fun q => (q.reshapeOffer rs).settle) hs h ?_
    exact .settle ⟨Part.reshapeOffer_kept rs kept, Part.reshapeOffer_ok rs⟩
  | reshapeTimeout =>
    exact State.act_keeps hs h (.guarded fun hl => .settle ⟨Part.abandon_kept _ _ kept, fun ok => Part.abandon_ok _ _ ok hl⟩)
  | reshapeSwitch =>
    exact State.act_keeps hs h (.guarded fun ⟨hl, hc⟩ => .settle ⟨Part.reshapeSwitch_kept kept, fun ok =>
      Part.reshapeSwitch_ok ok hl hc⟩)
  | channelSwitch =>
    exact State.act_keeps hs h (.guarded fun _ => .refreshHeard ⟨Part.channelSwitch_kept kept, Part.channelSwitch_ok⟩)
  | holdTimeout p =>
    exact State.act_keeps hs h (.guarded fun ⟨hp, _⟩ => .refreshHeard ⟨Part.holdExpires_kept p kept, fun ok =>
      Part.holdExpires_ok p ok hp⟩)
  | offHook p =>
    refine State.act_keeps (f := fun q => (q.offHook p).settle) hs h ?_
    exact .settle ⟨Part.offHook_kept p kept, Part.offHook_ok p⟩
  | onHook p =>
    refine State.act_keeps (f := fun q => (q.onHook p).settle) hs h ?_
    exact .settle ⟨Part.onHook_kept p kept, Part.onHook_ok p⟩
  | breakEnd p ms => exact State.act_keeps hs h (.same (Part.breakEnds_kept p ms kept) (Part.breakEnds_outline p ms rfl))
  | digitEnd p => exact State.act_keeps hs h (.same (Part.digitEnds_kept p kept) (Part.digitEnds_outline p rfl))
  | toneDigit p d => exact State.act_keeps hs h (.same (Part.toneDigit_kept p d kept) (Part.toneDigit_outline p d rfl))
  | dialTimeout p =>
    refine State.act_keeps (f := fun q => (q.dialExpires p).refreshHeard) hs h ?_
    exact .refreshHeard (.same (Part.dialExpires_kept p kept) (Part.dialExpires_outline p rfl))
  | connect p =>
    refine State.act_keeps (f := fun q => (q.connect p).refreshHeard) hs h ?_
    exact .refreshHeard ⟨Part.connect_kept p kept, Part.connect_ok p⟩
  | release p =>
    refine State.act_keeps (f := fun q => (q.release p).refreshHeard) hs h ?_
    exact .refreshHeard ⟨Part.release_kept p kept, Part.release_ok p⟩
  | tone p k =>
    refine State.act_keeps (f := fun q => (q.callTone p k).refreshHeard) hs h ?_
    exact .refreshHeard (.same (Part.callTone_kept p k kept) (Part.callTone_outline p k rfl))
  | howlerTimeout p =>
    exact State.act_keeps hs h (.guarded fun _ => .refreshHeard (.same (Part.modPort_kept p _ kept)
      (Part.modPort_outline p _ rfl rfl)))
  | howlerStep p =>
    exact State.act_keeps hs h (.guarded fun _ => .same (Part.setGen_kept p _ kept) (Part.setGen_outline p _ rfl))
  | ring p c =>
    refine State.act_keeps (f := fun q => (q.takeRing p c).refreshHeard) hs h ?_
    exact .refreshHeard (.same (Part.takeRing_kept p c kept) (Part.takeRing_outline p c rfl))
  | ringStop p =>
    refine State.act_keeps hs h (.guarded fun hc => .refreshHeard ?_)
    simp only [Port.ringsFrom, Bool.and_eq_true, beq_iff_eq] at hc
    exact .same (Part.endRing_kept _ _ _ kept) (Part.endRing_plain p false .idle rfl (hc.2.1 ▸ rfl) rfl)
  | ringCadencePhase p =>
    exact State.act_keeps hs h (.guarded fun _ => .same (Part.modPort_kept p _ kept) (Part.modPort_outline p _ rfl rfl))
  | localRingTimeout p =>
    refine State.act_keeps hs h (.guarded fun hc => .refreshHeard ?_)
    simp only [Port.ringsFrom, Bool.and_eq_true, beq_iff_eq] at hc
    exact .same (Part.endRing_kept _ _ _ kept) (Part.endRing_plain p false .idle rfl (hc.1 ▸ rfl) rfl)
  | ringTrip p =>
    exact State.act_keeps hs h (.guarded fun hp => .settle ⟨Part.offHookAborts_kept p (Part.ringTrip_kept p kept), fun ok =>
      Part.offHookAborts_ok p (Part.ringTrip_ok p ok hp)⟩)
  | ringOvercurrent p =>
    refine State.act_keeps hs h (.guarded fun hc => .refreshHeard ?_)
    simp only [Port.driving, Bool.and_eq_true, beq_iff_eq] at hc
    exact .same (Part.overcurrent_kept p kept) (Part.overcurrent_outline p rfl hc.1)
  | heatStep p =>
    refine State.act_keeps (f := fun q => (q.heatStep p).refreshHeard) hs h ?_
    exact .refreshHeard (.same (Part.heatStep_kept p kept) (Part.heatStep_outline p rfl))
  | cooldownEnd p =>
    refine State.act_keeps (f := fun q => (q.cooldownEnds p).settle) hs h ?_
    exact .settle (.same (Part.cooldownEnds_kept p kept) (Part.cooldownEnds_outline p rfl))
  | reportAck q =>
    exact State.act_keeps hs h (.guarded fun _ => .same (Part.reportAck_kept q kept) (Part.tryOffer_outline rfl))
  | reportAckTimeout =>
    exact State.act_keeps hs h (.guarded fun _ => .same
      (Part.tryOffer_kept (kept.mk rfl le_rfl le_rfl le_rfl (Log.settle_length _).le le_rfl le_rfl)) (Part.tryOffer_outline rfl))
  | lastReportDone => exact execLastReportDone_sound hs h
  | mainsSenseChange b =>
    unfold exec execMainsSenseChange at h
    exact State.act_keeps hs h (.same (Part.retime_kept kept) (Part.retime_outline rfl))
  | batteryThresholdCrossing v =>
    unfold exec execBatteryThresholdCrossing at h
    exact State.act_keeps hs h (.same (Part.retime_kept kept) (Part.retime_outline rfl))
  | enterBattery =>
    exact State.act_keeps hs h (.guarded fun ⟨hv, _⟩ => .settle ⟨Part.enterBattery_kept _ kept, fun ok =>
      Part.enterBattery_ok _ ok (Part.supply_notShutdown hv (by decide))⟩)
  | batteryRecovered =>
    exact State.act_keeps hs h (.guarded fun ⟨hv, _⟩ => .settle ⟨Part.recoverBattery_kept kept, fun ok =>
      Part.recoverBattery_ok ok (Part.supply_notShutdown hv (by decide))⟩)
  | enterBatteryLow =>
    exact State.act_keeps hs h (.guarded fun ⟨hv, _⟩ => .settle ⟨Part.enterBatteryLow_kept _ kept, fun ok =>
      Part.enterBatteryLow_ok _ ok (Part.supply_notShutdown hv (by decide))⟩)
  | enterMains => exact execEnterMains_sound hs h
  | enterCutoff =>
    refine State.act_keeps hs h (.guarded fun ⟨hv, _⟩ => .settle ⟨Part.enterCutoff_kept _ kept, fun ok => ?_⟩)
    exact Part.enterCutoff_ok _ ok (hv.elim (fun k => Part.supply_notShutdown k (by decide))
      fun k => Part.supply_notShutdown k (by decide))
  | shutdownRecovery => exact execShutdownRecovery_sound hs h
  | hostSilenceTimeout =>
    exact State.act_keeps hs h (.guarded fun _ => .same (Part.hostSilence_kept kept) (Part.hostSilence_outline rfl))
  | statsPeriodExpiry =>
    exact State.act_keeps hs h (.guarded fun _ => .same (Part.Kept.update (Part.post_kept (.stats s.part.stats) kept)) rfl)
  | loopTestDone m =>
    exact State.act_keeps hs h (.guarded fun _ => .settle (.same (Part.loopDone_kept m kept) (Part.loopDone_outline m rfl)))
  | noisePhaseEnd l =>
    exact State.act_keeps hs h (.guarded fun _ => .settle (.same (Part.noisePhaseEnd_kept l kept)
      (Part.noisePhaseEnd_outline l rfl)))
  | noiseScanDone =>
    exact State.act_keeps hs h (.guarded fun _ => .settle (.same (Part.scanDone_kept _ kept) (Part.scanDone_outline _ rfl)))
  | scanImpulseEvent k => exact State.act_keeps hs h (.guarded fun _ => .same kept rfl)
  | portTestDone r l => exact execPortTestDone_sound r l hs h
  | upstreamFrameArrival f => exact execUpstreamFrameArrival_sound f hs h
  | streamPortTakesFrame => exact execStreamPortTakesFrame_sound hs h
  | slowFramingSymbol b snr =>
    exact State.act_keeps hs h (.guarded fun _ => .same (Part.slowSymbol_kept b snr kept) (Part.slowSymbol_outline b snr rfl))
  | sampleTime a b => exact State.act_keeps hs h (.same kept (Part.sampleTime_outline a b rfl))
  | timeCounterSecond =>
    unfold exec execTimeCounterSecond at h
    exact State.act_keeps hs h (.same kept rfl)
  | _ => exact State.act_take_sound hs h

/-- Settles O3: a command keeps the invariant, and so does the idle millisecond, which counts timers alone. -/
theorem everyStepKeepsBoundsAndPermissions : Obligations.EveryStepKeepsBoundsAndPermissions := by
  intro s t hb hp hc h
  have hs : s.part.Sound := ⟨⟨hb, hp⟩, hc⟩
  suffices t.part.Sound from ⟨this.1.1, this.1.2, this.2⟩
  unfold step at h
  split at h
  · rename_i i rest _
    exact exec_sound i (s := ⟨rest, s.part⟩) hs h
  · exact State.act_keeps (f := Part.tick) hs h (.same ⟨id, le_rfl, id⟩ (Part.tick_outline rfl))

end Sys2Proof.Machine
end

section
/-! SUPPORT. The making of a record and the offering of a message (R21, R149, R152): what each leaves alone, one lemma per
field, the notice and the number of a record, and what the log says of its records whatever their delivery. -/

namespace Sys2Proof.Machine

/-! ### Offering a message changes the service channel and the log alone -/

@[simp] theorem Part.enqueue_running (m : Msg) (s : Part) : (s.enqueue m).running = s.running := by rw [Part.enqueue_frame]
@[simp] theorem Part.enqueue_time (m : Msg) (s : Part) : (s.enqueue m).time = s.time := by rw [Part.enqueue_frame]
@[simp] theorem Part.enqueue_line (m : Msg) (s : Part) : (s.enqueue m).line = s.line := by rw [Part.enqueue_frame]
@[simp] theorem Part.enqueue_snapshot (m : Msg) (s : Part) : (s.enqueue m).snapshot = s.snapshot := by rw [Part.enqueue_frame]
@[simp] theorem Part.enqueue_load (m : Msg) (s : Part) : (s.enqueue m).load = s.load := by rw [Part.enqueue_frame]
@[simp] theorem Part.enqueue_band (m : Msg) (s : Part) : (s.enqueue m).band = s.band := by rw [Part.enqueue_frame]
@[simp] theorem Part.enqueue_monitor (m : Msg) (s : Part) : (s.enqueue m).monitor = s.monitor := by rw [Part.enqueue_frame]
@[simp] theorem Part.enqueue_tracker (m : Msg) (s : Part) : (s.enqueue m).tracker = s.tracker := by rw [Part.enqueue_frame]
@[simp] theorem Part.enqueue_portA (m : Msg) (s : Part) : (s.enqueue m).portA = s.portA := by rw [Part.enqueue_frame]
@[simp] theorem Part.enqueue_portB (m : Msg) (s : Part) : (s.enqueue m).portB = s.portB := by rw [Part.enqueue_frame]
@[simp] theorem Part.enqueue_voice (m : Msg) (s : Part) : (s.enqueue m).voice = s.voice := by rw [Part.enqueue_frame]
@[simp] theorem Part.enqueue_sched (m : Msg) (s : Part) : (s.enqueue m).sched = s.sched := by rw [Part.enqueue_frame]
@[simp] theorem Part.enqueue_diag (m : Msg) (s : Part) : (s.enqueue m).diag = s.diag := by rw [Part.enqueue_frame]
@[simp] theorem Part.enqueue_supply (m : Msg) (s : Part) : (s.enqueue m).supply = s.supply := by rw [Part.enqueue_frame]
@[simp] theorem Part.enqueue_access (m : Msg) (s : Part) : (s.enqueue m).access = s.access := by rw [Part.enqueue_frame]
@[simp] theorem Part.enqueue_link (m : Msg) (s : Part) : (s.enqueue m).link = s.link := by rw [Part.enqueue_frame]

@[simp] theorem Part.signal_running (p : PortId) (x : Signal) (s : Part) : (s.signal p x).running = s.running := Part.enqueue_running _ s
@[simp] theorem Part.signal_time (p : PortId) (x : Signal) (s : Part) : (s.signal p x).time = s.time := Part.enqueue_time _ s
@[simp] theorem Part.signal_line (p : PortId) (x : Signal) (s : Part) : (s.signal p x).line = s.line := Part.enqueue_line _ s
@[simp] theorem Part.signal_snapshot (p : PortId) (x : Signal) (s : Part) : (s.signal p x).snapshot = s.snapshot := Part.enqueue_snapshot _ s
@[simp] theorem Part.signal_load (p : PortId) (x : Signal) (s : Part) : (s.signal p x).load = s.load := Part.enqueue_load _ s
@[simp] theorem Part.signal_band (p : PortId) (x : Signal) (s : Part) : (s.signal p x).band = s.band := Part.enqueue_band _ s
@[simp] theorem Part.signal_monitor (p : PortId) (x : Signal) (s : Part) : (s.signal p x).monitor = s.monitor := Part.enqueue_monitor _ s
@[simp] theorem Part.signal_tracker (p : PortId) (x : Signal) (s : Part) : (s.signal p x).tracker = s.tracker := Part.enqueue_tracker _ s
@[simp] theorem Part.signal_portA (p : PortId) (x : Signal) (s : Part) : (s.signal p x).portA = s.portA := Part.enqueue_portA _ s
@[simp] theorem Part.signal_portB (p : PortId) (x : Signal) (s : Part) : (s.signal p x).portB = s.portB := Part.enqueue_portB _ s
@[simp] theorem Part.signal_voice (p : PortId) (x : Signal) (s : Part) : (s.signal p x).voice = s.voice := Part.enqueue_voice _ s
@[simp] theorem Part.signal_sched (p : PortId) (x : Signal) (s : Part) : (s.signal p x).sched = s.sched := Part.enqueue_sched _ s
@[simp] theorem Part.signal_diag (p : PortId) (x : Signal) (s : Part) : (s.signal p x).diag = s.diag := Part.enqueue_diag _ s
@[simp] theorem Part.signal_supply (p : PortId) (x : Signal) (s : Part) : (s.signal p x).supply = s.supply := Part.enqueue_supply _ s
@[simp] theorem Part.signal_access (p : PortId) (x : Signal) (s : Part) : (s.signal p x).access = s.access := Part.enqueue_access _ s
@[simp] theorem Part.signal_link (p : PortId) (x : Signal) (s : Part) : (s.signal p x).link = s.link := Part.enqueue_link _ s

theorem Part.tryOffer_frame (s : Part) : s.tryOffer = { s with svc := s.tryOffer.svc, log := s.tryOffer.log } := by
  unfold Part.tryOffer
  split
  · split
    · rfl
    · exact Part.enqueue_frame _ _
  · rfl

@[simp] theorem Part.tryOffer_running (s : Part) : (s.tryOffer).running = s.running := by rw [Part.tryOffer_frame]
@[simp] theorem Part.tryOffer_time (s : Part) : (s.tryOffer).time = s.time := by rw [Part.tryOffer_frame]
@[simp] theorem Part.tryOffer_line (s : Part) : (s.tryOffer).line = s.line := by rw [Part.tryOffer_frame]
@[simp] theorem Part.tryOffer_snapshot (s : Part) : (s.tryOffer).snapshot = s.snapshot := by rw [Part.tryOffer_frame]
@[simp] theorem Part.tryOffer_load (s : Part) : (s.tryOffer).load = s.load := by rw [Part.tryOffer_frame]
@[simp] theorem Part.tryOffer_band (s : Part) : (s.tryOffer).band = s.band := by rw [Part.tryOffer_frame]
@[simp] theorem Part.tryOffer_monitor (s : Part) : (s.tryOffer).monitor = s.monitor := by rw [Part.tryOffer_frame]
@[simp] theorem Part.tryOffer_tracker (s : Part) : (s.tryOffer).tracker = s.tracker := by rw [Part.tryOffer_frame]
@[simp] theorem Part.tryOffer_portA (s : Part) : (s.tryOffer).portA = s.portA := by rw [Part.tryOffer_frame]
@[simp] theorem Part.tryOffer_portB (s : Part) : (s.tryOffer).portB = s.portB := by rw [Part.tryOffer_frame]
@[simp] theorem Part.tryOffer_voice (s : Part) : (s.tryOffer).voice = s.voice := by rw [Part.tryOffer_frame]
@[simp] theorem Part.tryOffer_sched (s : Part) : (s.tryOffer).sched = s.sched := by rw [Part.tryOffer_frame]
@[simp] theorem Part.tryOffer_diag (s : Part) : (s.tryOffer).diag = s.diag := by rw [Part.tryOffer_frame]
@[simp] theorem Part.tryOffer_supply (s : Part) : (s.tryOffer).supply = s.supply := by rw [Part.tryOffer_frame]
@[simp] theorem Part.tryOffer_access (s : Part) : (s.tryOffer).access = s.access := by rw [Part.tryOffer_frame]
@[simp] theorem Part.tryOffer_link (s : Part) : (s.tryOffer).link = s.link := by rw [Part.tryOffer_frame]

/-! ### Making a record changes the service channel, the log and the link alone -/

theorem Part.makeRecordAt_frame (k : FaultKind) (src : FaultSource) (ls : LineState) (ds : List Int) (s : Part) :
    s.makeRecordAt k src ls ds =
      { s with
        svc := (s.makeRecordAt k src ls ds).svc
        log := (s.makeRecordAt k src ls ds).log
        link := (s.makeRecordAt k src ls ds).link } := by
  unfold Part.makeRecordAt
  dsimp only
  split
  · rw [Part.tryOffer_link]
    exact Part.tryOffer_frame _
  · rfl

@[simp] theorem Part.makeRecordAt_running (k : FaultKind) (src : FaultSource) (ls : LineState) (ds : List Int) (s : Part) : (s.makeRecordAt k src ls ds).running = s.running :=
    by rw [Part.makeRecordAt_frame]
@[simp] theorem Part.makeRecordAt_time (k : FaultKind) (src : FaultSource) (ls : LineState) (ds : List Int) (s : Part) : (s.makeRecordAt k src ls ds).time = s.time :=
    by rw [Part.makeRecordAt_frame]
@[simp] theorem Part.makeRecordAt_line (k : FaultKind) (src : FaultSource) (ls : LineState) (ds : List Int) (s : Part) : (s.makeRecordAt k src ls ds).line = s.line :=
    by rw [Part.makeRecordAt_frame]
@[simp] theorem Part.makeRecordAt_snapshot (k : FaultKind) (src : FaultSource) (ls : LineState) (ds : List Int) (s : Part) : (s.makeRecordAt k src ls ds).snapshot = s.snapshot :=
    by rw [Part.makeRecordAt_frame]
@[simp] theorem Part.makeRecordAt_load (k : FaultKind) (src : FaultSource) (ls : LineState) (ds : List Int) (s : Part) : (s.makeRecordAt k src ls ds).load = s.load :=
    by rw [Part.makeRecordAt_frame]
@[simp] theorem Part.makeRecordAt_band (k : FaultKind) (src : FaultSource) (ls : LineState) (ds : List Int) (s : Part) : (s.makeRecordAt k src ls ds).band = s.band :=
    by rw [Part.makeRecordAt_frame]
@[simp] theorem Part.makeRecordAt_monitor (k : FaultKind) (src : FaultSource) (ls : LineState) (ds : List Int) (s : Part) : (s.makeRecordAt k src ls ds).monitor = s.monitor :=
    by rw [Part.makeRecordAt_frame]
@[simp] theorem Part.makeRecordAt_tracker (k : FaultKind) (src : FaultSource) (ls : LineState) (ds : List Int) (s : Part) : (s.makeRecordAt k src ls ds).tracker = s.tracker :=
    by rw [Part.makeRecordAt_frame]
@[simp] theorem Part.makeRecordAt_portA (k : FaultKind) (src : FaultSource) (ls : LineState) (ds : List Int) (s : Part) : (s.makeRecordAt k src ls ds).portA = s.portA :=
    by rw [Part.makeRecordAt_frame]
@[simp] theorem Part.makeRecordAt_portB (k : FaultKind) (src : FaultSource) (ls : LineState) (ds : List Int) (s : Part) : (s.makeRecordAt k src ls ds).portB = s.portB :=
    by rw [Part.makeRecordAt_frame]
@[simp] theorem Part.makeRecordAt_voice (k : FaultKind) (src : FaultSource) (ls : LineState) (ds : List Int) (s : Part) : (s.makeRecordAt k src ls ds).voice = s.voice :=
    by rw [Part.makeRecordAt_frame]
@[simp] theorem Part.makeRecordAt_sched (k : FaultKind) (src : FaultSource) (ls : LineState) (ds : List Int) (s : Part) : (s.makeRecordAt k src ls ds).sched = s.sched :=
    by rw [Part.makeRecordAt_frame]
@[simp] theorem Part.makeRecordAt_diag (k : FaultKind) (src : FaultSource) (ls : LineState) (ds : List Int) (s : Part) : (s.makeRecordAt k src ls ds).diag = s.diag :=
    by rw [Part.makeRecordAt_frame]
@[simp] theorem Part.makeRecordAt_supply (k : FaultKind) (src : FaultSource) (ls : LineState) (ds : List Int) (s : Part) : (s.makeRecordAt k src ls ds).supply = s.supply :=
    by rw [Part.makeRecordAt_frame]
@[simp] theorem Part.makeRecordAt_access (k : FaultKind) (src : FaultSource) (ls : LineState) (ds : List Int) (s : Part) : (s.makeRecordAt k src ls ds).access = s.access :=
    by rw [Part.makeRecordAt_frame]

@[simp] theorem Part.makeRecord_running (k : FaultKind) (src : FaultSource) (ds : List Int) (s : Part) : (s.makeRecord k src ds).running = s.running :=
    Part.makeRecordAt_running _ _ _ _ s
@[simp] theorem Part.makeRecord_time (k : FaultKind) (src : FaultSource) (ds : List Int) (s : Part) : (s.makeRecord k src ds).time = s.time :=
    Part.makeRecordAt_time _ _ _ _ s
@[simp] theorem Part.makeRecord_line (k : FaultKind) (src : FaultSource) (ds : List Int) (s : Part) : (s.makeRecord k src ds).line = s.line :=
    Part.makeRecordAt_line _ _ _ _ s
@[simp] theorem Part.makeRecord_snapshot (k : FaultKind) (src : FaultSource) (ds : List Int) (s : Part) : (s.makeRecord k src ds).snapshot = s.snapshot :=
    Part.makeRecordAt_snapshot _ _ _ _ s
@[simp] theorem Part.makeRecord_load (k : FaultKind) (src : FaultSource) (ds : List Int) (s : Part) : (s.makeRecord k src ds).load = s.load :=
    Part.makeRecordAt_load _ _ _ _ s
@[simp] theorem Part.makeRecord_band (k : FaultKind) (src : FaultSource) (ds : List Int) (s : Part) : (s.makeRecord k src ds).band = s.band :=
    Part.makeRecordAt_band _ _ _ _ s
@[simp] theorem Part.makeRecord_monitor (k : FaultKind) (src : FaultSource) (ds : List Int) (s : Part) : (s.makeRecord k src ds).monitor = s.monitor :=
    Part.makeRecordAt_monitor _ _ _ _ s
@[simp] theorem Part.makeRecord_tracker (k : FaultKind) (src : FaultSource) (ds : List Int) (s : Part) : (s.makeRecord k src ds).tracker = s.tracker :=
    Part.makeRecordAt_tracker _ _ _ _ s
@[simp] theorem Part.makeRecord_portA (k : FaultKind) (src : FaultSource) (ds : List Int) (s : Part) : (s.makeRecord k src ds).portA = s.portA :=
    Part.makeRecordAt_portA _ _ _ _ s
@[simp] theorem Part.makeRecord_portB (k : FaultKind) (src : FaultSource) (ds : List Int) (s : Part) : (s.makeRecord k src ds).portB = s.portB :=
    Part.makeRecordAt_portB _ _ _ _ s
@[simp] theorem Part.makeRecord_voice (k : FaultKind) (src : FaultSource) (ds : List Int) (s : Part) : (s.makeRecord k src ds).voice = s.voice :=
    Part.makeRecordAt_voice _ _ _ _ s
@[simp] theorem Part.makeRecord_sched (k : FaultKind) (src : FaultSource) (ds : List Int) (s : Part) : (s.makeRecord k src ds).sched = s.sched :=
    Part.makeRecordAt_sched _ _ _ _ s
@[simp] theorem Part.makeRecord_diag (k : FaultKind) (src : FaultSource) (ds : List Int) (s : Part) : (s.makeRecord k src ds).diag = s.diag :=
    Part.makeRecordAt_diag _ _ _ _ s
@[simp] theorem Part.makeRecord_supply (k : FaultKind) (src : FaultSource) (ds : List Int) (s : Part) : (s.makeRecord k src ds).supply = s.supply :=
    Part.makeRecordAt_supply _ _ _ _ s
@[simp] theorem Part.makeRecord_access (k : FaultKind) (src : FaultSource) (ds : List Int) (s : Part) : (s.makeRecord k src ds).access = s.access :=
    Part.makeRecordAt_access _ _ _ _ s

/-- The link of a record's maker: LOG_LOST where the log lost something, and the FAULT notice (R149, R157). -/
theorem Part.makeRecordAt_link (k : FaultKind) (src : FaultSource) (ls : LineState) (ds : List Int) (s : Part) :
    (s.makeRecordAt k src ls ds).link =
      Link.post { s.link with logLost := s.link.logLost || (s.log.makeRoom (s.newRecord k src ls ds)).2.2 }
        (.fault (s.newRecord k src ls ds) (s.log.makeRoom (s.newRecord k src ls ds)).2.1) := by
  unfold Part.makeRecordAt
  dsimp only
  split
  · exact Part.tryOffer_link _
  · rfl

@[simp] theorem Part.makeRecordAt_silenceHold (k : FaultKind) (src : FaultSource) (ls : LineState) (ds : List Int)
    (s : Part) : (s.makeRecordAt k src ls ds).link.silenceHold = s.link.silenceHold := by
  rw [Part.makeRecordAt_link]
  unfold Link.post
  split <;> rfl

/-! ### Notices -/

/-- The record with another list of notices and what R204 says of a full queue, the other fields as they are. -/
theorem Link.post_frame (l : Link) (n : Notice) :
    l.post n = { l with
      notices := (l.post n).notices, noticesLost := (l.post n).noticesLost
      noticesLostCount := (l.post n).noticesLostCount } := by
  unfold Link.post
  split <;> rfl

/-- A queue with room takes the notice at its end (R204). -/
theorem Link.post_room {l : Link} (n : Notice) (h : l.notices.length < 16) :
    l.post n = { l with notices := l.notices ++ [n] } := by
  unfold Link.post
  rw [if_pos h]

theorem Part.post_room {s : Part} (n : Notice) (h : s.link.notices.length < 16) :
    s.post n = { s with link := { s.link with notices := s.link.notices ++ [n] } } := by
  unfold Part.post
  rw [Link.post_room n h]

@[simp] theorem Link.post_replies (l : Link) (n : Notice) : (l.post n).replies = l.replies := by rw [Link.post_frame]
@[simp] theorem Link.post_snapshotNew (l : Link) (n : Notice) : (l.post n).snapshotNew = l.snapshotNew := by rw [Link.post_frame]
@[simp] theorem Link.post_logLost (l : Link) (n : Notice) : (l.post n).logLost = l.logLost := by rw [Link.post_frame]
@[simp] theorem Link.post_hostSilent (l : Link) (n : Notice) : (l.post n).hostSilent = l.hostSilent := by rw [Link.post_frame]
@[simp] theorem Link.post_framingErrors (l : Link) (n : Notice) : (l.post n).framingErrors = l.framingErrors := by rw [Link.post_frame]
@[simp] theorem Link.post_silenceSetting (l : Link) (n : Notice) : (l.post n).silenceSetting = l.silenceSetting := by rw [Link.post_frame]
@[simp] theorem Link.post_silenceTimer (l : Link) (n : Notice) : (l.post n).silenceTimer = l.silenceTimer := by rw [Link.post_frame]
@[simp] theorem Link.post_silenceCount (l : Link) (n : Notice) : (l.post n).silenceCount = l.silenceCount := by rw [Link.post_frame]
@[simp] theorem Link.post_lastFrameAt (l : Link) (n : Notice) : (l.post n).lastFrameAt = l.lastFrameAt := by rw [Link.post_frame]
@[simp] theorem Link.post_silenceHold (l : Link) (n : Notice) : (l.post n).silenceHold = l.silenceHold := by rw [Link.post_frame]
@[simp] theorem Link.post_statsPeriod (l : Link) (n : Notice) : (l.post n).statsPeriod = l.statsPeriod := by rw [Link.post_frame]
@[simp] theorem Link.post_statsTimer (l : Link) (n : Notice) : (l.post n).statsTimer = l.statsTimer := by rw [Link.post_frame]
@[simp] theorem Link.post_writeStatus (l : Link) (n : Notice) : (l.post n).writeStatus = l.writeStatus := by rw [Link.post_frame]
@[simp] theorem Link.post_out (l : Link) (n : Notice) : (l.post n).out = l.out := by rw [Link.post_frame]

/-- A notice posted with room joins the queue (R204). -/
theorem Link.mem_post {l : Link} (n : Notice) (h : l.notices.length < 16) : n ∈ (l.post n).notices := by
  rw [Link.post_room n h]
  simp

/-- A record made posts its FAULT notice, where the queue has room (R149). -/
theorem Part.fault_mem_makeRecordAt {s : Part} (k : FaultKind) (src : FaultSource) (ls : LineState) (ds : List Int)
    (h : s.link.notices.length < 16) :
    ∃ kept, Notice.fault (s.newRecord k src ls ds) kept ∈ (s.makeRecordAt k src ls ds).link.notices := by
  rw [Part.makeRecordAt_link]
  exact ⟨_, Link.mem_post _ h⟩

/-! ### The number of a record, and what the log says -/

theorem Log.displaced_next (l : Log) (m : Msg) : (l.displaced m).next = l.next := by
  unfold Log.displaced
  split
  · split <;> rfl
  · rfl

@[simp] theorem Part.enqueue_next (m : Msg) (s : Part) : (s.enqueue m).log.next = s.log.next := by
  unfold Part.enqueue
  split
  · rfl
  · split
    · rfl
    · split
      · rfl
      · exact Log.displaced_next _ _
    · rfl

@[simp] theorem Part.tryOffer_next (s : Part) : s.tryOffer.log.next = s.log.next := by
  unfold Part.tryOffer
  split
  · split
    · rfl
    · exact Part.enqueue_next _ _
  · rfl

/-- A record takes the next number (R149). -/
@[simp] theorem Part.makeRecordAt_next (k : FaultKind) (src : FaultSource) (ls : LineState) (ds : List Int) (s : Part) :
    (s.makeRecordAt k src ls ds).log.next = s.log.next + 1 := by
  unfold Part.makeRecordAt
  dsimp only
  split
  · exact Part.tryOffer_next _
  · rfl

/-- What a record says whatever its delivery: its fields with the delivery and the sends left out. -/
def FaultRecord.said (r : FaultRecord) : FaultRecord := { r with delivery := .localOnly, sends := 0 }

/-- What the records of the log say, in their order. -/
def Log.said (l : Log) : List FaultRecord := l.records.map FaultRecord.said

theorem Log.modify_said (l : Log) (q : Seq) (f : FaultRecord → FaultRecord) (hf : ∀ r, (f r).said = r.said) :
    (l.modify q f).said = l.said := by
  simp only [Log.said, Log.modify, List.map_map]
  refine List.map_congr_left fun r _ => ?_
  simp only [Function.comp]
  split
  · exact hf r
  · rfl

theorem Log.retract_said (l : Log) (q : Seq) : (l.retract q).said = l.said := Log.modify_said l q _ fun _ => rfl

theorem Log.settle_said (l : Log) : l.settle.said = l.said := by
  unfold Log.settle
  split
  · exact Log.modify_said l _ _ fun _ => rfl
  · rfl

theorem Log.displaced_said (l : Log) (m : Msg) : (l.displaced m).said = l.said := by
  unfold Log.displaced
  split
  · split
    · exact Log.retract_said l _
    · rfl
  · rfl

@[simp] theorem Part.enqueue_said (m : Msg) (s : Part) : (s.enqueue m).log.said = s.log.said := by
  unfold Part.enqueue
  split
  · rfl
  · split
    · rfl
    · split
      · rfl
      · exact Log.displaced_said _ _
    · rfl

@[simp] theorem Part.signal_said (p : PortId) (x : Signal) (s : Part) : (s.signal p x).log.said = s.log.said :=
  Part.enqueue_said _ s

@[simp] theorem Part.tryOffer_said (s : Part) : s.tryOffer.log.said = s.log.said := by
  unfold Part.tryOffer
  split
  · split
    · rfl
    · rw [Part.enqueue_said]
      exact Log.modify_said _ _ _ fun _ => rfl
  · rfl

/-- A log with room keeps what it says and adds the record made (R149). -/
theorem Part.makeRecordAt_said {s : Part} (k : FaultKind) (src : FaultSource) (ls : LineState) (ds : List Int)
    (h : s.log.records.length < 32) :
    (s.makeRecordAt k src ls ds).log.said = s.log.said ++ [(s.newRecord k src ls ds).said] := by
  have hstored : (s.storeRecord (s.newRecord k src ls ds)).log.said =
      s.log.said ++ [(s.newRecord k src ls ds).said] := by
    simp [Part.storeRecord, Log.makeRoom, h, Log.said]
  unfold Part.makeRecordAt
  dsimp only
  split
  · rw [Part.tryOffer_said, hstored]
  · exact hstored

/-- Out of service no report is tried (R152). -/
theorem Part.tryOffer_outOfService {s : Part} (h : s.inService = false) : s.tryOffer = s := by
  simp [Part.tryOffer, h]

/-- Out of service a log with room takes the record as it is made (R149). -/
theorem Part.makeRecordAt_outOfService {s : Part} (k : FaultKind) (src : FaultSource) (ls : LineState) (ds : List Int)
    (hs : s.inService = false) (hroom : s.log.records.length < 32) :
    (s.makeRecordAt k src ls ds).log.records = s.log.records ++ [s.newRecord k src ls ds] := by
  have hstored : (s.storeRecord (s.newRecord k src ls ds)).log.records = s.log.records ++ [s.newRecord k src ls ds] := by
    simp [Part.storeRecord, Log.makeRoom, hroom]
  unfold Part.makeRecordAt
  dsimp only
  split
  · rwa [Part.tryOffer_outOfService (by exact hs)]
  · exact hstored

theorem Log.said_length (l : Log) : l.said.length = l.records.length := List.length_map _

/-- A record that the log says, with the fields given (R149). -/
theorem Part.recorded_of_said {p q : Part} {r : FaultRecord} {i n : Nat} {kind : FaultKind} {severity : Severity}
    {source : FaultSource} {line : LineState} {details : List Int}
    (hr : p.log.records.length + n ≤ 32 → r.said ∈ q.log.said) (hseq : r.seq = p.log.next + BitVec.ofNat 16 i)
    (htime : r.time = p.time) (hkind : r.kind = kind) (hsev : r.severity = severity) (hsrc : r.source = source)
    (hline : r.lineState = line) (hds : r.details = details) : p.recorded q i n kind severity source line details := by
  intro hroom
  obtain ⟨x, hx, he⟩ := List.mem_map.1 (hr hroom)
  have hfields : x.seq = r.seq ∧ x.time = r.time ∧ x.kind = r.kind ∧ x.severity = r.severity ∧ x.source = r.source ∧
      x.lineState = r.lineState ∧ x.details = r.details := by
    simp only [FaultRecord.said, FaultRecord.mk.injEq] at he
    obtain ⟨h1, h2, h3, h4, h5, h6, h7, -⟩ := he
    exact ⟨h1, h2, h3, h4, h5, h6, h7⟩
  obtain ⟨h1, h2, h3, h4, h5, h6, h7⟩ := hfields
  exact ⟨x, hx, h1.trans hseq, h2.trans htime, h3.trans hkind, h4.trans hsev, h5.trans hsrc, h6.trans hline, h7.trans hds⟩

end Sys2Proof.Machine
end

section
/-! The settled statements about the block as a whole: a step, the idle millisecond, the reset state, POWER_ON and the
collapse of the core supply (O1, O2, O4, O5, O7). -/

namespace Sys2Proof.Machine

/-- Settles O1: `step` on a queue that is not empty is `exec` of its head. -/
theorem stepRunsFrontCommand : Obligations.StepRunsFrontCommand := fun _ _ _ => rfl

/-- A port's millisecond, with each accumulator's step written out (R109). -/
theorem Port.tick_eq (r : Port) :
    r.tick = { r with
      dialTimer := r.dialTimer.map (· - 1), cooldown := r.cooldown.map (· - 1), howler := r.howler.map (· - 1)
      ring := r.ring.map fun g => { g with phaseLeft := g.phaseLeft - 1, localLeft := g.localLeft.map (· - 1) }
      ringAcc := r.ringAcc + (if r.driving then 1 else 0), coolAcc := r.coolAcc + (if r.driving then 0 else 1) } := by
  unfold Port.tick
  cases r.driving <;> rfl

/-- Settles O2: the millisecond of the part is that of each block. -/
theorem idleStepOnlyCountsTimers : Obligations.IdleStepOnlyCountsTimers := by
  intro p hr
  refine ⟨p.tick, ?_, rfl, fun x => ?_, rfl, rfl, rfl, rfl, rfl, rfl⟩
  · simp [step, hr]
  · cases x
    · exact Port.tick_eq p.portA
    · exact Port.tick_eq p.portB

/-- Settles O4: the reset state is a fresh part, whose outline is coherent. -/
theorem resetMeetsBoundsAndPermissions : Obligations.ResetMeetsBoundsAndPermissions := by
  refine ⟨⟨?_, ?_, ?_, ?_, ?_, ?_⟩, ⟨true, true, true, rfl⟩, (Part.coherent_iff _).2 fun _ =>
    Part.initial_outline_ok true 1240, rfl⟩
  all_goals exact Nat.zero_le _

/-- POWER_ON with the mains present is a fresh part with its debounce timers judged (R178). -/
theorem Part.powerOn_mains (b : Nat) :
    Part.powerOn true b = { Part.initial true (min 2000 b) with supply := Supply.initial true (min 2000 b) } := rfl

/-- Settles O5: in MAINS with the mains present no timer runs, and every block is fresh. -/
theorem powerOnWithMainsLeavesResetValues : Obligations.PowerOnWithMainsLeavesResetValues := by
  intro s b
  refine ⟨Part.powerOn true b, rfl, rfl, rfl, ?_⟩
  rw [Part.powerOn_mains]
  repeat' (first | rfl | (intro x; cases x) | constructor)

/-- What a command on a stopped part answers (R186). -/
theorem next_of_not {s t : State} {c : Prop} [Decidable c] (h : ¬ c) :
    (Host.Outcome.next (if c then t else s) : Host.Outcome State Fault Refusal) = .next s := by rw [if_neg h]

/-- A part that runs takes the command. -/
theorem State.act_running {s : State} (f : Part → Part) (h : s.part.running = true) :
    s.act f = .next { s with part := f s.part } := by simp [State.act, h]

/-- Settles O7: the collapse changes four fields, and every other command acts on a running part alone. -/
theorem collapseStopsThePart : Obligations.CollapseStopsThePart := by
  refine ⟨fun s hr => ⟨?_, rfl, rfl⟩, fun s i hr hi => ?_⟩
  · unfold Completes exec execCoreSupplyCollapse
    exact State.act_running _ hr
  · have hstopped : ¬ s.part.running = true := by rw [hr]; decide
    cases i with
    | powerOn m b => exact absurd rfl (hi m b)
    | _ => exact next_of_not hstopped

end Sys2Proof.Machine
end

section
/-! The settled statement about POWER_ON with the mains absent (O6): each of the three states that the battery resamples
the supply to is entered from a fresh part, whatever the voltage read. -/

namespace Sys2Proof.Machine

/-- What POWER_ON leaves the same whichever state it resamples with the mains absent. -/
def Part.resampled (q : Part) : Prop :=
  q.line.state = .quiet ∧ q.line.reasons = [] ∧ q.supply.mainsLostAt = some 0 ∧ q.supply.mains = false ∧
    q.supply.relay = false

/-- The fresh part with the mains lost at the time 0 (R178). -/
def Part.freshOnBattery (v : Nat) : Part :=
  { Part.initial false v with supply := { Supply.initial false v with mainsLostAt := some 0 } }

/-- A fresh part enters BATTERY (R180). -/
theorem enterBattery_initial (v : Nat) :
    let q := (Part.initial false v).enterBattery none
    q.resampled ∧ q.supply.state = .battery ∧ q.supply.budget = 4 ∧ q.supply.cutback = 8 ∧ q.band.overlay = false ∧
      q.portB.state = .disabled ∧ q.dataOpen = true ∧ q.log.records.map (·.kind) = [.onBattery] := by
  simp [Part.resampled, Part.initial, Port.initial, Line.initial, Band.initial, Log.initial, Supply.initial, Link.initial,
    Part.enterBattery, Part.toSupply, Part.setBudget, Part.trimRings, Part.ringingLoad, Part.makeRecord,
    Part.makeRecordAt, Part.storeRecord, Log.makeRoom, Part.newRecord, Part.tryOffer, Part.raise, Part.postSupply,
    Part.retime, Supply.retime, Part.post, Part.inService, LineState.inService, Part.dataOpen]

/-- Raising or lowering the overlay changes the overlay and the link alone (R5, R13). -/
theorem Part.setOverlay_frame (on : Bool) (s : Part) :
    s.setOverlay on = { s with band := { s.band with overlay := on }, link := (s.setOverlay on).link } := by
  unfold Part.setOverlay
  split
  · rename_i h
    rw [← h]
  · dsimp only
    split <;> rfl

/-- A DISABLED port B that no test watches is shed (R183): its own record and the link change alone. -/
theorem Part.shedAtLow_disabled {s : Part} (hb : s.portB.state = .disabled) (ht : s.diag.running = none) :
    s.shedAtLow = { s with
      portB := { s.portB with
        state := .shed, hook := .onHook, digit := none, dialTimer := none, howler := none, cooldown := none
        lastTone := none, shedPending := false }
      link := s.link.post (.portEvent .b (.state .disabled .shed) s.line.state none) } := by
  simp [Part.shedAtLow, Part.shedPort, Part.enterState, Part.modPort, Part.setPort, Part.port, Part.portEvent, Part.post,
    Part.underTest, PortState.offHook, hb, ht]

/-- The entry to BATTERY_LOW once port B has been seen to (R181). -/
def Part.lowEntered (old : Option SupplyState) (s : Part) : Part :=
  let s1 := (s.setBudget 2 16).trimRings
  let s2 := s1.setHolds true s1.link.silenceHold
  let s3 := s2.makeRecord .batteryLow .supply [(s2.supply.battery : Int), (s2.supply.low : Int)]
  ((s3.raise .supply).postSupply old).retime

theorem Part.enterBatteryLow_eq (old : Option SupplyState) (s : Part) :
    s.enterBatteryLow old = Part.lowEntered old ((s.toSupply .batteryLow).setOverlay true).shedAtLow := rfl

/-- Out of service and with no port ringing, the entry makes its record and changes the supply and the data port. -/
theorem Part.lowEntered_idle {s : Part} (old : Option SupplyState) (hl : s.line.state = .quiet)
    (ha : s.portA.state = .through) (hb : s.portB.state = .shed) (hlog : s.log.records = []) :
    let q := Part.lowEntered old s
    q.line = s.line ∧ q.band = s.band ∧ q.portB = s.portB ∧ q.supply.mainsLostAt = s.supply.mainsLostAt ∧
      q.supply.mains = s.supply.mains ∧ q.supply.relay = s.supply.relay ∧ q.supply.state = s.supply.state ∧
      q.supply.budget = 2 ∧ q.supply.cutback = 16 ∧ q.dataOpen = false ∧
      q.log.records.map (·.kind) = [.batteryLow] := by

  have htrim : (s.setBudget 2 16).trimRings = s.setBudget 2 16 := by
    simp [Part.trimRings, Part.ringingLoad, Part.setBudget, ha, hb]
  unfold Part.lowEntered
  rw [htrim]
  generalize hheld : (s.setBudget 2 16).setHolds true (s.setBudget 2 16).link.silenceHold = held
  have hheldline : held.line = s.line := by rw [← hheld]; rfl
  have hheldlog : held.log.records = [] := by rw [← hheld]; exact hlog
  have hrecords := Part.makeRecordAt_outOfService (s := held) .batteryLow .supply held.line.state
    [(held.supply.battery : Int), (held.supply.low : Int)] (by rw [Part.inService, hheldline, hl]; rfl)
    (by simp [hheldlog])
  have hraise : ∀ x : Part, x.line = s.line → x.raise .supply = x := fun x hx => by
    unfold Part.raise
    rw [if_neg (by rw [Part.inService, hx, hl]; decide)]
  intro q
  have hq : q = ((held.makeRecord .batteryLow .supply
      [(held.supply.battery : Int), (held.supply.low : Int)]).postSupply old).retime := by
    rw [← hheld]
    exact congrArg (fun x => (Part.postSupply old x).retime) (hraise _ (by rw [Part.makeRecord_line]; rfl))
  rw [hq]
  simp only [Part.retime, Supply.retime, Part.postSupply, Part.post_line, Part.post_band, Part.post_portB, Part.post_supply,
    Part.post_log, Part.makeRecord_line, Part.makeRecord_band, Part.makeRecord_portB, Part.makeRecord_supply,
    Part.dataOpen]
  have hkinds : (held.makeRecord .batteryLow .supply
      [(held.supply.battery : Int), (held.supply.low : Int)]).log.records.map (·.kind) = [.batteryLow] := by
    rw [Part.makeRecord, hrecords, hheldlog]
    rfl
  refine ⟨hheldline, ?_, ?_, ?_, ?_, ?_, ?_, ?_, ?_, ?_, hkinds⟩
  all_goals subst hheld; simp [Part.setHolds, Part.setBudget]

/-- A fresh part enters BATTERY_LOW (R181): the overlay is raised, port B shed and the data port closed. -/
theorem enterBatteryLow_fresh (v : Nat) :
    let q := (Part.freshOnBattery v).enterBatteryLow none
    q.resampled ∧ q.supply.state = .batteryLow ∧ q.supply.budget = 2 ∧ q.supply.cutback = 16 ∧ q.band.overlay = true ∧
      q.portB.state = .shed ∧ q.dataOpen = false ∧ q.log.records.map (·.kind) = [.batteryLow] := by
  rw [Part.enterBatteryLow_eq, Part.setOverlay_frame, Part.shedAtLow_disabled rfl rfl]
  generalize Link.post _ _ = link
  intro q
  obtain ⟨hline, hband, hport, hlost, hmains, hrelay, hstate, hbudget, hcutback, hopen, hkinds⟩ :=
    Part.lowEntered_idle none (s := { (Part.freshOnBattery v).toSupply .batteryLow with
      band := { Band.initial with overlay := true }
      portB := { Port.initial .disabled with state := .shed }
      link := link }) rfl rfl rfl rfl
  exact ⟨⟨congrArg Line.state hline, congrArg Line.reasons hline, hlost, hmains, hrelay⟩, hstate, hbudget, hcutback,
    congrArg Band.overlay hband, congrArg Port.state hport, hopen, hkinds⟩

/-- A fresh part enters CUTOFF, and out of service SHUTDOWN at once (R185, R186). -/
theorem enterCutoff_fresh (v : Nat) :
    let q := (Part.freshOnBattery v).enterCutoff none
    q.resampled ∧ q.supply.state = .shutdown ∧ q.supply.budget = 0 ∧ q.band.overlay = false ∧
      q.portB.state = .shed ∧ q.dataOpen = false ∧ q.log.records.map (·.kind) = [.supplyCutoff] := by
  simp [Part.resampled, Part.freshOnBattery, Part.initial, Port.initial, Line.initial, Band.initial, Log.initial,
    Diag.initial, Supply.initial, Part.enterCutoff, Part.toSupply, Part.setBudget, Part.stopRings, Part.stopRing,
    Part.port, other, Part.setHolds, Part.setOverlay, Part.postSupply, Part.abortTest, Part.endTest, Part.retime,
    Supply.retime, judged, Part.inService, LineState.inService, Part.storeRecord, Log.makeRoom, Part.newRecord,
    Part.enterShutdown, Supply.presenceExpired, Part.toQuiet, Part.restLine, Line.rest, Line.clearPhase,
    Part.afterLeaving, Part.settleRelay, Part.relayTarget, Part.shedAtShutdown, Part.shedPort,
    Part.enterState, Part.modPort, Part.setPort, Part.portEvent, Part.underTest, Part.leaveCall, Part.dropRungBy,
    Part.isCaller, Part.dataOpen]

/-- The three cases of the resampling (R178). -/
theorem Part.powerOn_battery (b : Nat) :
    Part.powerOn false b =
      if 1120 ≤ min 2000 b then (Part.initial false (min 2000 b)).enterBattery none
      else if 1050 ≤ min 2000 b then (Part.freshOnBattery (min 2000 b)).enterBatteryLow none
      else (Part.freshOnBattery (min 2000 b)).enterCutoff none := by
  have hlow : (Part.initial false (min 2000 b)).supply.low = 1120 := rfl
  have hcutoff : (Part.initial false (min 2000 b)).supply.cutoff = 1050 := rfl
  have hbattery : (Part.initial false (min 2000 b)).supply.battery = min 2000 b := rfl
  unfold Part.powerOn
  simp only [Bool.false_eq_true, if_false, hlow, hcutoff, hbattery]
  rfl

/-- Settles O6: a case for each of the three states, told apart by the voltage as it is held in 0 to 2000. -/
theorem powerOnOnBatteryResamplesTheSupply : Obligations.PowerOnOnBatteryResamplesTheSupply := by
  intro s b
  refine ⟨Part.powerOn false b, rfl, ?_⟩
  rw [Part.powerOn_battery]
  rcases Nat.lt_or_ge b 1050 with hcut | hcut
  · rw [if_neg (by omega), if_neg (by omega)]
    obtain ⟨⟨h1, h2, h3, h4, h5⟩, hstate⟩ := enterCutoff_fresh (min 2000 b)
    exact ⟨h1, h2, h3, h4, h5, fun h => absurd h (by omega), fun h => absurd h (by omega), fun _ => hstate⟩
  · rcases Nat.lt_or_ge b 1120 with hlow | hlow
    · rw [if_neg (by omega), if_pos (by omega)]
      obtain ⟨⟨h1, h2, h3, h4, h5⟩, hstate⟩ := enterBatteryLow_fresh (min 2000 b)
      exact ⟨h1, h2, h3, h4, h5, fun h => absurd h (by omega), fun _ _ => hstate, fun h => absurd h (by omega)⟩
    · rw [if_pos (by omega)]
      obtain ⟨⟨h1, h2, h3, h4, h5⟩, hstate⟩ := enterBattery_initial (min 2000 b)
      exact ⟨h1, h2, h3, h4, h5, fun _ => hstate, fun _ h => absurd h (by omega), fun h => absurd h (by omega)⟩

end Sys2Proof.Machine
end

section
/-! Taking the catalogue's rows (12.5): the meaning of a row is the taking of its command, and what a taken command comes
to, whichever its source; with the settled statements about unknown kinds, ill-fitting bodies, refusals and operator
commands (O11 to O13) and the profiles read (O17). -/

namespace Sys2Proof.Machine

/-! ### What a taken command comes to -/

/-- A row or an event of a part that runs completes with what its action makes of the part. -/
theorem completes_of {i : Instr} {s : State} {f : Part → Part} {q : Part} {o : Host.Outcome State Fault Refusal}
    (hexec : exec i s = o) (hact : o = s.act f) (hrun : s.part.running = true) (hq : f s.part = q) : Completes i s q :=
  hq ▸ (hexec.trans hact).trans (State.act_running f hrun)

/-- The meaning of a row is the taking of its command, for its kind is known (12.5). -/
theorem exec_of_rowOf {e : Envelope} {c : Command} {i : Instr} (s : State) (h : rowOf e c = some i)
    (hc : ∀ k, c ≠ .unknown k) : exec i s = s.act fun q => q.take e (handlingOf e.src c) := by
  cases c with
  | unknown k => exact absurd rfl (hc k)
  | reset scope =>
    cases scope with
    | none => cases h
    | some x => cases x <;> cases h <;> rfl
  | _ => cases h; rfl

@[simp] theorem handlingOf_kind (src : Source) (c : Command) : (handlingOf src c).kind = kindOf c := by cases c <;> rfl

@[simp] theorem Part.heardFrom_access (s : Part) (e : Envelope) : (s.heardFrom e).access = s.access := by
  unfold Part.heardFrom
  split
  · exact s.frameSeen_access_replies.1
  · rfl

/-- A command with room for its answer is judged, formed and owned, and its answer goes to its source, unless it is a frame
of the host with a body above 1020 bytes (R195, R199, R202). -/
theorem State.takes.judged {s : State} {e : Envelope} (h : State.takes s { e with form := .fits }) (k : Handling)
    (hlong : e.src = .loc → e.form ≠ .overlong) :
    let a := (s.part.heardFrom e).answer e.src e.form k
    (s.act fun q => q.take e k) = .next { s with part := a.1.answeredTo e k.kind a.2.1 a.2.2 } := by
  obtain ⟨hrun, htag, -, hroom, htravel⟩ := h
  obtain ⟨src, tag, form⟩ := e
  simp only [State.act, hrun, if_true, Part.take]
  cases src with
  | loc =>
    simp only [Part.takeFrame, htag, if_false, s.part.frameSeen_access_replies.2, Nat.not_le.2 (hroom rfl), hlong rfl,
      Part.heardFrom, Part.answeredTo]
  | operator => simp only [Part.takeOperator, htag, if_false, htravel rfl, if_true, Part.heardFrom, Part.answeredTo]

/-- A command that is taken and permitted completes as its owner answers. -/
theorem State.takes.answered {s : State} {e : Envelope} (h : s.takes e) {c : Command} {i : Instr}
    (hrow : rowOf e c = some i) (hc : ∀ k, c ≠ .unknown k)
    (hj : s.part.access.perms.refuses e.src (handlingOf e.src c).judge = none) {q : Part} {st : Status} {body : ReplyBody}
    (ha : (handlingOf e.src c).own (s.part.heardFrom e) = (q, st, body)) :
    Completes i s (q.answeredTo e (kindOf c) st body) := by
  have hdone := h.completes (handlingOf e.src c) hj
  rw [ha, handlingOf_kind] at hdone
  exact (exec_of_rowOf s hrow hc).trans hdone

/-- A refused command of any form answers NOT_PERMITTED behind the refusal's trace (R195, R196). -/
theorem State.takes.refused {s : State} {e : Envelope} (h : State.takes s { e with form := .fits })
    (hlong : e.src = .loc → e.form ≠ .overlong) {c : Command} {i : Instr} (hrow : rowOf e c = some i) {k : ObjClass}
    (hj : s.part.access.perms.refuses e.src (handlingOf e.src c).judge = some k) :
    Completes i s (((s.part.heardFrom e).refuse e.src k).answeredTo e (kindOf c) .notPermitted .none) := by
  have hc : ∀ k, c ≠ .unknown k := by rintro k rfl; cases hj
  have hdone := h.judged (handlingOf e.src c) hlong
  simp only [Part.answer, Part.heardFrom_access, hj, handlingOf_kind] at hdone
  exact (exec_of_rowOf s hrow hc).trans hdone

/-- A permitted command of an ill-fitting body answers MALFORMED alone (R195). -/
theorem State.takes.malformed {s : State} {e : Envelope} (h : State.takes s { e with form := .fits })
    (hlong : e.src = .loc → e.form ≠ .overlong) (hform : e.form ≠ .fits) {c : Command}
    (hj : s.part.access.perms.refuses e.src (handlingOf e.src c).judge = none) :
    (s.act fun q => q.take e (handlingOf e.src c)) =
      .next { s with part := (s.part.heardFrom e).answeredTo e (kindOf c) .malformed .none } := by
  have hdone := h.judged (handlingOf e.src c) hlong
  simpa only [Part.answer, Part.heardFrom_access, hj, handlingOf_kind, hform, if_false] using hdone

/-! ### Unknown kinds, ill-fitting bodies and refusals -/

/-- A frame of the host with room for its reply: what `f` answers goes out behind the frame's being noticed (R202). -/
theorem Part.takeFrame_room {s : Part} {tag : Byte} (kind : Byte) (f : Part → Answer) (htag : tag ≠ 0)
    (hroom : s.link.replies.length < 8) :
    s.takeFrame tag kind f = (f s.frameSeen).1.reply tag kind (f s.frameSeen).2.1 (f s.frameSeen).2.2 := by
  simp only [Part.takeFrame, htag, if_false, s.frameSeen_access_replies.2, Nat.not_le.2 hroom]

/-- An over-long frame of the host answers MALFORMED, whatever its kind (R202, log entry 74). -/
theorem exec_overlong {s : State} {tag : Byte} {c : Command} {i : Instr} (hrun : s.part.running = true) (htag : tag ≠ 0)
    (hroom : s.part.link.replies.length < 8) (hrow : rowOf ⟨.loc, tag, .overlong⟩ c = some i) :
    Completes i s (s.part.frameSeen.reply tag (kindOf c) .malformed .none) := by
  unfold Completes
  cases c with
  | unknown k =>
    cases hrow
    refine (State.act_running (fun p => p.takeUnknown ⟨.loc, tag, .overlong⟩ k) hrun).trans ?_
    rw [Part.takeUnknown, Part.takeFrame_room _ _ htag hroom]
    rfl
  | _ =>
    rw [exec_of_rowOf s hrow nofun, State.act_running _ hrun, Part.take, handlingOf_kind,
      Part.takeFrame_room _ _ htag hroom]
    rfl

/-- Settles O11: the answer of the taking, where the kind or the body is not what the catalogue has. -/
theorem badKindsAndBodiesAreAnsweredAlone : Obligations.BadKindsAndBodiesAreAnsweredAlone := by
  refine ⟨fun s e k ⟨hrun, htag, hform, hroom, htravel⟩ => ?_, fun s tag c hrun htravel htag hc hj => ?_,
    fun s tag c i hrun htag hroom hc hrow hj => ?_, fun s tag c i hrun htag hroom hrow => exec_overlong hrun htag hroom hrow⟩
  · obtain ⟨src, tag, form⟩ := e
    subst hform
    refine (State.act_running (fun p => p.takeUnknown ⟨src, tag, .fits⟩ k) hrun).trans ?_
    cases src with
    | loc =>
      simp only [Part.takeUnknown, Part.takeFrame, htag, if_false, s.part.frameSeen_access_replies.2,
        Nat.not_le.2 (hroom rfl), reduceCtorEq, Part.heardFrom, Part.answeredTo]
    | operator =>
      simp only [Part.takeUnknown, Part.takeOperator, htag, if_false, htravel rfl, if_true, Part.heardFrom,
        Part.answeredTo]
  · have htaken : State.takes s ⟨.operator, tag, .fits⟩ := ⟨hrun, htag, rfl, nofun, fun _ => htravel⟩
    have hdone := State.takes.malformed (e := ⟨.operator, tag, .illFitting⟩) htaken nofun nofun hj
    cases c with
    | unknown k => exact absurd rfl (hc k)
    | _ => exact hdone
  · have htaken : State.takes s ⟨.loc, tag, .fits⟩ := ⟨hrun, htag, rfl, fun _ => hroom, nofun⟩
    exact (exec_of_rowOf s hrow hc).trans
      (State.takes.malformed (e := ⟨.loc, tag, .illFitting⟩) htaken (fun _ => nofun) nofun hj)

/-- A refusal where the source's flag is set already leaves its violation record alone (R196). -/
theorem Part.refuse_flagged {s : Part} {src : Source} (c : ObjClass) (h : (s.access.viol src).flag = true) :
    s.refuse src c =
      { s with access := s.access.setViol src ⟨true, satAdd 65535 (s.access.viol src).count 1, some c⟩ } := by
  simp [Part.refuse, h]

/-- A refusal where the source's flag was clear makes its ACCESS_REFUSED record besides (R196). -/
theorem Part.refuse_unflagged {s : Part} {src : Source} (c : ObjClass) (h : (s.access.viol src).flag = false) :
    s.refuse src c =
      Part.makeRecord .accessRefused .access [(sourceCode src : Int), (classCode c : Int)]
        { s with access := s.access.setViol src ⟨true, satAdd 65535 (s.access.viol src).count 1, some c⟩ } := by
  simp [Part.refuse, h]

theorem Part.refuse_access (s : Part) (src : Source) (c : ObjClass) :
    (s.refuse src c).access = s.access.setViol src ⟨true, satAdd 65535 (s.access.viol src).count 1, some c⟩ := by
  cases h : (s.access.viol src).flag
  · rw [Part.refuse_unflagged c h, Part.makeRecord_access]
  · rw [Part.refuse_flagged c h]

@[simp] theorem Access.viol_setViol (a : Access) (src : Source) (v : Violation) : (a.setViol src v).viol src = v := by
  cases src <;> rfl

theorem Access.viol_setViol_of_ne (a : Access) {src x : Source} (v : Violation) (h : x ≠ src) :
    (a.setViol src v).viol x = a.viol x := by
  cases src with
  | loc =>
    cases x with
    | loc => exact absurd rfl h
    | operator => rfl
  | operator =>
    cases x with
    | loc => rfl
    | operator => exact absurd rfl h

@[simp] theorem Access.perms_setViol (a : Access) (src : Source) (v : Violation) : (a.setViol src v).perms = a.perms := by
  cases src <;> rfl

/-- A record made touches the log, the link and the service channel alone (R149). -/
theorem Part.makeRecord_sameButRecords (s : Part) (k : FaultKind) (src : FaultSource) (ds : List Int) :
    s.sameButRecords (s.makeRecord k src ds) := by
  simp [Part.sameButRecords, Part.sameTelephones]

theorem Part.refuse_sameButRecords (s : Part) (src : Source) (c : ObjClass) :
    s.sameButRecords { s.refuse src c with access := s.access } := by
  cases h : (s.access.viol src).flag
  · rw [Part.refuse_unflagged c h]
    simp [Part.sameButRecords, Part.sameTelephones]
  · rw [Part.refuse_flagged c h]
    simp [Part.sameButRecords, Part.sameTelephones]

theorem Part.refuse_replies (s : Part) (src : Source) (c : ObjClass) :
    (s.refuse src c).link.replies = s.link.replies := by
  cases h : (s.access.viol src).flag
  · rw [Part.refuse_unflagged c h]
    exact (Part.makeRecordAt_access_replies _ _ _ _ _).2
  · rw [Part.refuse_flagged c h]

/-- Settles O12: the trace by the source's flag, and the rows by the judgement of the taking. -/
theorem refusedCommandLeavesOnlyItsTrace : Obligations.RefusedCommandLeavesOnlyItsTrace := by
  refine ⟨fun p src c form h hj => ?_, fun s e c i hrow htaken hlong k hj => htaken.refused hlong hrow hj⟩
  refine ⟨by simp only [Part.answer, hj], ?_, fun x hx => ?_, ?_, p.refuse_sameButRecords src c, p.refuse_replies src c,
    fun hflag => ?_, fun hflag => ?_⟩
  · rw [Part.refuse_access, Access.viol_setViol]
    rfl
  · rw [Part.refuse_access, Access.viol_setViol_of_ne _ _ hx]
  · rw [Part.refuse_access, Access.perms_setViol]
  · rw [Part.refuse_flagged c hflag]
  · rw [Part.refuse_unflagged c hflag]
    refine ⟨Part.makeRecordAt_next _ _ _ _ _, fun hroom => ?_⟩
    obtain ⟨kept, hmem⟩ := Part.fault_mem_makeRecordAt .accessRefused .access p.line.state
      [(sourceCode src : Int), (classCode c : Int)]
      (s := { p with access := p.access.setViol src ⟨true, satAdd 65535 (p.access.viol src).count 1, some c⟩ }) hroom
    exact ⟨_, kept, hmem, rfl, rfl, rfl, rfl⟩

/-! ### Operator commands -/

/-- The parts of a record laid end to end are the record, as far as they go (R199). -/
theorem flatten_parts (bs : List Byte) (n : Nat) :
    ((List.range n).map fun i => (bs.drop (247 * i)).take 247).flatten = bs.take (247 * n) := by
  induction n with
  | zero => rfl
  | succ n ih => rw [List.range_succ, List.map_append, List.flatten_append, ih, Nat.mul_succ, List.take_add]; simp

theorem replyParts_flatten (bs : List Byte) : (replyParts bs).flatten = bs := by
  unfold replyParts
  rw [flatten_parts, List.take_of_length_le (by omega)]

theorem replyParts_length_le {bs x : List Byte} (h : x ∈ replyParts bs) : x.length ≤ 247 := by
  obtain ⟨i, -, rfl⟩ := List.mem_map.1 h
  exact List.length_take_le _ _

/-- A reply with no body is one part, its status alone (R199). -/
theorem replyParts_status (st : Status) : replyParts (replyRecord st .none) = [[BitVec.ofNat 8 st.code]] := by
  simp [replyParts, replyRecord]

theorem Part.operatorReply_status {s : Part} (tag : Byte) (st : Status) (h : s.line.state.messagesTravel = true)
    (hroom : s.svc.outQ.length < 16) :
    s.operatorReply tag st .none =
      { s with svc := { s.svc with outQ := s.svc.outQ ++ [.operatorReply tag 0 true [BitVec.ofNat 8 st.code]] } } := by
  simp only [Part.operatorReply, h, if_true, replyParts_status, Part.sendParts, if_pos hroom, Part.enqueue_room _ _ hroom]
  rfl

/-- Where no messages travel an operator command has no effect (R199). -/
theorem exec_operatorCommand_silent {s : State} (tag : Byte) (form : BodyForm) (c : Command)
    (h : s.part.line.state.messagesTravel = false) : exec (.operatorCommand tag form c) s = .next s := by
  have hsame : ∀ f : Part → Part, f s.part = s.part → s.act f = .next s := fun f hf => by
    unfold State.act
    split
    · rw [hf]
    · rfl
  unfold exec execOperatorCommand
  refine hsame _ ?_
  cases c <;> simp [Part.take, Part.takeUnknown, Part.takeOperator, h]

/-- An operator's command of tag 0 answers MALFORMED, whatever its kind (R199, log entry 68). -/
theorem exec_operatorCommand_tagZero {s : State} (form : BodyForm) (c : Command) (hrun : s.part.running = true)
    (h : s.part.line.state.messagesTravel = true) :
    Completes (.operatorCommand 0 form c) s (s.part.operatorReply 0 .malformed .none) := by
  cases c with
  | unknown k =>
    refine (State.act_running (fun p => p.takeUnknown ⟨.operator, 0, form⟩ k) hrun).trans ?_
    simp [Part.takeUnknown, Part.takeOperator, h]
  | _ =>
    refine (State.act_running (fun p => p.take ⟨.operator, 0, form⟩ (handlingOf .operator _)) hrun).trans ?_
    simp [Part.take, Part.takeOperator, h]

/-- Settles O13: a row from OPERATOR is taken as OPERATOR_COMMAND takes its record. -/
theorem operatorCommandsAreTakenAndAnswered : Obligations.OperatorCommandsAreTakenAndAnswered := by
  refine ⟨fun s tag form c i hrow => ?_, fun s tag c hrun htravel htag hc hj => ?_,
    fun s form c hrun htravel => exec_operatorCommand_tagZero form c hrun htravel,
    fun s tag form c h => exec_operatorCommand_silent tag form c h,
    fun bs => ⟨replyParts_flatten bs, fun x hx => replyParts_length_le hx⟩,
    fun p tag st b h => if_neg (by rw [h]; decide), fun p tag st h hroom => Part.operatorReply_status tag st h hroom⟩
  · cases c with
    | unknown k => cases hrow; rfl
    | reset scope =>
      cases scope with
      | none => cases hrow
      | some x => cases x <;> cases hrow <;> rfl
    | _ => cases hrow; rfl
  · have htaken : State.takes s ⟨.operator, tag, .fits⟩ := ⟨hrun, htag, rfl, nofun, fun _ => htravel⟩
    have hdone := htaken.completes (handlingOf .operator c) hj
    cases c with
    | unknown k => exact absurd rfl (hc k)
    | _ => exact hdone

/-- Settles O17: the owner's answer, or the refusal. -/
theorem getProfileReadsTheThreeProfiles : Obligations.GetProfileReadsTheThreeProfiles := by
  refine ⟨fun s e h hp => h.answered (c := .getProfile) rfl nofun hp.refuses rfl, fun s e h hp => ?_⟩
  have hj : s.part.access.perms.refuses e.src (.permission .lineProfile false) = some .lineProfile := if_neg hp
  obtain ⟨src, tag, form⟩ := e
  obtain rfl : form = .fits := h.2.2.1
  exact State.takes.refused (e := ⟨src, tag, .fits⟩) (c := .getProfile) h (fun _ => nofun) rfl hj

end Sys2Proof.Machine
end

section
/-! The settled statements about the message link: frames that are not taken, the host's silence, read transactions, the
link's timers, the flags, and the grants (O8 to O10, O14 to O16). -/

namespace Sys2Proof.Machine

/-! ### Frames of the host and its silence -/

@[simp] theorem Part.hostBack_writeStatus (s : Part) : s.hostBack.link.writeStatus = s.link.writeStatus := by
  simp [Part.hostBack, Part.setHolds, Part.makeRecord, Part.makeRecordAt_link]

theorem Part.frameSeen_writeStatus (s : Part) : s.frameSeen.link.writeStatus = some s.linkStatus := by
  unfold Part.frameSeen
  dsimp only
  split
  · exact Part.hostBack_writeStatus _
  · rfl

/-- A frame of a host that is not silent changes the link alone (R191, R202). -/
theorem Part.frameSeen_heard {s : Part} (h : s.link.hostSilent = false) :
    s.frameSeen = { s with link := { s.link with
      writeStatus := some s.linkStatus, silenceTimer := silenceStart s.link.silenceSetting, lastFrameAt := s.time } } := by
  simp [Part.frameSeen, Part.gaveOut, h]

/-- Settles O8: the four kinds of a frame that is not taken. -/
theorem frameNotTakenCountsAndRestarts : Obligations.FrameNotTakenCountsAndRestarts := by
  refine ⟨fun s why hrun hheard => ?_, fun p => ⟨p.frameSeen_writeStatus, rfl⟩, fun b n => ⟨rfl, ?_⟩⟩
  · refine completes_of (o := execFrameNotTaken why s) rfl rfl hrun ?_
    cases why <;>
      simp [Part.frameSeen_heard hheard, Part.gaveOut, Part.framingError, Part.linkStatus, satAdd, silenceStart]
  · simp [writeBytes]

/-- The link of a host that has come back, ahead of the record of its return (R192). -/
def Part.metAgain (s : Part) : Part :=
  { s with link := { s.link with writeStatus := some s.linkStatus, hostSilent := false } }

/-- The silence's end and the timer's restart behind the record of the return (R191, R192). -/
def Part.silenceEnded (s : Part) : Part :=
  let q := s.setHolds s.supply.hold false
  { q with link := { q.link with
    silenceCount := 0, silenceTimer := silenceStart q.link.silenceSetting, lastFrameAt := q.time } }

/-- The first frame after a silence makes HOST_BACK and clears the hold (R192). -/
theorem Part.frameSeen_silent {s : Part} (h : s.link.hostSilent = true) :
    s.frameSeen = (s.metAgain.makeRecord .hostBack .link
      [((s.time - s.link.lastFrameAt : Nat) : Int), (s.link.silenceCount : Int)]).silenceEnded := by
  unfold Part.frameSeen
  exact (congrArg (fun q : Part => ({ q with link := { q.link with
    silenceTimer := silenceStart q.link.silenceSetting, lastFrameAt := q.time } } : Part))
    (if_pos h : _ = (s.gaveOut s.linkStatus).hostBack))

/-- What the end of the silence leaves alone. -/
theorem Part.silenceEnded_same (s : Part) :
    let q := s.silenceEnded
    q.link.hostSilent = s.link.hostSilent ∧ q.link.silenceCount = 0 ∧ q.link.silenceHold = false ∧
      q.link.lastFrameAt = s.time ∧ q.link.replies = s.link.replies ∧ q.link.notices = s.link.notices ∧ q.log = s.log ∧
      q.supply = s.supply ∧ q.line = s.line ∧ s.sameTelephones q ∧ q.band = s.band ∧ q.load = s.load ∧
      q.access = s.access :=
  ⟨rfl, rfl, rfl, rfl, rfl, rfl, rfl, rfl, rfl, ⟨rfl, rfl, rfl⟩, rfl, rfl, rfl⟩

/-- The silence as its first expiry begins it (R192). -/
def Part.silenceBegun (s : Part) : Part := { s with link := { s.link with hostSilent := true, silenceCount := 1 } }

/-- The silence hold set, and the timer restarted (R191, R192). -/
def Part.silenceHeld (s : Part) : Part :=
  let q := s.setHolds s.supply.hold true
  { q with link := { q.link with silenceTimer := silenceStart q.link.silenceSetting } }

/-- The first expiry makes HOST_SILENT and sets the hold (R192). -/
theorem Part.hostSilence_first {s : Part} (h : s.link.hostSilent = false) :
    s.hostSilence = (s.silenceBegun.makeRecord .hostSilent .link [(s.link.silenceSetting : Int)]).silenceHeld :=
  if_neg (by rw [h]; decide)

/-- Settles O9: the return's record, the first expiry's record, and the count of a later one. -/
theorem hostSilenceBeginsAndEnds : Obligations.HostSilenceBeginsAndEnds := by
  refine ⟨fun s hrun hsilent => ?_, fun s hrun htimer => ?_⟩
  · refine ⟨s.part.frameSeen.gaveOut 0x02, completes_of (o := execFrameNotTaken .heldOff s) rfl rfl hrun rfl, ?_⟩
    rw [Part.frameSeen_silent hsilent]
    generalize hq : s.part.metAgain.makeRecord .hostBack .link
      [((s.part.time - s.part.link.lastFrameAt : Nat) : Int), (s.part.link.silenceCount : Int)] = q
    obtain ⟨h1, h2, h3, h4, h5, h6, h7, h8, h9, h10, h11, h12, h13⟩ := q.silenceEnded_same
    have hmade : q.link.hostSilent = false ∧ q.time = s.part.time ∧ q.link.replies = s.part.link.replies ∧
        q.log.next = s.part.log.next + 1 ∧ q.supply = s.part.supply ∧ q.line = s.part.line ∧ s.part.sameTelephones q ∧
        q.band = s.part.band ∧ q.load = s.part.load ∧ q.access = s.part.access := by
      subst hq
      simp [Part.makeRecord, Part.makeRecordAt_link, Part.metAgain, Part.sameTelephones]
    obtain ⟨k1, k2, k3, k4, k5, k6, ⟨k7, k8, k9⟩, k10, k11, k12⟩ := hmade
    obtain ⟨j1, j2, j3⟩ := h10
    refine ⟨h1.trans k1, h2, h3, h4.trans k2, h5.trans k3, (congrArg Log.next h7).trans k4, fun hroom => ?_, h8.trans k5,
      h9.trans k6, ⟨j1.trans k7, j2.trans k8, j3.trans k9⟩, h11.trans k10, h12.trans k11, h13.trans k12⟩
    obtain ⟨kept, hmem⟩ := Part.fault_mem_makeRecordAt .hostBack .link s.part.line.state
      [((s.part.time - s.part.link.lastFrameAt : Nat) : Int), (s.part.link.silenceCount : Int)]
      (s := s.part.metAgain) hroom
    have hposted : q.link.notices = (s.part.metAgain.makeRecordAt .hostBack .link s.part.line.state
        [((s.part.time - s.part.link.lastFrameAt : Nat) : Int), (s.part.link.silenceCount : Int)]).link.notices := by
      rw [← hq]
      rfl
    exact ⟨_, kept, (h6.trans hposted).symm ▸ hmem, rfl, rfl, rfl, rfl, rfl⟩
  · have hdone : Completes .hostSilenceTimeout s s.part.hostSilence := by
      exact completes_of (o := execHostSilenceTimeout s) rfl rfl hrun (if_pos htimer)
    refine ⟨_, hdone, ?_⟩
    cases hflag : s.part.link.hostSilent
    · rw [Part.hostSilence_first hflag]
      refine ⟨?_, ?_, ?_, ?_, ?_, ?_, fun _ => ⟨?_, ?_, ?_, ?_, fun hroom => ?_⟩, nofun⟩
      case refine_11 =>
        obtain ⟨kept, hmem⟩ := Part.fault_mem_makeRecordAt .hostSilent .link s.part.line.state
          [(s.part.link.silenceSetting : Int)] (s := s.part.silenceBegun) hroom
        exact ⟨_, kept, hmem, rfl, rfl, rfl, rfl⟩
      all_goals
        simp [Part.silenceHeld, Part.setHolds, Part.silenceBegun, Part.sameTelephones, Part.makeRecord,
          Part.makeRecordAt_link, Part.dataOpen, silenceStart]
    · have hlater : s.part.hostSilence = { s.part with link := { s.part.link with
          silenceCount := satAdd 65535 s.part.link.silenceCount 1
          silenceTimer := silenceStart s.part.link.silenceSetting } } := if_pos hflag
      rw [hlater]
      exact ⟨hflag, rfl, rfl, ⟨rfl, rfl, rfl⟩, rfl, rfl, nofun, fun _ => ⟨rfl, rfl, rfl, rfl⟩⟩

/-! ### Read transactions -/

/-- A read transaction shows the next frame and releases it where the host clocked out its last byte (R203). -/
theorem readTransaction_completes {s : State} (whole : Bool) (h : s.part.running = true) {l : Link} {frame : OutFrame}
    (hframe : s.part.link.nextFrame = frame) (hlink : (if whole then s.part.link.release else s.part.link) = l) :
    Completes (.readTransaction whole) s { s.part with link := { l with out := some frame } } := by
  subst hlink hframe
  exact completes_of (o := execReadTransaction whole s) rfl rfl h rfl

theorem FaultRecord.bytes_length (r : FaultRecord) : r.bytes.length = 29 := rfl

theorem Notice.body_length_le (n : Notice) : n.body.length ≤ 1020 := by
  cases n with
  | fault r kept => simp only [Notice.body, List.length_append, List.length_take, FaultRecord.bytes_length]; omega
  | _ => simp only [Notice.body, List.length_take]; omega

/-- A FAULT notice's frame ends with its record's bytes (R210). -/
theorem OutFrame.fault_tail (r : FaultRecord) (kept : Bool) :
    (OutFrame.notice (.fault r kept)).bytes.drop ((OutFrame.notice (.fault r kept)).bytes.length - 29) = r.bytes := by
  have hsplit : (OutFrame.notice (.fault r kept)).bytes =
      (67 :: 0 :: bytes16 (BitVec.ofNat 16 (Notice.fault r kept).body.length) ++ (Config.keptMark kept).take 8) ++
        r.bytes := by
    simp [OutFrame.bytes, frameBytes, Notice.body, Notice.kindCode]
  rw [hsplit, List.length_append, FaultRecord.bytes_length, Nat.add_sub_cancel, List.drop_left]

/-- Settles O10: the queues by their oldest frame, and the frames by their header. -/
theorem readTransactionReturnsOldestFrame : Obligations.ReadTransactionReturnsOldestFrame := by
  refine ⟨fun s whole r rs hrun hreplies => ?_, fun s whole n ns hrun hreplies hnotices => ?_,
    fun s whole hrun hreplies hnotices => ?_, fun p => ?_, fun r => ?_, fun n => ?_, OutFrame.fault_tail, rfl⟩
  · have hframe : s.part.link.nextFrame = .reply r := by simp [Link.nextFrame, hreplies]
    refine readTransaction_completes whole hrun hframe
      (l := { s.part.link with replies := if whole then rs else r :: rs }) ?_
    cases whole
    · simp [← hreplies]
    · simp [Link.release, hreplies]
  · have hframe : s.part.link.nextFrame = .notice n := by simp [Link.nextFrame, hreplies, hnotices]
    refine readTransaction_completes whole hrun hframe
      (l := { s.part.link with notices := if whole then ns else n :: ns }) ?_
    cases whole
    · simp [← hnotices]
    · simp [Link.release, hreplies, hnotices]
  · have hframe : s.part.link.nextFrame = .empty := by simp [Link.nextFrame, hreplies, hnotices]
    refine readTransaction_completes whole hrun hframe ?_
    cases whole <;> simp [Link.release, hreplies, hnotices]
  · simp [Part.attn]
  · refine ⟨(replyRecord r.status r.body).tail, BitVec.ofNat 16 (replyRecord r.status r.body).length, rfl, ?_, ?_⟩
    · simp [replyRecord]
    · intro h
      simp [replyRecord, h]
  · refine ⟨BitVec.ofNat 8 n.kindCode, n.body, BitVec.ofNat 16 n.body.length, rfl, n.body_length_le, ?_, ?_⟩
    · have := n.body_length_le
      simp only [BitVec.toNat_ofNat]
      omega
    · cases n <;> rfl

/-! ### The link's settings, the time counter and the statistics -/

theorem silenceOf_eq (v : Nat) : silenceOf v = if v = 0 then 0 else if v < 5 then 5 else if 600 < v then 600 else v := by
  unfold silenceOf
  split_ifs <;> omega

/-- The statistics timer's expiry posts the figures and restarts the timer (R208). -/
theorem statsPeriodExpiry_completes {s : State} (h : s.part.running = true) (ht : s.part.link.statsTimer.isSome = true) :
    Completes .statsPeriodExpiry s { s.part with link := { s.part.link.post (.stats s.part.stats) with
      statsTimer := some (s.part.link.statsPeriod * 1000) } } := by
  refine completes_of (o := execStatsPeriodExpiry s) rfl rfl h ?_
  simp [ht, Part.post]

/-- A full queue with no STATS notice loses the notice (R204). -/
theorem Link.post_full {l : Link} (n : Notice) (h : 16 ≤ l.notices.length) (hnone : ∀ y, Notice.stats y ∉ l.notices) :
    l.post n = { l with noticesLost := true, noticesLostCount := satAdd 65535 l.noticesLostCount 1 } := by
  have hany : l.notices.any (·.isStats) = false := by
    rw [List.any_eq_false]
    intro x hx
    cases x with
    | stats y => exact absurd hx (hnone y)
    | _ => exact Bool.false_ne_true
  simp [Link.post, Nat.not_lt.2 h, hany]

/-- A full queue with a STATS notice gives up the oldest of them (R204). -/
theorem Link.post_full_stats {l : Link} (n : Notice) {before rest : List Notice} {y : Stats}
    (h : 16 ≤ l.notices.length) (hl : l.notices = before ++ .stats y :: rest) (hnone : ∀ z, Notice.stats z ∉ before) :
    l.post n = { l with
      noticesLost := true, noticesLostCount := satAdd 65535 l.noticesLostCount 1, notices := before ++ rest ++ [n] } := by
  have hbefore : ∀ x ∈ before, ¬ x.isStats = true := by
    intro x hx
    cases x with
    | stats z => exact absurd hx (hnone z)
    | _ => exact Bool.false_ne_true
  have herase : l.notices.eraseP (·.isStats) = before ++ rest := by
    rw [hl, List.eraseP_append_right _ hbefore, List.eraseP_cons_of_pos rfl]
  have hany : l.notices.any (·.isStats) = true := by
    rw [hl]
    simp [Notice.isStats]
  simp only [Link.post, Nat.not_lt.2 h, if_false, hany, if_true, herase]

/-- Settles O14: the settings as they are clamped, the counter, and the notice by the queue's room. -/
theorem linkTimersAndTheTimeCounterRun : Obligations.LinkTimersAndTheTimeCounterRun := by
  refine ⟨⟨fun s e v h hp => ?_, fun s e v h hp => ?_⟩, fun s h => ?_, fun s h ht hroom => ?_, fun s h ht hfull => ?_⟩
  · intro p x
    refine h.answered (c := .setSilenceTimer v) rfl nofun hp.refuses ?_
    simp only [handlingOf, ownSetSilenceTimer, silenceOf_eq, silenceStart, p, x]
  · intro p x
    refine h.answered (c := .setStatsPeriod v) rfl nofun hp.refuses ?_
    have hmin : min 3600 v = if 3600 < v then 3600 else v := by split_ifs <;> omega
    simp only [handlingOf, ownSetStatsPeriod, hmin, p, x]
  · exact completes_of (o := execTimeCounterSecond s) rfl rfl h rfl
  · have hdone := statsPeriodExpiry_completes h ht
    rw [Link.post_room _ hroom] at hdone
    exact ⟨_, hdone, rfl, rfl, rfl, rfl, rfl, rfl, rfl, rfl, rfl, rfl⟩
  · have hdone := statsPeriodExpiry_completes h ht
    refine ⟨fun hnone => ?_, fun before rest y hl hnone => ⟨s.part.stats, ?_, rfl, rfl⟩⟩
    · rwa [Link.post_full _ hfull hnone] at hdone
    · rwa [Link.post_full_stats _ hfull hl hnone] at hdone

/-! ### Flags and grants -/

theorem flagNames_some (fs : List FlagName) : flagNames (fs.map some) = some fs := by
  induction fs with
  | nil => rfl
  | cons f fs ih => simp [flagNames, ih]

/-- One flag cleared reads OFF, and every other as it was (R205). -/
theorem Part.clearFlag_get (s : Part) (f g : FlagName) :
    (s.clearFlag f).flags.get g = (s.flags.get g && !(g == f)) := by
  cases f <;> cases g <;> simp [Part.clearFlag, Part.flags, Flags.get]

/-- What an acknowledgement leaves alone: every count, the log, the line, the supply, the telephones and the channel. -/
def Part.sameButFlags (s t : Part) : Prop :=
  t.band.conflictCount = s.band.conflictCount ∧ t.access.locViol.count = s.access.locViol.count ∧
    t.access.opViol.count = s.access.opViol.count ∧ t.link.noticesLostCount = s.link.noticesLostCount ∧
    t.log = s.log ∧ t.line = s.line ∧ t.supply = s.supply ∧ s.sameTelephones t ∧ t.svc = s.svc

theorem Part.clearFlag_same (s : Part) (f : FlagName) : s.sameButFlags (s.clearFlag f) := by
  cases f <;> exact ⟨rfl, rfl, rfl, rfl, rfl, rfl, rfl, ⟨rfl, rfl, rfl⟩, rfl⟩

/-- A list of flags cleared, one after the other (R205). -/
theorem Part.clearFlag_foldl (fs : List FlagName) (s : Part) :
    let q := fs.foldl (fun p f => p.clearFlag f) s
    s.sameButFlags q ∧ ∀ g, q.flags.get g = (s.flags.get g && !fs.contains g) := by
  induction fs generalizing s with
  | nil => exact ⟨⟨rfl, rfl, rfl, rfl, rfl, rfl, rfl, ⟨rfl, rfl, rfl⟩, rfl⟩, fun g => by simp⟩
  | cons f fs ih =>
    obtain ⟨⟨h1, h2, h3, h4, h5, h6, h7, ⟨h8, h9, h10⟩, h11⟩, hget⟩ := ih (s.clearFlag f)
    obtain ⟨k1, k2, k3, k4, k5, k6, k7, ⟨k8, k9, k10⟩, k11⟩ := s.clearFlag_same f
    refine ⟨⟨h1.trans k1, h2.trans k2, h3.trans k3, h4.trans k4, h5.trans k5, h6.trans k6, h7.trans k7,
      ⟨h8.trans k8, h9.trans k9, h10.trans k10⟩, h11.trans k11⟩, fun g => ?_⟩
    rw [List.foldl_cons, hget, Part.clearFlag_get, List.contains_cons, Bool.and_assoc, ← Bool.not_or]

/-- Settles O15: the flags cleared are those named and set that the source may clear. -/
theorem flagsAreReadAndAcknowledged : Obligations.FlagsAreReadAndAcknowledged := by
  refine ⟨fun s e h => h.answered (c := .getFlags) rfl nofun rfl rfl, fun s e fs h => ?_, fun f => ?_, fun f => ?_⟩
  · obtain ⟨hsame, hget⟩ :=
      Part.clearFlag_foldl (fs.filter fun f => acknowledges e.src f) (s.part.heardFrom e)
    have hmine : ∀ f, (fs.filter fun f => acknowledges e.src f).contains f = (fs.contains f && acknowledges e.src f) := by
      intro f
      rw [Bool.eq_iff_iff]
      simp
    refine ⟨_, _, h.answered (c := .ackFlags (fs.map some)) rfl nofun rfl
      (by simp only [handlingOf, ownAckFlags, flagNames_some]; rfl), fun f => ?_, fun f => ?_, fun f hf => ?_, hsame⟩
    · rw [hget, hmine]
    · rw [List.mem_filter, List.mem_filter]
      tauto
    · obtain ⟨hf, -⟩ := List.mem_filter.1 hf
      rw [hget, List.contains_iff_mem.2 hf]
      simp
  · cases f <;> simp [acknowledges]
  · cases f <;> simp [acknowledges]

/-- A grant or its withdrawal is told with the permission before and after it (R198). -/
theorem ownPermission_grantable {s : Part} {c : ObjClass} (v : Bool) (h : grantable c = true) :
    ownPermission v (some c) s =
      ({ s with access := { s.access with perms := s.access.perms.setLocWrite c v } }, .ok,
        .permission (s.access.perms.row c).locWrite v) := by
  cases c with
  | lineProfile | diag | supplyConfig => rfl
  | _ => cases h

/-- Of the entries of the table, a grant changes LOCAL's permission to write the class (R198). -/
theorem Perms.setLocWrite_allows (p : Perms) {c : ObjClass} (v : Bool) (h : grantable c = true) (src : Source)
    (k : ObjClass) (w : Bool) :
    (p.setLocWrite c v).allows src k w = if src = .loc ∧ k = c ∧ w = true then v else p.allows src k w := by
  cases c with
  | lineProfile | diag | supplyConfig => cases src <;> cases k <;> cases w <;> rfl
  | _ => cases h

/-- Settles O16: the judgement by the source, the owner by the class. -/
theorem grantsAreTheOperators : Obligations.GrantsAreTheOperators := by
  refine ⟨fun s tag c h hc => ?_, fun s tag c h h1 h2 h3 => ?_, fun s tag c h => ?_⟩
  · have hg : grantable c = true := by rcases hc with rfl | rfl | rfl <;> rfl
    refine ⟨_, _, h.answered (c := .grant (some c)) rfl nofun rfl (ownPermission_grantable true hg),
      h.answered (c := .withhold (some c)) rfl nofun rfl (ownPermission_grantable false hg), rfl, rfl,
      fun src k w => Perms.setLocWrite_allows _ true hg src k w, fun src k w => Perms.setLocWrite_allows _ false hg src k w⟩
  · have hown : ∀ v, ownPermission v c s.part = (s.part, .malformed, .none) := fun v => by
      cases c with
      | none => rfl
      | some k =>
        cases k with
        | lineProfile | diag | supplyConfig => contradiction
        | _ => rfl
    exact ⟨h.answered (c := .grant c) rfl nofun rfl (hown true), h.answered (c := .withhold c) rfl nofun rfl (hown false)⟩
  · exact ⟨State.takes.refused (e := ⟨.loc, tag, .fits⟩) (c := .grant c) h (fun _ => nofun) rfl rfl,
      State.takes.refused (e := ⟨.loc, tag, .fits⟩) (c := .withhold c) h (fun _ => nofun) rfl rfl⟩

end Sys2Proof.Machine
end

section
/-! The settled statements about the queries and READ_TABLE (O18, O19): the runs of a resolution, the figures of each
answer, and a table's page. -/

namespace Sys2Proof.Machine

/-! ### The runs of a resolution -/

/-- The runs spell the roles out from tone `t` on: they ascend without gap or overlap, and adjacent ones differ (R12). -/
def SpellsFrom (t : Nat) (roles : List Role) (rs : List Run) : Prop :=
  (rs.map fun r => List.replicate (r.last + 1 - r.first) r.role).flatten = roles ∧ (∀ r ∈ rs, r.first ≤ r.last) ∧
    (roles ≠ [] → rs.head?.map (·.first) = some t) ∧
    ∀ (i : Nat) (a b : Run), rs[i]? = some a → rs[i + 1]? = some b → b.first = a.last + 1 ∧ b.role ≠ a.role

/-- A role of the first run's own extends that run by one tone. -/
theorem SpellsFrom.extend {t : Nat} {roles : List Role} {q : Run} {qs : List Run}
    (h : SpellsFrom (t + 1) roles (q :: qs)) (hne : roles ≠ []) :
    SpellsFrom t (q.role :: roles) (⟨t, q.last, q.role⟩ :: qs) := by
  obtain ⟨hflat, hle, hfirst, hnext⟩ := h
  have hq : q.first = t + 1 := by simpa using hfirst hne
  have hlast : t + 1 ≤ q.last := hq ▸ hle q (by simp)
  refine ⟨?_, ?_, fun _ => rfl, fun i a b ha hb => ?_⟩
  · rw [← hflat]
    simp only [List.map_cons, List.flatten_cons, hq, ← List.cons_append, ← List.replicate_succ]
    rw [show q.last + 1 - (t + 1) + 1 = q.last + 1 - t by omega]
  · intro r hr
    rcases List.mem_cons.1 hr with rfl | hr
    · exact Nat.le_of_succ_le hlast
    · exact hle r (by simp [hr])
  · cases i with
    | zero =>
      obtain rfl : ⟨t, q.last, q.role⟩ = a := by simpa using ha
      exact hnext 0 q b rfl hb
    | succ i => exact hnext (i + 1) a b ha hb

/-- Another role begins a run of its own. -/
theorem SpellsFrom.begin {t : Nat} {roles : List Role} {q : Run} {qs : List Run} {r : Role}
    (h : SpellsFrom (t + 1) roles (q :: qs)) (hne : roles ≠ []) (hr : q.role ≠ r) :
    SpellsFrom t (r :: roles) (⟨t, t, r⟩ :: q :: qs) := by
  obtain ⟨hflat, hle, hfirst, hnext⟩ := h
  have hq : q.first = t + 1 := by simpa using hfirst hne
  refine ⟨?_, ?_, fun _ => rfl, fun i a b ha hb => ?_⟩
  · rw [List.map_cons, List.flatten_cons, hflat]
    simp
  · intro x hx
    rcases List.mem_cons.1 hx with rfl | hx
    · exact Nat.le_refl t
    · exact hle x hx
  · cases i with
    | zero =>
      obtain rfl : ⟨t, t, r⟩ = a := by simpa using ha
      obtain rfl : q = b := by simpa using hb
      exact ⟨hq, hr⟩
    | succ i => exact hnext i a b ha hb

theorem runsFrom_spells (roles : List Role) (t : Nat) : SpellsFrom t roles (runsFrom t roles) := by
  induction roles generalizing t with
  | nil => exact ⟨rfl, by simp [runsFrom], fun h => absurd rfl h, by simp [runsFrom]⟩
  | cons r roles ih =>
    have hrest := ih (t + 1)
    unfold runsFrom
    split
    next hempty =>
      rw [hempty] at hrest
      obtain rfl : [] = roles := hrest.1
      exact ⟨by simp, by simp, fun _ => rfl, by simp⟩
    next q qs hruns =>
      have hne : roles ≠ [] := by rintro rfl; cases hruns
      rw [hruns] at hrest
      split
      next hrole => exact hrole ▸ hrest.extend hne
      next hrole => exact hrest.begin hne hrole

/-! ### The figures -/

/-- Whole seconds of a timer, to within a second (log entry 10). -/
theorem msToSeconds_near (ms : Nat) : 1000 * msToSeconds ms < ms + 1000 ∧ ms < 1000 * msToSeconds ms + 1000 := by
  unfold msToSeconds
  split_ifs with h
  · obtain ⟨h, -⟩ := h
    omega
  · omega

/-- A timer told in seconds: it runs in both or in neither, and they agree to within a second. -/
theorem seconds_near (timer : Option Nat) :
    (timer = none ↔ timer.map msToSeconds = none) ∧
      ∀ a b, timer = some a → timer.map msToSeconds = some b → 1000 * b < a + 1000 ∧ a < 1000 * b + 1000 := by
  cases timer with
  | none => simp
  | some ms =>
    refine ⟨by simp, fun a b ha hb => ?_⟩
    obtain rfl : ms = a := by simpa using ha
    obtain rfl : msToSeconds ms = b := by simpa using hb
    exact msToSeconds_near ms

/-- A port's allocation is the bytes of its place (R136, R142). -/
theorem Part.alloc_eq_bytes (s : Part) (x : PortId) : s.alloc x = Place.bytes (s.view x) := by
  unfold Part.alloc
  generalize s.view x = place
  rcases place with _ | ⟨_ | _, _ | _⟩ <;> rfl

theorem Part.lineStatus_rates (s : Part) :
    s.lineStatus.downRate = s.line.downInForce.map (fun t => payload t * 32) ∧
      s.lineStatus.upRate = s.line.upInForce.map (fun t => payload t * 32) := by
  simp [Part.lineStatus, Part.capP, Part.capU, rateOf, Function.comp_def]

/-- C is the smaller of U and P, in service (R136). -/
theorem Part.schedFigures_c (s : Part) : s.schedFigures.c = s.capU.bind fun a => s.capP.map (min a) := by
  unfold Part.schedFigures
  dsimp only
  cases s.capU <;> cases s.capP <;> rfl

/-- Of the timers with a name each, those named `n`. -/
theorem filter_running (n : DebounceName) (xs : List (DebounceName × Option Nat)) :
    (xs.filterMap fun x => x.2.map fun t => (x.1, t)).filter (·.1 == n) =
      (xs.filter (·.1 == n)).filterMap fun x => x.2.map fun t => (x.1, t) := by
  induction xs with
  | nil => rfl
  | cons x xs ih =>
    obtain ⟨name, timer⟩ := x
    cases timer <;> by_cases h : name = n <;> simp [h, ih]

/-- A running test's elapsed time is told where it is that very test (R166). -/
theorem Diag.elapsedOf_eq (d : Diag) (k : TestKind) (x : Option PortId) :
    d.elapsedOf k x = (d.running.filter fun z => decide (z.test = k ∧ z.port = x)).map (·.elapsed) := by
  unfold Diag.elapsedOf
  cases d.running with
  | none => rfl
  | some r =>
    by_cases h : r.test = k ∧ r.port = x
    · simp [h]
    · simp only [if_neg h, Option.filter_some, decide_eq_false h]
      rfl

/-- Settles O18: each owner's answer, and the runs. -/
theorem queriesAnswerAndChangeNothingElse : Obligations.QueriesAnswerAndChangeNothingElse := by
  refine ⟨fun s e h => ?_, fun s e h hp => h.answered (c := .getSnapshot) rfl nofun hp.refuses rfl,
    fun roles => runsFrom_spells roles 0⟩
  intro p
  refine ⟨fun hp => h.answered (c := .getBandMap) rfl nofun hp.refuses rfl, ?_⟩
  intro shown u d voice timer elapsed
  refine ⟨fun hp => ?_, fun hp => ?_, h.answered (c := .getAccess) rfl nofun rfl rfl, fun hp => ⟨fun x => ?_, ?_⟩,
    fun hp => ?_⟩
  · have hvoice : ∀ x, voice x = p.alloc x := fun x => by
      rw [Part.alloc_eq_bytes]
      simp only [voice, Part.view]
      cases p.slot x <;> rfl
    refine ⟨p.lineStatus, h.answered (c := .getLineStatus) rfl nofun hp.refuses rfl, rfl, rfl, rfl, rfl, rfl, rfl, rfl,
      rfl, p.lineStatus_rates.1, p.lineStatus_rates.2, rfl, rfl, seconds_near _, seconds_near _, rfl, ?_⟩
    rw [hvoice, hvoice]
    exact congrArg (fun c => { p.schedFigures with c := c }) p.schedFigures_c
  · refine ⟨_, h.answered (c := .getSupply) rfl nofun hp.refuses rfl, rfl, rfl, rfl, rfl, rfl, rfl, rfl, rfl, rfl, rfl,
      rfl, rfl, rfl, rfl, rfl, fun n => ?_⟩
    dsimp only
    rw [Supply.running, filter_running]
    cases n <;> simp [timer, Option.map_eq_bind] <;> rfl
  · cases x <;> exact h.answered (c := .getPortStatus _) rfl nofun hp.refuses rfl
  · exact h.answered (c := .getPortStatus .other) rfl nofun hp.refuses rfl
  · have helapsed : ∀ k x, elapsed k x = p.diag.elapsedOf k x := fun k x => (p.diag.elapsedOf_eq k x).symm
    have hanswer : ∀ (t : Option TestKind) (f : Option PortArg) (st : Status) (body : ReplyBody),
        ownGetDiagResult t f p = (p, st, body) → Completes (.getDiagResult e t f) s (p.answeredTo e 20 st body) :=
      fun t f st body ha => h.answered (c := .getDiagResult t f) rfl nofun hp.refuses ha
    simp only [helapsed]
    exact ⟨fun f => ⟨hanswer _ f _ _ rfl, hanswer _ f _ _ rfl⟩, hanswer _ _ _ _ rfl, hanswer _ _ _ _ rfl,
      hanswer _ _ _ _ rfl, hanswer _ _ _ _ rfl, fun f => hanswer _ f _ _ rfl⟩

/-! ### READ_TABLE -/

/-- READ_TABLE's three answers for a known table (R207). -/
theorem ownReadTable_eq (t : TableName) (start n : Nat) (s : Part) :
    (n = 0 ∨ 64 < n → ownReadTable (some t) start n s = (s, .malformed, .none)) ∧
    (1 ≤ n → n ≤ 64 → s.tableLength t ≤ start → ownReadTable (some t) start n s = (s, .range, .none)) ∧
    (1 ≤ n → n ≤ 64 → start < s.tableLength t → ownReadTable (some t) start n s =
      (s, .ok, .table t start (min n (s.tableLength t - start)) (s.tableHeader t)
        ((List.range (min n (s.tableLength t - start))).map fun i => s.tableEntry t (start + i)))) := by
  unfold ownReadTable
  refine ⟨fun h => if_pos (by omega), fun h1 h2 h3 => ?_, fun h1 h2 h3 => ?_⟩
  · dsimp only
    rw [if_neg (by omega), if_pos h3]
  · dsimp only
    rw [if_neg (by omega), if_neg (by omega)]

/-- Settles O19: the owner's three answers, and the entries as their bytes are laid out. -/
theorem readTableReturnsAPage : Obligations.ReadTableReturnsAPage := by
  refine ⟨fun s e t start n h hp => ?_, fun s e start n h => h.answered (c := .readTable none start n) rfl nofun rfl rfl,
    fun p i ha => ?_, fun p i a ha => ?_, fun p i xs t0 => ⟨fun ha => ?_, fun ha => ?_⟩, fun p i => ⟨rfl, rfl, ?_⟩,
    fun p i r hr => ?_, by decide, by decide, by decide, by decide, by decide⟩
  · intro p len header
    have hlen : len = p.tableLength t := by cases t <;> rfl
    have hheader : header = p.tableHeader t := by cases t <;> rfl
    obtain ⟨hcount, hrange, hpage⟩ := ownReadTable_eq t start n p
    have hanswer : ∀ (st : Status) (body : ReplyBody), ownReadTable (some t) start n p = (p, st, body) →
        Completes (.readTable e (some t) start n) s (p.answeredTo e 32 st body) :=
      fun st body ha => h.answered (c := .readTable (some t) start n) rfl nofun hp.refuses ha
    rw [hlen, hheader]
    refine ⟨fun hn => hanswer _ _ (hcount hn), fun h1 h2 h3 => hanswer _ _ (hrange h1 h2 h3),
      fun h1 h2 h3 => ⟨_, hanswer _ _ (hpage h1 h2 h3), by simp, fun i hi => ?_⟩⟩
    rw [List.getElem?_map, List.getElem?_range (by simpa using hi)]
    rfl
  · simp only [Part.tableEntry, ha, averageBytes]
  · simp only [Part.tableEntry, ha, averageBytes, roundQdb, bytes16]
  · simp [Part.tableEntry, measuredBytes, ha, bytes16]
  · simp [Part.tableEntry, measuredBytes, ha, bytes16]
  · simp only [Option.getD_none, List.getD_nil]
    decide
  · simp [Part.tableEntry, hr, FaultRecord.bytes, bytes16, bytes32, detailBytes]

end Sys2Proof.Machine
end

section
/-! The settled statements about codes and bytes: the voice codes (O57) and the load-table entries (O60). Both rest on what
the laying of one field behind another comes to as a number. -/

namespace Sys2Proof.Machine

/-- A field laid behind another. -/
theorem toNat_append_eq_add {n m : Nat} (x : BitVec n) (y : BitVec m) : (x ++ y).toNat = x.toNat * 2 ^ m + y.toNat := by
  rw [BitVec.toNat_append, ← Nat.shiftLeft_add_eq_or_of_lt y.isLt, Nat.shiftLeft_eq]

/-- A field read out. -/
theorem toNat_field {w : Nat} (x : BitVec w) (start len : Nat) :
    (x.extractLsb' start len).toNat = x.toNat / 2 ^ start % 2 ^ len := by
  rw [BitVec.extractLsb'_toNat, Nat.shiftRight_eq_div_pow]

theorem toNat_ofBool (b : Bool) : (BitVec.ofBool b).toNat = if b = true then 1 else 0 := by cases b <;> rfl

/-- The one bit of a field of length 1. -/
theorem field_one_eq {w : Nat} (x : BitVec w) (start : Nat) :
    (x.extractLsb' start 1 == 1) = decide (x.toNat / 2 ^ start % 2 = 1) := by
  rw [Bool.eq_iff_iff, beq_iff_eq, decide_eq_true_iff, ← BitVec.toNat_inj, toNat_field]
  rfl

/-! ### The voice codes -/

/-- With the offset of 16, a magnitude stands below the next segment. -/
theorem lt_offset_segmentOf {m : Nat} (h : m ≤ 4079) : m + 16 < 32 * 2 ^ segmentOf m := by
  unfold segmentOf
  split_ifs <;> omega

theorem segmentOf_le (m : Nat) : segmentOf m ≤ 7 := by
  unfold segmentOf
  split_ifs <;> omega

/-- No later segment begins at or below the magnitude (R121). -/
theorem le_segmentOf {m j : Nat} (hm : m ≤ 4079) (h : 16 * 2 ^ j - 16 ≤ m) : j ≤ segmentOf m := by
  by_contra hlt
  have hpow : 2 ^ (segmentOf m + 1) ≤ 2 ^ j := Nat.pow_le_pow_right (by decide) (by omega)
  have hnext := lt_offset_segmentOf hm
  rw [Nat.pow_succ] at hpow
  omega

/-- The quotient of R121 lies within one segment's sixteen steps. -/
theorem step_bounds {m : Nat} (h : m ≤ 4079) :
    16 ≤ (m + 16) / 2 ^ segmentOf m ∧ (m + 16) / 2 ^ segmentOf m < 32 :=
  ⟨(Nat.le_div_iff_mul_le (Nat.two_pow_pos _)).mpr (offset_segmentOf_le m),
    (Nat.div_lt_iff_lt_mul (Nat.two_pow_pos _)).mpr (lt_offset_segmentOf h)⟩

/-- The byte of a code, as a number (R119). -/
theorem Code.toNat_toByte {c : Code} (hs : c.segment ≤ 7) (hk : c.step ≤ 15) :
    c.toByte.toNat = (if c.negative = true then 128 else 0) + 16 * c.segment + c.step := by
  simp only [Code.toByte, toNat_append_eq_add, toNat_ofBool, BitVec.toNat_ofNat]
  split <;> omega

/-- The half code, as a number (R123). -/
theorem Code.toNat_half {c : Code} (hs : c.segment ≤ 7) :
    c.half.toNat = (if c.negative = true then 8 else 0) + c.segment := by
  simp only [Code.half, toNat_append_eq_add, toNat_ofBool, BitVec.toNat_ofNat]
  split <;> omega

theorem Code.ofByte_eq (b : Byte) : Code.ofByte b = ⟨decide (128 ≤ b.toNat), b.toNat / 16 % 8, b.toNat % 16⟩ := by
  have hb := b.isLt
  simp only [Code.ofByte, field_one_eq, toNat_field, Code.mk.injEq, decide_eq_decide]
  refine ⟨?_, rfl, ?_⟩ <;> omega

theorem Code.ofHalf_eq (h : BitVec 4) : Code.ofHalf h = ⟨decide (8 ≤ h.toNat), h.toNat % 8, 8⟩ := by
  have hh := h.isLt
  simp only [Code.ofHalf, field_one_eq, toNat_field, Code.mk.injEq, decide_eq_decide]
  refine ⟨?_, ?_, trivial⟩ <;> omega

theorem Code.ofByte_toByte {c : Code} (hs : c.segment ≤ 7) (hk : c.step ≤ 15) : Code.ofByte c.toByte = c := by
  obtain ⟨negative, segment, step⟩ := c
  simp only at hs hk
  rw [Code.ofByte_eq, Code.toNat_toByte hs hk]
  cases negative
  all_goals
    simp only [Code.mk.injEq, Bool.false_eq_true, if_false, if_true, decide_eq_false_iff_not, decide_eq_true_eq]
    omega

theorem Code.ofHalf_half {c : Code} (hs : c.segment ≤ 7) : Code.ofHalf c.half = { c with step := 8 } := by
  obtain ⟨negative, segment, step⟩ := c
  simp only at hs
  rw [Code.ofHalf_eq, Code.toNat_half hs]
  cases negative
  all_goals
    simp only [Code.mk.injEq, Bool.false_eq_true, if_false, if_true, decide_eq_false_iff_not, decide_eq_true_eq, and_true]
    omega

/-- Settles O57: the segment and the step by their bounds, the bytes as numbers. -/
theorem compressionCodesAndBytesAgree : Obligations.CompressionCodesAndBytesAgree := by
  refine ⟨fun x => ?_, Code.ofByte_eq, Code.ofHalf_eq, fun x y => ⟨rfl, ?_⟩⟩
  · intro c m
    have hm : m ≤ 4079 := Nat.min_le_right _ _
    obtain ⟨hlow, hhigh⟩ := step_bounds hm
    have hsegment : c.segment ≤ 7 := segmentOf_le m
    have hvalue : c.step = (m + 16) / 2 ^ segmentOf m - 16 := rfl
    have hstep : c.step ≤ 15 := by omega
    have hsign : (c.negative = true) = (x < 0) := decide_eq_true_eq
    refine ⟨hsign ▸ Iff.rfl, hsegment, ?_, fun j _ hj => le_segmentOf hm hj, hstep, ?_, ?_, ?_,
      Code.ofByte_toByte hsegment hstep, Code.ofHalf_half hsegment⟩
    · have := offset_segmentOf_le m
      show 16 * 2 ^ segmentOf m - 16 ≤ m
      omega
    · rw [hvalue]
      show (((m + 16) / 2 ^ segmentOf m - 16 : Nat) : Int) = ((m + 16) / 2 ^ segmentOf m : Nat) - 16
      omega
    · rw [Code.toNat_toByte hsegment hstep]
      simp only [hsign]
    · rw [Code.toNat_half hsegment]
      simp only [hsign]
  · have happend := toNat_append_eq_add (compress x).half (compress y).half
    simp only [voiceBytes, List.map_cons, List.map_nil, List.cons.injEq, and_true]
    omega

/-! ### The load-table entries -/

/-- Both fields of an entry's byte are read as they were laid (R210). -/
theorem entryOfByte_entryToByte {e : LoadEntry} (hb : e.b ≤ 15) (hlow : -8 ≤ e.g) (hhigh : e.g ≤ 7) :
    entryOfByte (entryToByte e) = e := by
  obtain ⟨b, g⟩ := e
  have hbyte := toNat_append_eq_add (BitVec.ofNat 4 b) (BitVec.ofInt 4 g)
  have hgain : (entryToByte ⟨b, g⟩).extractLsb' 0 4 = BitVec.ofInt 4 g := by
    apply BitVec.eq_of_toNat_eq
    rw [toNat_field, entryToByte, hbyte]
    have := (BitVec.ofInt 4 g).isLt
    omega
  have hbits : ((entryToByte ⟨b, g⟩).extractLsb' 4 4).toNat = b := by
    rw [toNat_field, entryToByte, hbyte, BitVec.toNat_ofNat]
    have := (BitVec.ofInt 4 g).isLt
    simp only at hb
    omega
  rw [entryOfByte, hgain, hbits, BitVec.toInt_ofInt]
  congr 1
  simp only at hlow hhigh
  rw [Int.bmod_def]
  split <;> omega

theorem entryToByte_entryOfByte (x : Byte) : entryToByte (entryOfByte x) = x := by
  apply BitVec.eq_of_toNat_eq
  rw [entryToByte, toNat_append_eq_add, entryOfByte, BitVec.ofNat_toNat, BitVec.ofInt_toInt, BitVec.setWidth_eq,
    toNat_field, toNat_field]
  have := x.isLt
  omega

/-- The two segments of 224 entries hold the whole table (R23). -/
theorem segments_whole {α : Type} {xs : List α} (h : xs.length = 448) :
    xs.take 224 ++ (xs.drop 224).take 224 = xs := by
  rw [← List.take_add, List.take_of_length_le (by omega)]

/-- Settles O60: the fields of a byte, and the two segments of a table. -/
theorem tableEntriesAndBytesAgree : Obligations.TableEntriesAndBytesAgree := by
  refine ⟨fun e h1 h2 h3 => entryOfByte_entryToByte h1 h2 h3, entryToByte_entryOfByte, fun t n hlen ht => ?_⟩
  have hread : (t.map entryToByte).map entryOfByte = t := by
    rw [List.map_map]
    refine (List.map_congr_left fun e he => ?_).trans (List.map_id t)
    obtain ⟨h1, h2, h3⟩ := ht e he
    exact entryOfByte_entryToByte h1 h2 h3
  simp only [collectSegment, if_true, Nat.one_ne_zero, if_false, Segments.table]
  rw [segments_whole (by rw [List.length_map, hlen]), hread]

end Sys2Proof.Machine
end

section
/-! The settled statement about the computed downstream table (O59): the withdrawal of boosts takes a run of tones from the
top down, and the gains it leaves sum to at most 0. -/

namespace Sys2Proof.Machine

/-- A tone as the withdrawal leaves it where it comes to it (R54). -/
def Work.unboosted (w : Work) : Work := if w.boosted = true then w.withdraw else w

/-- The gain sum of working records. -/
def gains (ws : List Work) : Int := (ws.map (·.entry.g)).sum

theorem gains_cons (w : Work) (ws : List Work) : gains (w :: ws) = w.entry.g + gains ws := by simp [gains]

theorem sumInt_eq_sum (xs : List Int) : sumInt xs = xs.sum := by
  induction xs with
  | nil => rfl
  | cons x xs ih => rw [List.sum_cons, ← ih]; rfl

theorem withdrawBoosts_of_nonpos {n : Int} (h : n ≤ 0) (ws : List Work) : withdrawBoosts n ws = ws := by
  induction ws with
  | nil => rfl
  | cons w ws ih => rw [withdrawBoosts, if_neg (by omega), ih]

/-- The withdrawal comes to the first `j` records and to no other; it stops behind one that was boosted while the gain sum
was above 0 (R54). -/
theorem withdrawBoosts_eq (ws : List Work) (n : Int) :
    ∃ j, j ≤ ws.length ∧ withdrawBoosts n ws = (ws.take j).map Work.unboosted ++ ws.drop j ∧
      ∀ i, j = i + 1 → ∃ w, ws[i]? = some w ∧ w.boosted = true ∧
        0 < n - gains (ws.take i) + gains ((ws.take i).map Work.unboosted) := by
  induction ws generalizing n with
  | nil => exact ⟨0, Nat.le_refl 0, rfl, fun i hi => by omega⟩
  | cons w ws ih =>
    rcases Int.lt_or_le 0 n with hpos | hneg
    · cases hw : w.boosted with
      | true =>
        obtain ⟨j, hj, heq, hlast⟩ := ih (n - w.entry.g + w.withdraw.entry.g)
        have hun : w.unboosted = w.withdraw := if_pos hw
        refine ⟨j + 1, Nat.succ_le_succ hj, ?_, fun i hi => ?_⟩
        · rw [withdrawBoosts, if_pos ⟨hpos, hw⟩, heq, List.take_succ_cons, List.map_cons, hun, List.drop_succ_cons]
          rfl
        · obtain rfl : j = i := by omega
          cases j with
          | zero => exact ⟨w, rfl, hw, by simpa [gains] using hpos⟩
          | succ i =>
            obtain ⟨x, hx, hboost, hsum⟩ := hlast i rfl
            refine ⟨x, hx, hboost, ?_⟩
            rw [List.take_succ_cons, List.map_cons, gains_cons, gains_cons, hun]
            omega
      | false =>
        obtain ⟨j, hj, heq, hlast⟩ := ih n
        have hun : w.unboosted = w := if_neg (by rw [hw]; decide)
        have hstep : withdrawBoosts n (w :: ws) = w :: withdrawBoosts n ws := by
          rw [withdrawBoosts, if_neg (by rw [hw]; simp)]
        cases j with
        | zero => exact ⟨0, Nat.zero_le _, by rw [hstep, heq]; rfl, fun i hi => by omega⟩
        | succ j =>
          refine ⟨j + 2, Nat.succ_le_succ hj, ?_, fun i hi => ?_⟩
          · rw [hstep, heq, List.take_succ_cons (i := j + 1), List.map_cons, hun, List.drop_succ_cons]
            rfl
          · obtain rfl : j + 1 = i := by omega
            obtain ⟨x, hx, hboost, hsum⟩ := hlast j rfl
            refine ⟨x, hx, hboost, ?_⟩
            rw [List.take_succ_cons, List.map_cons, gains_cons, gains_cons, hun]
            omega
    · exact ⟨0, Nat.zero_le _, withdrawBoosts_of_nonpos hneg _, fun i hi => by omega⟩

/-- The gains behind the withdrawal, on top of cuts already taken, sum to at most 0 where every tone unboosted is a cut
(R54). -/
theorem gains_withdrawBoosts (ws : List Work) (hws : ∀ w ∈ ws, w.unboosted.entry.g ≤ 0) (base : Int) (hbase : base ≤ 0) :
    base + gains (withdrawBoosts (base + gains ws) ws) ≤ 0 := by
  induction ws generalizing base with
  | nil => simpa [withdrawBoosts, gains] using hbase
  | cons w ws ih =>
    have hcut := hws w (by simp)
    have hrest : ∀ x ∈ ws, x.unboosted.entry.g ≤ 0 := fun x hx => hws x (by simp [hx])
    rcases Int.lt_or_le 0 (base + gains (w :: ws)) with hpos | hneg
    · have hnext := ih hrest (base + w.unboosted.entry.g) (by omega)
      cases hw : w.boosted with
      | true =>
        rw [Work.unboosted, if_pos hw] at hnext
        rw [withdrawBoosts, if_pos ⟨hpos, hw⟩, gains_cons, gains_cons,
          show base + (w.entry.g + gains ws) - w.entry.g + w.withdraw.entry.g =
            base + w.withdraw.entry.g + gains ws by omega]
        omega
      | false =>
        rw [Work.unboosted, if_neg (by rw [hw]; decide)] at hnext
        rw [withdrawBoosts, if_neg (by rw [hw]; simp), gains_cons, gains_cons,
          show base + (w.entry.g + gains ws) = base + w.entry.g + gains ws by omega]
        omega
    · rw [withdrawBoosts_of_nonpos hneg]
      exact hneg

/-- The records with those from the `k`-th on unboosted. -/
def unboostedFrom (k : Nat) (ws : List Work) : List Work := ws.take k ++ (ws.drop k).map Work.unboosted

theorem gains_append (xs ys : List Work) : gains (xs ++ ys) = gains xs + gains ys := by simp [gains]

theorem gains_reverse (ws : List Work) : gains ws.reverse = gains ws := by
  simp [gains, List.map_reverse, List.sum_reverse]

theorem gains_unboostedFrom (k : Nat) (ws : List Work) :
    gains (unboostedFrom k ws) = gains ws - gains (ws.drop k) + gains ((ws.drop k).map Work.unboosted) := by
  have hsplit := gains_append (ws.take k) (ws.drop k)
  rw [List.take_append_drop] at hsplit
  rw [unboostedFrom, gains_append]
  omega

/-- The withdrawal from the highest tone down unboosts the tones from some `k` up, and stops at a boosted one that the sum
still asked for (R54). -/
theorem withdrawn_eq_unboostedFrom (ws : List Work) :
    ∃ k, k ≤ ws.length ∧ (withdrawBoosts (gains ws) ws.reverse).reverse = unboostedFrom k ws ∧
      (k < ws.length → ∃ w, ws[k]? = some w ∧ w.boosted = true ∧ 0 < gains (unboostedFrom (k + 1) ws)) := by
  obtain ⟨j, hj, heq, hlast⟩ := withdrawBoosts_eq ws.reverse (gains ws)
  rw [List.length_reverse] at hj
  refine ⟨ws.length - j, Nat.sub_le _ _, ?_, fun hlt => ?_⟩
  · rw [heq, List.reverse_append, ← List.map_reverse, List.take_reverse, List.drop_reverse, List.reverse_reverse,
      List.reverse_reverse, unboostedFrom]
  · obtain ⟨i, rfl⟩ : ∃ i, j = i + 1 := ⟨j - 1, by omega⟩
    obtain ⟨w, hw, hboost, hsum⟩ := hlast i rfl
    rw [List.getElem?_reverse (by omega), show ws.length - 1 - i = ws.length - (i + 1) by omega] at hw
    refine ⟨w, hw, hboost, ?_⟩
    rw [List.take_reverse, gains_reverse, List.map_reverse, gains_reverse] at hsum
    rwa [gains_unboostedFrom, show ws.length - (i + 1) + 1 = ws.length - i by omega]

/-- Behind the withdrawal the gain sum is at most 0 (R54). -/
theorem gainSum_withdrawn {ws : List Work} (h : ∀ w ∈ ws, w.unboosted.entry.g ≤ 0) :
    gainSum (((withdrawBoosts (gains ws) ws.reverse).reverse).map (·.entry)) ≤ 0 := by
  have hsum := gains_withdrawBoosts ws.reverse (fun w hw => h w (List.mem_reverse.1 hw)) 0 (Int.le_refl 0)
  rw [Int.zero_add, Int.zero_add, gains_reverse, ← gains_reverse] at hsum
  rw [gainSum, sumInt_eq_sum, List.map_map]
  exact hsum

/-- The records given by a function of the tone, those from the `k`-th on unboosted. -/
theorem unboostedFrom_range (f : Nat → Work) {k m : Nat} (h : k ≤ m) :
    unboostedFrom k ((List.range m).map f) =
      (List.range m).map fun i => if k ≤ i then (f i).unboosted else f i := by
  obtain ⟨d, rfl⟩ := Nat.exists_eq_add_of_le h
  have hlen : k = ((List.range k).map f).length := by simp
  rw [unboostedFrom, List.range_add, List.map_append, List.take_left' hlen.symm, List.drop_left' hlen.symm,
    List.map_append]
  congr 1
  · exact List.map_congr_left fun i hi => (if_neg (Nat.not_le.2 (List.mem_range.1 hi))).symm
  · simp only [List.map_map]
    exact List.map_congr_left fun i _ => (if_pos (Nat.le_add_right k i)).symm

/-! ### The working records -/

/-- An entry that a computed table may hold (R39): 0 or 2 to `max` bits, a gain of -8 to +3, and 0 without bits. -/
def SoundEntry (max : Nat) (e : LoadEntry) : Prop :=
  (e.b = 0 ∨ 2 ≤ e.b ∧ e.b ≤ max) ∧ -8 ≤ e.g ∧ e.g ≤ 3 ∧ (e.b = 0 → e.g = 0)

/-- A working record whose entry is sound as it is and unboosted, and unboosted a cut (R52 to R54). -/
def SoundWork (max : Nat) (w : Work) : Prop :=
  SoundEntry max w.entry ∧ SoundEntry max w.unboosted.entry ∧ w.unboosted.entry.g ≤ 0

/-- A record that is not boosted has to be sound as it is, and a cut. -/
theorem soundWork_of_unboosted {max : Nat} {w : Work} (hw : w.boosted = false) (he : SoundEntry max w.entry)
    (hg : w.entry.g ≤ 0) : SoundWork max w := by
  have hun : w.unboosted = w := if_neg (by rw [hw]; decide)
  rw [SoundWork, hun]
  exact ⟨he, he, hg⟩

theorem soundEntry_off (max : Nat) : SoundEntry max entryOff := ⟨.inl rfl, by decide, by decide, fun _ => rfl⟩

theorem soundWork_off {max n : Nat} {left : Int} : SoundWork max ⟨n, left, entryOff, false⟩ :=
  soundWork_of_unboosted rfl (soundEntry_off max) (Int.le_refl 0)

/-- An entry of two bits or more trimmed by its left-over headroom. -/
theorem soundEntry_trimmed {max n : Nat} {left : Int} (h2 : 2 ≤ n) (hmax : n ≤ max) (hleft : 0 ≤ left) :
    SoundEntry max ⟨n, -(min left 8)⟩ ∧ -(min left 8) ≤ 0 := by
  simp only [SoundEntry]
  omega

/-- Every tone settles on a sound record (R52, R53). -/
theorem settleTone_sound (p : Profile) (S : Int) (h2 : 2 ≤ p.maxBits) : SoundWork p.maxBits (settleTone p S) := by
  generalize hH : S - p.gap - p.margin = H
  rcases Int.lt_or_le H 0 with hneg | h0
  · rw [settleTone_of_neg hH hneg]
    exact soundWork_off
  obtain ⟨n, hn⟩ := Int.eq_ofNat_of_zero_le (Int.ediv_nonneg h0 (by decide : (0 : Int) ≤ 12))
  rcases Nat.lt_or_ge n p.maxBits with hcap | hcap
  · rcases Int.lt_or_le (H - 12 * n) 9 with hleft | hleft
    · rcases Nat.lt_or_ge n 2 with hone | htwo
      · rw [settleTone_of_single_bit hH h0 hn hcap (by omega)]
        exact soundWork_off
      · rw [settleTone_of_trimmed hH h0 hn hcap hleft, Work.dropSingleBit_of_two_le htwo]
        obtain ⟨hentry, hgain⟩ := soundEntry_trimmed (left := H - 12 * n) htwo (Nat.le_of_lt hcap) (by omega)
        exact soundWork_of_unboosted rfl hentry hgain
    · rcases Nat.eq_zero_or_pos n with rfl | hpos
      · rw [settleTone_of_single_bit hH h0 hn hcap (.inl rfl)]
        exact soundWork_off
      · rw [settleTone_of_boosted hH h0 hn hcap hleft, Work.dropSingleBit_of_two_le (show 2 ≤ n + 1 by omega)]
        refine ⟨by simp only [SoundEntry]; omega, ?_⟩
        simp only [Work.unboosted, if_true, Work.withdraw]
        split
        · exact ⟨soundEntry_off _, Int.le_refl 0⟩
        · exact soundEntry_trimmed (by omega) (Nat.le_of_lt hcap) (by omega)
  · rw [settleTone_of_capped hH h0 hn hcap, Work.dropSingleBit_of_two_le h2]
    obtain ⟨hentry, hgain⟩ := soundEntry_trimmed (left := H - 12 * p.maxBits) h2 (Nat.le_refl _) (by omega)
    exact soundWork_of_unboosted rfl hentry hgain

/-- The working record of a tone in the computation (R50, R51). -/
def downWork (map : List Role) (p : Profile) (averages : List (Option Int)) (inForce : List LoadEntry) (t : Nat) : Work :=
  if isDown map t then
    match averages.getD t none with
    | some a => settleTone p (inputOf a (inForce.getD t entryOff).g)
    | none => .off
  else .off

section
variable {map : List Role} {p : Profile} {averages : List (Option Int)} {inForce : List LoadEntry}

theorem downWork_sound (h2 : 2 ≤ p.maxBits) (t : Nat) : SoundWork p.maxBits (downWork map p averages inForce t) := by
  unfold downWork
  split
  · split
    · exact settleTone_sound p _ h2
    · exact soundWork_off
  · exact soundWork_off

/-- A tone that carries bits, boosted or not, is DOWN CARRY and has an average. -/
theorem downWork_loaded {t : Nat} (h : (downWork map p averages inForce t).entry.b ≠ 0 ∨
    (downWork map p averages inForce t).unboosted.entry.b ≠ 0) :
    map[t]? = some .downCarry ∧ ∃ a, averages[t]? = some (some a) := by
  have hoff : Work.off.entry.b = 0 ∧ Work.off.unboosted.entry.b = 0 := ⟨rfl, rfl⟩
  unfold downWork at h
  split at h
  · rename_i hdown
    split at h
    · rename_i a ha
      refine ⟨?_, a, ?_⟩
      · rw [isDown, List.getD_eq_getElem?_getD] at hdown
        cases hm : map[t]? with
        | none => rw [hm] at hdown; cases hdown
        | some r => rw [hm] at hdown; exact congrArg some (eq_of_beq hdown)
      · rw [List.getD_eq_getElem?_getD] at ha
        cases hx : averages[t]? with
        | none => rw [hx] at ha; cases ha
        | some x => rw [hx] at ha; exact congrArg some ha
    · omega
  · omega

/-- The computed table is that of the working records behind the withdrawal (R54). -/
theorem computeDown_withdrawn :
    computeDown map p averages inForce =
      ((withdrawBoosts (gains ((List.range 448).map (downWork map p averages inForce)))
        ((List.range 448).map (downWork map p averages inForce)).reverse).reverse).map (·.entry) := by
  rw [gains, ← sumInt_eq_sum]
  rfl

/-- The computed table is that of the working records with those from some tone up unboosted (R54). -/
theorem computeDown_eq : ∃ k, k ≤ 448 ∧
    computeDown map p averages inForce =
      (unboostedFrom k ((List.range 448).map (downWork map p averages inForce))).map (·.entry) ∧
    (k < 448 → (downWork map p averages inForce k).boosted = true ∧
      0 < gains (unboostedFrom (k + 1) ((List.range 448).map (downWork map p averages inForce)))) := by
  obtain ⟨k, hk, heq, hlast⟩ := withdrawn_eq_unboostedFrom ((List.range 448).map (downWork map p averages inForce))
  rw [List.length_map, List.length_range] at hk hlast
  refine ⟨k, hk, by rw [computeDown_withdrawn, heq], fun hlt => ?_⟩
  obtain ⟨w, hw, hboost, hsum⟩ := hlast hlt
  rw [List.getElem?_map, List.getElem?_range hlt] at hw
  obtain rfl : downWork map p averages inForce k = w := by simpa using hw
  exact ⟨hboost, hsum⟩

end

/-- Settles O59: the table is that of the records unboosted from some tone up, each record sound. -/
theorem computedTablesAreValid : Obligations.ComputedTablesAreValid := by
  intro map p averages inForce h2 _ t
  obtain ⟨k, hk, heq, hlast⟩ := computeDown_eq (map := map) (p := p) (averages := averages) (inForce := inForce)
  have hrow : t = (List.range 448).map fun i =>
      (if k ≤ i then (downWork map p averages inForce i).unboosted else downWork map p averages inForce i).entry := by
    rw [show t = computeDown map p averages inForce from rfl, heq, unboostedFrom_range _ hk, List.map_map]
    rfl
  refine ⟨by rw [hrow]; simp, ?_, fun i e hi => ?_⟩
  · rw [show t = computeDown map p averages inForce from rfl, computeDown_withdrawn]
    refine gainSum_withdrawn fun w hw => ?_
    obtain ⟨i, -, rfl⟩ := List.mem_map.1 hw
    exact (downWork_sound h2 i).2.2
  have hlt : i < 448 := by
    have := (List.getElem?_eq_some_iff.1 hi).1
    rw [hrow] at this
    simpa using this
  have he : e = (if k ≤ i then (downWork map p averages inForce i).unboosted
      else downWork map p averages inForce i).entry := by
    rw [hrow, List.getElem?_map, List.getElem?_range hlt] at hi
    exact (Option.some.inj hi).symm
  obtain ⟨hsound, hun, -⟩ := downWork_sound (map := map) (averages := averages) (inForce := inForce) h2 i
  have hentry : SoundEntry p.maxBits e := by
    rw [he]
    split
    · exact hun
    · exact hsound
  obtain ⟨hbits, hlow, hhigh, hzero⟩ := hentry
  refine ⟨hbits, hlow, hhigh, hzero, fun hb => downWork_loaded (p := p) (inForce := inForce) ?_, ?_⟩
  · rw [he] at hb
    split at hb
    · exact .inr hb
    · exact .inl hb
  intro settled withdrawnFrom
  have hsettled : ∀ i, settled i = downWork map p averages inForce i := fun i => by
    simp only [settled, downWork, isDown, beq_iff_eq]
    split
    · cases averages.getD i none <;> rfl
    · rfl
  have hwithdrawn : ∀ j ≤ 448, withdrawnFrom j =
      (unboostedFrom j ((List.range 448).map (downWork map p averages inForce))).map (·.entry) := fun j hj => by
    rw [unboostedFrom_range _ hj, List.map_map]
    refine List.map_congr_left fun i _ => ?_
    simp only [hsettled, Function.comp]
    by_cases hji : j ≤ i
    · cases hb : (downWork map p averages inForce i).boosted with
      | true =>
        simp only [hji, Work.unboosted, hb, and_self, if_true, Work.withdraw]
        split <;> rfl
      | false => simp only [hji, Work.unboosted, hb, Bool.false_eq_true, and_false, if_false, if_true]
    · simp only [hji, false_and, if_false]
  refine ⟨k, hk, by rw [hwithdrawn k hk, ← heq], fun hk => ?_⟩
  obtain ⟨hboost, hpos⟩ := hlast hk
  rw [hsettled, hwithdrawn (k + 1) hk, List.map_map]
  exact ⟨hboost, hpos⟩

end Sys2Proof.Machine
end

section
/-! The settled statements about the settings: the profile's clamping (O23), the resolution of a tone (O25), the writes of
single settings (O26), and the sensed inputs (O52). -/

namespace Sys2Proof.Machine

/-! ### The profile -/

theorem clamp_eq (lo hi x : Int) : clamp lo hi x = max lo (min hi x) := rfl

/-- What R42's steps leave, in bounds of numbers. -/
theorem Profile.write_eq (o : Profile) (f : ProfileFields) :
    let q := o.write f
    q.gap = max 24 (min 60 (f.gap.getD o.gap)) ∧ q.margin = max 0 (min 60 (f.margin.getD o.margin)) ∧
      q.minMargin = max 0 (min q.margin (f.minMargin.getD o.minMargin)) ∧
      (q.maxBits : Int) = max 2 (min 12 (f.maxBits.getD o.maxBits)) ∧
      (q.floor ≤ max 0 (min 16000 (f.floor.getD o.floor)) ∧ q.floor % 32 = 0 ∧
        max 0 (min 16000 (f.floor.getD o.floor)) < q.floor + 32) ∧
      q.loss = max 20 (min 200 (f.loss.getD o.loss)) := by
  refine ⟨rfl, rfl, rfl, ?_, ⟨?_, ?_, ?_⟩, rfl⟩
  all_goals simp only [Profile.write, clamp_eq]; omega

/-- Settles O23: the profile as it is written, and the status by whether a step changed a value. -/
theorem setProfileClampsInOrder : Obligations.SetProfileClampsInOrder := by
  refine ⟨fun s e f h hp hf => ?_, fun s e f h hp hf => ?_⟩
  · intro p o
    obtain ⟨hgap, hmargin, hmin, hbits, hfloor, hloss⟩ := o.write_eq f
    refine ⟨o.write f, if o.clamps f then .okClamped else .ok, h.answered (c := .setProfile f) rfl nofun hp.refuses ?_, hgap,
      hmargin, hmin, hbits, hfloor, ?_, hloss, by split <;> simp, ?_⟩
    · simp only [handlingOf, ownSetProfile, if_neg hf]
      rfl
    · show (upshiftOf f.upshift).getD o.upshift = _
      cases hu : f.upshift with
      | none => rfl
      | some v => rfl
    · cases hc : o.clamps f <;> simp [Profile.clamps] at hc <;> simp <;> tauto
  · refine h.answered (c := .setProfile f) rfl nofun hp.refuses ?_
    simp only [handlingOf, ownSetProfile, if_pos hf]

/-! ### The resolution of a tone -/

/-- Outside the fixed tones and the overlay the windows decide (R4). -/
theorem resolve_windows {overlay : Bool} {ws : List Window} {t : Nat} (h5 : 5 < t) (ho : overlay = false ∨ t < 256) :
    resolve overlay ws t =
      if ws.any (fun w => w.covers t && w.cls == .quiet) then .quiet .notch
      else match ws.find? (fun w => w.covers t && w.cls == .carry) with
        | some w => if w.dir = .down then .downCarry else .upCarry
        | none => .unused := by
  have hover : ¬ (overlay && decide (256 ≤ t)) = true := by
    rcases ho with rfl | ho
    · simp
    · simp [Nat.not_le.2 ho]
  rw [resolve, if_neg (Nat.not_le.2 h5), if_neg hover] <;> rfl

/-- The first window that covers the tone is the one found, where all that cover it carry. -/
theorem find?_first_covering {ws : List Window} {t i : Nat} {w : Window} (hi : ws[i]? = some w) (hw : w.covers t = true)
    (hc : w.cls = .carry) (hfirst : ∀ (j : Nat) (v : Window), j < i → ws[j]? = some v → v.covers t = false) :
    ws.find? (fun w => w.covers t && w.cls == .carry) = some w := by
  induction ws generalizing i with
  | nil => cases hi
  | cons x xs ih =>
    cases i with
    | zero =>
      obtain rfl : x = w := by simpa using hi
      rw [List.find?_cons_of_pos (by simp [hw, hc])]
    | succ i =>
      rw [List.find?_cons_of_neg (by simp [hfirst 0 x (Nat.succ_pos i) rfl])]
      exact ih hi fun j v hj hv => hfirst (j + 1) v (Nat.succ_lt_succ hj) hv

/-- Settles O25: the cases of R4 in their order. -/
theorem resolutionTakesTheFirstCase : Obligations.ResolutionTakesTheFirstCase := by
  intro overlay ws t
  refine ⟨fun h => if_pos h, fun h5 ho h256 => ?_, fun h5 ho => ⟨?_, fun hcarry => ⟨?_, ?_⟩⟩⟩
  · rw [resolve, if_neg (Nat.not_le.2 h5), if_pos (by simp [ho, h256])]
  · rintro ⟨w, hw, hcov, hcls⟩
    rw [resolve_windows h5 ho, if_pos (List.any_eq_true.2 ⟨w, hw, by simp [hcov, hcls]⟩)]
  all_goals
    have hnotch : ¬ ws.any (fun w => w.covers t && w.cls == .quiet) = true := fun h => by
      obtain ⟨w, hw, hq⟩ := List.any_eq_true.1 h
      simp only [Bool.and_eq_true, beq_iff_eq] at hq
      obtain ⟨hcov, hquiet⟩ := hq
      rw [hcarry w hw hcov] at hquiet
      cases hquiet
    rw [resolve_windows h5 ho, if_neg hnotch]
  · intro i w hi hcov hfirst
    rw [find?_first_covering hi hcov (hcarry w (List.mem_of_getElem? hi) hcov) hfirst]
    cases hd : w.dir <;> simp [hd]
  · intro hnone
    rw [List.find?_eq_none.2 fun w hw => by simp [hnone w hw]]

/-! ### Single settings -/

/-- The limits as R189 clamps them. -/
theorem newLow_eq (kept : Nat) (carried : Option Int) :
    (newLow kept carried : Int) = match carried with | some x => max 1080 (min 1180 x) | none => (kept : Int) := by
  cases carried with
  | none => rfl
  | some x =>
    simp only [newLow, clamp_eq, Option.map_some, Option.getD_some]
    omega

theorem newCutoff_eq (low kept : Nat) (carried : Option Int) :
    newCutoff low kept carried =
      min (match carried with | some x => (max 1000 (min 1100 x)).toNat | none => kept) (low - 30) := by
  cases carried <;> rfl

/-- Settles O26: each owner's answer. -/
theorem settingsAreWrittenAlone : Obligations.SettingsAreWrittenAlone := by
  refine ⟨fun s e b h hp => ⟨h.answered (c := .setStrictPlan (some b)) rfl nofun hp.refuses rfl,
      h.answered (c := .setStrictPlan none) rfl nofun hp.refuses rfl⟩,
    fun s e v h hp => ⟨h.answered (c := .setReportThreshold (some v)) rfl nofun hp.refuses rfl,
      h.answered (c := .setReportThreshold none) rfl nofun hp.refuses rfl⟩,
    fun s e h hp => ⟨_, h.answered (c := .clearLog) rfl nofun hp.refuses rfl, List.filter_sublist, fun r => ?_⟩,
    fun s e low cut h hp => ?_⟩
  · simp
  · intro p v judge
    refine ⟨_, newLow v.low low, newCutoff (newLow v.low low) v.cutoff cut, _,
      h.answered (c := .setSupplyLimits low cut) rfl nofun hp.refuses rfl, newLow_eq v.low low, newCutoff_eq _ _ _, ?_, ?_,
      rfl, rfl⟩
    · simp only [ite_eq_right_iff, reduceCtorEq, imp_false, Bool.or_eq_true, decide_eq_true_eq, not_or, not_not]
      rfl
    · split
      · exact .inr rfl
      · exact .inl rfl

/-! ### The sensed inputs -/

/-- Settles O52: the judging of the six timers, read as conditions. -/
theorem inputsJudgeTheDebounceTimers : Obligations.InputsJudgeTheDebounceTimers := by
  intro s hrun v runs
  have hjudged : ∀ (mains : Bool) (battery : Nat), runs (Supply.retime { v with mains := mains, battery := battery })
      mains battery := by
    intro mains battery
    refine ⟨rfl, ?_, ?_, ?_, ?_, ?_, ?_⟩
    all_goals
      simp only [Supply.retime, judged, Bool.and_eq_true, Bool.or_eq_true, beq_iff_eq, bne_iff_ne, Bool.not_eq_true',
        decide_eq_true_eq, and_assoc, ne_eq]
  exact ⟨fun m => ⟨_, completes_of (o := execMainsSenseChange m s) rfl rfl hrun rfl, hjudged m v.battery⟩,
    fun b => ⟨_, completes_of (o := execBatteryThresholdCrossing b s) rfl rfl hrun rfl, hjudged v.mains (min 2000 b)⟩⟩

end Sys2Proof.Machine
end

section
/-! SUPPORT. The ground of a part: everything that the telephones and the outbound messages leave alone, whatever they do.
One lemma per operation; what an operation leaves alone is then read off the ground. -/

namespace Sys2Proof.Machine

/-- The log with what its records say, whatever their delivery. -/
def Log.ground (l : Log) : Log := { l with records := l.said, inFlight := none, ackTimer := none }

/-- The service channel without its outbound queue and what is counted of it. -/
def Service.ground (v : Service) : Service := { v with outQ := [], discards := 0, switchLost := none }

/-- The scheduler without the voice arrangement. -/
def Sched.ground (d : Sched) : Sched :=
  { d with slotA := .empty, slotB := .empty, switches := [], holdA := none, holdB := none }

/-- The link without its notices. -/
def Link.ground (l : Link) : Link := { l with notices := [], noticesLost := false, noticesLostCount := 0 }

/-- The part without its telephones, voice path, diagnostics, outbound messages and notices. -/
def Part.ground (s : Part) : Part :=
  { s with
    portA := .initial .idle, portB := .initial .idle, voice := .initial, diag := .initial
    sched := s.sched.ground, svc := s.svc.ground, log := s.log.ground, link := s.link.ground }

/-! ### Reading the ground -/

section
variable {s q : Part} (h : q.ground = s.ground)
include h

theorem Part.line_of_ground : q.line = s.line := by
  have he := congrArg (fun x : Part => x.line) h
  exact he
theorem Part.time_of_ground : q.time = s.time := by
  have he := congrArg (fun x : Part => x.time) h
  exact he
theorem Part.running_of_ground : q.running = s.running := by
  have he := congrArg (fun x : Part => x.running) h
  exact he
theorem Part.snapshot_of_ground : q.snapshot = s.snapshot := by
  have he := congrArg (fun x : Part => x.snapshot) h
  exact he
theorem Part.load_of_ground : q.load = s.load := by
  have he := congrArg (fun x : Part => x.load) h
  exact he
theorem Part.band_of_ground : q.band = s.band := by
  have he := congrArg (fun x : Part => x.band) h
  exact he
theorem Part.monitor_of_ground : q.monitor = s.monitor := by
  have he := congrArg (fun x : Part => x.monitor) h
  exact he
theorem Part.tracker_of_ground : q.tracker = s.tracker := by
  have he := congrArg (fun x : Part => x.tracker) h
  exact he
theorem Part.access_of_ground : q.access = s.access := by
  have he := congrArg (fun x : Part => x.access) h
  exact he
theorem Part.supply_of_ground : q.supply = s.supply := by
  have he := congrArg (fun x : Part => x.supply) h
  exact he
theorem Part.logNext_of_ground : q.log.next = s.log.next := by
  have he := congrArg (fun x : Part => x.log.next) h
  exact he
theorem Part.said_of_ground : q.log.said = s.log.said := by
  have he := congrArg (fun x : Part => x.log.records) h
  exact he
theorem Part.upQueue_of_ground : q.sched.upQueue = s.sched.upQueue := by
  have he := congrArg (fun x : Part => x.sched.upQueue) h
  exact he
theorem Part.lastReport_of_ground : q.sched.lastReport = s.sched.lastReport := by
  have he := congrArg (fun x : Part => x.sched.lastReport) h
  exact he
theorem Part.inService_of_ground : q.inService = s.inService := by
  have he := congrArg (fun x : Part => x.line.state.inService) h
  exact he
theorem Part.replies_of_ground : q.link.replies = s.link.replies := by
  have he := congrArg (fun x : Part => x.link.replies) h
  exact he
theorem Part.silenceHold_of_ground : q.link.silenceHold = s.link.silenceHold := by
  have he := congrArg (fun x : Part => x.link.silenceHold) h
  exact he
theorem Part.snapshotNew_of_ground : q.link.snapshotNew = s.link.snapshotNew := by
  have he := congrArg (fun x : Part => x.link.snapshotNew) h
  exact he

end

variable (s : Part) (p q : PortId)

/-! ### Records and queues -/

@[simp] theorem Part.setPort_ground (r : Port) : (s.setPort p r).ground = s.ground := by cases p <;> rfl
@[simp] theorem Part.setChan_ground (c : Option Channel) : (s.setChan p c).ground = s.ground := by cases p <;> rfl
@[simp] theorem Part.setGen_ground (g : Generator) : (s.setGen p g).ground = s.ground := by cases p <;> rfl
@[simp] theorem Part.setSlot_ground (x : Slot) : (s.setSlot p x).ground = s.ground := by cases p <;> rfl
@[simp] theorem Part.setHold_ground (t : Option Nat) : (s.setHold p t).ground = s.ground := by cases p <;> rfl
@[simp] theorem Part.modPort_ground (f : Port → Port) : (s.modPort p f).ground = s.ground := by cases p <;> rfl

theorem Link.post_ground (l : Link) (n : Notice) : (l.post n).ground = l.ground := by
  rw [Link.post_frame]
  rfl

@[simp] theorem Part.post_ground (n : Notice) : (s.post n).ground = s.ground := by
  simp only [Part.ground, Part.post, Link.post_ground]

@[simp] theorem Part.portEvent_ground (e : PortEvent) (m : Option Mode) : (s.portEvent p e m).ground = s.ground :=
  s.post_ground _

@[simp] theorem Part.endTest_ground (o : DiagOutcome) (d : Nat) : (s.endTest o d).ground = s.ground := by
  unfold Part.endTest
  split
  · rfl
  · exact Part.post_ground _ _

@[simp] theorem Part.abortTest_ground (w : AbortCause) : (s.abortTest w).ground = s.ground := s.endTest_ground _ _

theorem Service.displaced_ground (v : Service) (m : Msg) (ms : List Msg) :
    Service.ground { v.displaced m with outQ := ms } = v.ground := by
  unfold Service.displaced
  split <;> rfl

theorem Log.displaced_ground (l : Log) (m : Msg) : (l.displaced m).ground = l.ground := by
  have hsaid := l.displaced_said m
  unfold Log.displaced at hsaid ⊢
  split at hsaid
  · split at hsaid
    · rename_i hflight
      simp only [Log.ground, if_pos hflight, hsaid]
      rfl
    · rename_i hflight
      rw [if_neg hflight]
  · rfl

@[simp] theorem Part.enqueue_ground (m : Msg) : (s.enqueue m).ground = s.ground := by
  unfold Part.enqueue
  split
  · rfl
  · split
    · rfl
    · split
      · rfl
      · simp only [Part.ground, Service.displaced_ground, Log.displaced_ground]
    · rfl

@[simp] theorem Part.signal_ground (x : Signal) : (s.signal p x).ground = s.ground := s.enqueue_ground _

/-! ### Telephone ports -/

@[simp] theorem Part.sayOffHook_ground : (s.sayOffHook p).ground = s.ground := by simp [Part.sayOffHook]

@[simp] theorem Part.sayOnHook_ground : (s.sayOnHook p).ground = s.ground := by simp [Part.sayOnHook]

@[simp] theorem Part.withdraw_ground : (s.withdraw p).ground = s.ground := by
  unfold Part.withdraw
  split <;> simp

@[simp] theorem Part.enterState_ground (n : PortState) (m : Option Mode) : (s.enterState p n m).ground = s.ground := by
  unfold Part.enterState
  dsimp only
  split
  · rfl
  · split <;> simp

@[simp] theorem Part.beginChannel_ground (m : Mode) : (s.beginChannel p m).ground = s.ground :=
  (Part.signal_ground _ _ _).trans (s.setChan_ground p _)

@[simp] theorem Part.endChannel_ground : (s.endChannel p).ground = s.ground := by
  unfold Part.endChannel
  split
  · simp
  · exact (Part.signal_ground _ _ _).trans
      ((Part.setSlot_ground _ _ _).trans ((Part.setHold_ground _ _ _).trans (s.setChan_ground p _)))

@[simp] theorem Part.startRing_ground (c : Nat) (o : Origin) (x : Option PortId) :
    (s.startRing p c o x).ground = s.ground := by
  unfold Part.startRing
  dsimp only
  split <;> simp

@[simp] theorem Part.releaseTone_ground : (s.releaseTone p).ground = s.ground := by
  unfold Part.releaseTone
  split <;> simp

@[simp] theorem Part.callerBack_ground : (s.callerBack p).ground = s.ground := by
  unfold Part.callerBack
  dsimp only
  split
  · split <;> simp
  · rfl

@[simp] theorem Part.endRing_ground (b : Bool) (n : PortState) : (s.endRing p b n).ground = s.ground := by
  unfold Part.endRing
  dsimp only
  split
  · rfl
  · split
    · split <;> simp
    · split <;> simp

@[simp] theorem Part.dropRungBy_ground : (s.dropRungBy p).ground = s.ground := by
  unfold Part.dropRungBy
  split <;> simp

@[simp] theorem Part.park_ground : (s.park p).ground = s.ground := by simp [Part.park]

@[simp] theorem Part.unlink_ground : s.unlink.ground = s.ground := rfl

@[simp] theorem Part.parkJoined_ground : s.parkJoined.ground = s.ground := by
  unfold Part.parkJoined
  split <;> simp

@[simp] theorem Part.toDialling_ground : (s.toDialling p).ground = s.ground := by
  unfold Part.toDialling
  dsimp only
  split <;> simp

@[simp] theorem Part.leaveCall_ground (old : PortState) : (s.leaveCall p old).ground = s.ground := by
  unfold Part.leaveCall
  dsimp only
  rw [Part.dropRungBy_ground]
  split
  · rw [Part.parkJoined_ground]
    split <;> simp
  · split
    · rw [Part.unlink_ground]
      split <;> simp
    · split <;> simp

@[simp] theorem Part.hangUp_ground (n : PortState) : (s.hangUp p n).ground = s.ground := by simp [Part.hangUp]

@[simp] theorem Part.portLeavesService_ground : (s.portLeavesService p).ground = s.ground := by
  unfold Part.portLeavesService
  dsimp only
  rw [Part.modPort_ground]
  split
  any_goals simp
  split <;> simp

@[simp] theorem Part.channelsEnd_ground : s.channelsEnd.ground = s.ground := rfl

@[simp] theorem Part.portsLeaveService_ground : s.portsLeaveService.ground = s.ground := by simp [Part.portsLeaveService]

/-! ### The relay, and what a port hears -/

@[simp] theorem Part.enterThrough_ground : s.enterThrough.ground = s.ground := by simp [Part.enterThrough]

@[simp] theorem Part.leaveThrough_ground : s.leaveThrough.ground = s.ground := s.enterState_ground _ _ _

/-- The relay goes where R187 drives it, and the telephones follow. -/
theorem Part.settleRelay_ground :
    s.settleRelay.ground = { s.ground with supply := { s.supply with relay := s.relayTarget } } := by
  unfold Part.settleRelay
  dsimp only
  split
  · rename_i h
    rw [h]
    rfl
  · split
    · rename_i h
      rw [Part.leaveThrough_ground, h]
      rfl
    · rename_i h
      rw [Part.enterThrough_ground, eq_false_of_ne_true h]
      rfl

@[simp] theorem Part.refreshPort_ground : (s.refreshPort p).ground = s.ground := by simp [Part.refreshPort]

@[simp] theorem Part.refreshHeard_ground : s.refreshHeard.ground = s.ground := by simp [Part.refreshHeard]

@[simp] theorem Part.giveEvent_ground (e : PortEvent) (x : Signal) : (s.giveEvent p e x).ground = s.ground := by
  unfold Part.giveEvent
  dsimp only
  split <;> simp

@[simp] theorem Part.giveDigit_ground (d : Digit) (b : Bool) : (s.giveDigit p d b).ground = s.ground := by
  unfold Part.giveDigit
  dsimp only
  split <;> simp

@[simp] theorem Part.declareHook_ground (h : Hook) : (s.declareHook p h).ground = s.ground := by simp [Part.declareHook]

/-! ### Capacity, rings and shedding -/

@[simp] theorem Part.setMode_ground (m : Mode) : (s.setMode p m).ground = s.ground := by
  unfold Part.setMode
  split <;> simp

@[simp] theorem Part.holdPort_ground : (s.holdPort p).ground = s.ground := by
  unfold Part.holdPort
  split <;> simp

@[simp] theorem Part.resumePort_ground : (s.resumePort p).ground = s.ground := by
  unfold Part.resumePort
  split <;> simp

@[simp] theorem Part.shrinkStep_ground (b : Bool) (f : Part → Part) (hf : ∀ x : Part, (f x).ground = x.ground) :
    (s.shrinkStep b f).ground = s.ground := by
  unfold Part.shrinkStep
  split
  · exact hf s
  · rfl

@[simp] theorem Part.growStep_ground (b : Bool) (f : Part → Part) (hf : ∀ x : Part, (f x).ground = x.ground) :
    (s.growStep b f).ground = s.ground := by
  unfold Part.growStep
  split
  · exact hf s
  · rfl

@[simp] theorem Part.shrink_ground : s.shrink.ground = s.ground := by
  unfold Part.shrink
  simp

@[simp] theorem Part.growth_ground : s.growth.ground = s.ground := by
  unfold Part.growth
  simp

@[simp] theorem Part.postRates_ground : s.postRates.ground = s.ground := s.post_ground _

@[simp] theorem Part.postRingLimited_ground : (s.postRingLimited p).ground = s.ground := s.post_ground _

@[simp] theorem Part.stopRing_ground : (s.stopRing p).ground = s.ground := by
  unfold Part.stopRing
  split <;> simp

@[simp] theorem Part.stopRings_ground : s.stopRings.ground = s.ground := by simp [Part.stopRings]

@[simp] theorem Part.trimRings_ground : s.trimRings.ground = s.ground := by
  unfold Part.trimRings
  dsimp only
  split
  · split <;> simp
  · rfl

@[simp] theorem Part.shedPort_ground : s.shedPort.ground = s.ground := by simp [Part.shedPort]

@[simp] theorem Part.shedAtLow_ground : s.shedAtLow.ground = s.ground := by
  unfold Part.shedAtLow
  split
  · simp
  · split <;> simp

@[simp] theorem Part.shedAtShutdown_ground : s.shedAtShutdown.ground = s.ground := by
  unfold Part.shedAtShutdown
  split <;> simp

@[simp] theorem Part.endShedding_ground : s.endShedding.ground = s.ground := by
  unfold Part.endShedding
  dsimp only
  split <;> simp

end Sys2Proof.Machine
end

section
/-! SUPPORT. Out of service the telephones send nothing: what they leave of the service channel and of the log, one lemma per
operation. And what the change of a port's state leaves alone. -/

namespace Sys2Proof.Machine

/-! ### A change of a port's state -/

variable (s : Part) (p q : PortId)

/-- A PORT_TEST that runs on no port is none to abort. -/
theorem Part.underTest_of_none {s : Part} (h : s.diag.running = none) (p : PortId) : s.underTest p = false := by
  simp [Part.underTest, h]

theorem Part.endTest_of_none {s : Part} (h : s.diag.running = none) (o : DiagOutcome) (d : Nat) : s.endTest o d = s := by
  simp [Part.endTest, h]

/-- Ending a test touches the diagnostics and the link alone (R166). -/
theorem Part.endTest_frame (o : DiagOutcome) (d : Nat) :
    s.endTest o d = { s with diag := (s.endTest o d).diag, link := (s.endTest o d).link } := by
  unfold Part.endTest
  split <;> rfl

/-- A change of a port's state touches that port, the diagnostics and the link alone (R115, R165). -/
theorem Part.enterState_frame (n : PortState) (m : Option Mode) :
    s.enterState p n m = { s.modPort p (fun r => { r with state := n }) with
      diag := (s.enterState p n m).diag, link := (s.enterState p n m).link } := by
  unfold Part.enterState
  dsimp only
  split
  · rename_i h
    subst h
    cases p <;> rfl
  · split
    · rw [Part.abortTest, Part.endTest_frame]
      rfl
    · rfl

@[simp] theorem Part.enterState_port (n : PortState) (m : Option Mode) :
    (s.enterState p n m).port p = { s.port p with state := n } := by
  rw [Part.enterState_frame]
  cases p <;> rfl

@[simp] theorem Part.enterState_port_other (n : PortState) (m : Option Mode) :
    (s.enterState p n m).port (other p) = s.port (other p) := by
  rw [Part.enterState_frame]
  cases p <;> rfl

@[simp] theorem Part.enterState_voice (n : PortState) (m : Option Mode) : (s.enterState p n m).voice = s.voice := by
  rw [Part.enterState_frame]
  exact s.modPort_voice p _

@[simp] theorem Part.enterState_sched (n : PortState) (m : Option Mode) : (s.enterState p n m).sched = s.sched := by
  rw [Part.enterState_frame]
  exact s.modPort_sched p _

@[simp] theorem Part.enterState_svc (n : PortState) (m : Option Mode) : (s.enterState p n m).svc = s.svc := by
  rw [Part.enterState_frame]
  exact s.modPort_svc p _

@[simp] theorem Part.enterState_log (n : PortState) (m : Option Mode) : (s.enterState p n m).log = s.log := by
  rw [Part.enterState_frame]
  exact s.modPort_log p _

/-- With no test running a change of state leaves the diagnostics alone. -/
theorem Part.enterState_diag_of_none {s : Part} (h : s.diag.running = none) (p : PortId) (n : PortState)
    (m : Option Mode) : (s.enterState p n m).diag = s.diag := by
  have hnone : ((s.modPort p fun r => { r with state := n }).portEvent p (.state (s.port p).state n) m).underTest p =
      false := Part.underTest_of_none (by simpa [Part.portEvent] using h) p
  unfold Part.enterState
  dsimp only
  split
  · rfl
  · rw [hnone]
    simp [Part.portEvent]

/-! ### Fields read off the ground -/

@[simp] theorem Part.enterState_running (n : PortState) (m : Option Mode) : (s.enterState p n m).running = s.running :=
  Part.running_of_ground (by simp)
@[simp] theorem Part.enterState_time (n : PortState) (m : Option Mode) : (s.enterState p n m).time = s.time :=
  Part.time_of_ground (by simp)
@[simp] theorem Part.enterState_line (n : PortState) (m : Option Mode) : (s.enterState p n m).line = s.line :=
  Part.line_of_ground (by simp)
@[simp] theorem Part.enterState_snapshot (n : PortState) (m : Option Mode) : (s.enterState p n m).snapshot = s.snapshot :=
  Part.snapshot_of_ground (by simp)
@[simp] theorem Part.enterState_load (n : PortState) (m : Option Mode) : (s.enterState p n m).load = s.load :=
  Part.load_of_ground (by simp)
@[simp] theorem Part.enterState_band (n : PortState) (m : Option Mode) : (s.enterState p n m).band = s.band :=
  Part.band_of_ground (by simp)
@[simp] theorem Part.enterState_monitor (n : PortState) (m : Option Mode) : (s.enterState p n m).monitor = s.monitor :=
  Part.monitor_of_ground (by simp)
@[simp] theorem Part.enterState_tracker (n : PortState) (m : Option Mode) : (s.enterState p n m).tracker = s.tracker :=
  Part.tracker_of_ground (by simp)
@[simp] theorem Part.enterState_supply (n : PortState) (m : Option Mode) : (s.enterState p n m).supply = s.supply :=
  Part.supply_of_ground (by simp)
@[simp] theorem Part.enterState_access (n : PortState) (m : Option Mode) : (s.enterState p n m).access = s.access :=
  Part.access_of_ground (by simp)

@[simp] theorem Part.sayOffHook_running : (s.sayOffHook p).running = s.running :=
  Part.running_of_ground (by simp)
@[simp] theorem Part.sayOffHook_time : (s.sayOffHook p).time = s.time :=
  Part.time_of_ground (by simp)
@[simp] theorem Part.sayOffHook_line : (s.sayOffHook p).line = s.line :=
  Part.line_of_ground (by simp)
@[simp] theorem Part.sayOffHook_snapshot : (s.sayOffHook p).snapshot = s.snapshot :=
  Part.snapshot_of_ground (by simp)
@[simp] theorem Part.sayOffHook_load : (s.sayOffHook p).load = s.load :=
  Part.load_of_ground (by simp)
@[simp] theorem Part.sayOffHook_band : (s.sayOffHook p).band = s.band :=
  Part.band_of_ground (by simp)
@[simp] theorem Part.sayOffHook_monitor : (s.sayOffHook p).monitor = s.monitor :=
  Part.monitor_of_ground (by simp)
@[simp] theorem Part.sayOffHook_tracker : (s.sayOffHook p).tracker = s.tracker :=
  Part.tracker_of_ground (by simp)
@[simp] theorem Part.sayOffHook_supply : (s.sayOffHook p).supply = s.supply :=
  Part.supply_of_ground (by simp)
@[simp] theorem Part.sayOffHook_access : (s.sayOffHook p).access = s.access :=
  Part.access_of_ground (by simp)

@[simp] theorem Part.sayOnHook_running : (s.sayOnHook p).running = s.running :=
  Part.running_of_ground (by simp)
@[simp] theorem Part.sayOnHook_time : (s.sayOnHook p).time = s.time :=
  Part.time_of_ground (by simp)
@[simp] theorem Part.sayOnHook_line : (s.sayOnHook p).line = s.line :=
  Part.line_of_ground (by simp)
@[simp] theorem Part.sayOnHook_snapshot : (s.sayOnHook p).snapshot = s.snapshot :=
  Part.snapshot_of_ground (by simp)
@[simp] theorem Part.sayOnHook_load : (s.sayOnHook p).load = s.load :=
  Part.load_of_ground (by simp)
@[simp] theorem Part.sayOnHook_band : (s.sayOnHook p).band = s.band :=
  Part.band_of_ground (by simp)
@[simp] theorem Part.sayOnHook_monitor : (s.sayOnHook p).monitor = s.monitor :=
  Part.monitor_of_ground (by simp)
@[simp] theorem Part.sayOnHook_tracker : (s.sayOnHook p).tracker = s.tracker :=
  Part.tracker_of_ground (by simp)
@[simp] theorem Part.sayOnHook_supply : (s.sayOnHook p).supply = s.supply :=
  Part.supply_of_ground (by simp)
@[simp] theorem Part.sayOnHook_access : (s.sayOnHook p).access = s.access :=
  Part.access_of_ground (by simp)

@[simp] theorem Part.endRing_running (b : Bool) (n : PortState) : (s.endRing p b n).running = s.running :=
  Part.running_of_ground (by simp)
@[simp] theorem Part.endRing_time (b : Bool) (n : PortState) : (s.endRing p b n).time = s.time :=
  Part.time_of_ground (by simp)
@[simp] theorem Part.endRing_line (b : Bool) (n : PortState) : (s.endRing p b n).line = s.line :=
  Part.line_of_ground (by simp)
@[simp] theorem Part.endRing_snapshot (b : Bool) (n : PortState) : (s.endRing p b n).snapshot = s.snapshot :=
  Part.snapshot_of_ground (by simp)
@[simp] theorem Part.endRing_load (b : Bool) (n : PortState) : (s.endRing p b n).load = s.load :=
  Part.load_of_ground (by simp)
@[simp] theorem Part.endRing_band (b : Bool) (n : PortState) : (s.endRing p b n).band = s.band :=
  Part.band_of_ground (by simp)
@[simp] theorem Part.endRing_monitor (b : Bool) (n : PortState) : (s.endRing p b n).monitor = s.monitor :=
  Part.monitor_of_ground (by simp)
@[simp] theorem Part.endRing_tracker (b : Bool) (n : PortState) : (s.endRing p b n).tracker = s.tracker :=
  Part.tracker_of_ground (by simp)
@[simp] theorem Part.endRing_supply (b : Bool) (n : PortState) : (s.endRing p b n).supply = s.supply :=
  Part.supply_of_ground (by simp)
@[simp] theorem Part.endRing_access (b : Bool) (n : PortState) : (s.endRing p b n).access = s.access :=
  Part.access_of_ground (by simp)

@[simp] theorem Part.refreshHeard_running : (s.refreshHeard).running = s.running :=
  Part.running_of_ground (by simp)
@[simp] theorem Part.refreshHeard_time : (s.refreshHeard).time = s.time :=
  Part.time_of_ground (by simp)
@[simp] theorem Part.refreshHeard_line : (s.refreshHeard).line = s.line :=
  Part.line_of_ground (by simp)
@[simp] theorem Part.refreshHeard_snapshot : (s.refreshHeard).snapshot = s.snapshot :=
  Part.snapshot_of_ground (by simp)
@[simp] theorem Part.refreshHeard_load : (s.refreshHeard).load = s.load :=
  Part.load_of_ground (by simp)
@[simp] theorem Part.refreshHeard_band : (s.refreshHeard).band = s.band :=
  Part.band_of_ground (by simp)
@[simp] theorem Part.refreshHeard_monitor : (s.refreshHeard).monitor = s.monitor :=
  Part.monitor_of_ground (by simp)
@[simp] theorem Part.refreshHeard_tracker : (s.refreshHeard).tracker = s.tracker :=
  Part.tracker_of_ground (by simp)
@[simp] theorem Part.refreshHeard_supply : (s.refreshHeard).supply = s.supply :=
  Part.supply_of_ground (by simp)
@[simp] theorem Part.refreshHeard_access : (s.refreshHeard).access = s.access :=
  Part.access_of_ground (by simp)

@[simp] theorem Part.portsLeaveService_running : (s.portsLeaveService).running = s.running :=
  Part.running_of_ground (by simp)
@[simp] theorem Part.portsLeaveService_time : (s.portsLeaveService).time = s.time :=
  Part.time_of_ground (by simp)
@[simp] theorem Part.portsLeaveService_line : (s.portsLeaveService).line = s.line :=
  Part.line_of_ground (by simp)
@[simp] theorem Part.portsLeaveService_snapshot : (s.portsLeaveService).snapshot = s.snapshot :=
  Part.snapshot_of_ground (by simp)
@[simp] theorem Part.portsLeaveService_load : (s.portsLeaveService).load = s.load :=
  Part.load_of_ground (by simp)
@[simp] theorem Part.portsLeaveService_band : (s.portsLeaveService).band = s.band :=
  Part.band_of_ground (by simp)
@[simp] theorem Part.portsLeaveService_monitor : (s.portsLeaveService).monitor = s.monitor :=
  Part.monitor_of_ground (by simp)
@[simp] theorem Part.portsLeaveService_tracker : (s.portsLeaveService).tracker = s.tracker :=
  Part.tracker_of_ground (by simp)
@[simp] theorem Part.portsLeaveService_supply : (s.portsLeaveService).supply = s.supply :=
  Part.supply_of_ground (by simp)
@[simp] theorem Part.portsLeaveService_access : (s.portsLeaveService).access = s.access :=
  Part.access_of_ground (by simp)

@[simp] theorem Part.park_running : (s.park p).running = s.running :=
  Part.running_of_ground (by simp)
@[simp] theorem Part.park_time : (s.park p).time = s.time :=
  Part.time_of_ground (by simp)
@[simp] theorem Part.park_line : (s.park p).line = s.line :=
  Part.line_of_ground (by simp)
@[simp] theorem Part.park_snapshot : (s.park p).snapshot = s.snapshot :=
  Part.snapshot_of_ground (by simp)
@[simp] theorem Part.park_load : (s.park p).load = s.load :=
  Part.load_of_ground (by simp)
@[simp] theorem Part.park_band : (s.park p).band = s.band :=
  Part.band_of_ground (by simp)
@[simp] theorem Part.park_monitor : (s.park p).monitor = s.monitor :=
  Part.monitor_of_ground (by simp)
@[simp] theorem Part.park_tracker : (s.park p).tracker = s.tracker :=
  Part.tracker_of_ground (by simp)
@[simp] theorem Part.park_supply : (s.park p).supply = s.supply :=
  Part.supply_of_ground (by simp)
@[simp] theorem Part.park_access : (s.park p).access = s.access :=
  Part.access_of_ground (by simp)

@[simp] theorem Part.endChannel_running : (s.endChannel p).running = s.running :=
  Part.running_of_ground (by simp)
@[simp] theorem Part.endChannel_time : (s.endChannel p).time = s.time :=
  Part.time_of_ground (by simp)
@[simp] theorem Part.endChannel_line : (s.endChannel p).line = s.line :=
  Part.line_of_ground (by simp)
@[simp] theorem Part.endChannel_snapshot : (s.endChannel p).snapshot = s.snapshot :=
  Part.snapshot_of_ground (by simp)
@[simp] theorem Part.endChannel_load : (s.endChannel p).load = s.load :=
  Part.load_of_ground (by simp)
@[simp] theorem Part.endChannel_band : (s.endChannel p).band = s.band :=
  Part.band_of_ground (by simp)
@[simp] theorem Part.endChannel_monitor : (s.endChannel p).monitor = s.monitor :=
  Part.monitor_of_ground (by simp)
@[simp] theorem Part.endChannel_tracker : (s.endChannel p).tracker = s.tracker :=
  Part.tracker_of_ground (by simp)
@[simp] theorem Part.endChannel_supply : (s.endChannel p).supply = s.supply :=
  Part.supply_of_ground (by simp)
@[simp] theorem Part.endChannel_access : (s.endChannel p).access = s.access :=
  Part.access_of_ground (by simp)

@[simp] theorem Part.beginChannel_running (m : Mode) : (s.beginChannel p m).running = s.running :=
  Part.running_of_ground (by simp)
@[simp] theorem Part.beginChannel_time (m : Mode) : (s.beginChannel p m).time = s.time :=
  Part.time_of_ground (by simp)
@[simp] theorem Part.beginChannel_line (m : Mode) : (s.beginChannel p m).line = s.line :=
  Part.line_of_ground (by simp)
@[simp] theorem Part.beginChannel_snapshot (m : Mode) : (s.beginChannel p m).snapshot = s.snapshot :=
  Part.snapshot_of_ground (by simp)
@[simp] theorem Part.beginChannel_load (m : Mode) : (s.beginChannel p m).load = s.load :=
  Part.load_of_ground (by simp)
@[simp] theorem Part.beginChannel_band (m : Mode) : (s.beginChannel p m).band = s.band :=
  Part.band_of_ground (by simp)
@[simp] theorem Part.beginChannel_monitor (m : Mode) : (s.beginChannel p m).monitor = s.monitor :=
  Part.monitor_of_ground (by simp)
@[simp] theorem Part.beginChannel_tracker (m : Mode) : (s.beginChannel p m).tracker = s.tracker :=
  Part.tracker_of_ground (by simp)
@[simp] theorem Part.beginChannel_supply (m : Mode) : (s.beginChannel p m).supply = s.supply :=
  Part.supply_of_ground (by simp)
@[simp] theorem Part.beginChannel_access (m : Mode) : (s.beginChannel p m).access = s.access :=
  Part.access_of_ground (by simp)

@[simp] theorem Part.leaveCall_running (old : PortState) : (s.leaveCall p old).running = s.running :=
  Part.running_of_ground (by simp)
@[simp] theorem Part.leaveCall_time (old : PortState) : (s.leaveCall p old).time = s.time :=
  Part.time_of_ground (by simp)
@[simp] theorem Part.leaveCall_line (old : PortState) : (s.leaveCall p old).line = s.line :=
  Part.line_of_ground (by simp)
@[simp] theorem Part.leaveCall_snapshot (old : PortState) : (s.leaveCall p old).snapshot = s.snapshot :=
  Part.snapshot_of_ground (by simp)
@[simp] theorem Part.leaveCall_load (old : PortState) : (s.leaveCall p old).load = s.load :=
  Part.load_of_ground (by simp)
@[simp] theorem Part.leaveCall_band (old : PortState) : (s.leaveCall p old).band = s.band :=
  Part.band_of_ground (by simp)
@[simp] theorem Part.leaveCall_monitor (old : PortState) : (s.leaveCall p old).monitor = s.monitor :=
  Part.monitor_of_ground (by simp)
@[simp] theorem Part.leaveCall_tracker (old : PortState) : (s.leaveCall p old).tracker = s.tracker :=
  Part.tracker_of_ground (by simp)
@[simp] theorem Part.leaveCall_supply (old : PortState) : (s.leaveCall p old).supply = s.supply :=
  Part.supply_of_ground (by simp)
@[simp] theorem Part.leaveCall_access (old : PortState) : (s.leaveCall p old).access = s.access :=
  Part.access_of_ground (by simp)

@[simp] theorem Part.hangUp_running (n : PortState) : (s.hangUp p n).running = s.running :=
  Part.running_of_ground (by simp)
@[simp] theorem Part.hangUp_time (n : PortState) : (s.hangUp p n).time = s.time :=
  Part.time_of_ground (by simp)
@[simp] theorem Part.hangUp_line (n : PortState) : (s.hangUp p n).line = s.line :=
  Part.line_of_ground (by simp)
@[simp] theorem Part.hangUp_snapshot (n : PortState) : (s.hangUp p n).snapshot = s.snapshot :=
  Part.snapshot_of_ground (by simp)
@[simp] theorem Part.hangUp_load (n : PortState) : (s.hangUp p n).load = s.load :=
  Part.load_of_ground (by simp)
@[simp] theorem Part.hangUp_band (n : PortState) : (s.hangUp p n).band = s.band :=
  Part.band_of_ground (by simp)
@[simp] theorem Part.hangUp_monitor (n : PortState) : (s.hangUp p n).monitor = s.monitor :=
  Part.monitor_of_ground (by simp)
@[simp] theorem Part.hangUp_tracker (n : PortState) : (s.hangUp p n).tracker = s.tracker :=
  Part.tracker_of_ground (by simp)
@[simp] theorem Part.hangUp_supply (n : PortState) : (s.hangUp p n).supply = s.supply :=
  Part.supply_of_ground (by simp)
@[simp] theorem Part.hangUp_access (n : PortState) : (s.hangUp p n).access = s.access :=
  Part.access_of_ground (by simp)

@[simp] theorem Part.toDialling_running : (s.toDialling p).running = s.running :=
  Part.running_of_ground (by simp)
@[simp] theorem Part.toDialling_time : (s.toDialling p).time = s.time :=
  Part.time_of_ground (by simp)
@[simp] theorem Part.toDialling_line : (s.toDialling p).line = s.line :=
  Part.line_of_ground (by simp)
@[simp] theorem Part.toDialling_snapshot : (s.toDialling p).snapshot = s.snapshot :=
  Part.snapshot_of_ground (by simp)
@[simp] theorem Part.toDialling_load : (s.toDialling p).load = s.load :=
  Part.load_of_ground (by simp)
@[simp] theorem Part.toDialling_band : (s.toDialling p).band = s.band :=
  Part.band_of_ground (by simp)
@[simp] theorem Part.toDialling_monitor : (s.toDialling p).monitor = s.monitor :=
  Part.monitor_of_ground (by simp)
@[simp] theorem Part.toDialling_tracker : (s.toDialling p).tracker = s.tracker :=
  Part.tracker_of_ground (by simp)
@[simp] theorem Part.toDialling_supply : (s.toDialling p).supply = s.supply :=
  Part.supply_of_ground (by simp)
@[simp] theorem Part.toDialling_access : (s.toDialling p).access = s.access :=
  Part.access_of_ground (by simp)

@[simp] theorem Part.withdraw_running : (s.withdraw p).running = s.running :=
  Part.running_of_ground (by simp)
@[simp] theorem Part.withdraw_time : (s.withdraw p).time = s.time :=
  Part.time_of_ground (by simp)
@[simp] theorem Part.withdraw_line : (s.withdraw p).line = s.line :=
  Part.line_of_ground (by simp)
@[simp] theorem Part.withdraw_snapshot : (s.withdraw p).snapshot = s.snapshot :=
  Part.snapshot_of_ground (by simp)
@[simp] theorem Part.withdraw_load : (s.withdraw p).load = s.load :=
  Part.load_of_ground (by simp)
@[simp] theorem Part.withdraw_band : (s.withdraw p).band = s.band :=
  Part.band_of_ground (by simp)
@[simp] theorem Part.withdraw_monitor : (s.withdraw p).monitor = s.monitor :=
  Part.monitor_of_ground (by simp)
@[simp] theorem Part.withdraw_tracker : (s.withdraw p).tracker = s.tracker :=
  Part.tracker_of_ground (by simp)
@[simp] theorem Part.withdraw_supply : (s.withdraw p).supply = s.supply :=
  Part.supply_of_ground (by simp)
@[simp] theorem Part.withdraw_access : (s.withdraw p).access = s.access :=
  Part.access_of_ground (by simp)

@[simp] theorem Part.settleRelay_line : s.settleRelay.line = s.line := by
  have he := congrArg Part.line s.settleRelay_ground
  exact he

@[simp] theorem Part.settleRelay_band : s.settleRelay.band = s.band := by
  have he := congrArg Part.band s.settleRelay_ground
  exact he

@[simp] theorem Part.settleRelay_running : s.settleRelay.running = s.running := by
  have he := congrArg Part.running s.settleRelay_ground
  exact he

@[simp] theorem Part.settleRelay_supply :
    s.settleRelay.supply = { s.supply with relay := s.relayTarget } := by
  have he := congrArg Part.supply s.settleRelay_ground
  exact he

@[simp] theorem Part.refreshHeard_diag : s.refreshHeard.diag = s.diag := by simp [Part.refreshHeard, Part.refreshPort]
@[simp] theorem Part.refreshHeard_svc : s.refreshHeard.svc = s.svc := by simp [Part.refreshHeard, Part.refreshPort]
@[simp] theorem Part.refreshHeard_log : s.refreshHeard.log = s.log := by simp [Part.refreshHeard, Part.refreshPort]
@[simp] theorem Part.refreshHeard_sched : s.refreshHeard.sched = s.sched := by simp [Part.refreshHeard, Part.refreshPort]
@[simp] theorem Part.refreshHeard_link : s.refreshHeard.link = s.link := by simp [Part.refreshHeard, Part.refreshPort]

/-! ### Nothing is sent out of service -/

/-- The service channel and the log, out of service. -/
def Part.outbound (s : Part) : Option (Service × Log) := if s.inService then none else some (s.svc, s.log)

theorem Part.outbound_inService {s : Part} (h : s.inService = true) : s.outbound = none := if_pos h

/-- Where the part stays out of service, the outbound is that of the service channel and the log. -/
theorem Part.outbound_eq {s t : Part} (hline : t.inService = s.inService) (hsvc : t.svc = s.svc) (hlog : t.log = s.log) :
    t.outbound = s.outbound := by
  simp only [Part.outbound, hline, hsvc, hlog]

/-- In service there is nothing to show. -/
theorem Part.outbound_of_guard {s t : Part} (hline : t.inService = s.inService) (h : s.inService = true) :
    t.outbound = s.outbound := by
  rw [Part.outbound_inService h, Part.outbound_inService (hline.trans h)]

@[simp] theorem Part.post_outbound (n : Notice) : (s.post n).outbound = s.outbound := rfl

@[simp] theorem Part.modPort_outbound (f : Port → Port) : (s.modPort p f).outbound = s.outbound := by
  cases p <;> rfl

@[simp] theorem Part.setGen_outbound (g : Generator) : (s.setGen p g).outbound = s.outbound := by cases p <;> rfl

@[simp] theorem Part.setChan_outbound (c : Option Channel) : (s.setChan p c).outbound = s.outbound := by cases p <;> rfl

@[simp] theorem Part.setHold_outbound (t : Option Nat) : (s.setHold p t).outbound = s.outbound := by cases p <;> rfl

@[simp] theorem Part.enterState_outbound (n : PortState) (m : Option Mode) :
    (s.enterState p n m).outbound = s.outbound :=
  Part.outbound_eq (Part.inService_of_ground (by simp)) (by simp) (by simp)

@[simp] theorem Part.withdraw_outbound : (s.withdraw p).outbound = s.outbound := by
  by_cases h : s.inService = true
  · exact Part.outbound_of_guard (Part.inService_of_ground (by simp)) h
  · rw [Part.withdraw, if_neg (by simp [h])]

@[simp] theorem Part.toDialling_outbound : (s.toDialling p).outbound = s.outbound := by
  by_cases h : s.inService = true
  · exact Part.outbound_of_guard (Part.inService_of_ground (by simp)) h
  · unfold Part.toDialling
    dsimp only
    rw [if_neg (by rw [Part.inService_of_ground (s := s) (by simp)]; exact h)]
    simp

@[simp] theorem Part.releaseTone_outbound : (s.releaseTone p).outbound = s.outbound := by
  unfold Part.releaseTone
  split <;> simp

@[simp] theorem Part.callerBack_outbound : (s.callerBack p).outbound = s.outbound := by
  by_cases h : s.inService = true
  · exact Part.outbound_of_guard (Part.inService_of_ground (by simp)) h
  · unfold Part.callerBack
    dsimp only
    split
    · rw [if_neg]
      · simp
      · rw [Part.inService_of_ground (s := s) (by simp)]
        simp [h]
    · rfl

@[simp] theorem Part.endRing_outbound (b : Bool) (n : PortState) : (s.endRing p b n).outbound = s.outbound := by
  by_cases h : s.inService = true
  · exact Part.outbound_of_guard (Part.inService_of_ground (by simp)) h
  · unfold Part.endRing
    dsimp only
    split
    · rfl
    · split
      · rw [if_neg]
        · simp
        · rw [Part.inService_of_ground (s := s) (by simp)]
          simp [h]
      · split <;> simp

@[simp] theorem Part.dropRungBy_outbound : (s.dropRungBy p).outbound = s.outbound := by
  unfold Part.dropRungBy
  split <;> simp

@[simp] theorem Part.park_outbound : (s.park p).outbound = s.outbound := by simp [Part.park]

@[simp] theorem Part.unlink_outbound : s.unlink.outbound = s.outbound := rfl

@[simp] theorem Part.parkJoined_outbound : s.parkJoined.outbound = s.outbound := by
  unfold Part.parkJoined
  split <;> simp

@[simp] theorem Part.leaveCall_outbound (old : PortState) : (s.leaveCall p old).outbound = s.outbound := by
  unfold Part.leaveCall
  dsimp only
  rw [Part.dropRungBy_outbound]
  split
  · rw [Part.parkJoined_outbound]
    split <;> simp
  · split
    · rw [Part.unlink_outbound]
      split <;> simp
    · split <;> simp

@[simp] theorem Part.portLeavesService_outbound : (s.portLeavesService p).outbound = s.outbound := by
  unfold Part.portLeavesService
  dsimp only
  rw [Part.modPort_outbound]
  split
  any_goals simp
  split <;> simp

@[simp] theorem Part.portsLeaveService_outbound : s.portsLeaveService.outbound = s.outbound := by
  simp only [Part.portsLeaveService, Part.portLeavesService_outbound]
  rfl

@[simp] theorem Part.enterThrough_outbound : s.enterThrough.outbound = s.outbound := by simp [Part.enterThrough]

@[simp] theorem Part.leaveThrough_outbound : s.leaveThrough.outbound = s.outbound := s.enterState_outbound _ _ _

@[simp] theorem Part.settleRelay_outbound : s.settleRelay.outbound = s.outbound := by
  unfold Part.settleRelay
  dsimp only
  split
  · rfl
  · split
    · exact Part.leaveThrough_outbound _
    · exact Part.enterThrough_outbound _

@[simp] theorem Part.refreshHeard_outbound : s.refreshHeard.outbound = s.outbound := by
  simp [Part.refreshHeard, Part.refreshPort]

@[simp] theorem Part.shedPort_outbound : s.shedPort.outbound = s.outbound := by simp [Part.shedPort]

@[simp] theorem Part.shedAtShutdown_outbound : s.shedAtShutdown.outbound = s.outbound := by
  unfold Part.shedAtShutdown
  split <;> simp

/-- What is out of service and has the same outbound has the same service channel and log. -/
theorem Part.svc_log_of_outbound {s t : Part} (h : t.outbound = s.outbound) (hs : s.inService = false) :
    t.svc = s.svc ∧ t.log = s.log := by
  unfold Part.outbound at h
  rw [hs, if_neg Bool.false_ne_true] at h
  split at h
  · cases h
  · simpa using h

/-- Out of service a record goes to the log and its notice to the link, and nothing to the service channel (R149, R152). -/
theorem Part.makeRecordAt_svc_outOfService {s : Part} (hs : s.inService = false) (k : FaultKind) (src : FaultSource)
    (ls : LineState) (ds : List Int) : (s.makeRecordAt k src ls ds).svc = s.svc := by
  unfold Part.makeRecordAt
  dsimp only
  split
  · rw [Part.tryOffer_outOfService (by exact hs)]
    rfl
  · rfl

end Sys2Proof.Machine
end

section
/-! Bring-up: entries to SOUNDING and failed attempts, with what settles behind them, and the settled statements about the
start of the line, its CALLs, its failures and its timers (O21, O32, O33, O37). -/

namespace Sys2Proof.Machine

/-! ### What settles behind an event -/

theorem Part.settle_waiting {s : Part} (h : s.mayStart = false) : s.settle = s.settleRelay.refreshHeard := by
  rw [Part.settle, Part.soundingIfReady, if_neg (by rw [h]; decide)]

theorem Part.settle_starts {s : Part} (h : s.mayStart = true) : s.settle = s.enterSounding.settleRelay.refreshHeard := by
  rw [Part.settle, Part.soundingIfReady, if_pos h]

/-- With no start waiting an event settles on the same ground, the relay where R187 drives it. -/
theorem Part.settle_ground_waiting {s : Part} (h : s.mayStart = false) :
    s.settle.ground = { s.ground with supply := { s.supply with relay := s.relayTarget } } := by
  rw [Part.settle_waiting h, Part.refreshHeard_ground, Part.settleRelay_ground]

theorem Part.mayStart_of_notPending {s : Part} (h : s.line.startPending = false) : s.mayStart = false := by
  simp [Part.mayStart, h]

/-- Out of service, with no start waiting, nothing is sent and nothing recorded as an event settles. -/
theorem Part.settle_outbound_waiting {s : Part} (h : s.mayStart = false) : s.settle.outbound = s.outbound := by
  simp [Part.settle_waiting h]

theorem Part.loopTesting_of_none {s : Part} (h : s.diag.running = none) : s.loopTesting = false := by
  simp [Part.loopTesting, h]

/-- The relay with no test running and the line requesting PART: it stays at PART, or goes there where port A is on-hook
(R187). -/
theorem Part.relayTarget_part {s : Part} (hsupply : s.supply.state ≠ .shutdown) (hloop : s.loopTesting = false)
    (hreq : s.line.request = .part) : s.relayTarget = (s.supply.relay || s.portA.hook == .onHook) := by
  simp [Part.relayTarget, hsupply, hloop, hreq]

theorem Part.relayTarget_through {s : Part} (hloop : s.loopTesting = false) (hreq : s.line.request = .through) :
    s.relayTarget = false := by
  simp [Part.relayTarget, hloop, hreq]

/-- A relay driven to PART takes port A out of THROUGH, and touches no more (R90). -/
theorem Part.settleRelay_part {s : Part} (h : s.relayTarget = true) :
    s.settleRelay = if s.supply.relay = true then s
      else Part.leaveThrough { s with supply := { s.supply with relay := true } } := by
  unfold Part.settleRelay
  dsimp only
  rw [h]
  cases hr : s.supply.relay <;> simp

/-- A relay driven to PART leaves the hooks, the log, and, with no test running, the diagnostics. -/
theorem Part.settleRelay_part_same {s : Part} (h : s.relayTarget = true) (hd : s.diag.running = none) :
    s.settleRelay.portA.hook = s.portA.hook ∧ s.settleRelay.diag = s.diag ∧ s.settleRelay.log = s.log ∧
      s.settleRelay.svc = s.svc := by
  rw [Part.settleRelay_part h]
  split
  · exact ⟨rfl, rfl, rfl, rfl⟩
  · generalize hx : ({ s with supply := { s.supply with relay := true } } : Part) = x
    have hsame : x.portA = s.portA ∧ x.diag = s.diag ∧ x.log = s.log ∧ x.svc = s.svc := by
      subst hx
      exact ⟨rfl, rfl, rfl, rfl⟩
    obtain ⟨hA, hdiag, hlog, hsvc⟩ := hsame
    unfold Part.leaveThrough
    refine ⟨?_, ?_, by rw [Part.enterState_log, hlog], by rw [Part.enterState_svc, hsvc]⟩
    · have hport := congrArg Port.hook (x.enterState_port .a (if x.portA.enable then .idle else .disabled) none)
      rw [← hA]
      exact hport
    · rw [Part.enterState_diag_of_none (by rw [hdiag]; exact hd), hdiag]

/-! ### Entry to SOUNDING -/

/-- The line as it asks for the relay on its way to SOUNDING (R24). -/
def Part.asking (s : Part) : Part :=
  { s with line := { s.line.clearPhase with
      state := .sounding, startPending := false, holdoff := none, retry := none, request := .part
      attempts := if s.line.state = .dropped then s.line.attempts else 0 } }

/-- The line in SOUNDING with its first CALL (R24, R25). -/
def Part.calling (s : Part) : Line :=
  { s.asking.line with
    callsSent := 1, wakeTone := some (tones.filter (isUp s.band.configured)), wakeLeft := some 100
    callWindow := some 2000, transmitter := .wake }

theorem Part.enterSounding_eq (s : Part) :
    s.enterSounding = (s.asking.settleRelay.postLine s.line.state none []).beginCall := rfl

/-- The entry to SOUNDING changes the line, the relay and what the telephones do (R24). -/
theorem Part.enterSounding_ground (s : Part) :
    s.enterSounding.ground =
      { s.ground with line := s.calling, supply := { s.supply with relay := s.asking.relayTarget } } := by
  have hposted : (s.asking.settleRelay.postLine s.line.state none []).ground =
      { s.asking.ground with supply := { s.supply with relay := s.asking.relayTarget } } := by
    rw [Part.postLine, Part.post_ground, Part.settleRelay_ground]
    rfl
  generalize hq : s.asking.settleRelay.postLine s.line.state none [] = q at hposted
  have hline : q.line = s.asking.line := by
    have he := congrArg Part.line hposted
    exact he
  have hband : q.band = s.band := by
    have he := congrArg Part.band hposted
    exact he
  have hbegun : q.beginCall.ground = { q.ground with line := q.beginCall.line } := rfl
  rw [Part.enterSounding_eq, hq, hbegun, hposted]
  simp only [Part.beginCall, hline, hband, Part.calling]
  rfl

theorem Part.enterSounding_line (s : Part) : s.enterSounding.line = s.calling := by
  have he := congrArg Part.line s.enterSounding_ground
  exact he

theorem Part.enterSounding_supply (s : Part) :
    s.enterSounding.supply = { s.supply with relay := s.asking.relayTarget } := by
  have he := congrArg Part.supply s.enterSounding_ground
  exact he

/-- The start that settles behind an event: the line calls, on the ground of before (R24). -/
theorem Part.settle_line_starts {s : Part} (h : s.mayStart = true) : s.settle.line = s.calling := by
  rw [Part.settle_starts h, Part.refreshHeard_line, Part.settleRelay_line, Part.enterSounding_line]

theorem Part.settle_ground_starts {s : Part} (h : s.mayStart = true) :
    s.settle.ground = { s.ground with
      line := s.calling, supply := { s.supply with relay := s.enterSounding.relayTarget } } := by
  rw [Part.settle_starts h, Part.refreshHeard_ground, Part.settleRelay_ground, Part.enterSounding_ground,
    Part.enterSounding_supply]

/-- With port A on-hook, no test running and the supply up, a start takes the relay to PART (R24, R187). -/
theorem Part.settle_relay_starts {s : Part} (h : s.mayStart = true) (hhook : s.portA.hook = .onHook)
    (hdiag : s.diag.running = none) (hsupply : s.supply.state ≠ .shutdown) :
    s.settle.supply.relay = true ∧ s.settle.diag = s.diag := by
  have htarget : s.asking.relayTarget = true := by
    rw [Part.relayTarget_part (s := s.asking) hsupply (Part.loopTesting_of_none (s := s.asking) hdiag) rfl,
      show s.asking.portA.hook = .onHook from hhook]
    simp
  obtain ⟨-, hd, -, -⟩ := Part.settleRelay_part_same htarget hdiag
  have hdiag' : s.enterSounding.diag = s.diag := hd
  have hagain : s.enterSounding.relayTarget = true := by
    rw [Part.relayTarget_part (by rw [Part.enterSounding_supply]; exact hsupply)
      (Part.loopTesting_of_none (by rw [hdiag']; exact hdiag)) (by rw [Part.enterSounding_line]; rfl),
      Part.enterSounding_supply, htarget]
    rfl
  obtain ⟨-, hd', -, -⟩ := Part.settleRelay_part_same hagain (by rw [hdiag']; exact hdiag)
  rw [Part.settle_starts h]
  refine ⟨?_, ?_⟩
  · rw [Part.refreshHeard_supply, Part.settleRelay_supply, hagain]
  · rw [Part.refreshHeard_diag, hd', hdiag']

/-- What R24 asks for in QUIET and FALLBACK. -/
theorem Part.mayStart_resting {s : Part} (hstate : s.line.state = .quiet ∨ s.line.state = .fallback)
    (hcut : s.supply.state ≠ .cutoff) (hshut : s.supply.state ≠ .shutdown) (hpending : s.line.startPending = true) :
    (s.portA.hook = .onHook → s.diag.running = none → s.mayStart = true) ∧
      (s.portA.hook = .offHook ∨ s.diag.running.isSome = true → s.mayStart = false) := by
  refine ⟨fun hhook hdiag => ?_, fun h => ?_⟩
  · rcases hstate with hl | hl <;> simp [Part.mayStart, hpending, hdiag, hcut, hshut, hhook, hl]
  · rcases h with hhook | hdiag
    · rcases hstate with hl | hl <;> simp [Part.mayStart, hhook, hl]
    · cases hd : s.diag.running with
      | none => rw [hd] at hdiag; cases hdiag
      | some _ => simp [Part.mayStart, hd]

/-! ### LINE_START, and the timers of the next attempt -/

/-- What the noticing of a host's frame leaves alone (R191, R192). -/
theorem Part.frameSeen_same (s : Part) :
    s.frameSeen.running = s.running ∧ s.frameSeen.line = s.line ∧ s.frameSeen.band = s.band ∧
      s.frameSeen.load = s.load ∧ s.frameSeen.supply = s.supply ∧ s.frameSeen.access = s.access ∧
      s.frameSeen.diag = s.diag ∧ s.frameSeen.portA = s.portA ∧ s.frameSeen.portB = s.portB ∧
      s.frameSeen.voice = s.voice ∧ s.frameSeen.snapshot = s.snapshot ∧ s.frameSeen.time = s.time := by
  cases h : s.link.hostSilent
  · rw [Part.frameSeen_heard h]
    exact ⟨rfl, rfl, rfl, rfl, rfl, rfl, rfl, rfl, rfl, rfl, rfl, rfl⟩
  · rw [Part.frameSeen_silent h]
    generalize hq : s.metAgain.makeRecord .hostBack .link
      [((s.time - s.link.lastFrameAt : Nat) : Int), (s.link.silenceCount : Int)] = q
    have hsame := Part.makeRecord_sameButRecords s.metAgain .hostBack .link
      [((s.time - s.link.lastFrameAt : Nat) : Int), (s.link.silenceCount : Int)]
    rw [hq] at hsame
    obtain ⟨h1, h2, h3, h4, h5, h6, -, -, ⟨h7, h8, h9⟩, -, h10, h11, h12⟩ := hsame
    exact ⟨h1, h3, h6, h5, h11, h12, h10, h7, h8, h9, h4, h2⟩

theorem Part.heardFrom_same (s : Part) (e : Envelope) :
    (s.heardFrom e).running = s.running ∧ (s.heardFrom e).line = s.line ∧ (s.heardFrom e).band = s.band ∧
      (s.heardFrom e).load = s.load ∧ (s.heardFrom e).supply = s.supply ∧ (s.heardFrom e).access = s.access ∧
      (s.heardFrom e).diag = s.diag ∧ (s.heardFrom e).portA = s.portA ∧ (s.heardFrom e).portB = s.portB ∧
      (s.heardFrom e).voice = s.voice ∧ (s.heardFrom e).snapshot = s.snapshot ∧ (s.heardFrom e).time = s.time := by
  unfold Part.heardFrom
  split
  · exact s.frameSeen_same
  · exact ⟨rfl, rfl, rfl, rfl, rfl, rfl, rfl, rfl, rfl, rfl, rfl, rfl⟩

/-- The tones of the wake tone: those that resolve to UP CARRY (R4, R25). -/
theorem wake_tones (b : Band) :
    tones.filter (isUp b.configured) =
      (List.range 448).filter fun t => resolve b.overlay b.windows t == .upCarry :=
  List.filter_congr fun t ht => isUp_perTone _ (mem_tones.1 ht)

/-- The transmitter on the wake tone, with no test running (R15, R25). -/
theorem Part.driven_wake {s : Part} (hrun : s.running = true) (hdiag : s.diag.running = none)
    (ht : s.line.transmitter = .wake) {wake : List Nat} (hw : s.line.wakeTone = some wake) :
    s.driven = .tones (wake.map fun t => ⟨t, 0, some (0 - (s.supply.cutback : Int))⟩) := by
  simp only [Part.driven, hrun, Part.loopTesting_of_none hdiag, ht, hw]
  rfl

/-- A LINE_START that is taken sets the line waiting (R17). -/
def Part.startAsked (s : Part) : Part := { s with line := { s.line with startPending := true, retry := none } }

theorem ownLineStart_started {s : Part} (hstate : s.line.state = .quiet ∨ s.line.state = .fallback)
    (hcut : s.supply.state ≠ .cutoff) (hshut : s.supply.state ≠ .shutdown) :
    ownLineStart s = (s.startAsked.settle, .started, .none) := by
  rw [ownLineStart, if_neg (by tauto), if_pos hstate]
  rfl

/-- Settles O21: the start that settles, or waits, and the refusals. -/
theorem lineStartBeginsOrWaits : Obligations.LineStartBeginsOrWaits := by
  refine ⟨fun s e h hp hstate hcut hshut => ?_, fun s e h hp hstate => ?_⟩
  · intro wake
    obtain ⟨hrun, hline, hband, hload, hsupply, haccess, hdiag, hportA, -⟩ := s.part.heardFrom_same e
    generalize hx : s.part.heardFrom e = p at hrun hline hband hload hsupply haccess hdiag hportA
    have hstate' : p.line.state = .quiet ∨ p.line.state = .fallback := by rw [hline]; exact hstate
    have hcut' : p.supply.state ≠ .cutoff := by rw [hsupply]; exact hcut
    have hshut' : p.supply.state ≠ .shutdown := by rw [hsupply]; exact hshut
    obtain ⟨hstart, hwait⟩ := Part.mayStart_resting (s := p.startAsked) hstate' hcut' hshut' rfl
    refine ⟨p.startAsked.settle, h.answered (c := .lineStart) rfl nofun hp.refuses (by
      rw [hx]; exact ownLineStart_started hstate' hcut' hshut'), ?_⟩
    cases hmay : p.startAsked.mayStart with
    | false =>
      have hground := Part.settle_ground_waiting hmay
      have hl : p.startAsked.settle.line = p.startAsked.line := by
        have he := congrArg Part.line hground
        exact he
      refine ⟨by rw [hl]; rfl, fun _ => ⟨?_, ?_, ?_⟩, fun hhook hnone => ?_, ?_, ?_, ?_⟩
      · rw [hl, ← hline]; rfl
      · rw [hl]; rfl
      · rw [hl, ← hline]; rfl
      · have := hstart (by rw [← hportA] at hhook; exact hhook) (by rw [← hdiag] at hnone; exact hnone)
        rw [hmay] at this
        cases this
      · have he := congrArg Part.band hground
        exact he.trans hband
      · have he := congrArg Part.load hground
        exact he.trans hload
      · have he := congrArg Part.access hground
        exact he.trans haccess
    | true =>
      have hground := Part.settle_ground_starts hmay
      have hl := Part.settle_line_starts hmay
      refine ⟨by rw [hl]; rfl, fun hheld => ?_, fun hhook hnone => ?_, ?_, ?_, ?_⟩
      · have := hwait (by rw [← hportA, ← hdiag] at hheld; exact hheld)
        rw [hmay] at this
        cases this
      · obtain ⟨hrelay, hd⟩ := Part.settle_relay_starts hmay (by rw [← hportA] at hhook; exact hhook)
          (by rw [← hdiag] at hnone; exact hnone) hshut'
        have hnotDropped : ¬ p.line.state = .dropped := by rcases hstate' with hs | hs <;> rw [hs] <;> decide
        have hattempts : p.startAsked.calling.attempts = 0 := if_neg hnotDropped
        have hwake : p.startAsked.calling.wakeTone = some wake := by
          show some (tones.filter (isUp p.band.configured)) = some wake
          rw [wake_tones, hband]
        have hcutback : p.startAsked.settle.supply.cutback = s.part.supply.cutback := by
          have he := congrArg (fun x : Part => x.supply.cutback) hground
          rw [← hsupply]
          exact he
        have hrunning : p.startAsked.settle.running = true := by
          have he := congrArg Part.running hground
          exact he.trans (hrun.trans h.1)
        rw [hl]
        refine ⟨rfl, rfl, hattempts, rfl, hrelay, rfl, rfl, rfl, rfl, hwake, ?_⟩
        rw [← hcutback]
        refine Part.driven_wake hrunning ?_ (by rw [hl]; rfl) (by rw [hl]; exact hwake)
        rw [hd]
        exact (congrArg Diag.running hdiag).trans hnone
      · have he := congrArg Part.band hground
        exact he.trans hband
      · have he := congrArg Part.load hground
        exact he.trans hload
      · have he := congrArg Part.access hground
        exact he.trans haccess
  · refine h.answered (c := .lineStart) rfl nofun hp.refuses ?_
    obtain ⟨-, hline, -, -, hsupply, -⟩ := s.part.heardFrom_same e
    show ownLineStart _ = _
    rw [ownLineStart, hline, hsupply]
    rcases hstate with hs | hs | ⟨hq, hf⟩
    · rw [if_pos (.inl hs)]
    · rw [if_pos (.inr hs)]
    · split
      · rfl
      · rw [if_neg (by tauto)]

/-- What R24 asks for in DROPPED. -/
theorem Part.mayStart_dropped {s : Part} (hstate : s.line.state = .dropped) (hcut : s.supply.state ≠ .cutoff)
    (hshut : s.supply.state ≠ .shutdown) (hpending : s.line.startPending = true) :
    s.mayStart = s.diag.running.isNone := by
  simp [Part.mayStart, hpending, bne_iff_ne.2 hcut, bne_iff_ne.2 hshut, hstate]

/-- Settles O37: both timers set the start pending, and it settles or waits. -/
theorem holdoffAndRetryExpiriesStartAgain : Obligations.HoldoffAndRetryExpiriesStartAgain := by
  intro s hrun p hcut hshut
  refine ⟨fun hstate htimer => ?_, fun hstate htimer => ?_⟩
  · generalize hx : ({ p with line := { p.line with holdoff := none, startPending := true } } : Part) = x
    have hmay : x.mayStart = p.diag.running.isNone := by
      subst hx
      exact Part.mayStart_dropped hstate hcut hshut rfl
    have hdone : Completes .holdoffExpiry s x.settle := by
      refine completes_of (o := execHoldoffExpiry s) rfl rfl hrun ?_
      rw [if_pos ⟨hstate, htimer⟩]
      exact congrArg Part.settle hx
    have hxline : x.line = { p.line with holdoff := none, startPending := true } := by subst hx; rfl
    refine ⟨x.settle, hdone, ?_⟩
    cases hd : p.diag.running with
    | none =>
      rw [Part.settle_line_starts (by rw [hmay, hd]; rfl)]
      have hattempts : x.calling.attempts = p.line.attempts := by
        show (if x.line.state = .dropped then x.line.attempts else 0) = _
        rw [hxline, if_pos hstate]
      exact ⟨rfl, hattempts, nofun, fun _ => ⟨rfl, rfl, rfl⟩⟩
    | some _ =>
      have hline : x.settle.line = x.line := by
        have he := congrArg Part.line (Part.settle_ground_waiting (s := x) (by rw [hmay, hd]; rfl))
        exact he
      rw [hline, hxline]
      exact ⟨rfl, rfl, fun _ => ⟨hstate, rfl⟩, nofun⟩
  · generalize hx : ({ p with line := { p.line with retry := none, startPending := true } } : Part) = x
    have hxline : x.line = { p.line with retry := none, startPending := true } := by subst hx; rfl
    have hxsame : x.supply = p.supply ∧ x.portA = p.portA ∧ x.diag = p.diag := by subst hx; exact ⟨rfl, rfl, rfl⟩
    obtain ⟨hsupply, hportA, hdiag⟩ := hxsame
    obtain ⟨hstart, hwait⟩ := Part.mayStart_resting (s := x) (.inr (by rw [hxline]; exact hstate))
      (by rw [hsupply]; exact hcut) (by rw [hsupply]; exact hshut) (by rw [hxline])
    rw [hportA, hdiag] at hstart hwait
    have hdone : Completes .retryExpiry s x.settle := by
      refine completes_of (o := execRetryExpiry s) rfl rfl hrun ?_
      rw [if_pos ⟨hstate, htimer⟩]
      exact congrArg Part.settle hx
    refine ⟨x.settle, hdone, ?_⟩
    cases hmay : x.mayStart with
    | false =>
      have hline : x.settle.line = x.line := by
        have he := congrArg Part.line (Part.settle_ground_waiting hmay)
        exact he
      rw [hline, hxline]
      refine ⟨rfl, fun _ => ⟨hstate, rfl⟩, fun hnone hhook => ?_⟩
      rw [hstart hhook hnone] at hmay
      cases hmay
    | true =>
      rw [Part.settle_line_starts hmay]
      refine ⟨rfl, fun hheld => ?_, fun hnone hhook => ⟨rfl, ?_, ?_⟩⟩
      · rw [hwait hheld.symm] at hmay
        cases hmay
      · show (if x.line.state = .dropped then x.line.attempts else 0) = 0
        rw [hxline, if_neg (by rw [show p.line.state = .fallback from hstate]; decide)]
      · exact (Part.settle_relay_starts hmay (by rw [hportA]; exact hhook) (by rw [hdiag]; exact hnone)
          (by rw [hsupply]; exact hshut)).1

end Sys2Proof.Machine
end

section
/-! SUPPORT. What the telephones do to a running test: they leave the diagnostics alone, or abort a PORT_TEST (R165). One
lemma per operation. -/

namespace Sys2Proof.Machine

/-- From `s` to `x` the diagnostics stay, or a PORT_TEST has ended. -/
def Part.Watches (s x : Part) : Prop :=
  x.diag = s.diag ∨ (∃ p, s.underTest p = true) ∧ x.diag.running = none

theorem Part.Watches_refl (s : Part) : s.Watches s := .inl rfl

variable {s x y : Part}

/-- What leaves the diagnostics alone. -/
theorem Part.Watches.same (h : s.Watches x) (hd : y.diag = x.diag) : s.Watches y := by
  unfold Part.Watches
  rw [hd]
  exact h

/-- With no PORT_TEST running the diagnostics stay. -/
theorem Part.Watches.diag_eq (h : s.Watches x) (hs : ∀ p, s.underTest p = false) : x.diag = s.diag := by
  rcases h with h | ⟨⟨p, hp⟩, -⟩
  · exact h
  · rw [hs p] at hp
    cases hp

/-- No LOOP_TEST begins. -/
theorem Part.Watches.loopTesting (h : s.Watches x) (hs : s.loopTesting = false) : x.loopTesting = false := by
  rcases h with h | ⟨-, h⟩
  · unfold Part.loopTesting at hs ⊢
    rw [h]
    exact hs
  · simp [Part.loopTesting, h]

/-- A LOOP_TEST goes on. -/
theorem Part.Watches.loopTesting_true (h : s.Watches x) (hs : s.loopTesting = true) : x.diag = s.diag := by
  refine h.diag_eq fun p => ?_
  unfold Part.loopTesting at hs
  unfold Part.underTest
  cases hr : s.diag.running with
  | none => rfl
  | some t =>
    rw [hr] at hs
    simp only [beq_iff_eq] at hs
    simp [hs]

theorem Part.Watches.enterState (p : PortId) (n : PortState) (m : Option Mode) (h : s.Watches x) :
    s.Watches (x.enterState p n m) := by
  unfold Part.enterState
  dsimp only
  split
  · exact h
  · generalize hz : (x.modPort p fun r => { r with state := n }).portEvent p (.state (x.port p).state n) m = z
    have hdiag : z.diag = x.diag := by
      subst hz
      simp [Part.portEvent]
    split
    · rename_i hended
      obtain ⟨hunder, -⟩ := Bool.and_eq_true_iff.1 hended
      unfold Part.abortTest Part.endTest
      rcases h with h | ⟨hs, hnone⟩
      · refine .inr ⟨⟨p, ?_⟩, ?_⟩
        · unfold Part.underTest at hunder ⊢
          rw [← h, ← hdiag]
          exact hunder
        · split
          · assumption
          · rename_i t ht
            simp [Part.post, Diag.finish, ht]
      · have hznone : z.diag.running = none := by
          rw [hdiag]
          exact hnone
        exact .inr ⟨hs, by simp [hznone]⟩
    · exact h.same hdiag

theorem Part.Watches.modPort (p : PortId) (f : Port → Port) (h : s.Watches x) : s.Watches (x.modPort p f) :=
  h.same (x.modPort_diag p f)

theorem Part.Watches.setGen (p : PortId) (g : Generator) (h : s.Watches x) : s.Watches (x.setGen p g) :=
  h.same (x.setGen_diag p g)

theorem Part.Watches.signal (p : PortId) (v : Signal) (h : s.Watches x) : s.Watches (x.signal p v) :=
  h.same (Part.signal_diag p v x)

theorem Part.Watches.sayOffHook (p : PortId) (h : s.Watches x) : s.Watches (x.sayOffHook p) :=
  (h.signal p .offHook).modPort p _

theorem Part.Watches.releaseTone (p : PortId) (h : s.Watches x) : s.Watches (x.releaseTone p) := by
  unfold Part.releaseTone
  split
  · exact (h.modPort p _).setGen p _
  · exact h

theorem Part.Watches.callerBack (p : PortId) (h : s.Watches x) : s.Watches (x.callerBack p) := by
  unfold Part.callerBack
  dsimp only
  split
  · split
    · exact ((h.modPort p _).releaseTone p).sayOffHook p
    · exact (h.modPort p _).releaseTone p
  · exact h

theorem Part.Watches.endRing (p : PortId) (b : Bool) (n : PortState) (h : s.Watches x) :
    s.Watches (x.endRing p b n) := by
  unfold Part.endRing
  dsimp only
  split
  · exact h
  · have hended := (h.modPort p fun r => { r with ring := none }).enterState p n none
    split
    · split
      · exact hended.signal p _
      · exact hended
    · split
      · exact hended.callerBack _
      · exact hended

theorem Part.Watches.dropRungBy (p : PortId) (h : s.Watches x) : s.Watches (x.dropRungBy p) := by
  unfold Part.dropRungBy
  split
  · exact h.endRing _ _ _
  · exact h

theorem Part.Watches.park (p : PortId) (h : s.Watches x) : s.Watches (x.park p) :=
  ((h.modPort p _).enterState p _ _).dropRungBy p

theorem Part.Watches.unlink (h : s.Watches x) : s.Watches x.unlink := h

theorem Part.Watches.parkJoined (h : s.Watches x) : s.Watches x.parkJoined := by
  unfold Part.parkJoined
  split
  · exact h.unlink.park .b
  · exact h

theorem Part.Watches.leaveCall (p : PortId) (old : PortState) (h : s.Watches x) : s.Watches (x.leaveCall p old) := by
  unfold Part.leaveCall
  dsimp only
  refine Part.Watches.dropRungBy p ?_
  have hpartner : s.Watches (if old = .intercom ∧ (x.port (other p)).state = .intercom then x.park (other p) else x) := by
    split
    · exact h.park _
    · exact h
  split
  · exact hpartner.parkJoined
  · split
    · exact hpartner.unlink
    · exact hpartner

theorem Part.Watches.portLeavesService (p : PortId) (h : s.Watches x) : s.Watches (x.portLeavesService p) := by
  unfold Part.portLeavesService
  dsimp only
  refine Part.Watches.modPort p _ ?_
  split
  · exact h.park p
  · exact h.park p
  · exact h.park p
  · split
    · exact h.endRing p _ _
    · exact h
  · exact h.modPort p _
  · exact h

theorem Part.Watches.portsLeaveService (h : s.Watches x) : s.Watches x.portsLeaveService :=
  Part.Watches.portLeavesService .b (Part.Watches.portLeavesService .a h)

theorem Part.Watches.enterThrough (h : s.Watches x) : s.Watches x.enterThrough := by
  refine Part.Watches.leaveCall .a _ (Part.Watches.enterState .a _ _ (Part.Watches.modPort .a _ ?_))
  exact (h.endRing .a false .through).same (by simp)

theorem Part.Watches.settleRelay (h : s.Watches x) : s.Watches x.settleRelay := by
  unfold Part.settleRelay
  dsimp only
  split
  · exact h
  · split
    · exact Part.Watches.enterState .a _ _ h
    · exact Part.Watches.enterThrough h

theorem Part.Watches.refreshHeard (h : s.Watches x) : s.Watches x.refreshHeard := h.same (by simp)

end Sys2Proof.Machine
end

section
/-! SUPPORT. What the ports hear (R97, R128), selected at once for both, and an event after which nothing is left to settle. -/

namespace Sys2Proof.Machine

variable (s : Part)

/-- Both ports hear what R97 gives them, and nothing else changes. -/
theorem Part.refreshHeard_eq :
    s.refreshHeard = { s with
      portA := { s.portA with heard := s.heardOf .a }
      portB := { s.portB with heard := s.heardOf .b }
      voice := { s.voice with
        genA := s.voice.genA.select (s.heardOf .a).kind, genB := s.voice.genB.select (s.heardOf .b).kind } } := rfl

@[simp] theorem Part.refreshHeard_port (p : PortId) :
    s.refreshHeard.port p = { s.port p with heard := s.heardOf p } := by
  rw [Part.refreshHeard_eq]
  cases p <;> rfl

@[simp] theorem Part.refreshHeard_gen (p : PortId) :
    s.refreshHeard.gen p = (s.gen p).select (s.heardOf p).kind := by
  rw [Part.refreshHeard_eq]
  cases p <;> rfl

@[simp] theorem Part.refreshHeard_chan (p : PortId) : s.refreshHeard.chan p = s.chan p := by
  rw [Part.refreshHeard_eq]
  cases p <;> rfl

@[simp] theorem Part.refreshHeard_joinLink : s.refreshHeard.voice.joinLink = s.voice.joinLink := rfl

variable {s} {p x : Part}

/-- What a port hears is told by the telephones and by whether the line is in service. -/
theorem Part.heardOf_congr (ha : x.portA = p.portA) (hb : x.portB = p.portB) (hs : x.inService = p.inService)
    (y : PortId) : x.heardOf y = p.heardOf y := by
  have hport (y : PortId) : x.port y = p.port y := by cases y; exacts [ha, hb]
  simp only [Part.heardOf, Part.isCaller, hport, ha, hb, hs] <;> rfl

/-- Ports that hear what R97 gives them go on so where neither they nor the service changes. -/
theorem Part.refreshHeard_same (h : p.refreshHeard = p) (ha : x.portA = p.portA) (hb : x.portB = p.portB)
    (hv : x.voice = p.voice) (hs : x.inService = p.inService) : x.refreshHeard = x := by
  have hA := congrArg Part.portA h
  have hB := congrArg Part.portB h
  have hV := congrArg Part.voice h
  rw [Part.refreshHeard_eq] at hA hB hV ⊢
  simp only at hA hB hV
  rw [Part.heardOf_congr ha hb hs, Part.heardOf_congr ha hb hs, ha, hb, hv, hA, hB, hV, ← ha, ← hb, ← hv]

/-- The relay's target is told by the supply, the running test, the line's request and the hook of port A (R187). -/
theorem Part.relayTarget_congr (hsupply : x.supply = p.supply) (hdiag : x.diag = p.diag)
    (hreq : x.line.request = p.line.request) (ha : x.portA = p.portA) : x.relayTarget = p.relayTarget := by
  simp only [Part.relayTarget, Part.loopTesting, hsupply, hdiag, hreq, ha] <;> rfl

theorem Part.settleRelay_same (h : x.relayTarget = x.supply.relay) : x.settleRelay = x := by
  unfold Part.settleRelay
  dsimp only
  rw [if_pos h]

/-- With no start to begin, the relay where it belongs and the ports hearing what they should, nothing changes. -/
theorem Part.settle_idle (hmay : x.mayStart = false) (hrelay : x.relayTarget = x.supply.relay)
    (hheard : x.refreshHeard = x) : x.settle = x := by
  rw [Part.settle_waiting hmay, Part.settleRelay_same hrelay, hheard]

/-- Only DROPPED, QUIET and FALLBACK let a start begin (R24). -/
theorem Part.mayStart_of_state (hd : x.line.state ≠ .dropped) (hq : x.line.state ≠ .quiet)
    (hf : x.line.state ≠ .fallback) : x.mayStart = false := by
  simp [Part.mayStart, hd, hq, hf]

theorem Part.mayStart_inService (h : x.inService = true) : x.mayStart = false := by
  unfold Part.inService at h
  refine Part.mayStart_of_state ?_ ?_ ?_ <;> intro he <;> rw [he] at h <;> cases h

end Sys2Proof.Machine
end

section
/-! SUPPORT and PROOFS. SOUNDING with its calls (O32), the failure of an attempt (O33) and the end of MEASURING (O34). -/

namespace Sys2Proof.Machine

/-! ### An event that settles with no start waiting, out of service -/

/-- Out of service and with no start waiting an event settles with what lies on the ground, the service channel and the
log as they are. -/
theorem Part.settle_same {x : Part} (hmay : x.mayStart = false) (hs : x.inService = false) :
    x.settle.line = x.line ∧ x.settle.band = x.band ∧ x.settle.load = x.load ∧ x.settle.snapshot = x.snapshot ∧
      x.settle.access = x.access ∧ x.settle.svc = x.svc ∧ x.settle.log = x.log ∧
      x.settle.supply = { x.supply with relay := x.relayTarget } := by
  have hground := Part.settle_ground_waiting hmay
  obtain ⟨hsvc, hlog⟩ := Part.svc_log_of_outbound (Part.settle_outbound_waiting hmay) hs
  have hline := congrArg Part.line hground
  have hband := congrArg Part.band hground
  have hload := congrArg Part.load hground
  have hsnapshot := congrArg Part.snapshot hground
  have haccess := congrArg Part.access hground
  have hsupply := congrArg Part.supply hground
  exact ⟨hline, hband, hload, hsnapshot, haccess, hsvc, hlog, hsupply⟩

/-! ### SOUNDING -/

/-- Out of service entry to SOUNDING sends and records nothing. -/
theorem Part.enterSounding_svc_log (s : Part) : s.enterSounding.svc = s.svc ∧ s.enterSounding.log = s.log :=
  Part.svc_log_of_outbound (s := s.asking) s.asking.settleRelay_outbound rfl

/-- Entry to MEASURING once CONFIRM has been offered (R25, R26, R45). -/
def Part.measuringWith (s : Part) (v : Service) : Part :=
  { s with
    svc := v
    line := { s.line with
      state := .measuring, wakeTone := none, wakeLeft := none, callWindow := none, transmitter := .framing, symbol := 0 }
    load := { s.load with averages := noAverages, measureSums := [], measureCount := 0 } }

/-- A CONFIRM that finds room is queued. -/
theorem Part.enterMeasuring_room {s : Part} (h : s.svc.outQ.length < 16) :
    s.enterMeasuring =
      (s.measuringWith { s.svc with outQ := s.svc.outQ ++ [.confirm] }).postLine .sounding none [] := by
  unfold Part.enterMeasuring
  rw [Part.enqueue_room _ _ h]
  rfl

/-- A CONFIRM that meets a full queue is discarded (R21). -/
theorem Part.enterMeasuring_full {s : Part} (h : 16 ≤ s.svc.outQ.length) :
    s.enterMeasuring = (s.measuringWith s.svc.discard).postLine .sounding none [] := by
  unfold Part.enterMeasuring Part.enqueue
  rw [if_neg (Nat.not_lt.2 h)]
  rfl

/-- Settles O32: each event by its own equation; the entry from DROPPED is read off the ground. -/
theorem soundingCallsAndAnswer : Obligations.SoundingCallsAndAnswer := by
  intro s hrun p
  refine ⟨fun hstate hpending hdiag hcut hshut => ?_, fun hstate hwake => ?_, fun hstate hwindow hcalls => ?_,
    fun hstate hroom => ?_, fun hstate hfull => ?_⟩
  · have hmay : p.mayStart = true := by rw [Part.mayStart_dropped hstate hcut hshut hpending, hdiag]; rfl
    have hdone : Completes .enterSounding s p.enterSounding.refreshHeard := by
      refine completes_of (o := execEnterSounding s) rfl rfl hrun ?_
      exact if_pos hmay
    have hload := congrArg Part.load p.enterSounding_ground
    have hband := congrArg Part.band p.enterSounding_ground
    have hattempts : p.calling.attempts = p.line.attempts := if_pos hstate
    refine ⟨_, hdone, ?_⟩
    simp only [Part.refreshHeard_line, Part.refreshHeard_load, Part.refreshHeard_band, Part.refreshHeard_log,
      Part.enterSounding_line]
    exact ⟨rfl, hattempts, rfl, rfl, rfl, rfl, hload, hband, (Part.enterSounding_svc_log p).2⟩
  · refine completes_of (o := execWakeToneEnd s) rfl rfl hrun ?_
    exact if_pos ⟨hstate, hwake⟩
  · refine completes_of (o := execCallWindowExpiry s) rfl rfl hrun ?_
    rw [if_pos ⟨hstate, hwindow⟩, if_pos hcalls, ← wake_tones]
    rfl
  · refine ⟨_, completes_of (o := execAnswer s) rfl rfl hrun (if_pos hstate), ?_⟩
    rw [Part.enterMeasuring_room hroom]
    exact ⟨rfl, rfl, rfl, rfl, rfl, rfl, rfl, rfl, ⟨rfl, rfl, rfl⟩, rfl⟩
  · refine ⟨_, completes_of (o := execAnswer s) rfl rfl hrun (if_pos hstate), ?_⟩
    rw [Part.enterMeasuring_full hfull]
    exact ⟨rfl, rfl, rfl, rfl, rfl, rfl, rfl⟩

/-! ### A failed attempt -/

/-- The line after the failure of one of the first eight attempts in a row (R31). -/
def Line.backedOff (cause : Cause) (figure : Int) (l : Line) : Line :=
  { l.rest .dropped with
    attempts := l.attempts + 1, holdoff := some (holdoffSeconds (l.attempts + 1) * 1000)
    lastFailure := some (cause, figure) }

/-- The line after the failure of the ninth (R33). -/
def Line.fallenBack (cause : Cause) (figure : Int) (l : Line) : Line :=
  { l.rest .fallback with attempts := 8, retry := some 300000, lastFailure := some (cause, figure) }

/-- The part with its line at rest as `l`. -/
def Part.restedAs (st : LineState) (l : Line) (s : Part) : Part := { s.restLine st with line := l }

/-- The records of a failed attempt made (R148, R149). -/
def Part.failureRecorded (cause : Cause) (figure : Int) (s : Part) : Part :=
  if s.line.attempts < 8 then
    (s.restedAs .dropped (s.line.backedOff cause figure)).makeRecordAt .trainingFailed .line s.line.state
      [(cause.code : Int), ((s.line.attempts + 1 : Nat) : Int), (holdoffSeconds (s.line.attempts + 1) : Int), figure]
  else
    ((s.restedAs .fallback (s.line.fallenBack cause figure)).makeRecordAt .trainingFailed .line s.line.state
      [(cause.code : Int), 8, 0, figure]).makeRecord .fallbackEntered .line [(cause.code : Int), 8]

/-- An attempt fails: its records are made, then the message in arrival is dropped, and in FALLBACK the relay follows. -/
theorem Part.failAttempt_eq {s : Part} (c : Cause) (f : Int) (hs : s.inService = false) :
    s.failAttempt c f =
      let r := s.failureRecorded c f
      let x : Part := { r with svc := r.svc.cut false }
      (if s.line.attempts < 8 then x else x.settleRelay).postLine s.line.state (some c) [] := by
  have hleave : ∀ z : Part, z.afterLeaving s.line.state = { z with svc := z.svc.cut false } := fun z => by
    rw [Part.afterLeaving, if_neg (by rw [show s.line.state.inService = false from hs]; decide)]
  unfold Part.failAttempt Part.failureRecorded
  dsimp only
  split <;> rw [hleave] <;> rfl

/-- What a failed attempt leaves, up to where it settles. -/
theorem Part.failAttempt_fields {s : Part} (c : Cause) (f : Int) (hs : s.inService = false) :
    (s.failAttempt c f).line =
        (if s.line.attempts < 8 then s.line.backedOff c f else s.line.fallenBack c f) ∧
      (s.failAttempt c f).band = { s.band with offeredMap := none, mapInForce := none } ∧
      (s.failAttempt c f).load = { s.load with offeredProfile := none, periodSums := [], periodCount := 0 } ∧
      (s.failAttempt c f).snapshot = s.snapshot ∧ (s.failAttempt c f).access = s.access ∧
      (s.failAttempt c f).svc.outQ = [] ∧ (s.failAttempt c f).log = (s.failureRecorded c f).log ∧
      (s.loopTesting = false → (s.failAttempt c f).loopTesting = false) := by
  rw [Part.failAttempt_eq c f hs]
  dsimp only
  by_cases h8 : s.line.attempts < 8
  · have hsvc : (s.failureRecorded c f).svc.outQ = [] := by
      rw [Part.failureRecorded, if_pos h8, Part.makeRecordAt_svc_outOfService rfl]
      rfl
    simp only [h8, if_true]
    refine ⟨?_, ?_, ?_, ?_, ?_, hsvc, rfl, ?_⟩
    all_goals simp [Part.postLine, Part.post, Part.failureRecorded, h8, Part.restedAs, Part.restLine, Part.loopTesting]
  · have hsvc : (s.failureRecorded c f).svc.outQ = [] := by
      rw [Part.failureRecorded, if_neg h8, Part.makeRecord, Part.makeRecordAt_svc_outOfService (by
        simp [Part.inService, Part.restedAs, Line.fallenBack, Line.rest, LineState.inService]),
        Part.makeRecordAt_svc_outOfService rfl]
      rfl
    have hline : (s.failureRecorded c f).line = s.line.fallenBack c f := by
      simp [Part.failureRecorded, h8, Part.restedAs]
    simp only [h8, if_false]
    generalize hx : ({ s.failureRecorded c f with svc := (s.failureRecorded c f).svc.cut false } : Part) = x
    have hxline : x.line = s.line.fallenBack c f := by subst hx; exact hline
    obtain ⟨hsvc', hlog'⟩ := Part.svc_log_of_outbound x.settleRelay_outbound
      (by rw [Part.inService, hxline]; rfl)
    have hground := x.settleRelay_ground
    have hl := congrArg Part.line hground
    have hb := congrArg Part.band hground
    have hd := congrArg Part.load hground
    have hn := congrArg Part.snapshot hground
    have ha := congrArg Part.access hground
    have hxsame : x.band = (s.failureRecorded c f).band ∧ x.load = (s.failureRecorded c f).load ∧
        x.snapshot = (s.failureRecorded c f).snapshot ∧ x.access = (s.failureRecorded c f).access ∧
        x.svc.outQ = (s.failureRecorded c f).svc.outQ ∧ x.log = (s.failureRecorded c f).log ∧
        x.diag = (s.failureRecorded c f).diag := by
      subst hx
      exact ⟨rfl, rfl, rfl, rfl, rfl, rfl, rfl⟩
    obtain ⟨hxband, hxload, hxsnapshot, hxaccess, hxout, hxlog, hxdiag⟩ := hxsame
    refine ⟨hl.trans hxline, hb.trans (hxband.trans ?_), hd.trans (hxload.trans ?_), hn.trans (hxsnapshot.trans ?_),
      ha.trans (hxaccess.trans ?_), ?_, hlog'.trans hxlog, fun hloop => ?_⟩
    any_goals simp [Part.failureRecorded, h8, Part.restedAs, Part.restLine]
    · show x.settleRelay.svc.outQ = []
      rw [hsvc', hxout, hsvc]
    · have hxloop : x.loopTesting = false := by
        unfold Part.loopTesting at hloop ⊢
        rw [hxdiag]
        simpa [Part.failureRecorded, h8, Part.restedAs, Part.restLine] using hloop
      exact (Part.Watches.settleRelay (Part.Watches_refl x)).loopTesting hxloop

/-- A failed attempt leaves no start pending, the line out of service, and requests the relay by its state. -/
theorem Part.failAttempt_rests {s : Part} (c : Cause) (f : Int) (hs : s.inService = false) :
    (s.failAttempt c f).line.startPending = false ∧ (s.failAttempt c f).inService = false := by
  rw [Part.inService, (Part.failAttempt_fields c f hs).1]
  split <;> exact ⟨rfl, rfl⟩

/-- A failed attempt, settled. -/
theorem Part.failAttempt_settled {s : Part} (c : Cause) (f : Int) (hs : s.inService = false) :
    (s.failAttempt c f).settle.line =
        (if s.line.attempts < 8 then s.line.backedOff c f else s.line.fallenBack c f) ∧
      (s.failAttempt c f).settle.band = { s.band with offeredMap := none, mapInForce := none } ∧
      (s.failAttempt c f).settle.load = { s.load with offeredProfile := none, periodSums := [], periodCount := 0 } ∧
      (s.failAttempt c f).settle.snapshot = s.snapshot ∧ (s.failAttempt c f).settle.access = s.access ∧
      (s.failAttempt c f).settle.svc.outQ = [] ∧ (s.failAttempt c f).settle.log = (s.failureRecorded c f).log ∧
      (8 ≤ s.line.attempts → s.loopTesting = false → (s.failAttempt c f).settle.supply.relay = false) := by
  obtain ⟨hline, hband, hload, hsnapshot, haccess, hout, hlog, hloop⟩ := Part.failAttempt_fields c f hs
  obtain ⟨hwait, hrest⟩ := Part.failAttempt_rests c f hs
  generalize s.failAttempt c f = x at *
  obtain ⟨hl, hb, hd, hn, ha, hv, hg, hsup⟩ := Part.settle_same (Part.mayStart_of_notPending hwait) hrest
  refine ⟨hl.trans hline, hb.trans hband, hd.trans hload, hn.trans hsnapshot, ha.trans haccess, ?_, hg.trans hlog,
    fun h8 hno => ?_⟩
  · rw [hv, hout]
  · have hrelay := congrArg Supply.relay hsup
    refine hrelay.trans (Part.relayTarget_through (hloop hno) ?_)
    rw [hline, if_neg (Nat.not_lt.2 h8)]
    rfl

/-- A failed attempt ends in DROPPED or FALLBACK with its cause and figure, nothing on offer (R31, R33). -/
theorem Part.failAttempt_ended {s : Part} (c : Cause) (f : Int) (hs : s.inService = false) :
    (s.failAttempt c f).settle.line.lastFailure = some (c, f) ∧
      ((s.failAttempt c f).settle.line.state = .dropped ∨ (s.failAttempt c f).settle.line.state = .fallback) ∧
      (s.failAttempt c f).settle.line.transmitter = .off ∧
      (s.failAttempt c f).settle.line.downOffered = none ∧ (s.failAttempt c f).settle.line.upOffered = none := by
  rw [(Part.failAttempt_settled c f hs).1]
  split
  · exact ⟨rfl, .inl rfl, rfl, rfl, rfl⟩
  · exact ⟨rfl, .inr rfl, rfl, rfl, rfl⟩

/-- The record of one of the first eight failures. -/
theorem Part.failureRecorded_first {s q : Part} (c : Cause) (f : Int) (h8 : s.line.attempts < 8)
    (hq : q.log = (s.failureRecorded c f).log) :
    q.log.next = s.log.next + 1 ∧
      s.recorded q 0 1 .trainingFailed .minor .line s.line.state
        [(c.code : Int), ((s.line.attempts + 1 : Nat) : Int), ((min 64 (2 ^ s.line.attempts) : Nat) : Int), f] := by
  rw [Part.failureRecorded, if_pos h8] at hq
  refine ⟨by rw [hq, Part.makeRecordAt_next]; rfl, ?_⟩
  refine Part.recorded_of_said (r := s.newRecord .trainingFailed .line s.line.state
    [(c.code : Int), ((s.line.attempts + 1 : Nat) : Int), (holdoffSeconds (s.line.attempts + 1) : Int), f])
    (fun hroom => ?_) (by simp [Part.newRecord]) rfl rfl rfl rfl rfl rfl
  rw [hq, Part.makeRecordAt_said (s := s.restedAs .dropped (s.line.backedOff c f)) _ _ _ _
    (show s.log.records.length < 32 by omega)]
  exact List.mem_append_right _ (List.mem_singleton_self _)

/-- The records of the ninth. -/
theorem Part.failureRecorded_ninth {s q : Part} (c : Cause) (f : Int) (h8 : 8 ≤ s.line.attempts)
    (hq : q.log = (s.failureRecorded c f).log) :
    q.log.next = s.log.next + 2 ∧
      s.recorded q 0 2 .trainingFailed .minor .line s.line.state [(c.code : Int), 8, 0, f] ∧
      s.recorded q 1 2 .fallbackEntered .major .line .fallback [(c.code : Int), 8] := by
  rw [Part.failureRecorded, if_neg (Nat.not_lt.2 h8)] at hq
  generalize hx : (s.restedAs .fallback (s.line.fallenBack c f)) = x at hq
  have hxsame : x.log = s.log ∧ x.time = s.time ∧ x.line.state = .fallback := by subst hx; exact ⟨rfl, rfl, rfl⟩
  obtain ⟨hlog, htime, hstate⟩ := hxsame
  generalize hy : x.makeRecordAt .trainingFailed .line s.line.state [(c.code : Int), 8, 0, f] = y at hq
  have hynext : y.log.next = s.log.next + 1 := by rw [← hy, Part.makeRecordAt_next, hlog]
  have hytime : y.time = s.time := by rw [← hy, Part.makeRecordAt_time, htime]
  have hyline : y.line.state = .fallback := by rw [← hy, Part.makeRecordAt_line, hstate]
  have hsaid (hroom : s.log.records.length + 2 ≤ 32) :
      q.log.said = s.log.said ++ [(x.newRecord .trainingFailed .line s.line.state [(c.code : Int), 8, 0, f]).said] ++
        [(y.newRecord .fallbackEntered .line y.line.state [(c.code : Int), 8]).said] := by
    have hysaid : y.log.said = s.log.said ++
        [(x.newRecord .trainingFailed .line s.line.state [(c.code : Int), 8, 0, f]).said] := by
      rw [← hy, Part.makeRecordAt_said _ _ _ _ (by rw [hlog]; omega), hlog]
    have hylen : y.log.records.length < 32 := by
      rw [← Log.said_length, hysaid, List.length_append, Log.said_length]
      simp only [List.length_singleton]
      omega
    rw [hq, Part.makeRecord, Part.makeRecordAt_said _ _ _ _ hylen, hysaid]
  refine ⟨?_, ?_, ?_⟩
  · rw [hq, Part.makeRecord, Part.makeRecordAt_next, hynext, BitVec.add_assoc]
    rfl
  · refine Part.recorded_of_said (fun hroom => ?_) (r := x.newRecord .trainingFailed .line s.line.state
      [(c.code : Int), 8, 0, f]) (by simp [Part.newRecord, hlog]) htime rfl rfl rfl rfl rfl
    rw [hsaid hroom]
    simp
  · refine Part.recorded_of_said (fun hroom => ?_) (r := y.newRecord .fallbackEntered .line y.line.state
      [(c.code : Int), 8]) (by simp [Part.newRecord, hynext]) hytime rfl rfl rfl hyline rfl
    rw [hsaid hroom]
    simp

/-- Settles O33: each event is the failure of the attempt, whose fields and records are those of the first eight or of the
ninth. -/
theorem failedAttemptsBackOff : Obligations.FailedAttemptsBackOff := by
  intro s i cause figure hrun hevent code
  obtain ⟨hs, hcode, hdone⟩ : s.part.inService = false ∧ code = (cause.code : Int) ∧
      Completes i s (s.part.failAttempt cause figure).settle := by
    rcases hevent with ⟨rfl, hstate, hwindow, hcalls, rfl, rfl⟩ | ⟨rfl, hstate, rfl, rfl⟩ | ⟨rfl, hstate, rfl, rfl⟩
    · refine ⟨by rw [Part.inService, hstate]; rfl, rfl, completes_of (o := execCallWindowExpiry s) rfl rfl hrun ?_⟩
      rw [if_pos ⟨hstate, hwindow⟩, if_neg (Nat.not_lt.2 hcalls)]
    · exact ⟨by rw [Part.inService, hstate]; rfl, rfl,
        completes_of (o := execLoadingTimeout s) rfl rfl hrun (if_pos hstate)⟩
    · have hout : s.part.inService = false := by
        rcases hstate with h | h | h <;> rw [Part.inService, h] <;> rfl
      refine ⟨hout, rfl, completes_of (o := execDrop s) rfl rfl hrun ?_⟩
      rw [if_neg (by rw [hout]; decide), if_pos hstate]
  obtain ⟨hline, hband, hload, hsnapshot, haccess, hout, hlog, hrelay⟩ := Part.failAttempt_settled cause figure hs
  obtain ⟨hfailure, -, htransmitter, hdown, hup⟩ := Part.failAttempt_ended cause figure hs
  refine ⟨_, hdone, hfailure, htransmitter, hdown, hup, by rw [hband], hout, hsnapshot, haccess, by rw [hload],
    fun h8 => ?_, fun h8 => ?_⟩
  · rw [hline, if_pos h8, hcode]
    have hholdoff : (s.part.line.backedOff cause figure).holdoff =
        some (1000 * min 64 (2 ^ s.part.line.attempts)) := congrArg some (Nat.mul_comm _ _)
    exact ⟨rfl, rfl, rfl, hholdoff, Part.failureRecorded_first cause figure h8 hlog⟩
  · rw [hline, if_neg (Nat.not_lt.2 h8), hcode]
    obtain ⟨hnext, hfirst, hsecond⟩ := Part.failureRecorded_ninth cause figure h8 hlog
    exact ⟨rfl, rfl, rfl, rfl, rfl, hnext, hfirst, hsecond, hrelay h8⟩

/-! ### The end of MEASURING -/

/-- The part with the averages that the reference symbols seed (R26, R46). -/
def Part.seeded (s : Part) : Part :=
  { s with load := { s.load with averages := s.seededAverages, measureSums := [], measureCount := 0 } }

/-- The part at entry to LOADING, ahead of the computation (R27). -/
def Part.atLoading (s : Part) : Part :=
  ({ s with
    line := { s.line with
      state := .loading, loadingDeadline := some (s.line.symbol + 12000), rejections := 0, segs := none
      upValid := false, switch := none } } : Part).postLine .measuring none []

/-- The part with its set profile in force. -/
def Part.profileSet (s : Part) : Part := { s with load := { s.load with profileInForce := s.load.setProfile } }

/-- The table computed at entry to LOADING. -/
def Part.firstTable (s : Part) : List LoadEntry :=
  computeDown s.band.configured s.load.setProfile s.load.averages []

/-- The table and the map on offer (R27). -/
def Part.offering (s : Part) : Part :=
  { s with
    line := { s.line with downOffered := some s.firstTable }
    band := { s.band with offeredMap := some s.band.configured } }

theorem Part.enterLoading_eq (s : Part) :
    s.enterLoading =
      if payload s.firstTable = 0 ∨ ((payload s.firstTable * 32 : Nat) : Int) < s.load.setProfile.floor then
        s.atLoading.profileSet.failAttempt .lowRate (payload s.firstTable : Int)
      else s.atLoading.profileSet.offering.sendTable s.firstTable := rfl

/-- The two segments of a table fit an empty queue (R23). -/
theorem Part.sendTable_empty {s : Part} (t : List LoadEntry) (h : s.svc.outQ = []) :
    s.sendTable t = { s with
      line := { s.line with nextTable := s.line.nextTable + 1 }
      svc := { s.svc with outQ := [.downTable s.line.nextTable 0 ((t.map entryToByte).take 224),
        .downTable s.line.nextTable 1 (((t.map entryToByte).drop 224).take 224)] } } := by
  unfold Part.sendTable
  dsimp only
  rw [Part.enqueue_room (.downTable s.line.nextTable 0 ((t.map entryToByte).take 224)) _ (by simp [h]),
    Part.enqueue_room _ _ (by simp [h, insertMsg, Msg.isSignal])]
  simp [h, insertMsg, Msg.isSignal]

/-- The seeded average of a tone (R11, R46). -/
theorem Part.seededAverages_getElem? (p : Part) {t : Nat} (h : t < 448) :
    p.seededAverages[t]? = some (if resolve false p.band.windows t = .downCarry then some (p.load.seed t) else none) := by
  have hread : p.seededAverages[t]? = some (p.seededAverages.getD t none) := by
    rw [List.getD_eq_getElem?_getD, List.getElem?_eq_getElem (by simpa [Part.seededAverages] using h)]
    rfl
  rw [hread, Part.seededAverages, perTone_getD _ _ h]
  simp only [Band.measurable, beq_iff_eq]

/-- Settles O34: the event is the failure with the count of tones heard, the failure with the payload, or the offer. -/
theorem measurementEndLoadsOrFails : Obligations.MeasurementEndLoadsOrFails := by
  refine ⟨fun s hrun hstate => ?_, fun p => ⟨by simp [Part.seededAverages], fun t ht => ?_⟩, fun averages => ?_⟩
  · intro p averages map t
    have hdone : Completes .measurementEnd s p.measurementEnd.settle :=
      completes_of (o := execMeasurementEnd s) rfl rfl hrun (if_pos hstate)
    have hend : p.measurementEnd = if tonesHeard averages < 32 then
        p.seeded.failAttempt .measureFail (tonesHeard averages : Int) else p.seeded.enterLoading := rfl
    refine ⟨fun hfew => ?_, fun hmany hpayload hfloor hout hpending => ?_, fun hmany hlow => ?_⟩
    · have hs : p.seeded.inService = false := by
        show p.line.state.inService = false
        rw [show p.line.state = .measuring from hstate]
        rfl
      refine ⟨_, hdone, ?_⟩
      rw [hend, if_pos hfew]
      obtain ⟨hfailure, hended, -⟩ := Part.failAttempt_ended .measureFail (tonesHeard averages : Int) hs
      refine ⟨hfailure, hended, ?_⟩
      rw [(Part.failAttempt_settled .measureFail (tonesHeard averages : Int) hs).2.2.1]
      rfl
    · refine ⟨_, hdone, ?_⟩
      have hload : p.seeded.enterLoading = p.seeded.atLoading.profileSet.offering.sendTable t :=
        (Part.enterLoading_eq p.seeded).trans (if_neg (not_or.2 ⟨hpayload, not_lt.2 hfloor⟩))
      rw [hend, if_neg (Nat.not_lt.2 hmany), hload,
        Part.sendTable_empty (s := p.seeded.atLoading.profileSet.offering) t hout]
      generalize hx : ({ p.seeded.atLoading.profileSet.offering with
        line := { p.seeded.atLoading.profileSet.offering.line with
          nextTable := p.seeded.atLoading.profileSet.offering.line.nextTable + 1 }
        svc := { p.seeded.atLoading.profileSet.offering.svc with
          outQ := [.downTable p.seeded.atLoading.profileSet.offering.line.nextTable 0 ((t.map entryToByte).take 224),
            .downTable p.seeded.atLoading.profileSet.offering.line.nextTable 1
              (((t.map entryToByte).drop 224).take 224)] } } : Part) = x
      have hwait : x.line.startPending = false := by subst hx; exact hpending
      have hs : x.inService = false := by subst hx; rfl
      obtain ⟨hl, hb, hd, -, -, hv, -⟩ := Part.settle_same (Part.mayStart_of_notPending hwait) hs
      rw [hl, hb, hd, hv]
      subst hx
      exact ⟨rfl, rfl, rfl, rfl, rfl, rfl, rfl, rfl⟩
    · refine ⟨_, hdone, ?_⟩
      have hload : p.seeded.enterLoading =
          p.seeded.atLoading.profileSet.failAttempt .lowRate (payload t : Int) :=
        (Part.enterLoading_eq p.seeded).trans (if_pos hlow)
      rw [hend, if_neg (Nat.not_lt.2 hmany), hload]
      obtain ⟨hfailure, hended, -, hdown, -⟩ :=
        Part.failAttempt_ended (s := p.seeded.atLoading.profileSet) .lowRate (payload t : Int) rfl
      exact ⟨hfailure, hended, hdown⟩
  · rw [Part.seededAverages_getElem? p ht]
    exact ⟨fun h => by rw [if_pos h]; rfl, fun h => by rw [if_neg h]⟩
  · unfold tonesHeard
    rw [List.countP_eq_length_filter]
    rfl

end Sys2Proof.Machine
end

section
/-! PROOFS. The exchange of tables in LOADING and the checks a table is put to (O35). -/

namespace Sys2Proof.Machine

/-! ### The six checks of R57 -/

/-- The entry of a tone fails a check of R57; GAIN_SUM and CAPACITY, checks of the whole table, fail at tone 0. -/
def failsCheck (map : List Role) (maxBits : Nat) (table : List LoadEntry) (c : Check) (t : Nat) : Prop :=
  let e (t : Nat) : LoadEntry := table.getD t ⟨0, 0⟩
  (c = .role ∧ (e t).b ≠ 0 ∧ map.getD t .unused ≠ .upCarry) ∨
    (c = .bits ∧ (e t).b ≠ 0 ∧ ((e t).b < 2 ∨ maxBits < (e t).b)) ∨
    (c = .gain ∧ ((e t).g < -8 ∨ 3 < (e t).g)) ∨
    (c = .zeroGain ∧ (e t).b = 0 ∧ (e t).g ≠ 0) ∨
    (c = .gainSum ∧ t = 0 ∧ 0 < (table.map (·.g)).sum) ∨
    (c = .capacity ∧ t = 0 ∧ (table.map (·.b)).sum < 8)

/-- The lowest tone at which a table fails a check. -/
def firstAt (map : List Role) (maxBits : Nat) (table : List LoadEntry) : Check → Option Nat
  | .role => firstFailing table fun t e => e.b == 0 || isUp map t
  | .bits => firstFailing table fun _ e => e.b == 0 || (decide (2 ≤ e.b) && decide (e.b ≤ maxBits))
  | .gain => firstFailing table fun _ e => decide (-8 ≤ e.g) && decide (e.g ≤ 3)
  | .zeroGain => firstFailing table fun _ e => e.b != 0 || e.g == 0
  | .gainSum => if 0 < gainSum table then some 0 else none
  | .capacity => if totalBits table < 8 then some 0 else none
  | .duplicate => none

theorem sumNat_eq_sum (xs : List Nat) : sumNat xs = xs.sum := by
  induction xs with
  | nil => rfl
  | cons x xs ih => rw [List.sum_cons, ← ih]; rfl

/-- What it means to be the lowest of 448 tones with a property, none of them having it. -/
def IsLowest (P : Nat → Prop) : Option Nat → Prop
  | some t => t < 448 ∧ P t ∧ ∀ u : Nat, u < t → ¬ P u
  | none => ∀ u : Nat, u < 448 → ¬ P u

theorem firstFailing_isLowest (table : List LoadEntry) (ok : Nat → LoadEntry → Bool) (P : Nat → Prop)
    (h : ∀ t, ok t (table.getD t ⟨0, 0⟩) = false ↔ P t) : IsLowest P (firstFailing table ok) := by
  cases hf : firstFailing table ok with
  | some t =>
    obtain ⟨hfails, hmem, hbelow⟩ := List.find?_range_eq_some.1 hf
    refine ⟨List.mem_range.1 hmem, (h t).1 (by simpa [entryOff] using hfails), fun u hu hP => ?_⟩
    have hok := hbelow u hu
    rw [show table.getD u entryOff = table.getD u ⟨0, 0⟩ from rfl, (h u).2 hP] at hok
    cases hok
  | none =>
    intro u hu hP
    have hok := List.find?_range_eq_none.1 hf u hu
    rw [show table.getD u entryOff = table.getD u ⟨0, 0⟩ from rfl, (h u).2 hP] at hok
    cases hok

/-- A check of the whole table is failed at tone 0 or nowhere. -/
theorem isLowest_zero {P : Nat → Prop} {q : Prop} [Decidable q] (h : ∀ t, P t ↔ t = 0 ∧ q) :
    IsLowest P (if q then some 0 else none) := by
  split
  · rename_i hq
    exact ⟨by decide, (h 0).2 ⟨rfl, hq⟩, fun u hu => absurd hu (Nat.not_lt_zero u)⟩
  · rename_i hq
    exact fun u _ hP => hq ((h u).1 hP).2

theorem firstAt_isLowest (map : List Role) (maxBits : Nat) (table : List LoadEntry) (c : Check) :
    IsLowest (failsCheck map maxBits table c) (firstAt map maxBits table c) := by
  cases c with
  | role =>
    simp only [firstAt]
    exact firstFailing_isLowest _ _ _ fun t => by simp [failsCheck, isUp]
  | bits =>
    simp only [firstAt]
    refine firstFailing_isLowest _ _ _ fun t => ?_
    simp only [failsCheck, Bool.or_eq_false_iff, beq_eq_false_iff_ne, Bool.and_eq_false_iff, decide_eq_false_iff_not,
      not_le]
    simp
  | gain =>
    simp only [firstAt]
    refine firstFailing_isLowest _ _ _ fun t => ?_
    simp only [failsCheck, Bool.and_eq_false_iff, decide_eq_false_iff_not, not_le]
    simp
  | zeroGain =>
    simp only [firstAt]
    exact firstFailing_isLowest _ _ _ fun t => by simp [failsCheck]
  | gainSum => exact isLowest_zero fun t => by simp [failsCheck, gainSum, sumInt_eq_sum]
  | capacity => exact isLowest_zero fun t => by simp [failsCheck, totalBits, sumNat_eq_sum]
  | duplicate => exact fun u _ h => by simp [failsCheck] at h

/-- A valid table passes every check; an invalid one is told the first it fails and its lowest tone. -/
theorem validateTable_cases (map : List Role) (maxBits : Nat) (table : List LoadEntry) :
    match validateTable map maxBits table with
    | some (c, t) => firstAt map maxBits table c = some t ∧
        ∀ c' : Check, checkCode c' < checkCode c → firstAt map maxBits table c' = none
    | none => ∀ c : Check, firstAt map maxBits table c = none := by
  have hv : validateTable map maxBits table =
      match firstAt map maxBits table .role with
      | some t => some (.role, t)
      | none =>
      match firstAt map maxBits table .bits with
      | some t => some (.bits, t)
      | none =>
      match firstAt map maxBits table .gain with
      | some t => some (.gain, t)
      | none =>
      match firstAt map maxBits table .zeroGain with
      | some t => some (.zeroGain, t)
      | none =>
      match firstAt map maxBits table .gainSum with
      | some t => some (.gainSum, t)
      | none =>
      match firstAt map maxBits table .capacity with
      | some t => some (.capacity, t)
      | none => none := by
    unfold validateTable firstAt
    dsimp only
    repeat' split
    all_goals simp_all
  rw [hv]
  cases hrole : firstAt map maxBits table .role with
  | some t => exact ⟨hrole, fun c h => by cases c <;> simp [checkCode] at h⟩
  | none =>
  cases hbits : firstAt map maxBits table .bits with
  | some t => exact ⟨hbits, fun c h => by cases c <;> simp [checkCode] at h ⊢ <;> assumption⟩
  | none =>
  cases hgain : firstAt map maxBits table .gain with
  | some t => exact ⟨hgain, fun c h => by cases c <;> simp [checkCode] at h ⊢ <;> assumption⟩
  | none =>
  cases hzero : firstAt map maxBits table .zeroGain with
  | some t => exact ⟨hzero, fun c h => by cases c <;> simp [checkCode] at h ⊢ <;> assumption⟩
  | none =>
  cases hsum : firstAt map maxBits table .gainSum with
  | some t => exact ⟨hsum, fun c h => by cases c <;> simp [checkCode] at h ⊢ <;> assumption⟩
  | none =>
  cases hcap : firstAt map maxBits table .capacity with
  | some t => exact ⟨hcap, fun c h => by cases c <;> simp [checkCode] at h ⊢ <;> assumption⟩
  | none =>
    intro c
    cases c
    exacts [hrole, hbits, hgain, hzero, hsum, hcap, rfl]

/-- The lowest tone is the only one. -/
theorem IsLowest.unique {P : Nat → Prop} {o : Option Nat} (h : IsLowest P o) (t : Nat) :
    o = some t ↔ t < 448 ∧ P t ∧ ∀ u : Nat, u < t → ¬ P u := by
  cases o with
  | none => exact ⟨nofun, fun ⟨ht, hP, _⟩ => absurd hP (h t ht)⟩
  | some v =>
    obtain ⟨hv, hPv, hbelow⟩ := h
    refine ⟨fun he => Option.some.inj he ▸ ⟨hv, hPv, hbelow⟩, fun ⟨ht, hP, hlow⟩ => ?_⟩
    rcases Nat.lt_trichotomy v t with hlt | rfl | hgt
    · exact absurd hPv (hlow v hlt)
    · rfl
    · exact absurd hP (hbelow t hgt)

theorem IsLowest.none_iff {P : Nat → Prop} {o : Option Nat} (h : IsLowest P o) :
    o = none ↔ ∀ u : Nat, u < 448 → ¬ P u := by
  cases o with
  | none => exact ⟨fun _ => h, fun _ => rfl⟩
  | some v => exact ⟨nofun, fun hno => absurd h.2.1 (hno v h.1)⟩

theorem checkCode_injective {c d : Check} (h : checkCode c = checkCode d) : c = d := by
  revert h
  cases c <;> cases d <;> decide

theorem validateTable_some_iff (map : List Role) (maxBits : Nat) (table : List LoadEntry) (c : Check) (t : Nat) :
    validateTable map maxBits table = some (c, t) ↔
      t < 448 ∧ failsCheck map maxBits table c t ∧ (∀ u : Nat, u < t → ¬ failsCheck map maxBits table c u) ∧
        ∀ c' : Check, checkCode c' < checkCode c → ∀ u : Nat, u < 448 → ¬ failsCheck map maxBits table c' u := by
  have hlow := firstAt_isLowest map maxBits table
  have hiff : (firstAt map maxBits table c = some t ∧
      ∀ c' : Check, checkCode c' < checkCode c → firstAt map maxBits table c' = none) ↔
      t < 448 ∧ failsCheck map maxBits table c t ∧ (∀ u : Nat, u < t → ¬ failsCheck map maxBits table c u) ∧
        ∀ c' : Check, checkCode c' < checkCode c → ∀ u : Nat, u < 448 → ¬ failsCheck map maxBits table c' u := by
    rw [(hlow c).unique t]
    simp only [fun c' => (hlow c').none_iff, and_assoc]
  rw [← hiff]
  have hcases := validateTable_cases map maxBits table
  cases hv : validateTable map maxBits table with
  | none =>
    rw [hv] at hcases
    exact ⟨nofun, fun ⟨hfound, _⟩ => by rw [hcases c] at hfound; cases hfound⟩
  | some ct =>
    obtain ⟨d, u⟩ := ct
    rw [hv] at hcases
    obtain ⟨hfound, hbelow⟩ := hcases
    refine ⟨fun he => ?_, fun ⟨hc, hlower⟩ => ?_⟩
    · obtain ⟨rfl, rfl⟩ := Prod.mk.inj (Option.some.inj he)
      exact ⟨hfound, hbelow⟩
    · have hcd : c = d := by
        rcases Nat.lt_trichotomy (checkCode c) (checkCode d) with hlt | heq | hgt
        · rw [hbelow c hlt] at hc
          cases hc
        · exact checkCode_injective heq
        · rw [hlower d hgt] at hfound
          cases hfound
      subst hcd
      rw [hc] at hfound
      cases hfound
      rfl

theorem validateTable_none_iff (map : List Role) (maxBits : Nat) (table : List LoadEntry) :
    validateTable map maxBits table = none ↔ ∀ (c : Check) (u : Nat), u < 448 → ¬ failsCheck map maxBits table c u := by
  have hlow := firstAt_isLowest map maxBits table
  have hcases := validateTable_cases map maxBits table
  cases hv : validateTable map maxBits table with
  | none =>
    rw [hv] at hcases
    exact ⟨fun _ c => (hlow c).none_iff.1 (hcases c), fun _ => rfl⟩
  | some ct =>
    obtain ⟨c, t⟩ := ct
    rw [hv] at hcases
    refine ⟨nofun, fun h => ?_⟩
    have hnone := (hlow c).none_iff.2 (h c)
    rw [hcases.1] at hnone
    cases hnone

/-! ### UP_TABLE -/

/-- In LOADING or RESHAPE, the telephones settled, an event that touches the line's exchange alone settles as it is. -/
theorem Part.settle_exchange {p : Part} {l : Line} {v : Service}
    (hstate : p.line.state = .loading ∨ p.line.state = .reshape) (hrelay : p.relayTarget = p.supply.relay)
    (hheard : p.refreshHeard = p) (hl : l.state = p.line.state ∧ l.request = p.line.request) :
    Part.settle { p with line := l, svc := v } = { p with line := l, svc := v } := by
  obtain ⟨hlstate, hreq⟩ := hl
  refine Part.settle_idle (Part.mayStart_of_state ?_ ?_ ?_) ?_
    (Part.refreshHeard_same hheard rfl rfl rfl (congrArg LineState.inService hlstate))
  any_goals
    show l.state ≠ _
    rw [hlstate]
    rcases hstate with h | h <;> rw [h] <;> decide
  exact (Part.relayTarget_congr (p := p) (x := { p with line := l, svc := v }) rfl rfl hreq rfl).trans hrelay

/-- A segment of its shape in LOADING (R23, R28). -/
theorem Part.upTable_loading {p : Part} {n : Byte} {i : Nat} {es : List Byte} (hi : i ≤ 1) (hlen : es.length = 224)
    (hstate : p.line.state = .loading) :
    p.upTable n i es =
      match (collectSegment p.line.segs n i es).table with
      | none => { p with line := { p.line with segs := some (collectSegment p.line.segs n i es) } }
      | some t => Part.loadingTable n t { p with line := { p.line with segs := none } } := by
  unfold Part.upTable
  rw [if_neg (by omega), if_pos (.inl hstate)]
  dsimp only
  cases (collectSegment p.line.segs n i es).table with
  | none => rfl
  | some t => exact if_pos hstate

/-- The second segment of the number held completes the table. -/
theorem Part.upTable_completes {p : Part} {n : Byte} {es fs : List Byte} (hlen : fs.length = 224)
    (hstate : p.line.state = .loading) (hsegs : p.line.segs = some ⟨n, some es, none⟩) :
    p.upTable n 1 fs =
      Part.loadingTable n ((es ++ fs).map entryOfByte) { p with line := { p.line with segs := none } } := by
  rw [Part.upTable_loading (by decide) hlen hstate, hsegs]
  simp [collectSegment, Segments.table]

/-- A valid table is held and its switch symbol named (R28, R29). -/
theorem Part.loadingTable_valid {p : Part} {n : Byte} {table : List LoadEntry} {dl : Symbol}
    (hvalid : p.line.upValid = false)
    (hnone : validateTable (p.band.offeredMap.getD []) p.load.profileInForce.maxBits table = none)
    (hdl : p.line.loadingDeadline = some dl) (hlater : later dl (p.line.symbol + 200) = true)
    (hroom : p.svc.outQ.length < 16) :
    p.loadingTable n table = { p with
      line := { p.line with
        upOffered := some table, upValid := true, switch := some ⟨p.line.symbol + 200, true, false, false⟩ }
      svc := { p.svc with switchLost := none, outQ := p.svc.outQ ++ [.switch (p.line.symbol + 200)] } } := by
  unfold Part.loadingTable
  rw [if_neg (by rw [hvalid]; decide), hnone, hdl]
  unfold Part.nameSwitch
  dsimp only [Option.getD_some]
  rw [if_pos hlater, Part.enqueue_room]
  · simp [insertMsg, Msg.isSignal, hroom]
  · exact hroom

/-- An invalid one is rejected by name (R28). -/
theorem Part.loadingTable_invalid {p : Part} {n : Byte} {table : List LoadEntry} {c : Check} {t : Nat}
    (hvalid : p.line.upValid = false)
    (hsome : validateTable (p.band.offeredMap.getD []) p.load.profileInForce.maxBits table = some (c, t))
    (hroom : p.svc.outQ.length < 16) :
    p.loadingTable n table =
      let x : Part := { p with
        line := { p.line with rejections := p.line.rejections + 1 }
        svc := { p.svc with outQ := p.svc.outQ ++ [.tableReject n c t] } }
      if p.line.rejections < 2 then x else x.failAttempt .tableRejected ((p.line.rejections + 1 : Nat) : Int) := by
  unfold Part.loadingTable
  rw [if_neg (by rw [hvalid]; decide), hsome]
  dsimp only
  rw [Part.enqueue_room _ _ hroom]
  simp [insertMsg, Msg.isSignal]

/-- Settles O35: the exchange by the segment held and by the verdict on the table, the messages that confirm it by the
named switch, and the verdict by the checks in their order. -/
theorem loadingExchangeIsTaken : Obligations.LoadingExchangeIsTaken := by
  refine ⟨fun s n es fs hrun hstate hes hfs hrelay hheard => ?_, fun s hrun => ?_, fun map maxBits table => ?_⟩
  · intro p
    have hdone (i : Nat) (bs : List Byte) : Completes (.upTable n i bs) s (p.upTable n i bs).settle :=
      completes_of (o := execUpTable n i bs s) rfl rfl hrun rfl
    have hstate' : p.line.state = .loading := hstate
    refine ⟨fun hsegs => ?_, fun hsegs hvalid hroom => ?_, ?_⟩
    · have hx : p.upTable n 0 es = { p with line := { p.line with segs := some ⟨n, some es, none⟩ } } := by
        rw [Part.upTable_loading (by decide) hes hstate', hsegs]
        rfl
      have h := hdone 0 es
      rw [hx, Part.settle_exchange (.inl hstate) hrelay hheard] at h
      · exact h
      · exact ⟨rfl, rfl⟩
    · intro table
      have hx := Part.upTable_completes hfs hstate' hsegs
      refine ⟨fun hnone dl hdl hlater => ?_, fun c t hsome => ⟨fun hfew => ?_, fun hmany => ?_⟩⟩
      · refine ⟨_, hdone 1 fs, ?_⟩
        have hy := Part.loadingTable_valid (p := { p with line := { p.line with segs := none } }) (n := n)
          hvalid hnone hdl hlater hroom
        rw [hx, hy, Part.settle_exchange (.inl hstate) hrelay hheard]
        · exact ⟨rfl, rfl, rfl, rfl, rfl, hstate⟩
        · exact ⟨rfl, rfl⟩
      · refine ⟨_, hdone 1 fs, ?_⟩
        have hy := (Part.loadingTable_invalid (p := { p with line := { p.line with segs := none } }) (n := n)
          hvalid hsome hroom).trans (if_pos hfew)
        rw [hx, hy, Part.settle_exchange (.inl hstate) hrelay hheard]
        · exact ⟨rfl, hstate, rfl, rfl, rfl⟩
        · exact ⟨rfl, rfl⟩
      · refine ⟨_, hdone 1 fs, ?_⟩
        have hy := (Part.loadingTable_invalid (p := { p with line := { p.line with segs := none } }) (n := n)
          hvalid hsome hroom).trans (if_neg (Nat.not_lt.2 hmany))
        rw [hx, hy]
        generalize hz : ({ p with
          line := { p.line with segs := none, rejections := p.line.rejections + 1 }
          svc := { p.svc with outQ := p.svc.outQ ++ [.tableReject n c t] } } : Part) = z
        have hout : z.inService = false := by
          subst hz
          show p.line.state.inService = false
          rw [hstate']
          rfl
        obtain ⟨hfailure, hended, -⟩ :=
          Part.failAttempt_ended .tableRejected ((p.line.rejections + 1 : Nat) : Int) hout
        exact ⟨hfailure, hended⟩
    · have hx : p.upTable n 2 es = { p with svc := { p.svc with rxErrors := min 65535 (p.svc.rxErrors + 1) } } := by
        unfold Part.upTable Part.receiveError
        rw [if_pos (.inl (by decide)), if_pos (by rw [hstate']; rfl)]
        rfl
      have h := hdone 2 es
      rw [hx, Part.settle_exchange (.inl hstate) hrelay hheard] at h
      · exact h
      · exact ⟨rfl, rfl⟩
  · intro p
    have hquiet (hs : ¬ (p.line.state = .loading ∨ p.line.state = .reshape)) (a : Symbol) :
        Completes (.switchAck a) s p :=
      completes_of (o := execSwitchAck a s) rfl rfl hrun (if_neg fun h => hs h.1)
    have hacked (hs : p.line.state = .loading ∨ p.line.state = .reshape) (a : Symbol) {l : Line}
        (hl : p.line.acknowledge a = l) (hlost : p.svc.switchLost ≠ some a) :
        Completes (.switchAck a) s { p with line := l } := by
      refine completes_of (o := execSwitchAck a s) rfl rfl hrun ?_
      rw [if_pos ⟨hs, hlost⟩, ← hl]
    have hkept (hs : p.line.state = .loading ∨ p.line.state = .reshape) (a : Symbol)
        (hl : p.svc.switchLost ≠ some a → p.line.acknowledge a = p.line) : Completes (.switchAck a) s p := by
      by_cases hlost : p.svc.switchLost = some a
      · exact completes_of (o := execSwitchAck a s) rfl rfl hrun (if_neg fun h => h.2 hlost)
      · exact hacked hs a (hl hlost) hlost
    refine ⟨fun n c t hstate => ?_, fun a placed hs hswitch => ⟨fun hlater hplaced hlost => ?_, fun hno => ?_, ?_,
      fun b hb => ?_⟩, fun a placed hs hswitch => ⟨fun b => ?_, ?_, ?_⟩, fun htravel => ?_, fun htravel => ⟨?_, fun n c t => ?_, fun a => ?_⟩⟩
    · have hout : p.inService = false := by rw [Part.inService, hstate]; rfl
      refine ⟨_, completes_of (o := execTableReject n c t s) rfl rfl hrun (if_pos hstate), ?_⟩
      obtain ⟨hfailure, hended, -, -, hup⟩ := Part.failAttempt_ended .tableRejected (p.line.rejections : Int) hout
      exact ⟨hfailure, hended, hup, (Part.failAttempt_settled .tableRejected _ hout).2.2.2.2.2.1⟩
    · exact hacked hs a (by simp [Line.acknowledge, hswitch, hlater, hplaced]) hlost
    · refine hkept hs a fun hlost => ?_
      rcases hno with h | h | h
      · simp [Line.acknowledge, hswitch, h]
      · simp [Line.acknowledge, hswitch, h]
      · exact absurd h hlost
    · refine completes_of (o := execSwitchSymbolWithoutAck s) rfl rfl hrun ?_
      rw [if_pos hs, hswitch]
      rfl
    · exact hkept hs b fun _ => by simp [Line.acknowledge, hswitch, hb.symm]
    · exact hkept hs b fun _ => by simp [Line.acknowledge, hswitch]
    · refine completes_of (o := execEnterCarrying s) rfl rfl hrun (if_neg fun h => ?_)
      have hconfirmed : p.line.confirmed = true := h.2
      simp [Line.confirmed, hswitch] at hconfirmed
    · refine completes_of (o := execReshapeSwitch s) rfl rfl hrun (if_neg fun h => ?_)
      have hconfirmed : p.line.confirmed = true := h.2
      simp [Line.confirmed, hswitch] at hconfirmed
    · refine completes_of (o := execServiceMessageError s) rfl rfl hrun ?_
      unfold Part.receiveError
      rw [if_pos htravel]
      rfl
    · refine completes_of (o := execServiceMessageError s) rfl rfl hrun ?_
      unfold Part.receiveError
      rw [if_neg (by rw [htravel]; decide)]
    all_goals
      have hs : ¬ (p.line.state = .loading ∨ p.line.state = .reshape) := by
        rintro (h | h) <;> rw [h] at htravel <;> cases htravel
    · refine completes_of (o := execTableReject n c t s) rfl rfl hrun ?_
      rw [if_neg fun h => hs (.inl h), if_neg fun h => hs (.inr h)]
    · exact hquiet hs a
  · intro e fails
    exact ⟨validateTable_some_iff map maxBits table, validateTable_none_iff map maxBits table, by decide⟩

end Sys2Proof.Machine
end

section
/-! SUPPORT. A downstream symbol in service (R60, R81 to R84, R120, R146): how its raw class, the erasure window and the
event in progress are told, what the tracker makes of an event, and what each stage leaves alone. -/

namespace Sys2Proof.Machine

/-! ### The class of a symbol and the event it opens -/

theorem loadedTones_eq (t : List LoadEntry) : loadedTones t = (t.filter fun e => decide (e.b ≠ 0)).length := by
  unfold loadedTones
  congr 1
  refine List.filter_congr fun e _ => ?_
  simp [bne, Bool.beq_eq_decide_eq]

theorem rawClassOf_impulse (n : Nat) (d : DownSymbol) :
    (rawClassOf n d == .impulse) = (!d.sync || decide (n < 4 * d.errored)) := by
  unfold rawClassOf
  split
  · rename_i h
    rw [h]
    rfl
  · rename_i h
    rw [eq_false_of_ne_true h]
    split <;> rfl

/-- A symbol opens a new event (R81). -/
def Tracker.opens (t : Tracker) (y : Symbol) (impulse : Bool) : Bool :=
  impulse && t.event.elim true fun e => decide (5 < (y - e.2).toNat)

theorem Tracker.formEvent_opens (t : Tracker) (y : Symbol) (impulse : Bool) :
    (t.formEvent y impulse).2 = t.opens y impulse := by
  unfold Tracker.formEvent Tracker.opens
  cases t.event with
  | none => cases impulse <;> rfl
  | some e =>
    cases impulse with
    | false => rfl
    | true =>
      dsimp only [Option.elim, Bool.true_and]
      split
      · rename_i h
        exact (decide_eq_false (Nat.not_lt.2 h)).symm
      · rename_i h
        exact (decide_eq_true (Nat.not_le.1 h)).symm

/-- The event alone changes. -/
theorem Tracker.formEvent_frame (t : Tracker) (y : Symbol) (impulse : Bool) :
    (t.formEvent y impulse).1 = { t with event := (t.formEvent y impulse).1.event } := by
  unfold Tracker.formEvent
  split
  · rfl
  · rfl
  · split <;> rfl
  · split <;> rfl

/-- An event opened starts and ends at its symbol. -/
theorem Tracker.formEvent_opened {t : Tracker} {y : Symbol} {impulse : Bool} (h : t.opens y impulse = true) :
    (t.formEvent y impulse).1 = { t with event := some (y, y) } := by
  rw [← Tracker.formEvent_opens] at h
  revert h
  unfold Tracker.formEvent
  split
  · exact nofun
  · exact fun _ => rfl
  · split
    · exact nofun
    · exact fun _ => rfl
  · exact nofun

/-! ### The erasure window -/

/-- The window alone changes. -/
theorem Tracker.openWindow_frame (t : Tracker) (y : Symbol) :
    t.openWindow y = { t with window := (t.openWindow y).window } := by
  unfold Tracker.openWindow
  split
  · split <;> rfl
  · rfl

theorem Tracker.openWindow_notLocked {t : Tracker} (y : Symbol) (h : t.state ≠ .locked) : t.openWindow y = t := by
  unfold Tracker.openWindow
  split
  · rename_i hl _ _
    exact absurd hl h
  · rfl

theorem Tracker.openWindow_open {t : Tracker} {w : Symbol × Bool} (y : Symbol) (h : t.window = some w) :
    t.openWindow y = t := by
  unfold Tracker.openWindow
  split
  · rename_i hw _
    rw [h] at hw
    cases hw
  · rfl

/-- The window opens six symbols ahead of the prediction (R83), and not else. -/
theorem Tracker.openWindow_due {t : Tracker} {y : Symbol} (hs : t.state = .locked) (hw : t.window = none)
    (hn : t.next = some (y + 6)) : t.openWindow y = { t with window := some (y, false) } := by
  unfold Tracker.openWindow
  rw [hs, hw, hn]
  exact if_pos (BitVec.add_sub_cancel y 6).symm

theorem Tracker.openWindow_notDue {t : Tracker} {y : Symbol} (hn : t.next ≠ some (y + 6)) : t.openWindow y = t := by
  unfold Tracker.openWindow
  split
  · rename_i n _ _ hnext
    refine if_neg fun h => hn ?_
    rw [hnext, h, BitVec.sub_add_cancel]
  · rfl

/-- The symbol is counted ERASED (R60). -/
def Tracker.erases (t : Tracker) (y : Symbol) : Bool := (t.openWindow y).inWindow y

theorem Tracker.erases_open {t : Tracker} {w : Symbol × Bool} {y : Symbol} (h : t.window = some w) :
    t.erases y = decide ((y - w.1).toNat < 13) := by
  rw [Tracker.erases, Tracker.openWindow_open y h]
  simp only [Tracker.inWindow, h]

theorem Tracker.erases_due {t : Tracker} {y : Symbol} (hs : t.state = .locked) (hw : t.window = none)
    (hn : t.next = some (y + 6)) : t.erases y = true := by
  rw [Tracker.erases, Tracker.openWindow_due hs hw hn]
  simp [Tracker.inWindow]

theorem Tracker.erases_closed {t : Tracker} {y : Symbol} (hw : t.window = none)
    (hn : t.state = .locked → t.next ≠ some (y + 6)) : t.erases y = false := by
  have hsame : t.openWindow y = t := by
    by_cases hs : t.state = .locked
    · exact Tracker.openWindow_notDue (hn hs)
    · exact Tracker.openWindow_notLocked y hs
  rw [Tracker.erases, hsame]
  simp only [Tracker.inWindow, hw]

/-! ### An event taken -/

theorem Part.loseLock_frame (w : Nat) (s : Part) :
    s.loseLock w = { s with
      tracker := { s.tracker with state := .searching, next := none, window := none }
      svc := (s.loseLock w).svc, log := (s.loseLock w).log, link := (s.loseLock w).link } := by
  unfold Part.loseLock Part.post Part.makeRecord
  dsimp only
  rw [Part.makeRecordAt_frame]

theorem Part.gainLock_frame (y : Symbol) (k : Lock) (s : Part) :
    s.gainLock y k = { s with
      tracker := { s.tracker with
        state := .locked, period := some k.period, next := some (y + BitVec.ofNat 32 k.period), window := none
        absence := 0, stray := 0 }
      svc := (s.gainLock y k).svc, log := (s.gainLock y k).log, link := (s.gainLock y k).link } := by
  unfold Part.gainLock Part.post Part.makeRecord
  dsimp only
  rw [Part.makeRecordAt_frame]

/-- An event taken changes the tracker and makes at most a record. -/
theorem Part.takeEvent_frame (y : Symbol) (s : Part) :
    s.takeEvent y = { s with
      tracker := (s.takeEvent y).tracker, svc := (s.takeEvent y).svc, log := (s.takeEvent y).log
      link := (s.takeEvent y).link } := by
  unfold Part.takeEvent
  dsimp only
  split
  · rfl
  · split
    · rw [Part.gainLock_frame]
    · rfl
  · split
    · split <;> rfl
    · split
      · rw [Part.loseLock_frame]
      · rfl

/-- The lock is lost with its record (R83). -/
theorem Part.loseLock_recorded {s : Part} (w k : Nat) (hk : s.tracker.period = some k) :
    (s.loseLock w).log.next = s.log.next + 1 ∧
      s.recorded (s.loseLock w) 0 1 .fenceLost .info .line s.line.state
        [(w : Int), ((k / 4 : Nat) : Int), (s.tracker.history.length : Int)] := by
  generalize hx : ({ s with tracker := { s.tracker with state := .searching, next := none, window := none } } : Part) = x
  have hlog : (s.loseLock w).log = (x.makeRecord .fenceLost .line
      [(w : Int), ((k / 4 : Nat) : Int), (s.tracker.history.length : Int)]).log := by
    subst hx
    unfold Part.loseLock
    dsimp only
    rw [hk]
    rfl
  have hsame : x.log = s.log ∧ x.time = s.time ∧ x.line = s.line := by subst hx; exact ⟨rfl, rfl, rfl⟩
  obtain ⟨hxlog, hxtime, hxline⟩ := hsame
  refine ⟨by rw [hlog, Part.makeRecord, Part.makeRecordAt_next, hxlog], ?_⟩
  refine Part.recorded_of_said (r := x.newRecord .fenceLost .line x.line.state
    [(w : Int), ((k / 4 : Nat) : Int), (s.tracker.history.length : Int)]) (fun hroom => ?_) (by simp [Part.newRecord, hxlog])
    hxtime rfl rfl rfl (congrArg Line.state hxline) rfl
  rw [hlog, Part.makeRecord, Part.makeRecordAt_said _ _ _ _ (by rw [hxlog]; omega)]
  exact List.mem_append_right _ (List.mem_singleton_self _)

/-- The lock is gained with its record (R82). -/
theorem Part.gainLock_recorded (s : Part) (y : Symbol) (k : Lock) :
    (s.gainLock y k).log.next = s.log.next + 1 ∧
      s.recorded (s.gainLock y k) 0 1 .fenceLocked .info .line s.line.state
        [((k.period / 4 : Nat) : Int), (k.period : Int), (k.tolerance : Int)] := by
  generalize hx : ({ s with
    tracker := { s.tracker with
      state := .locked, period := some k.period, next := some (y + BitVec.ofNat 32 k.period), window := none
      absence := 0, stray := 0 } } : Part) = x
  have hlog : (s.gainLock y k).log = (x.makeRecord .fenceLocked .line
      [((k.period / 4 : Nat) : Int), (k.period : Int), (k.tolerance : Int)]).log := by
    subst hx
    rfl
  have hsame : x.log = s.log ∧ x.time = s.time ∧ x.line = s.line := by subst hx; exact ⟨rfl, rfl, rfl⟩
  obtain ⟨hxlog, hxtime, hxline⟩ := hsame
  refine ⟨by rw [hlog, Part.makeRecord, Part.makeRecordAt_next, hxlog], ?_⟩
  refine Part.recorded_of_said (r := x.newRecord .fenceLocked .line x.line.state
    [((k.period / 4 : Nat) : Int), (k.period : Int), (k.tolerance : Int)]) (fun hroom => ?_) (by simp [Part.newRecord, hxlog])
    hxtime rfl rfl rfl (congrArg Line.state hxline) rfl
  rw [hlog, Part.makeRecord, Part.makeRecordAt_said _ _ _ _ (by rw [hxlog]; omega)]
  exact List.mem_append_right _ (List.mem_singleton_self _)

/-! ### The symbol, stage by stage -/

/-- The symbol is one of an IMPULSE raw class (R60). -/
def Part.impulseIn (s : Part) (d : DownSymbol) : Bool :=
  rawClassOf (loadedTones (s.line.downInForce.getD [])) d == .impulse

/-- The symbol counted and summed, and the event in progress formed (R60, R81). -/
def Part.counting (d : DownSymbol) (s : Part) : Part :=
  let erased := s.tracker.erases s.line.symbol
  { s with
    tracker := ((s.tracker.openWindow s.line.symbol).formEvent s.line.symbol (s.impulseIn d)).1
    monitor := s.monitor.count (rawClassOf (loadedTones (s.line.downInForce.getD [])) d) erased d.sync
    load := if erased then s.load else
      { s.load with periodSums := addSums s.load.periodSums d.snr, periodCount := s.load.periodCount + 1 } }

/-- The part with the symbol's event taken, ahead of the hand-on of its bytes. -/
def Part.tracked (d : DownSymbol) (s : Part) : Part :=
  if s.tracker.opens s.line.symbol (s.impulseIn d) && s.tracker.state != .idle then
    (s.counting d).takeEvent s.line.symbol
  else s.counting d

theorem Tracker.openWindow_event (t : Tracker) (y : Symbol) : (t.openWindow y).event = t.event := by
  rw [Tracker.openWindow_frame]

theorem Part.downstream_eq (d : DownSymbol) (s : Part) :
    s.downstream d = { (s.tracked d).handOn d.bytes (s.tracker.erases s.line.symbol) with
      line := ((s.tracked d).handOn d.bytes (s.tracker.erases s.line.symbol)).line.nextSymbol } := by
  have hopens : ((s.tracker.openWindow s.line.symbol).formEvent s.line.symbol (s.impulseIn d)).2 =
      s.tracker.opens s.line.symbol (s.impulseIn d) := by
    rw [Tracker.formEvent_opens, Tracker.opens, Tracker.openWindow_event]
    rfl
  unfold Part.tracked
  rw [← hopens]
  rfl

theorem Part.tracked_frame (d : DownSymbol) (s : Part) :
    s.tracked d = { s with
      tracker := (s.tracked d).tracker, monitor := (s.counting d).monitor, load := (s.counting d).load
      svc := (s.tracked d).svc, log := (s.tracked d).log, link := (s.tracked d).link } := by
  unfold Part.tracked
  split
  · rw [Part.takeEvent_frame]
    rfl
  · rfl

theorem Part.receiveVoice_frame (p : PortId) (bs : List Byte) (e : Bool) (s : Part) :
    s.receiveVoice p bs e = { s with voice := (s.receiveVoice p bs e).voice } := by
  unfold Part.receiveVoice
  split
  · split
    · cases p <;> rfl
    · rfl
  · rfl

/-- The management byte taken (R84). -/
def Service.takes (v : Service) (bytes : List Byte) (erased : Bool) : Service :=
  match bytes with
  | m :: _ => v.receiveByte m erased
  | [] => v

/-- The bytes handed on change the voice path, the service channel and the scheduler, each by its own bytes. -/
theorem Part.handOn_eq (bytes : List Byte) (e : Bool) (s : Part) :
    s.handOn bytes e = { s with
      voice := ((s.receiveVoice .a ((bytes.drop 1).take (s.alloc .a)) e).receiveVoice .b
        ((bytes.drop (1 + s.alloc .a)).take (s.alloc .b)) e).voice
      svc := s.svc.takes bytes e
      sched := ((bytes.take (s.capP.getD 0)).drop (1 + s.alloc .a + s.alloc .b)).foldl
        (Sched.dataByte s.dataOpen e) s.sched } := by
  unfold Part.handOn
  dsimp only
  rw [Part.receiveVoice_frame .b, Part.receiveVoice_frame .a]
  rfl

end Sys2Proof.Machine
end

section
/-! PROOFS. The sample times of the voice path, and the voice bytes of a downstream symbol (O55). -/

namespace Sys2Proof.Machine

theorem saturate_eq (x : Int) : saturate x = max (-4079) (min 4079 x) := rfl

theorem saturate_bounds (x : Int) : -4079 ≤ saturate x ∧ saturate x ≤ 4079 := by
  rw [saturate_eq]
  omega

theorem saturate_of_bounds {x : Int} (h1 : -4079 ≤ x) (h2 : x ≤ 4079) : saturate x = x := by
  rw [saturate_eq]
  omega

/-- A sounding phase's sample is held within its peak (R128). -/
theorem soundSample_natAbs (freq peak pos : Nat) : (soundSample freq peak pos).natAbs ≤ peak := by
  rw [soundSample, clamp_eq]
  omega

/-- The sample of a generator is silent or that of one of its phases. -/
theorem phaseAt_mem {pos k : Nat} {ps : List TonePhase} {snd : Option (Nat × Nat)} (h : phaseAt pos ps = some (k, snd)) :
    ∃ x ∈ ps, x.sound = snd := by
  induction ps generalizing pos with
  | nil => cases h
  | cons x xs ih =>
    unfold phaseAt at h
    split at h
    · obtain ⟨-, rfl⟩ := Prod.mk.inj (Option.some.inj h)
      exact ⟨x, List.mem_cons_self, rfl⟩
    · obtain ⟨y, hy, hsnd⟩ := ih h
      exact ⟨y, List.mem_cons_of_mem _ hy, hsnd⟩

theorem Generator.sample_cases (g : Generator) :
    g.sample = 0 ∨ ∃ x ∈ tonePhases g.kind g.peak, ∃ y pos, x.sound = some y ∧ g.sample = soundSample y.1 y.2 pos := by
  unfold Generator.sample
  dsimp only
  split
  · split
    · rename_i x xs hps
      cases hsound : x.sound with
      | none => exact .inl rfl
      | some y => exact .inr ⟨x, by rw [hps]; exact List.mem_cons_self, y, g.pos, hsound, rfl⟩
    · exact .inl rfl
  · split
    · rename_i k y hat
      obtain ⟨x, hx, hsound⟩ := phaseAt_mem hat
      exact .inr ⟨x, hx, y, k, hsound, rfl⟩
    · exact .inl rfl

/-- The sample lies within any bound on the peaks of its phases. -/
theorem Generator.sample_natAbs_le {g : Generator} {n : Nat}
    (h : ∀ x ∈ tonePhases g.kind g.peak, ∀ y, x.sound = some y → y.2 ≤ n) : g.sample.natAbs ≤ n := by
  rcases g.sample_cases with h0 | ⟨x, hx, y, pos, hsound, he⟩
  · rw [h0]
    exact Nat.zero_le n
  · rw [he]
    exact (soundSample_natAbs _ _ _).trans (h x hx y hsound)

theorem generator_samples (g : Generator) :
    (g.sample.natAbs : Int) ≤ max 1000 g.peak ∧ (g.kind = .silent → g.sample = 0) ∧
      (g.kind = .howler → g.sample.natAbs ≤ g.peak) ∧
      (g.kind = .ringback → g.sample.natAbs ≤ 700 ∧ (8000 ≤ g.pos % 24000 → g.sample = 0)) ∧
      (g.kind = .busy → 4000 ≤ g.pos % 8000 → g.sample = 0) := by
  refine ⟨?_, fun h => ?_, fun h => Generator.sample_natAbs_le ?_, fun h => ⟨Generator.sample_natAbs_le ?_, fun hpos => ?_⟩,
    fun h hpos => ?_⟩
  · have hbound : g.sample.natAbs ≤ max 1000 g.peak := by
      refine Generator.sample_natAbs_le fun x hx y hsound => ?_
      cases hk : g.kind <;> rw [hk] at hx <;> simp only [tonePhases, List.mem_cons, List.not_mem_nil, or_false] at hx
      all_goals
        rcases hx with rfl | rfl | rfl | rfl <;> simp at hsound
      all_goals
        subst hsound
        simp
    omega
  · simp [Generator.sample, h, tonePhases, sumNat]
  · rw [h]
    simp [tonePhases]
  · rw [h]
    simp [tonePhases]
  · have hlt : g.pos % 24000 < 24000 := Nat.mod_lt _ (by decide)
    simp only [Generator.sample, h, tonePhases, sumNat, List.map_cons, List.map_nil, List.foldr_cons, List.foldr_nil,
      Nat.reduceAdd, OfNat.ofNat_ne_zero, if_false, phaseAt]
    rw [if_neg (by omega), if_neg (by omega), if_neg (by omega), if_pos (by omega)]
  · have hlt : g.pos % 8000 < 8000 := Nat.mod_lt _ (by decide)
    simp only [Generator.sample, h, tonePhases, sumNat, List.map_cons, List.map_nil, List.foldr_cons, List.foldr_nil,
      Nat.reduceAdd, OfNat.ofNat_ne_zero, if_false, phaseAt]
    rw [if_neg (by omega), if_pos (by omega)]

/-- What a port's converter gives at a sample time (R118). -/
def Part.given (s : Part) (p : PortId) (x : Int) : Int := if (s.port p).state.converts then saturate x else 0

theorem Part.given_bounds (s : Part) (p : PortId) (x : Int) : -4079 ≤ s.given p x ∧ s.given p x ≤ 4079 := by
  unfold Part.given
  split
  · exact saturate_bounds x
  · decide

theorem Part.given_eq {s : Part} {p : PortId} {x : Int} (h1 : -4079 ≤ x) (h2 : x ≤ 4079) :
    s.given p x = if (s.port p).state.converts then x else 0 := by
  rw [Part.given, saturate_of_bounds h1 h2]

/-- Port A's channel is there and active. -/
def Voice.activeA (v : Voice) : Bool :=
  match v.chanA with
  | some c => c.active
  | none => false

theorem Voice.activeA_iff (v : Voice) : v.activeA = true ↔ v.chanA.map (·.active) = some true := by
  unfold Voice.activeA
  cases v.chanA <;> simp

/-- What a port with its converter on plays, by what it hears (R97, R125, R126). -/
theorem Part.playedTo_on {s : Part} {p : PortId} (h : (s.port p).state.converts = true) (line mate before : Int) :
    ((s.port p).heard = .silence → s.playedTo p line mate before = 0) ∧
      (∀ k, (s.port p).heard = .tone k → s.playedTo p line mate before = (s.gen p).sample) ∧
      ((s.port p).heard = .line → s.playedTo p line mate before =
        if s.voice.joinLink then saturate (line + mate) else line) ∧
      ((s.port p).heard = .otherPort → s.playedTo p line mate before =
        if (s.port p).state = .intercom then before else mate) := by
  unfold Part.playedTo
  dsimp only
  rw [if_neg (by rw [h]; decide)]
  refine ⟨fun he => ?_, fun k he => ?_, fun he => ?_, fun he => ?_⟩ <;> rw [he]

theorem Part.playedTo_off {s : Part} {p : PortId} (h : (s.port p).state.converts = false) (line mate before : Int) :
    s.playedTo p line mate before = 0 := by
  unfold Part.playedTo
  dsimp only
  rw [if_pos (by rw [h]; decide)]

/-- The voice path after a sample time. -/
def Part.sampled (s : Part) (x y : Int) : Voice :=
  { s.voice with
    playA := s.playedTo .a (s.voice.lineA.headD 0) (s.given .b y) s.voice.micB.2
    playB := s.playedTo .b (if s.voice.joinLink then s.voice.lineA.headD 0 else s.voice.lineB.headD 0) (s.given .a x)
      s.voice.micA.2
    micA := (s.voice.micA.2, s.given .a x)
    micB := (s.voice.micB.2, s.given .b y)
    upA := (s.voice.upA.2,
      if s.voice.joinLink && s.voice.activeA then saturate (s.given .a x + s.given .b y) else s.given .a x)
    upB := (s.voice.upB.2, s.given .b y)
    lineA := s.voice.lineA.tail
    lineB := s.voice.lineB.tail
    genA := if s.portA.state.converts then s.voice.genA.tick else s.voice.genA
    genB := if s.portB.state.converts then s.voice.genB.tick else s.voice.genB }

theorem Part.sampleTime_eq (s : Part) (x y : Int) : s.sampleTime x y = { s with voice := s.sampled x y } := rfl

/-- The sample time's voice path (R118, R124 to R126, R128). -/
theorem Part.sampled_spec (p : Part) {a b : Int} (ha1 : -4079 ≤ a) (ha2 : a ≤ 4079) (hb1 : -4079 ≤ b) (hb2 : b ≤ 4079) :
    let mix (y z : Int) : Int := max (-4079) (min 4079 (y + z))
    let sa := if p.portA.state.converts then a else 0
    let sb := if p.portB.state.converts then b else 0
    let v := p.sampled a b
    v.micA.2 = sa ∧ v.micB.2 = sb ∧
      (((-4079 ≤ p.voice.upA.2 ∧ p.voice.upA.2 ≤ 4079) → -4079 ≤ v.upA.1 ∧ v.upA.1 ≤ 4079) ∧
        -4079 ≤ v.upA.2 ∧ v.upA.2 ≤ 4079 ∧ -4079 ≤ v.upB.2 ∧ v.upB.2 ≤ 4079) ∧
      v.upA.1 = p.voice.upA.2 ∧ v.upB.1 = p.voice.upB.2 ∧ v.upB.2 = sb ∧
      v.upA.2 = (if p.voice.joinLink = true ∧ p.voice.chanA.map (·.active) = some true then mix sa sb else sa) ∧
      (p.portA.state = .disabled ∨ p.portA.state = .through → v.playA = 0 ∧ sa = 0) ∧
      (p.portB.state = .disabled ∨ p.portB.state = .shed → v.playB = 0 ∧ v.upB.2 = 0) ∧
      (p.portA.state.converts = true →
        (p.portA.heard = .silence → v.playA = 0) ∧
        (∀ k, p.portA.heard = .tone k → v.playA = (p.gen .a).sample) ∧
        (p.portA.heard = .line → v.playA =
          if p.voice.joinLink then mix (p.voice.lineA.headD 0) sb else p.voice.lineA.headD 0) ∧
        (p.portA.heard = .otherPort → v.playA = if p.portA.state = .intercom then p.voice.micB.2 else sb)) ∧
      (p.portB.state.converts = true →
        (p.portB.heard = .silence → v.playB = 0) ∧
        (∀ k, p.portB.heard = .tone k → v.playB = (p.gen .b).sample) ∧
        (p.portB.heard = .line → v.playB =
          if p.voice.joinLink then mix (p.voice.lineA.headD 0) sa else p.voice.lineB.headD 0) ∧
        (p.portB.heard = .otherPort → v.playB = if p.portB.state = .intercom then p.voice.micA.2 else sa)) := by
  intro mix sa sb v
  have hsa : p.given .a a = sa := Part.given_eq ha1 ha2
  have hsb : p.given .b b = sb := Part.given_eq hb1 hb2
  have hup : v.upA.2 = if p.voice.joinLink && p.voice.activeA then saturate (p.given .a a + p.given .b b)
      else p.given .a a := rfl
  have hplayA : v.playA = p.playedTo .a (p.voice.lineA.headD 0) (p.given .b b) p.voice.micB.2 := rfl
  have hplayB : v.playB = p.playedTo .b (if p.voice.joinLink then p.voice.lineA.headD 0 else p.voice.lineB.headD 0)
      (p.given .a a) p.voice.micA.2 := rfl
  refine ⟨hsa, hsb, ⟨fun h => h, ?_, ?_, Part.given_bounds _ _ _⟩, rfl, rfl, hsb, ?_, fun h => ?_, fun h => ?_,
    fun h => ?_, fun h => ?_⟩
  · rw [hup]
    split
    · exact (saturate_bounds _).1
    · exact (p.given_bounds .a a).1
  · rw [hup]
    split
    · exact (saturate_bounds _).2
    · exact (p.given_bounds .a a).2
  · simp only [hup, hsa, hsb, Bool.and_eq_true, Voice.activeA_iff, saturate_eq]
    rfl
  · have hoff : p.portA.state.converts = false := by rcases h with h | h <;> rw [h] <;> rfl
    exact ⟨hplayA.trans (Part.playedTo_off (p := .a) hoff _ _ _), if_neg (by rw [hoff]; decide)⟩
  · have hoff : p.portB.state.converts = false := by rcases h with h | h <;> rw [h] <;> rfl
    exact ⟨hplayB.trans (Part.playedTo_off (p := .b) hoff _ _ _), hsb.trans (if_neg (by rw [hoff]; decide))⟩
  · rw [hplayA, hsb]
    exact Part.playedTo_on (p := .a) h _ _ _
  · rw [hplayB, hsa]
    obtain ⟨h1, h2, h3, h4⟩ := Part.playedTo_on (p := .b) h
      (if p.voice.joinLink then p.voice.lineA.headD 0 else p.voice.lineB.headD 0) sa p.voice.micA.2
    refine ⟨h1, h2, fun he => (h3 he).trans ?_, h4⟩
    split <;> rfl

/-! ### The voice bytes of a downstream symbol -/

/-- The line's samples that wait for a port. -/
def Voice.lineOf (v : Voice) : PortId → List Int
  | .a => v.lineA
  | .b => v.lineB

/-- A port's count of concealed symbols. -/
def Voice.concealedOf (v : Voice) : PortId → Nat
  | .a => v.concealedA
  | .b => v.concealedB

/-- Where a port's voice bytes begin in a downstream symbol (R136). -/
def Part.voiceFrom (s : Part) : PortId → Nat
  | .a => 1
  | .b => 1 + s.alloc .a

/-- The pair a live active channel has from a symbol's bytes (R120, R127). -/
def Channel.pairOf (c : Channel) (bs : List Byte) (erased : Bool) : Int × Int :=
  if erased then (if 2 ≤ c.erasedRun then (0, 0) else (c.last.1.tdiv 2, c.last.2.tdiv 2))
  else match c.mode with
    | .full => ((Code.ofByte (bs.getD 0 0)).expand, (Code.ofByte (bs.getD 1 0)).expand)
    | .half => ((Code.ofHalf ((bs.getD 0 0).extractLsb' 4 4)).expand, (Code.ofHalf ((bs.getD 0 0).extractLsb' 0 4)).expand)

theorem Channel.after_eq (c : Channel) (bs : List Byte) (erased : Bool) :
    (if erased then c.conceal else c.receive bs) =
      { c with erasedRun := if erased then min 3 (c.erasedRun + 1) else 0, last := c.pairOf bs erased } := by
  cases erased with
  | false =>
    unfold Channel.receive Channel.pairOf voicePair
    cases c.mode <;> rfl
  | true =>
    unfold Channel.conceal Channel.pairOf
    dsimp only
    by_cases h : 2 ≤ c.erasedRun
    · rw [if_neg (show ¬ min 3 (c.erasedRun + 1) < 3 by omega), if_pos rfl, if_pos rfl, if_pos rfl, if_pos h]
    · rw [if_pos (show min 3 (c.erasedRun + 1) < 3 by omega), if_pos rfl, if_pos rfl, if_pos rfl, if_neg h]

/-- One port's voice bytes: its channel, its line samples and its concealed count (R120, R127). -/
theorem Part.receiveVoice_live {s : Part} {x : PortId} {c : Channel} (bs : List Byte) (erased : Bool)
    (hc : s.chan x = some c) (hlive : s.slot x = .live) (hactive : c.active = true) :
    (s.receiveVoice x bs erased).chan x =
        some { c with erasedRun := if erased then min 3 (c.erasedRun + 1) else 0, last := c.pairOf bs erased } ∧
      (s.receiveVoice x bs erased).voice.lineOf x =
        [(c.pairOf bs erased).1, (c.pairOf bs erased).2] ∧
      (s.receiveVoice x bs erased).voice.concealedOf x =
        min 4294967295 (s.voice.concealedOf x +
          if erased then 1 else 0) := by
  unfold Part.receiveVoice
  rw [hc, hlive]
  dsimp only
  rw [if_pos hactive, Channel.after_eq]
  cases x <;> exact ⟨rfl, rfl, rfl⟩

/-- The other port's bytes touch nothing of this port's voice. -/
theorem Part.receiveVoice_other (s : Part) (x : PortId) (bs : List Byte) (erased : Bool) :
    (s.receiveVoice (other x) bs erased).chan x = s.chan x ∧
      (s.receiveVoice (other x) bs erased).voice.lineOf x =
        s.voice.lineOf x ∧
      (s.receiveVoice (other x) bs erased).voice.concealedOf x =
        s.voice.concealedOf x := by
  unfold Part.receiveVoice
  split
  · split
    · cases x <;> exact ⟨rfl, rfl, rfl⟩
    · exact ⟨rfl, rfl, rfl⟩
  · exact ⟨rfl, rfl, rfl⟩

/-- A symbol's voice bytes reach its channel (R120, R127, R136). -/
theorem Part.downstream_voice {s : Part} {x : PortId} {c : Channel} (d : DownSymbol)
    (hc : s.chan x = some c) (hlive : s.slot x = .live) (hactive : c.active = true) :
    let erased := s.tracker.erases s.line.symbol
    let bs := (d.bytes.drop (s.voiceFrom x)).take c.mode.bytes
    (s.downstream d).chan x =
        some { c with erasedRun := if erased then min 3 (c.erasedRun + 1) else 0, last := c.pairOf bs erased } ∧
      (s.downstream d).voice.lineOf x =
        [(c.pairOf bs erased).1, (c.pairOf bs erased).2] ∧
      (s.downstream d).voice.concealedOf x =
        min 4294967295 (s.voice.concealedOf x +
          if erased then 1 else 0) := by
  intro erased bs
  generalize hz : s.tracked d = z
  have hsame : z.voice = s.voice ∧ z.sched = s.sched := by
    rw [← hz, Part.tracked_frame]
    exact ⟨rfl, rfl⟩
  obtain ⟨hvoice, hsched⟩ := hsame
  have hchan (y : PortId) : z.chan y = s.chan y := by cases y <;> simp only [Part.chan, hvoice]
  have hslot (y : PortId) : z.slot y = s.slot y := by cases y <;> simp only [Part.slot, hsched]
  have halloc (y : PortId) : z.alloc y = s.alloc y := by simp only [Part.alloc, Part.view, hchan, hslot]
  have hbytes : s.alloc x = c.mode.bytes := by
    simp only [Part.alloc, Part.view, hc, hlive]
    simp [demandOf, hactive]
  have hdown : (s.downstream d).voice = ((z.receiveVoice .a ((d.bytes.drop 1).take (s.alloc .a)) erased).receiveVoice .b
      ((d.bytes.drop (1 + s.alloc .a)).take (s.alloc .b)) erased).voice := by
    rw [Part.downstream_eq, Part.handOn_eq, hz, halloc, halloc]
  have hread : (s.downstream d).chan x = ((z.receiveVoice .a ((d.bytes.drop 1).take (s.alloc .a)) erased).receiveVoice .b
      ((d.bytes.drop (1 + s.alloc .a)).take (s.alloc .b)) erased).chan x := by
    cases x <;> simp only [Part.chan, hdown]
  rw [hread]
  simp only [hdown]
  cases x with
  | a =>
    obtain ⟨h1, h2, h3⟩ := Part.receiveVoice_other
      (z.receiveVoice .a ((d.bytes.drop 1).take (s.alloc .a)) erased) .a
      ((d.bytes.drop (1 + s.alloc .a)).take (s.alloc .b)) erased
    obtain ⟨g1, g2, g3⟩ := Part.receiveVoice_live (s := z) (x := .a) ((d.bytes.drop 1).take (s.alloc .a)) erased
      ((hchan .a).trans hc) ((hslot .a).trans hlive) hactive
    rw [hbytes] at h1 h2 h3 g1 g2 g3 ⊢
    rw [hvoice] at g3
    exact ⟨h1.trans g1, h2.trans g2, h3.trans g3⟩
  | b =>
    obtain ⟨h1, h2, h3⟩ := Part.receiveVoice_other z .b ((d.bytes.drop 1).take (s.alloc .a)) erased
    rw [show other .b = .a from rfl] at h1 h2 h3
    generalize hy : z.receiveVoice .a ((d.bytes.drop 1).take (s.alloc .a)) erased = y at *
    have hyslot : y.slot .b = s.slot .b := by
      rw [← hy, Part.receiveVoice_frame]
      exact hslot .b
    obtain ⟨g1, g2, g3⟩ := Part.receiveVoice_live (s := y) (x := .b) ((d.bytes.drop (1 + s.alloc .a)).take (s.alloc .b))
      erased ((h1.trans (hchan .b)).trans hc) (hyslot.trans hlive) hactive
    rw [hbytes] at g1 g2 g3 ⊢
    rw [h3, hvoice] at g3
    exact ⟨g1, g2, g3⟩

/-- Settles O55: the sample time by its equation, the tones by their phases, and the voice bytes through the symbol. -/
theorem sampleTimesPlayAndMix : Obligations.SampleTimesPlayAndMix := by
  refine ⟨fun s a b hrun ha1 ha2 hb1 hb2 => ?_, generator_samples, fun s d erased x hrun hs => ?_⟩
  · exact ⟨s.part.sampled a b, completes_of (o := execSampleTime a b s) rfl rfl hrun rfl, rfl, rfl, rfl, rfl, rfl, rfl,
      Part.sampled_spec s.part ha1 ha2 hb1 hb2⟩
  · intro p hclear herased c hc hlive hactive bs pair
    have her : p.tracker.erases p.line.symbol = erased := by
      cases erased with
      | false => exact Tracker.erases_closed (hclear rfl).2 fun h => absurd h (hclear rfl).1
      | true =>
        obtain ⟨w, hw, hin⟩ := herased rfl
        rw [Tracker.erases_open hw]
        exact decide_eq_true hin
    have hdown := Part.downstream_voice d hc hlive hactive
    rw [her] at hdown
    refine ⟨_, completes_of (o := execDownstreamSymbol d s) rfl rfl hrun (if_pos hs), ?_⟩
    cases x <;> exact hdown

end Sys2Proof.Machine
end

section
/-! SUPPORT. A drop from service (R34, R36): the part as its record is made, and what settles behind it. -/

namespace Sys2Proof.Machine

/-- The line after a drop from service (R34). -/
def Line.droppedOnce (l : Line) : Line := { l.rest .dropped with attempts := 1, holdoff := some 1000 }

/-- The part at a drop as its record is made: snapshot, line and queues (R34, R36). -/
def Part.droppedWith (c : Cause) (s : Part) : Part := (s.writeSnapshot c).restedAs .dropped s.line.droppedOnce

/-- The record of a drop made (R34). -/
def Part.dropRecorded (c : Cause) (s : Part) : Part :=
  (s.droppedWith c).makeRecordAt .lineDrop .line s.line.state (s.snapshotOf c).dropDetails

/-- The part at a drop once queues, message in arrival and record in flight are dealt with, ahead of the ports (R135, R145,
R155). -/
def Part.droppedFrom (c : Cause) (s : Part) : Part :=
  Part.logLeavesService { s.dropRecorded c with
    sched := (s.dropRecorded c).sched.flush, svc := (s.dropRecorded c).svc.cut true }

/-- A drop outside CUTOFF (R34, R103). -/
theorem Part.dropLine_eq {s : Part} (c : Cause) (hs : s.inService = true) (hcut : s.supply.state ≠ .cutoff) :
    s.dropLine c = (s.droppedFrom c).portsLeaveService.postLine s.line.state (some c) [] := by
  have hleave (z : Part) : z.afterLeaving s.line.state =
      (Part.logLeavesService { z with sched := z.sched.flush, svc := z.svc.cut true }).portsLeaveService := by
    unfold Part.afterLeaving
    exact if_pos hs
  have hstay (z : Part) (hz : z.supply.state = s.supply.state) : Part.proceedIfReporting s z = z := by
    unfold Part.proceedIfReporting
    refine if_neg fun h => hcut ?_
    simp only [Bool.and_eq_true, beq_iff_eq] at h
    rw [← hz]
    exact h.1.2
  have hwhole : s.dropLine c = Part.proceedIfReporting s
      (((s.dropRecorded c).afterLeaving s.line.state).postLine s.line.state (some c) []) := rfl
  rw [hwhole, hleave, hstay]
  · rfl
  · have hsup : (s.droppedFrom c).supply = s.supply := by
      unfold Part.droppedFrom Part.logLeavesService
      split
      · simp [Part.dropRecorded, Part.droppedWith, Part.restedAs, Part.restLine, Part.writeSnapshot]
      · simp [Part.dropRecorded, Part.droppedWith, Part.restedAs, Part.restLine, Part.writeSnapshot]
      · split <;> simp [Part.dropRecorded, Part.droppedWith, Part.restedAs, Part.restLine, Part.writeSnapshot]
    have hports := (s.droppedFrom c).portsLeaveService_supply
    exact congrArg Supply.state (hports.trans hsup)

/-- The log and the scheduler alone change as the log leaves service. -/
theorem Part.logLeavesService_frame (s : Part) :
    s.logLeavesService = { s with
      log := s.logLeavesService.log, sched := { s.sched with lastReport := s.logLeavesService.sched.lastReport } } := by
  unfold Part.logLeavesService
  split
  · rfl
  · rfl
  · split <;> rfl

theorem Part.logLeavesService_log (s : Part) :
    s.logLeavesService.log.said = s.log.said ∧ s.logLeavesService.log.next = s.log.next := by
  unfold Part.logLeavesService
  split
  · dsimp only
    split
    · exact ⟨Log.modify_said _ _ _ fun _ => rfl, rfl⟩
    · exact ⟨rfl, rfl⟩
  · exact ⟨rfl, rfl⟩
  · split
    · exact ⟨rfl, rfl⟩
    · refine ⟨Log.settle_said _, ?_⟩
      unfold Log.settle
      split <;> rfl

theorem Part.logLeavesService_lastReport (s : Part) : s.logLeavesService.sched.lastReport = none := by
  unfold Part.logLeavesService
  split
  · rfl
  · rfl
  · split <;> assumption

/-- The blocks of a part that a drop from service settles without the ports (R34, R36, R40, R80, R145). -/
theorem Part.droppedFrom_fields (c : Cause) (s : Part) :
    (s.droppedFrom c).line = s.line.droppedOnce ∧ (s.droppedFrom c).snapshot = some (s.snapshotOf c) ∧
      (s.droppedFrom c).link.snapshotNew = true ∧
      (s.droppedFrom c).band = { s.band with offeredMap := none, mapInForce := none } ∧
      (s.droppedFrom c).load = { s.load with offeredProfile := none, periodSums := [], periodCount := 0 } ∧
      (s.droppedFrom c).monitor = .initial ∧ (s.droppedFrom c).tracker = .initial ∧
      (s.droppedFrom c).supply = s.supply ∧ (s.droppedFrom c).access = s.access ∧
      (s.droppedFrom c).diag = s.diag ∧ (s.droppedFrom c).portA = s.portA ∧ (s.droppedFrom c).portB = s.portB ∧
      (s.droppedFrom c).voice = s.voice ∧ (s.droppedFrom c).running = s.running ∧
      (s.droppedFrom c).sched = { Sched.flush { s.sched with burst := ⟨[], none⟩ } with lastReport := none } ∧
      (s.droppedFrom c).svc.outQ = [] := by
  have hsvc : (s.dropRecorded c).svc.outQ = [] := by
    unfold Part.dropRecorded
    rw [Part.makeRecordAt_svc_outOfService rfl]
    rfl
  have hsched : (s.dropRecorded c).sched = { s.sched with burst := ⟨[], none⟩ } := by
    simp [Part.dropRecorded, Part.droppedWith, Part.restedAs, Part.restLine, Part.writeSnapshot]
  have hnew : (s.dropRecorded c).link.snapshotNew = true := by
    unfold Part.dropRecorded
    rw [Part.makeRecordAt_link, Link.post_snapshotNew]
    rfl
  have hframe := Part.logLeavesService_frame { s.dropRecorded c with
    sched := (s.dropRecorded c).sched.flush, svc := (s.dropRecorded c).svc.cut true }
  have hreport := Part.logLeavesService_lastReport { s.dropRecorded c with
    sched := (s.dropRecorded c).sched.flush, svc := (s.dropRecorded c).svc.cut true }
  unfold Part.droppedFrom
  rw [hframe]
  refine ⟨?_, ?_, hnew, ?_, ?_, ?_, ?_, ?_, ?_, ?_, ?_, ?_, ?_, ?_, ?_, hsvc⟩
  rotate_left 13
  · rw [hreport]
    exact congrArg (fun d : Sched => { d.flush with lastReport := none }) hsched
  all_goals simp [Part.dropRecorded, Part.droppedWith, Part.restedAs, Part.restLine, Part.writeSnapshot]

/-- The record of a drop, its number and its words (R34, R149). -/
theorem Part.droppedFrom_recorded {s q : Part} (c : Cause) (hnext : q.log.next = (s.droppedFrom c).log.next)
    (hsaid : q.log.said = (s.droppedFrom c).log.said) :
    q.log.next = s.log.next + 1 ∧
      s.recorded q 0 1 .lineDrop .major .line s.line.state (s.snapshotOf c).dropDetails := by
  obtain ⟨hlsaid, hlnext⟩ := Part.logLeavesService_log { s.dropRecorded c with
    sched := (s.dropRecorded c).sched.flush, svc := (s.dropRecorded c).svc.cut true }
  have hrnext : (s.dropRecorded c).log.next = s.log.next + 1 := Part.makeRecordAt_next _ _ _ _ _
  refine ⟨hnext.trans (hlnext.trans hrnext), ?_⟩
  refine Part.recorded_of_said (r := (s.droppedWith c).newRecord .lineDrop .line s.line.state
    (s.snapshotOf c).dropDetails) (fun hroom => ?_) (by simp [Part.newRecord]; rfl) rfl rfl rfl rfl rfl rfl
  have hrsaid : (s.dropRecorded c).log.said = s.log.said ++ [((s.droppedWith c).newRecord .lineDrop .line s.line.state
      (s.snapshotOf c).dropDetails).said] :=
    Part.makeRecordAt_said _ _ _ _ (show s.log.records.length < 32 by omega)
  rw [hsaid]
  refine hlsaid.symm ▸ ?_
  show _ ∈ (s.dropRecorded c).log.said
  rw [hrsaid]
  exact List.mem_append_right _ (List.mem_singleton_self _)

/-- A drop outside CUTOFF, settled: the ground of the drop with the relay where R187 drives it, its service channel and its
log. -/
theorem Part.dropLine_settled {s : Part} (c : Cause) (hs : s.inService = true) (hcut : s.supply.state ≠ .cutoff) :
    (s.dropLine c).settle.ground = { (s.droppedFrom c).ground with
        supply := { s.supply with relay := (s.dropLine c).relayTarget } } ∧
      (s.dropLine c).settle.svc = (s.droppedFrom c).svc ∧ (s.dropLine c).settle.log = (s.droppedFrom c).log := by
  obtain ⟨hline, -, -, -, -, -, -, hsupply, -⟩ := s.droppedFrom_fields c
  have hx := Part.dropLine_eq c hs hcut
  have hground : (s.dropLine c).ground = (s.droppedFrom c).ground := by
    rw [hx, Part.postLine, Part.post_ground, Part.portsLeaveService_ground]
  have hxline : (s.dropLine c).line = s.line.droppedOnce := (Part.line_of_ground hground).trans hline
  have hxsupply : (s.dropLine c).supply = s.supply := (Part.supply_of_ground hground).trans hsupply
  have hmay : (s.dropLine c).mayStart = false := Part.mayStart_of_notPending (by rw [hxline]; rfl)
  have hout : (s.droppedFrom c).inService = false := by rw [Part.inService, hline]; rfl
  have houtbound : (s.dropLine c).settle.outbound = (s.droppedFrom c).outbound := by
    rw [Part.settle_outbound_waiting hmay, hx, Part.postLine, Part.post_outbound, Part.portsLeaveService_outbound]
  refine ⟨?_, Part.svc_log_of_outbound houtbound hout⟩
  rw [Part.settle_ground_waiting hmay, hground, hxsupply]

end Sys2Proof.Machine
end

section
/-! PROOFS. The frames of the stream port, both ways, and the service bytes received (O45). -/

namespace Sys2Proof.Machine

/-! ### A symbol whose event makes no record -/

/-- The tracker of a symbol counted: the window that may open, and the event in progress. -/
theorem Part.counting_tracker (d : DownSymbol) (s : Part) :
    ∃ ev, (s.counting d).tracker =
        { s.tracker with window := (s.tracker.openWindow s.line.symbol).window, event := ev } ∧
      (s.tracker.opens s.line.symbol (s.impulseIn d) = true → ev = some (s.line.symbol, s.line.symbol)) := by
  refine ⟨(s.counting d).tracker.event, ?_, fun h => ?_⟩
  · have hform := Tracker.formEvent_frame (s.tracker.openWindow s.line.symbol) s.line.symbol (s.impulseIn d)
    exact Eq.trans hform (congrArg (fun t : Tracker => { t with event := (s.counting d).tracker.event })
      (Tracker.openWindow_frame s.tracker s.line.symbol))
  · have hopened := Tracker.formEvent_opened (t := s.tracker.openWindow s.line.symbol) (y := s.line.symbol)
      (impulse := s.impulseIn d) (by
        rw [Tracker.opens, Tracker.openWindow_event]
        exact h)
    exact congrArg Tracker.event hopened

/-- An event that neither gains nor loses the lock touches the tracker alone. -/
theorem Part.takeEvent_quiet {s : Part} {y : Symbol}
    (hsearch : s.tracker.state = .searching → lockTest (enterHistory s.tracker.history y) = none)
    (hlock : s.tracker.state = .locked → s.tracker.inWindow y = true) :
    s.takeEvent y = { s with tracker := (s.takeEvent y).tracker } := by
  unfold Part.takeEvent
  dsimp only
  split
  · rfl
  · rename_i hstate
    rw [hsearch hstate]
  · rename_i hstate
    have hin : Tracker.inWindow { s.tracker with history := enterHistory s.tracker.history y } y = true := hlock hstate
    rw [if_pos hin]
    split <;> rfl

/-- A symbol whose event makes no record leaves the service channel, the log and the link alone until its bytes are handed
on. -/
theorem Part.tracked_quiet {s : Part} (d : DownSymbol)
    (hsearch : s.tracker.state = .searching → s.tracker.opens s.line.symbol (s.impulseIn d) = true →
      lockTest (enterHistory s.tracker.history s.line.symbol) = none)
    (hlock : s.tracker.state = .locked → s.tracker.opens s.line.symbol (s.impulseIn d) = true →
      s.tracker.erases s.line.symbol = true) :
    (s.tracked d).svc = s.svc ∧ (s.tracked d).log = s.log ∧ (s.tracked d).link = s.link := by
  unfold Part.tracked
  split
  · rename_i h
    obtain ⟨hopens, -⟩ := Bool.and_eq_true_iff.1 h
    obtain ⟨ev, htracker, -⟩ := s.counting_tracker d
    rw [Part.takeEvent_quiet (s := s.counting d) (y := s.line.symbol)]
    · exact ⟨rfl, rfl, rfl⟩
    · rw [htracker]
      exact fun hstate => hsearch hstate hopens
    · rw [htracker]
      exact fun hstate => hlock hstate hopens
  · exact ⟨rfl, rfl, rfl⟩

theorem enterHistory_eq (h : List Symbol) (y : Symbol) : enterHistory h y = (h ++ [y]).drop (h.length + 1 - 8) := by
  simp [enterHistory]

/-! ### The management byte -/

/-- The management byte taken between messages, at the end of one, and within one (R20, R84). -/
theorem Service.receiveByte_cases (v : Service) (m : Byte) (erased : Bool) :
    let bs := v.rx.1 ++ [m]
    let mark := v.rx.2 || erased
    (v.rx.1 = [] → m = 0 → v.receiveByte m erased = v) ∧
      (¬ (v.rx.1 = [] ∧ m = 0) → 3 ≤ bs.length → bs.length = 3 + (bs.getD 1 0).toNat →
        (v.receiveByte m erased).rx = ([], false) ∧
          (v.receiveByte m erased).rxDone = some (bs, !mark && bs.foldr (· + ·) 0 == 0)) ∧
      (¬ (v.rx.1 = [] ∧ m = 0) → (bs.length < 3 ∨ bs.length ≠ 3 + (bs.getD 1 0).toNat) →
        (v.receiveByte m erased).rx = (bs, mark) ∧ (v.receiveByte m erased).rxDone = v.rxDone) := by
  intro bs mark
  have hguard : (v.rx.1.isEmpty && m == 0) = true ↔ v.rx.1 = [] ∧ m = 0 := by
    rw [Bool.and_eq_true, List.isEmpty_iff, beq_iff_eq]
  unfold Service.receiveByte
  refine ⟨fun h1 h2 => if_pos (hguard.2 ⟨h1, h2⟩), fun hno h3 hlen => ?_, fun hno hlen => ?_⟩
  · rw [if_neg fun h => hno (hguard.1 h)]
    dsimp only
    rw [if_pos ⟨h3, hlen⟩]
    exact ⟨rfl, rfl⟩
  · rw [if_neg fun h => hno (hguard.1 h)]
    dsimp only
    rw [if_neg fun h => hlen.elim (fun hlt => absurd h.1 (Nat.not_le.2 hlt)) fun hne => hne h.2]
    exact ⟨rfl, rfl⟩

/-! ### The frame records downstream -/

/-- Within a frame every byte joins it, the last completes it (R146). -/
theorem dataBytes_body (isOpen erased : Bool) (len : Nat) (d : Sched) (bs rest : List Byte)
    (hlen : bs.length + rest.length = len) (hrest : rest ≠ []) :
    rest.foldl (Sched.dataByte isOpen erased) { d with assembly := .body len bs erased } =
      Sched.frameDone { d with assembly := .idle } isOpen (bs ++ rest) erased := by
  induction rest generalizing bs with
  | nil => exact absurd rfl hrest
  | cons b rest ih =>
    have hstep : Sched.dataByte isOpen erased { d with assembly := .body len bs erased } b =
        if len ≤ (bs ++ [b]).length then Sched.frameDone { d with assembly := .idle } isOpen (bs ++ [b]) erased
        else { d with assembly := .body len (bs ++ [b]) erased } := by
      unfold Sched.dataByte
      dsimp only
      rw [Bool.or_self]
    rw [List.foldl_cons, hstep]
    cases rest with
    | nil =>
      rw [if_pos (by simpa using hlen.ge)]
      rfl
    | cons c rest =>
      rw [if_neg (by simp at hlen ⊢; omega), ih (bs ++ [b]) (by simpa [Nat.add_assoc, Nat.add_comm 1] using hlen) nofun]
      simp

/-- The two length bytes of a record (R144). -/
theorem bytes16_toNat (n : Nat) (h : n < 65536) :
    ∃ hi lo : Byte, bytes16 (BitVec.ofNat 16 n) = [hi, lo] ∧ hi.toNat * 256 + lo.toNat = n := by
  refine ⟨_, _, rfl, ?_⟩
  simp only [BitVec.extractLsb'_toNat, BitVec.toNat_ofNat, Nat.shiftRight_eq_div_pow]
  omega

/-- A whole frame record at an idle assembly (R146). -/
theorem dataBytes_record (d : Sched) (isOpen erased : Bool) (f : List Byte) (hd : d.assembly = .idle)
    (h64 : 64 ≤ f.length) (h1536 : f.length ≤ 1536) :
    (frameRecord f).foldl (Sched.dataByte isOpen erased) d = d.frameDone isOpen f erased := by
  obtain ⟨hi, lo, hbytes, hlen⟩ := bytes16_toNat f.length (by omega)
  have hhi : hi ≠ 255 := by
    rintro rfl
    have h255 : (255 : Byte).toNat = 255 := rfl
    omega
  have hfirst : Sched.dataByte isOpen erased d hi = { d with assembly := .high hi erased } := by
    unfold Sched.dataByte
    rw [hd]
    exact if_neg hhi
  have hsecond : Sched.dataByte isOpen erased { d with assembly := .high hi erased } lo =
      { d with assembly := .body f.length [] erased } := by
    unfold Sched.dataByte
    dsimp only
    rw [hlen, if_pos ⟨h64, h1536⟩, Bool.or_self]
  rw [frameRecord, hbytes, List.cons_append, List.cons_append, List.nil_append, List.foldl_cons, List.foldl_cons, hfirst,
    hsecond, dataBytes_body isOpen erased f.length d [] f (by simp) (by rintro rfl; cases h64), List.nil_append]
  congr 1
  rw [← hd]

/-- Past a length out of range the assembly skips to the next fill value (R146). -/
theorem dataBytes_skip (isOpen erased : Bool) (d : Sched) (rest : List Byte) (hrest : ∀ b ∈ rest, b ≠ 255) :
    rest.foldl (Sched.dataByte isOpen erased) { d with assembly := .skip } = { d with assembly := .skip } := by
  induction rest with
  | nil => rfl
  | cons b rest ih =>
    have hstep : Sched.dataByte isOpen erased { d with assembly := .skip } b = { d with assembly := .skip } := by
      unfold Sched.dataByte
      exact if_neg (hrest b List.mem_cons_self)
    rw [List.foldl_cons, hstep]
    exact ih fun c hc => hrest c (List.mem_cons_of_mem _ hc)

/-! ### The symbol's bytes in the scheduler and the service channel -/

/-- The data bytes of a symbol go to the assembly, and its management byte to the service channel (R84, R146). -/
theorem Part.downstream_bytes {s : Part} (d : DownSymbol)
    (hquiet : (s.tracked d).svc = s.svc ∧ (s.tracked d).log = s.log ∧ (s.tracked d).link = s.link) :
    (s.downstream d).sched = ((d.bytes.take (s.capP.getD 0)).drop (1 + s.alloc .a + s.alloc .b)).foldl
        (Sched.dataByte s.dataOpen (s.tracker.erases s.line.symbol)) s.sched ∧
      (s.downstream d).svc = s.svc.takes d.bytes (s.tracker.erases s.line.symbol) := by
  obtain ⟨hsvc, -, hlink⟩ := hquiet
  generalize hz : s.tracked d = z at hsvc hlink
  have hsame : z.voice = s.voice ∧ z.sched = s.sched ∧ z.supply = s.supply ∧ z.line = s.line := by
    rw [← hz, Part.tracked_frame]
    exact ⟨rfl, rfl, rfl, rfl⟩
  obtain ⟨hvoice, hsched, hsupply, hline⟩ := hsame
  have halloc (y : PortId) : z.alloc y = s.alloc y := by
    cases y <;> simp only [Part.alloc, Part.view, Part.chan, Part.slot, hvoice, hsched]
  have hopen : z.dataOpen = s.dataOpen := by simp only [Part.dataOpen, hsupply, hlink]
  have hcap : z.capP = s.capP := by simp only [Part.capP, hline]
  rw [Part.downstream_eq, Part.handOn_eq, hz, halloc, halloc, hopen, hcap, hsched, hsvc]
  exact ⟨rfl, rfl⟩

/-! ### The stream port's events -/

/-- The last byte of a frame at an open port in service, neither cut off nor doomed (R143). -/
theorem Part.frameEnds_open {p : Part} (f : List Byte) (ha : p.sched.arrival = .idle ∨ p.sched.arrival = .begun)
    (hs : p.inService = true) (hopen : p.dataOpen = true) :
    p.frameEnds f =
      if f.length < 64 ∨ 1536 < f.length then
        { p with sched := { p.sched with
          arrival := .idle, framesRefused := min 4294967295 (p.sched.framesRefused + 1) } }
      else if 24 ≤ p.sched.upQueue.length then p
      else { p with sched := { p.sched with arrival := .idle, upQueue := p.sched.upQueue ++ [f] } } := by
  have hncut : p.sched.arrival ≠ .cut := by rcases ha with h | h <;> rw [h] <;> decide
  have hstays : ¬ (p.sched.arrival = .doomed ∨ p.inService = false ∨ p.dataOpen = false) := by
    rw [hs, hopen]
    rcases ha with h | h <;> rw [h] <;> decide
  exact (if_neg hncut).trans (if_neg hstays)

/-- The first expiry of the silence timer closes an open port (R143, R146, R188, R192). -/
theorem Part.hostSilence_closes {p : Part} (hheard : p.link.hostSilent = false) (hopen : p.dataOpen = true) :
    p.hostSilence.dataOpen = false ∧ p.hostSilence.sched = p.sched.close := by
  rw [Part.hostSilence_first hheard]
  generalize hx : p.silenceBegun.makeRecord .hostSilent .link [(p.link.silenceSetting : Int)] = x
  have hsame : x.sched = p.sched ∧ x.dataOpen = true := by
    subst hx
    refine ⟨Part.makeRecord_sched _ _ _ _, ?_⟩
    rw [← hopen]
    simp [Part.dataOpen, Part.makeRecord, Part.silenceBegun]
  obtain ⟨hsched, hxopen⟩ := hsame
  refine ⟨by simp [Part.silenceHeld, Part.setHolds, Part.dataOpen], ?_⟩
  have hheld : x.silenceHeld.sched = if x.dataOpen && (x.supply.hold || true) then x.sched.close else x.sched := rfl
  rw [hheld, hxopen, hsched, Bool.or_true]
  rfl

theorem Arrival.uncounted_iff (a : Arrival) : a.uncounted = true ↔ a = .begun ∨ a = .doomed := by
  cases a <;> simp [Arrival.uncounted]

/-- The closure of the data port, field by field (R143, R145, R146). -/
theorem Sched.close_fields (d : Sched) :
    let kept := if d.headPlaced = 0 then 0 else 1
    let arriving := d.arrival = .begun ∨ d.arrival = .doomed
    d.close.upQueue = d.upQueue.take kept ∧ d.close.headPlaced = d.headPlaced ∧ d.close.downBuffer = [] ∧
      (arriving → d.close.arrival = .cut) ∧ (¬ arriving → d.close.arrival = d.arrival) ∧
      d.close.framesLost = min 4294967295
        (d.framesLost + ((d.upQueue.length - kept) + if arriving then 1 else 0)) ∧
      d.close.framesDropped = min 4294967295 (d.framesDropped + d.downBuffer.length) := by
  intro kept arriving
  have harrival : d.close.arrival = if d.arrival.uncounted then .cut else d.arrival := rfl
  have hlost : d.close.framesLost = satAdd 0xFFFFFFFF d.framesLost
      ((d.upQueue.drop kept).length + if d.arrival.uncounted then 1 else 0) := rfl
  refine ⟨rfl, rfl, rfl, fun h => ?_, fun h => ?_, ?_, rfl⟩
  · rw [harrival, if_pos ((Arrival.uncounted_iff _).2 h)]
  · rw [harrival, if_neg fun hu => h ((Arrival.uncounted_iff _).1 hu)]
  · rw [hlost, List.length_drop]
    simp only [Arrival.uncounted_iff]
    rfl

/-- Settles O45: the stream port's events by their cases, the closure and the drop by their counts, the symbol's bytes by the
stage that hands them on, and the records byte by byte. -/
theorem streamPortFramesAreQueued : Obligations.StreamPortFramesAreQueued := by
  refine ⟨fun s hrun => ?_, fun s d erased hrun hs => ?_, fun d isOpen erased f hd h64 h1536 => ?_,
    fun d isOpen erased hi lo rest => ⟨fun hd => ?_, fun hd hhi hlen hrest => ?_⟩⟩
  · intro p lost ended
    have hfirst {x : Part} (hx : p.frameBegins = x) : Completes (.upstreamFrameArrival none) s x :=
      completes_of (o := execUpstreamFrameArrival none s) rfl rfl hrun hx
    have hlast (f : List Byte) {x : Part} (hx : p.frameEnds f = x) : Completes (.upstreamFrameArrival (some f)) s x :=
      completes_of (o := execUpstreamFrameArrival (some f) s) rfl rfl hrun hx
    refine ⟨fun ⟨hs, hopen, hroom, hidle⟩ => hfirst ?_, fun hheld => hfirst (if_pos ?_), fun f => ⟨fun hcut => hlast f (if_pos hcut),
      fun hlost => hlast f ?_, fun ha hs hopen => ⟨fun hlen => hlast f ?_, fun h64 h1536 hroom => hlast f ?_,
      fun h64 h1536 hfull => hlast f ?_⟩⟩, fun htimer hheard hopen => ?_, fun hs hcut => ?_, fun x xs hbuffer => ?_,
      fun hbuffer => ?_⟩
    · unfold Part.frameBegins Part.streamHeld
      rw [hs, hopen, hidle]
      simp [hroom]
    · unfold Part.streamHeld
      rcases hheld with h | h | h | h <;> simp [h]
    · have hncut : p.sched.arrival ≠ .cut := by
        rcases hlost with h | h
        · rw [h]
          decide
        · exact h.1
      exact (if_neg hncut).trans (if_pos (hlost.imp id And.right))
    · exact (Part.frameEnds_open f ha hs hopen).trans (if_pos hlen)
    · exact (Part.frameEnds_open f ha hs hopen).trans ((if_neg (by omega)).trans (if_neg (Nat.not_le.2 hroom)))
    · exact (Part.frameEnds_open f ha hs hopen).trans ((if_neg (by omega)).trans (if_pos hfull))
    · intro kept arriving
      obtain ⟨hclosed, hsched⟩ := Part.hostSilence_closes hheard hopen
      refine ⟨p.hostSilence, completes_of (o := execHostSilenceTimeout s) rfl rfl hrun (if_pos htimer), hclosed, ?_⟩
      rw [hsched]
      exact Sched.close_fields p.sched
    · obtain ⟨hground, -⟩ := Part.dropLine_settled .farEnd hs hcut
      obtain ⟨-, -, -, -, -, -, -, -, -, -, -, -, -, -, hsched, -⟩ := p.droppedFrom_fields .farEnd
      have hq : (p.dropLine .farEnd).settle.sched.ground =
          (Sched.ground { Sched.flush { p.sched with burst := ⟨[], none⟩ } with lastReport := none }) := by
        have he := congrArg Part.sched hground
        exact he.trans (congrArg Sched.ground hsched)
      have h1 := congrArg Sched.upQueue hq
      have h2 := congrArg Sched.downBuffer hq
      have h3 := congrArg Sched.framesLost hq
      have h4 := congrArg Sched.arrival hq
      refine ⟨(p.dropLine .farEnd).settle, completes_of (o := execDrop s) rfl rfl hrun (if_pos hs), h1, h2, h3, h4.trans ?_⟩
      show p.sched.arrival.doom = _
      cases p.sched.arrival <;> rfl
    · refine completes_of (o := execStreamPortTakesFrame s) rfl rfl hrun ?_
      rw [hbuffer]
    · refine completes_of (o := execStreamPortTakesFrame s) rfl rfl hrun ?_
      rw [hbuffer]
  · intro p hclear herased impulse opens hnolock data
    have her : p.tracker.erases p.line.symbol = erased := by
      cases erased with
      | false => exact Tracker.erases_closed (hclear rfl).2 fun h => absurd h (hclear rfl).1
      | true =>
        obtain ⟨w, hw, hin⟩ := herased rfl
        rw [Tracker.erases_open hw]
        exact decide_eq_true hin
    have himpulse : p.impulseIn d = impulse := by rw [Part.impulseIn, rawClassOf_impulse, loadedTones_eq]
    have hopens : p.tracker.opens p.line.symbol (p.impulseIn d) = opens := by
      rw [himpulse]
      unfold Tracker.opens opens
      cases p.tracker.event <;> rfl
    obtain ⟨hsched, hsvc⟩ := Part.downstream_bytes (s := p) d (Part.tracked_quiet d
      (fun hstate ho => by
        rw [enterHistory_eq]
        exact hnolock hstate (hopens.symm.trans ho))
      fun hstate _ => by
        cases erased with
        | false => exact absurd hstate (hclear rfl).1
        | true => exact her)
    rw [her] at hsched hsvc
    refine ⟨_, completes_of (o := execDownstreamSymbol d s) rfl rfl hrun (if_pos hs), hsched, ?_, fun m rest hbytes => ?_⟩
    · rw [hsvc]
      unfold Service.takes
      split
      · exact Service.receiveByte_outQ _ _ _
      · rfl
    · have htaken : (p.downstream d).svc = p.svc.receiveByte m erased := by
        rw [hsvc, hbytes]
        rfl
      rw [htaken]
      exact Service.receiveByte_cases p.svc m erased
  · intro marked
    rw [dataBytes_record d isOpen erased f hd h64 h1536]
    unfold Sched.frameDone
    simp only [Bool.and_eq_true, decide_eq_true_iff]
    rfl
  · unfold Sched.dataByte
    rw [hd]
    exact if_pos rfl
  · intro after
    have hfirst : Sched.dataByte isOpen erased d hi = { d with assembly := .high hi erased } := by
      unfold Sched.dataByte
      rw [hd]
      exact if_neg hhi
    have hsecond : Sched.dataByte isOpen erased { d with assembly := .high hi erased } lo =
        { after with assembly := .skip } := by
      unfold Sched.dataByte
      dsimp only
      rw [if_neg (by omega)]
      rfl
    have hskip : (hi :: lo :: rest).foldl (Sched.dataByte isOpen erased) d = { after with assembly := .skip } := by
      rw [List.foldl_cons, List.foldl_cons, hfirst, hsecond]
      exact dataBytes_skip isOpen erased after rest hrest
    refine ⟨hskip, ?_⟩
    rw [show hi :: lo :: rest ++ [255] = (hi :: lo :: rest) ++ [255] from rfl, List.foldl_append, hskip]
    have hlast : Sched.dataByte isOpen erased { after with assembly := .skip } 255 = { after with assembly := .idle } := by
      unfold Sched.dataByte
      exact if_pos rfl
    rw [List.foldl_cons, hlast, List.foldl_nil]
    show { after with assembly := .idle } = after
    rw [← hd]

end Sys2Proof.Machine
end

section
/-! PROOFS. Downstream symbols, the impulse tracker and the erasure windows (O39). -/

namespace Sys2Proof.Machine

/-! ### The lock test -/

theorem lockTest_short {h : List Symbol} (hlen : h.length < 5) : lockTest h = none := if_pos hlen

/-- The lock test over the last five start symbols (R82). -/
theorem lockTest_five (h : List Symbol) (a b c d e : Symbol) :
    let is : List Int := [((b - a).toNat : Int), ((c - b).toNat : Int), ((d - c).toNat : Int), ((e - d).toNat : Int)]
    let total : Nat := (b - a).toNat + (c - b).toNat + (d - c).toNat + (e - d).toNat
    let tolerance := max 4 (total / 200)
    lockTest (h ++ [a, b, c, d, e]) =
      if (∀ i ∈ is, (4 * i - (total : Int)).natAbs ≤ 4 * tolerance) ∧ 8000 ≤ total ∧ total ≤ 48000 then
        some ⟨(total + 2) / 4, tolerance⟩
      else none := by
  intro is total tolerance
  have hlast : (h ++ [a, b, c, d, e]).drop ((h ++ [a, b, c, d, e]).length - 5) = [a, b, c, d, e] := by simp
  have hsum : sumNat [(b - a).toNat, (c - b).toNat, (d - c).toNat, (e - d).toNat] = total := by
    simp only [sumNat, List.foldr_cons, List.foldr_nil, total]
    omega
  unfold lockTest
  rw [if_neg (by simp), hlast]
  simp only [intervals, lockOf, hsum]
  refine if_congr ?_ rfl rfl
  simp only [Bool.and_eq_true, decide_eq_true_iff, List.all_cons, List.all_nil, Bool.and_true, is, List.mem_cons,
    List.not_mem_nil, or_false, forall_eq_or_imp, forall_eq, and_assoc]
  rfl

/-! ### The event taken, by the tracker's state -/

variable {s : Part} {y : Symbol}

/-- The tracker with the event in its history (R81). -/
def Tracker.entered (t : Tracker) (y : Symbol) : Tracker := { t with history := enterHistory t.history y }

theorem Part.takeEvent_searching (h : s.tracker.state = .searching) :
    s.takeEvent y =
      match lockTest (enterHistory s.tracker.history y) with
      | some k => Part.gainLock y k { s with tracker := s.tracker.entered y }
      | none => { s with tracker := s.tracker.entered y } := by
  unfold Part.takeEvent
  dsimp only
  split
  case h_2 => rfl
  all_goals
    rename_i hstate
    exact absurd (h.symm.trans hstate) nofun

/-- An event that finds the tracker LOCKED (R83). -/
theorem Part.takeEvent_locked (h : s.tracker.state = .locked) :
    s.takeEvent y =
      if (s.tracker.entered y).inWindow y then
        match s.tracker.window with
        | some (_, false) => { s with tracker := (s.tracker.entered y).hit y }
        | _ => { s with tracker := s.tracker.entered y }
      else
        let x : Part := { s with tracker := { s.tracker.entered y with stray := min 3 (s.tracker.stray + 1) } }
        if 3 ≤ s.tracker.stray + 1 then x.loseLock 2 else x := by
  unfold Part.takeEvent
  dsimp only
  split
  case h_3 => rfl
  all_goals
    rename_i hstate
    exact absurd (h.symm.trans hstate) nofun

theorem Tracker.entered_inWindow (t : Tracker) (y : Symbol) :
    (t.entered y).inWindow y = t.window.elim false fun w => decide ((y - w.1).toNat < 13) := by
  unfold Tracker.inWindow Tracker.entered
  cases t.window <;> rfl

/-- The first event in a window is a hit (R83). -/
theorem Part.takeEvent_hit {f : Symbol} (h : s.tracker.state = .locked) (hw : s.tracker.window = some (f, false))
    (hin : (y - f).toNat < 13) : s.takeEvent y = { s with tracker := (s.tracker.entered y).hit y } := by
  rw [Part.takeEvent_locked h, if_pos (by rw [Tracker.entered_inWindow, hw]; exact decide_eq_true hin)]
  split
  · rfl
  · rename_i hno
    exact absurd hw (hno f)

/-- A later one joins the history alone. -/
theorem Part.takeEvent_again {f : Symbol} (h : s.tracker.state = .locked) (hw : s.tracker.window = some (f, true))
    (hin : (y - f).toNat < 13) : s.takeEvent y = { s with tracker := s.tracker.entered y } := by
  rw [Part.takeEvent_locked h, if_pos (by rw [Tracker.entered_inWindow, hw]; exact decide_eq_true hin)]
  split
  · rename_i hfalse
    rw [hw] at hfalse
    cases hfalse
  · rfl

/-- Outside a window it is a stray, the third of which loses the lock (R83). -/
theorem Part.takeEvent_stray (h : s.tracker.state = .locked) (hw : s.tracker.window = none) :
    s.takeEvent y =
      let x : Part := { s with tracker := { s.tracker.entered y with stray := min 3 (s.tracker.stray + 1) } }
      if 3 ≤ s.tracker.stray + 1 then x.loseLock 2 else x := by
  rw [Part.takeEvent_locked h, if_neg (by rw [Tracker.entered_inWindow, hw]; exact Bool.false_ne_true)]

/-! ### The symbol's tracker and log -/

/-- With no event opened the tracker keeps all but its window and its event, and nothing is recorded. -/
theorem Part.tracked_closed (d : DownSymbol) (h : s.tracker.opens s.line.symbol (s.impulseIn d) = false) :
    s.tracked d = s.counting d := by
  rw [Part.tracked, h]
  rfl

/-- An event opened is taken by a tracker that is not IDLE. -/
theorem Part.tracked_open (d : DownSymbol) (h : s.tracker.opens s.line.symbol (s.impulseIn d) = true)
    (hstate : s.tracker.state ≠ .idle) :
    s.tracked d = (s.counting d).takeEvent s.line.symbol ∧
      (s.counting d).tracker = { s.tracker with
        window := (s.tracker.openWindow s.line.symbol).window, event := some (s.line.symbol, s.line.symbol) } := by
  refine ⟨if_pos ?_, ?_⟩
  · rw [h, bne_iff_ne.2 hstate]
    rfl
  · obtain ⟨ev, htracker, hev⟩ := s.counting_tracker d
    rw [htracker, hev h]

/-- The log is as it was before the symbol's event was taken. -/
theorem Part.counting_same (d : DownSymbol) (s : Part) :
    (s.counting d).log = s.log ∧ (s.counting d).time = s.time ∧ (s.counting d).line = s.line := ⟨rfl, rfl, rfl⟩

/-- What a symbol hands on leaves the tracker, the monitor, the averages and the log to the stages before it. -/
theorem Part.downstream_fields (d : DownSymbol) (s : Part) :
    (s.downstream d).line = s.line.nextSymbol ∧ (s.downstream d).tracker = (s.tracked d).tracker ∧
      (s.downstream d).log = (s.tracked d).log ∧ (s.downstream d).monitor = (s.counting d).monitor ∧
      (s.downstream d).load = (s.counting d).load ∧ (s.downstream d).band = s.band ∧
      (s.downstream d).supply = s.supply ∧ (s.downstream d).access = s.access ∧ (s.downstream d).diag = s.diag ∧
      (s.downstream d).portA = s.portA ∧ (s.downstream d).portB = s.portB := by
  rw [Part.downstream_eq, Part.handOn_eq, Part.tracked_frame]
  exact ⟨rfl, rfl, rfl, rfl, rfl, rfl, rfl, rfl, rfl, rfl, rfl⟩

/-- The symbol's period sums and counts outside an erasure window (R47, R60). -/
theorem Part.counting_counted {d : DownSymbol} (h : s.tracker.erases s.line.symbol = false) :
    (s.counting d).load.periodCount = s.load.periodCount + 1 ∧
      (∀ t, t < 448 → (s.counting d).load.periodSums.getD t 0 = s.load.periodSums.getD t 0 + d.snr.getD t 0) ∧
      (s.counting d).monitor.counts =
        (if s.impulseIn d then { s.monitor.counts with impulse := s.monitor.counts.impulse + 1 }
        else if 1 ≤ d.errored then { s.monitor.counts with errored := s.monitor.counts.errored + 1 }
        else { s.monitor.counts with clean := s.monitor.counts.clean + 1 }) := by
  have hload : (s.counting d).load = { s.load with
      periodSums := addSums s.load.periodSums d.snr, periodCount := s.load.periodCount + 1 } :=
    if_neg (by rw [h]; decide)
  have hcounts : (s.counting d).monitor.counts = (s.monitor.count
      (rawClassOf (loadedTones (s.line.downInForce.getD [])) d) false d.sync).counts := by rw [← h]; rfl
  rw [hload, hcounts]
  refine ⟨rfl, fun t ht => by rw [addSums, perTone_getD _ _ ht], ?_⟩
  have herrored : rawClassOf (loadedTones (s.line.downInForce.getD [])) d ≠ .impulse →
      rawClassOf (loadedTones (s.line.downInForce.getD [])) d = if 1 ≤ d.errored then .errored else .clean := by
    unfold rawClassOf
    split
    · exact fun h => absurd rfl h
    · exact fun _ => rfl
  unfold Part.impulseIn
  generalize rawClassOf (loadedTones (s.line.downInForce.getD [])) d = r at herrored ⊢
  by_cases hr : r = .impulse
  · rw [hr]
    rfl
  · rw [herrored hr]
    by_cases he : 1 ≤ d.errored
    · simp only [he, if_true]
      rfl
    · simp only [he, if_false]
      rfl

/-- Inside one (R60). -/
theorem Part.counting_erased {d : DownSymbol} (h : s.tracker.erases s.line.symbol = true) :
    (s.counting d).load = s.load ∧
      (s.counting d).monitor.counts = { s.monitor.counts with erased := s.monitor.counts.erased + 1 } := by
  refine ⟨if_pos h, ?_⟩
  have hcounts : (s.counting d).monitor.counts = (s.monitor.count
      (rawClassOf (loadedTones (s.line.downInForce.getD [])) d) true d.sync).counts := by rw [← h]; rfl
  exact hcounts

/-- What the hits of R83 give, for a window as the event finds it. -/
theorem Tracker.hit_fields {t : Tracker} {f n : Symbol} {k : Nat} (hw : t.window = some (f, false)) (hn : t.next = some n)
    (hk : t.period = some k) (hs : t.state = .locked) :
    let measured : Int := ((y - (n - BitVec.ofNat 32 k)).toNat : Int)
    let period := ((k : Int) + (measured - k).tdiv 4).toNat
    ((t.entered y).hit y).period = some period ∧
      ((t.entered y).hit y).next = some (y + BitVec.ofNat 32 period) ∧ ((t.entered y).hit y).window = some (f, true) ∧
      ((t.entered y).hit y).absence = 0 ∧ ((t.entered y).hit y).stray = 0 ∧
      ((t.entered y).hit y).history = enterHistory t.history y ∧ ((t.entered y).hit y).state = .locked := by
  unfold Tracker.hit Tracker.entered
  dsimp only
  rw [hw, hn, hk]
  exact ⟨rfl, rfl, rfl, rfl, rfl, rfl, hs⟩

/-! ### The close of a window -/

/-- A window closes with a hit, without one, and without one for the third time (R83). -/
theorem Part.closeWindow_cases (p : Part) (f : Symbol) :
    (p.tracker.window = some (f, true) → p.closeWindow = { p with tracker := { p.tracker with window := none } }) ∧
      (p.tracker.window = some (f, false) →
        p.closeWindow =
          let x : Part := { p with tracker := { p.tracker with
            window := none, absence := min 3 (p.tracker.absence + 1)
            next := p.tracker.next.map fun n => n + BitVec.ofNat 32 (p.tracker.period.getD 0) } }
          if 3 ≤ p.tracker.absence + 1 then x.loseLock 1 else x) := by
  unfold Part.closeWindow
  dsimp only
  refine ⟨fun h => ?_, fun h => ?_⟩
  · split
    · rename_i hw
      rw [h] at hw
      cases hw
    · rfl
    · rename_i hw
      rw [h] at hw
      cases hw
  · split
    · rename_i hw
      rw [h] at hw
      cases hw
    · rename_i hw
      rw [h] at hw
      cases hw
    · rfl

/-! ### The symbol in each state of the tracker -/

/-- SEARCHING (R82). -/
theorem Part.tracked_searching {p : Part} (d : DownSymbol) (hstate : p.tracker.state = .searching) :
    let y := p.line.symbol
    let opens := p.tracker.opens y (p.impulseIn d)
    let history := enterHistory p.tracker.history y
    let q := p.tracked d
    (opens = false → q.log = p.log ∧ q.tracker.history = p.tracker.history ∧ q.tracker.state = .searching) ∧
      (opens = true → q.tracker.history = history ∧ q.tracker.event = some (y, y) ∧
        (lockTest history = none → q.log = p.log ∧ q.tracker.state = .searching) ∧
        ∀ k, lockTest history = some k →
          q.tracker.state = .locked ∧ q.tracker.period = some k.period ∧
          q.tracker.next = some (y + BitVec.ofNat 32 k.period) ∧ q.tracker.absence = 0 ∧ q.tracker.stray = 0 ∧
          q.log.next = p.log.next + 1 ∧
          p.recorded q 0 1 .fenceLocked .info .line p.line.state
            [((k.period / 4 : Nat) : Int), (k.period : Int), (k.tolerance : Int)]) := by
  intro y opens history q
  refine ⟨fun h => ?_, fun h => ?_⟩
  · obtain ⟨ev, htracker, -⟩ := p.counting_tracker d
    have hq : q = p.counting d := Part.tracked_closed d h
    rw [hq, htracker]
    exact ⟨rfl, rfl, hstate⟩
  · obtain ⟨hq, htracker⟩ := Part.tracked_open d h (by rw [hstate]; decide)
    have htaken : q = match lockTest history with
        | some k => Part.gainLock y k { p.counting d with tracker := (p.counting d).tracker.entered y }
        | none => { p.counting d with tracker := (p.counting d).tracker.entered y } := by
      refine hq.trans ((Part.takeEvent_searching (by rw [htracker]; exact hstate)).trans ?_)
      rw [show enterHistory (p.counting d).tracker.history y = history from by rw [htracker]]
    cases hlock : lockTest history with
    | none =>
      rw [hlock] at htaken
      rw [htaken, htracker]
      exact ⟨rfl, rfl, fun _ => ⟨rfl, hstate⟩, nofun⟩
    | some k =>
      rw [hlock] at htaken
      obtain ⟨hnext, hrecorded⟩ := Part.gainLock_recorded
        { p.counting d with tracker := (p.counting d).tracker.entered y } y k
      have hqtracker : q.tracker = { (p.counting d).tracker.entered y with
          state := .locked, period := some k.period, next := some (y + BitVec.ofNat 32 k.period), window := none
          absence := 0, stray := 0 } := by
        rw [htaken]
        dsimp only
        rw [Part.gainLock_frame]
      rw [hqtracker, htracker]
      refine ⟨rfl, rfl, nofun, fun k' hk' => ?_⟩
      obtain rfl : k = k' := Option.some.inj hk'
      refine ⟨rfl, rfl, rfl, rfl, rfl, ?_, ?_⟩
      · rw [htaken]
        exact hnext
      · rw [htaken]
        exact hrecorded

/-- A hit, in a window that stands or that opens at the symbol (R83). -/
theorem Part.tracked_hit {p : Part} (d : DownSymbol) {f n : Symbol} {k : Nat} (hstate : p.tracker.state = .locked)
    (hw : (p.tracker.openWindow p.line.symbol).window = some (f, false)) (hin : (p.line.symbol - f).toNat < 13)
    (hn : p.tracker.next = some n) (hk : p.tracker.period = some k)
    (hopens : p.tracker.opens p.line.symbol (p.impulseIn d) = true) :
    let y := p.line.symbol
    let measured : Int := ((y - (n - BitVec.ofNat 32 k)).toNat : Int)
    let period := ((k : Int) + (measured - k).tdiv 4).toNat
    let q := p.tracked d
    q.tracker.period = some period ∧ q.tracker.next = some (y + BitVec.ofNat 32 period) ∧
      q.tracker.window = some (f, true) ∧ q.tracker.absence = 0 ∧ q.tracker.stray = 0 ∧
      q.tracker.history = enterHistory p.tracker.history y ∧ q.tracker.state = .locked ∧ q.log = p.log := by
  intro y measured period q
  obtain ⟨hq, htracker⟩ := Part.tracked_open d hopens (by rw [hstate]; decide)
  have htaken : q = { p.counting d with tracker := ((p.counting d).tracker.entered y).hit y } :=
    hq.trans (Part.takeEvent_hit (by rw [htracker]; exact hstate) (by rw [htracker]; exact hw) hin)
  obtain ⟨h1, h2, h3, h4, h5, h6, h7⟩ := Tracker.hit_fields (t := (p.counting d).tracker) (y := y)
    (by rw [htracker]; exact hw) (by rw [htracker]; exact hn) (by rw [htracker]; exact hk)
    (by rw [htracker]; exact hstate)
  rw [htaken]
  refine ⟨h1, h2, h3, h4, h5, h6.trans ?_, h7, rfl⟩
  rw [htracker]

/-- A stray, and the third of them (R83). -/
theorem Part.tracked_stray {p : Part} (d : DownSymbol) (hstate : p.tracker.state = .locked)
    (hw : p.tracker.window = none) (hdue : p.tracker.next ≠ some (p.line.symbol + 6))
    (hopens : p.tracker.opens p.line.symbol (p.impulseIn d) = true) :
    let history := enterHistory p.tracker.history p.line.symbol
    let q := p.tracked d
    q.tracker.history = history ∧
      (p.tracker.stray < 2 → q.tracker.stray = p.tracker.stray + 1 ∧ q.tracker.state = .locked ∧
        q.tracker.next = p.tracker.next ∧ q.log = p.log) ∧
      (2 ≤ p.tracker.stray → q.tracker.state = .searching ∧ q.tracker.next = none ∧
        q.tracker.period = p.tracker.period ∧ q.log.next = p.log.next + 1 ∧ ∀ k, p.tracker.period = some k →
          p.recorded q 0 1 .fenceLost .info .line p.line.state [2, ((k / 4 : Nat) : Int), (history.length : Int)]) := by
  intro history q
  obtain ⟨hq, htracker⟩ := Part.tracked_open d hopens (by rw [hstate]; decide)
  rw [Tracker.openWindow_notDue hdue] at htracker
  generalize hx : ({ p.counting d with tracker := { (p.counting d).tracker.entered p.line.symbol with
    stray := min 3 (p.tracker.stray + 1) } } : Part) = x
  have htaken : q = if 3 ≤ p.tracker.stray + 1 then x.loseLock 2 else x := by
    refine hq.trans ((Part.takeEvent_stray (by rw [htracker]; exact hstate) (by rw [htracker]; exact hw)).trans ?_)
    rw [← hx, htracker]
  have hxtracker : x.tracker.history = history ∧ x.tracker.stray = min 3 (p.tracker.stray + 1) ∧
      x.tracker.state = .locked ∧ x.tracker.next = p.tracker.next ∧ x.tracker.period = p.tracker.period := by
    rw [← hx, htracker]
    exact ⟨rfl, rfl, hstate, rfl, rfl⟩
  have hxsame : x.log = p.log ∧ x.time = p.time ∧ x.line = p.line := by
    rw [← hx]
    exact ⟨rfl, rfl, rfl⟩
  obtain ⟨hhistory, hstray, hlocked, hnext, hperiod⟩ := hxtracker
  obtain ⟨hlog, htime, hline⟩ := hxsame
  by_cases h3 : 3 ≤ p.tracker.stray + 1
  · rw [if_pos h3] at htaken
    have hqtracker : q.tracker = { x.tracker with state := .searching, next := none, window := none } := by
      rw [htaken, Part.loseLock_frame]
    rw [hqtracker]
    refine ⟨hhistory, fun h => absurd h (by omega), fun _ => ⟨rfl, rfl, hperiod, ?_, fun k hk => ?_⟩⟩
    · rw [htaken, ← hlog]
      unfold Part.loseLock
      exact Part.makeRecordAt_next _ _ _ _ _
    · have hrecorded := (Part.loseLock_recorded (s := x) 2 k (hperiod.trans hk)).2
      unfold Part.recorded at hrecorded ⊢
      rw [hlog, htime, hhistory, hline] at hrecorded
      rw [htaken]
      exact hrecorded
  · rw [if_neg h3] at htaken
    rw [htaken]
    exact ⟨hhistory, fun _ => ⟨hstray.trans (by omega), hlocked, hnext, hlog⟩, fun h => absurd h (by omega)⟩

/-- The third absence in a row (R83). -/
theorem Part.closeWindow_lost {p : Part} {f : Symbol} (hw : p.tracker.window = some (f, false))
    (h2 : 2 ≤ p.tracker.absence) :
    let q := p.closeWindow
    q.tracker.state = .searching ∧ q.tracker.next = none ∧ q.tracker.window = none ∧
      q.tracker.history = p.tracker.history ∧ q.log.next = p.log.next + 1 ∧ q.line = p.line ∧ q.monitor = p.monitor ∧
      q.load = p.load ∧ ∀ k, p.tracker.period = some k →
        p.recorded q 0 1 .fenceLost .info .line p.line.state
          [1, ((k / 4 : Nat) : Int), (p.tracker.history.length : Int)] := by
  intro q
  generalize hx : ({ p with tracker := { p.tracker with
    window := none, absence := min 3 (p.tracker.absence + 1)
    next := p.tracker.next.map fun n => n + BitVec.ofNat 32 (p.tracker.period.getD 0) } } : Part) = x
  have hq : q = x.loseLock 1 := by
    rw [← hx]
    exact ((p.closeWindow_cases f).2 hw).trans (if_pos (by omega))
  have hxsame : x.tracker.history = p.tracker.history ∧ x.tracker.period = p.tracker.period ∧ x.log = p.log ∧
      x.time = p.time ∧ x.line = p.line ∧ x.monitor = p.monitor ∧ x.load = p.load := by
    rw [← hx]
    exact ⟨rfl, rfl, rfl, rfl, rfl, rfl, rfl⟩
  obtain ⟨hhistory, hperiod, hlog, htime, hline, hmonitor, hload⟩ := hxsame
  have hqnext : q.log.next = p.log.next + 1 := by
    rw [hq, ← hlog]
    unfold Part.loseLock
    exact Part.makeRecordAt_next _ _ _ _ _
  have hqrecorded (k : Nat) (hk : p.tracker.period = some k) : p.recorded q 0 1 .fenceLost .info .line p.line.state
      [1, ((k / 4 : Nat) : Int), (p.tracker.history.length : Int)] := by
    have hrecorded := (Part.loseLock_recorded (s := x) 1 k (hperiod.trans hk)).2
    unfold Part.recorded at hrecorded ⊢
    rw [hlog, htime, hhistory, hline] at hrecorded
    rw [hq]
    exact hrecorded
  have hframe := x.loseLock_frame 1
  rw [← hq] at hframe
  have htracker : q.tracker = { x.tracker with state := .searching, next := none, window := none } :=
    congrArg Part.tracker hframe
  have hqline : q.line = x.line := by
    have he := congrArg (fun z : Part => z.line) hframe
    exact he
  have hqmonitor : q.monitor = x.monitor := by
    have he := congrArg (fun z : Part => z.monitor) hframe
    exact he
  have hqload : q.load = x.load := by
    have he := congrArg (fun z : Part => z.load) hframe
    exact he
  rw [htracker]
  exact ⟨rfl, rfl, rfl, hhistory, hqnext, hqline.trans hline, hqmonitor.trans hmonitor, hqload.trans hload, hqrecorded⟩

/-- Settles O39: a symbol by its stages, the tracker by its states, the lock test by the last five start symbols, and the
close of a window by its hit and its absences. -/
theorem downstreamSymbolsAndErasureWindows : Obligations.DownstreamSymbolsAndErasureWindows := by
  refine ⟨fun s d hrun hs => ?_, fun h hlen => lockTest_short hlen, lockTest_five, fun s f hrun => ?_⟩
  · intro p y c table impulse opens history
    have himpulse : p.impulseIn d = impulse := by rw [Part.impulseIn, rawClassOf_impulse, loadedTones_eq]
    have hopens : p.tracker.opens y (p.impulseIn d) = opens := by
      rw [himpulse]
      unfold Tracker.opens opens
      cases p.tracker.event <;> rfl
    have hhistory : enterHistory p.tracker.history y = history := enterHistory_eq _ _
    obtain ⟨hline, htracker, hlog, hmonitor, hload, hband, hsupply, haccess, hdiag, hportA, hportB⟩ :=
      Part.downstream_fields d p
    refine ⟨p.downstream d, completes_of (o := execDownstreamSymbol d s) rfl rfl hrun (if_pos hs), hline,
      by rw [hline]; rfl, by rw [hmonitor]; rfl, ?_, ?_, hband, hsupply, haccess, hdiag, hportA, hportB, ?_⟩
    · rw [hload]
      unfold Part.counting
      dsimp only
      split <;> rfl
    · rw [hload]
      unfold Part.counting
      dsimp only
      split <;> rfl
    unfold Part.recorded
    rw [hmonitor, hload, htracker, hlog]
    have hsame {o : Bool} (h : opens = o) : p.tracker.opens y (p.impulseIn d) = o := hopens.trans h
    refine ⟨fun hout => ?_, fun hstate _ => ?_, fun f h hw hin => ?_, fun hstate hw hn => ?_,
      fun hstate f hw n hn k hk hin ho => ?_, fun hstate hw hn k hk ho => ?_, fun hstate f hw hin ho => ?_,
      fun hstate hw hn ho => ?_⟩
    · have her : p.tracker.erases y = false := by
        cases hw : p.tracker.window with
        | none =>
          rw [hw] at hout
          exact Tracker.erases_closed hw hout
        | some w =>
          rw [hw] at hout
          rw [Tracker.erases_open hw]
          exact decide_eq_false (Nat.not_lt.2 hout)
      rw [← himpulse]
      exact Part.counting_counted her
    · rw [← hopens, ← hhistory]
      exact Part.tracked_searching d hstate
    · have her : p.tracker.erases y = true := by
        rw [Tracker.erases_open hw]
        exact decide_eq_true hin
      exact (Part.counting_erased her).symm
    · obtain ⟨hl, hm⟩ := Part.counting_erased (s := p) (d := d) (Tracker.erases_due hstate hw hn)
      refine ⟨hm, hl, fun ho => ?_⟩
      obtain ⟨ev, htr, -⟩ := p.counting_tracker d
      rw [Part.tracked_closed d (hsame ho), htr, Tracker.openWindow_due hstate hw hn]
    · rw [← hhistory]
      exact Part.tracked_hit d hstate (by rw [Tracker.openWindow_open y hw]; exact hw) hin hn hk (hsame ho)
    · rw [← hhistory]
      exact Part.tracked_hit (f := y) d hstate (by rw [Tracker.openWindow_due hstate hw hn])
        (by simp [y]) hn hk (hsame ho)
    · obtain ⟨hq, htr⟩ := Part.tracked_open d (hsame ho) (by rw [hstate]; decide)
      rw [Tracker.openWindow_open _ hw] at htr
      have htaken : p.tracked d = { p.counting d with tracker := (p.counting d).tracker.entered y } :=
        hq.trans (Part.takeEvent_again (by rw [htr]; exact hstate) (by rw [htr]; exact hw) hin)
      rw [htaken, htr, ← hhistory]
      exact ⟨rfl, rfl⟩
    · rw [← hhistory]
      exact Part.tracked_stray d hstate hw hn (hsame ho)
  · intro p
    have hdone {x : Part} (hx : p.closeWindow = x) : Completes .erasureWindowClose s x :=
      completes_of (o := execErasureWindowClose s) rfl rfl hrun hx
    refine ⟨fun hw => hdone ((p.closeWindow_cases f).1 hw), fun hw h2 n k hn hk => hdone ?_, fun hw h2 =>
      ⟨_, hdone rfl, Part.closeWindow_lost hw h2⟩⟩
    rw [(p.closeWindow_cases f).2 hw, hn, hk]
    refine (if_neg (by omega)).trans ?_
    rw [Nat.min_eq_right (by omega)]
    rfl

end Sys2Proof.Machine
end

section
/-! SUPPORT and PROOFS. The reasons of a reshape and its start (R72 to R76); REQUEST_RESHAPE (O27) and SET_BAND_WINDOW
(O24). -/

namespace Sys2Proof.Machine

/-! ### Reasons -/

theorem mem_addReason {r x : Reason} {rs : List Reason} : r ∈ addReason x rs ↔ r ∈ rs ∨ r = x := by
  unfold addReason
  split
  · rename_i h
    refine ⟨.inl, fun hr => hr.elim id ?_⟩
    rintro rfl
    simpa using h
  · simp

theorem addReason_ne_nil (x : Reason) (rs : List Reason) : addReason x rs ≠ [] :=
  List.ne_nil_of_mem (mem_addReason.2 (.inr rfl))

/-! ### The start of a reshape -/

/-- A message that is neither a SIGNAL nor a report joins the outbound queue or is discarded: nothing else of the part
changes (R21). -/
theorem Part.enqueue_plain {m : Msg} (s : Part) (h : m.isSignal = false) :
    s.enqueue m = { s with svc := (s.enqueue m).svc } := by
  unfold Part.enqueue
  split
  · rfl
  · split
    · rfl
    · cases h
    · rfl

/-- The table a reshape computes at its start (R76). -/
def Part.reshapeTableOf (s : Part) : List LoadEntry :=
  computeDown s.band.configured s.load.setProfile s.load.averages (s.line.downInForce.getD [])

/-- The part as a reshape starts, ahead of its messages (R73, R75). -/
def Part.reshapeStarted (set : List Reason) (s : Part) : Part :=
  ({ s with
    line := { s.line with
      state := .reshape, reasons := [], reshape := some ⟨set, s.line.symbol + 8000, false⟩
      segs := none, upValid := false, switch := none } } : Part).postLine .carrying none set

/-- The part with its RESHAPE_OFFER placed, where the reshape is its own (R75). -/
def Part.offered (own : Bool) (set : List Reason) (s : Part) : Part :=
  if own then (s.reshapeStarted set).enqueue (.reshapeOffer set s.supply.cutback) else s.reshapeStarted set

/-- The computation's outcome on offer: map, profile and table (R76). -/
def Part.onOffer (t : List LoadEntry) (s : Part) : Part :=
  { s with
    line := { s.line with downOffered := some t }
    band := { s.band with offeredMap := some s.band.configured }
    load := { s.load with offeredProfile := some s.load.setProfile } }

theorem Part.startReshape_eq (own : Bool) (set : List Reason) (s : Part) :
    s.startReshape own set = (s.offered own set).computeReshape := rfl

/-- The offer leaves all but the line, the link and the service channel alone. -/
theorem Part.offered_frame (own : Bool) (set : List Reason) (s : Part) :
    s.offered own set = { s.reshapeStarted set with svc := (s.offered own set).svc } := by
  unfold Part.offered
  split
  · exact Part.enqueue_plain _ rfl
  · rfl

/-- A computation with a payload offers its table (R76). -/
theorem Part.computeReshape_offers {s : Part} (h : payload s.reshapeTableOf ≠ 0) :
    s.computeReshape = (s.onOffer s.reshapeTableOf).sendTable s.reshapeTableOf := by
  unfold Part.computeReshape
  exact if_neg h

/-- One without a payload abandons the reshape (R76, R79). -/
theorem Part.computeReshape_abandons {s : Part} (h : payload s.reshapeTableOf = 0) :
    s.computeReshape = (Part.abandonCore .noPayload 0 { s with
      band := { s.band with offeredMap := some s.band.configured }
      load := { s.load with offeredProfile := some s.load.setProfile } }).dropIfThird := by
  unfold Part.computeReshape
  exact if_pos h

theorem Part.sendTable_frame (t : List LoadEntry) (s : Part) :
    s.sendTable t = { s with
      line := { s.line with nextTable := s.line.nextTable + 1 }, svc := (s.sendTable t).svc } := by
  unfold Part.sendTable
  dsimp only
  rw [Part.enqueue_plain _ rfl, Part.enqueue_plain _ rfl]

/-- A reshape with a payload, as it starts (R73, R75, R76). -/
theorem Part.startReshape_offers {s : Part} (own : Bool) (set : List Reason) (h : payload s.reshapeTableOf ≠ 0) :
    s.startReshape own set = { s.reshapeStarted set with
      line := { (s.reshapeStarted set).line with
        downOffered := some s.reshapeTableOf, nextTable := s.line.nextTable + 1 }
      band := { s.band with offeredMap := some s.band.configured }
      load := { s.load with offeredProfile := some s.load.setProfile }
      svc := (s.startReshape own set).svc } := by
  have hframe := Part.offered_frame own set s
  generalize hx : s.offered own set = x at hframe
  have htable : x.reshapeTableOf = s.reshapeTableOf := by
    rw [hframe]
    rfl
  have hstart : s.startReshape own set = (x.onOffer s.reshapeTableOf).sendTable s.reshapeTableOf := by
    rw [Part.startReshape_eq, hx, Part.computeReshape_offers (by rw [htable]; exact h), htable]
  have hsent := Part.sendTable_frame s.reshapeTableOf (x.onOffer s.reshapeTableOf)
  rw [← hstart] at hsent
  generalize s.startReshape own set = q at hsent ⊢
  rw [hsent]
  subst hx
  rw [hframe]
  rfl

/-- With an empty queue its three messages are queued in their order (R21, R23, R75). -/
theorem Part.startReshape_messages {s : Part} (set : List Reason) (h : payload s.reshapeTableOf ≠ 0)
    (hout : s.svc.outQ = []) :
    (s.startReshape true set).svc.outQ = [.reshapeOffer set s.supply.cutback,
      .downTable s.line.nextTable 0 ((s.reshapeTableOf.map entryToByte).take 224),
      .downTable s.line.nextTable 1 (((s.reshapeTableOf.map entryToByte).drop 224).take 224)] := by
  have hx : s.offered true set = { s.reshapeStarted set with
      svc := { s.svc with outQ := [.reshapeOffer set s.supply.cutback] } } := by
    have hroom : (s.reshapeStarted set).svc.outQ.length < 16 := by
      show s.svc.outQ.length < 16
      simp [hout]
    have hstarted : (s.reshapeStarted set).svc = s.svc := rfl
    have hplaced := Part.enqueue_room (.reshapeOffer set s.supply.cutback) _ hroom
    rw [hstarted, hout] at hplaced
    exact hplaced
  generalize hy : s.offered true set = y at hx
  have htable : y.reshapeTableOf = s.reshapeTableOf := by
    rw [hx]
    rfl
  rw [Part.startReshape_eq, hy, Part.computeReshape_offers (by rw [htable]; exact h), htable]
  have hqueue : (y.onOffer s.reshapeTableOf).svc.outQ = [.reshapeOffer set s.supply.cutback] := by
    rw [hx]
    rfl
  have hnumber : (y.onOffer s.reshapeTableOf).line.nextTable = s.line.nextTable := by
    rw [hx]
    rfl
  generalize y.onOffer s.reshapeTableOf = z at hqueue hnumber ⊢
  unfold Part.sendTable
  dsimp only
  rw [Part.enqueue_room (.downTable z.line.nextTable 0 ((s.reshapeTableOf.map entryToByte).take 224)) _
    (by simp [hqueue]), Part.enqueue_room _ _ (by simp [hqueue, insertMsg, Msg.isSignal])]
  simp [hqueue, hnumber, insertMsg, Msg.isSignal]

/-! ### A reason raised -/

/-- Where nothing can start, a reason joins the pending ones (R72, R73). -/
theorem Part.raise_pending {s : Part} (r : Reason) (hs : s.inService = true) (hno : s.canReshape = false) :
    s.raise r = { s with line := { s.line with reasons := addReason r s.line.reasons } } := by
  unfold Part.raise
  rw [if_pos hs]
  dsimp only
  rw [if_neg (by rw [hno]; decide)]

/-- Where nothing holds it back the reshape starts with them (R73). -/
theorem Part.raise_starts {s : Part} (r : Reason) (hcan : s.canReshape = true) :
    s.raise r = s.startReshape true (addReason r s.line.reasons) := by
  have hs : s.inService = true := by
    simp only [Part.canReshape, Bool.and_eq_true, beq_iff_eq] at hcan
    rw [Part.inService, hcan.1.1]
    rfl
  unfold Part.raise
  rw [if_pos hs]
  dsimp only
  rw [if_pos hcan]

theorem Part.canReshape_iff (s : Part) :
    s.canReshape = true ↔ s.line.state = .carrying ∧ s.line.move = none ∧ s.supply.state ≠ .cutoff := by
  simp [Part.canReshape, and_assoc]

theorem Part.canReshape_held {s : Part}
    (h : s.line.state = .reshape ∨ s.line.move.isSome = true ∨ s.supply.state = .cutoff) : s.canReshape = false := by
  rw [← Bool.not_eq_true, Part.canReshape_iff]
  rintro ⟨hstate, hmove, hcut⟩
  rcases h with h | h | h
  · rw [hstate] at h
    cases h
  · rw [hmove] at h
    cases h
  · exact hcut h

/-! ### REQUEST_RESHAPE -/

/-- The reason a source's request raises (R74). -/
def reasonOf : Source → Reason
  | .loc => .loc
  | .operator => .operator

theorem ownRequestReshape_inService {src : Source} {p : Part} (hs : p.inService = true) :
    ownRequestReshape src p = ((p.raise (reasonOf src)).refreshHeard, .ok, .none) := by
  unfold ownRequestReshape
  rw [if_pos hs]
  cases src <;> rfl

/-- Settles O27: out of service, with the reason held back, and with the reshape started. -/
theorem requestReshapeRaisesItsReason : Obligations.RequestReshapeRaisesItsReason := by
  intro s e h hp p
  have hdone {q : Part} {st : Status} (ho : ownRequestReshape e.src p = (q, st, .none)) :
      Completes (.requestReshape e) s (q.answeredTo e 8 st .none) :=
    h.answered (c := .requestReshape) rfl nofun hp.refuses ho
  refine ⟨fun hs => hdone (if_neg (by rw [hs]; decide)), fun hs hheld => ?_, fun hstate hmove hcut hout hpayload => ?_⟩
  · refine ⟨_, hdone (ownRequestReshape_inService hs), ?_⟩
    rw [Part.raise_pending _ hs (Part.canReshape_held hheld)]
    refine ⟨fun r => ?_, rfl, rfl, rfl, rfl, rfl, rfl⟩
    obtain ⟨src, tag, form⟩ := e
    cases src <;> exact mem_addReason
  · have hcan : p.canReshape = true := p.canReshape_iff.2 ⟨hstate, hmove, hcut⟩
    have hs : p.inService = true := by rw [Part.inService, hstate]; rfl
    have htable : payload p.reshapeTableOf ≠ 0 := hpayload
    have hq := hdone (ownRequestReshape_inService hs)
    rw [Part.raise_starts _ hcan] at hq
    have hmessages := Part.startReshape_messages (addReason (reasonOf e.src) p.line.reasons) htable hout
    have hstart := Part.startReshape_offers true (addReason (reasonOf e.src) p.line.reasons) htable
    generalize p.startReshape true (addReason (reasonOf e.src) p.line.reasons) = q at hq hmessages hstart
    have hline : q.line = { (p.reshapeStarted (addReason (reasonOf e.src) p.line.reasons)).line with
        downOffered := some p.reshapeTableOf, nextTable := p.line.nextTable + 1 } := by
      have he := congrArg (fun x : Part => x.line) hstart
      exact he
    have hband : q.band = { p.band with offeredMap := some p.band.configured } := by
      have he := congrArg (fun x : Part => x.band) hstart
      exact he
    have hload : q.load = { p.load with offeredProfile := some p.load.setProfile } := by
      have he := congrArg (fun x : Part => x.load) hstart
      exact he
    refine ⟨_, ⟨addReason (reasonOf e.src) p.line.reasons, p.line.symbol + 8000, false⟩, hq, ?_⟩
    rw [Part.refreshHeard_line, Part.refreshHeard_svc, Part.refreshHeard_band, Part.refreshHeard_load, hline, hband,
      hload, hmessages]
    refine ⟨rfl, rfl, rfl, rfl, fun r => ?_, rfl, rfl, rfl, rfl, rfl, rfl, rfl⟩
    obtain ⟨src, tag, form⟩ := e
    cases src <;> exact mem_addReason

end Sys2Proof.Machine
end

section
/-! PROOFS. SET_BAND_WINDOW (O24): the window stored, the conflict found, the notch raised, the write refused. -/

namespace Sys2Proof.Machine

/-! ### The candidate map -/

theorem alignBase_eq (base size : Nat) : alignBase base size = base - base % size := by
  have h := Nat.div_add_mod base size
  unfold alignBase
  rw [Nat.mul_comm]
  omega

theorem windowOf_some {n base size : Nat} {en : Bool} {d : Dir} {c : WClass} (h : size ∈ [4, 8, 16, 32, 64, 128, 256]) :
    windowOf ⟨n, some en, base, size, some d, some c⟩ = some ⟨en, base - base % size, size, d, c⟩ := by
  unfold windowOf
  dsimp only
  rw [if_pos (by simpa [windowSizes] using h), alignBase_eq]

theorem aligned_iff {base size : Nat} : base - base % size = base ↔ base % size = 0 := by
  have h := Nat.mod_le base size
  omega

/-- No tone is in conflict (R6). -/
theorem conflictTones_nil {ws : List Window}
    (h : ∀ t, t < 448 → ¬ (ws.any (·.carries .down t) = true ∧ ws.any (·.carries .up t) = true)) :
    conflictTones ws = [] := by
  refine List.filter_eq_nil_iff.2 fun t ht => ?_
  rw [Bool.and_eq_true]
  exact h t (mem_tones.1 ht)

theorem detectConflict_none {p : Part} {ws : List Window} (h : conflictTones ws = []) : p.detectConflict ws = p := by
  unfold Part.detectConflict
  rw [h]
  rfl

/-- The window written from an idle line (R9). -/
theorem takesWindow_resting {l : LineState} (a b : Window) (h : l = .quiet ∨ l = .dropped ∨ l = .fallback) :
    l.takesWindow a b = true := by
  rcases h with rfl | rfl | rfl <;> rfl

/-- SET_BAND_WINDOW behind its checks of form, range and line (R8, R9). -/
theorem ownSetBandWindow_eq {w : WindowArg} {win : Window} {p : Part} (hw : windowOf w = some win) (hn : w.number ≤ 7)
    (hbase : w.base ≤ 447) (htakes : p.line.state.takesWindow (p.band.windows.getD w.number win) win = true) :
    ownSetBandWindow w p =
      let ws := p.band.windows.set w.number win
      if p.band.strict && !(conflictTones ws).isEmpty then
        (p.detectConflict ws, .planConflict, .window (p.band.windows.getD w.number win))
      else
        ((p.detectConflict ws).acceptWindow ws, if win.base = w.base then .ok else .okAdjusted, .window win) := by
  unfold ownSetBandWindow
  rw [hw]
  dsimp only
  rw [if_neg (by omega), htakes]
  rfl

/-! ### A conflict -/

/-- The part with the conflict counted (R6). -/
def Part.conflictCounted (p : Part) : Part :=
  { p with band := { p.band with conflictFlag := true, conflictCount := min 65535 (p.band.conflictCount + 1) } }

theorem detectConflict_found {p : Part} {ws : List Window} (h : (conflictTones ws).isEmpty = false) :
    p.detectConflict ws =
      if p.band.conflictFlag then p.conflictCounted
      else p.conflictCounted.makeRecord .planConflict .line (conflictDetails ws) := by
  unfold Part.detectConflict
  rw [if_neg (by rw [h]; decide)]
  rfl

/-- A conflict found leaves all but the band, the log and the link alone, out of service. -/
theorem detectConflict_fields {p : Part} {ws : List Window} (h : (conflictTones ws).isEmpty = false)
    (hs : p.inService = false) :
    (p.detectConflict ws).band = { p.band with
        conflictFlag := true, conflictCount := min 65535 (p.band.conflictCount + 1) } ∧
      (p.detectConflict ws).line = p.line ∧ (p.detectConflict ws).load = p.load ∧ (p.detectConflict ws).svc = p.svc ∧
      (p.detectConflict ws).sched = p.sched ∧ p.sameTelephones (p.detectConflict ws) ∧
      (p.detectConflict ws).log.next = p.log.next + (if p.band.conflictFlag then 0 else 1) := by
  rw [detectConflict_found h]
  cases hflag : p.band.conflictFlag with
  | true => exact ⟨rfl, rfl, rfl, rfl, rfl, ⟨rfl, rfl, rfl⟩, (BitVec.add_zero _).symm⟩
  | false =>
    have hsvc : (p.conflictCounted.makeRecord .planConflict .line (conflictDetails ws)).svc = p.svc :=
      Part.makeRecordAt_svc_outOfService (s := p.conflictCounted) hs _ _ _ _
    have hnext : (p.conflictCounted.makeRecord .planConflict .line (conflictDetails ws)).log.next = p.log.next + 1 :=
      Part.makeRecordAt_next _ _ _ _ _
    refine ⟨?_, ?_, ?_, hsvc, ?_, ⟨?_, ?_, ?_⟩, hnext⟩
    all_goals simp [Part.conflictCounted]

/-- A notice that is no STATS notice stays in the queue (R204). -/
theorem Link.mem_post_of_mem {l : Link} {n m : Notice} (h : n ∈ l.notices) (hn : n.isStats = false) :
    n ∈ (l.post m).notices := by
  unfold Link.post
  split
  · exact List.mem_append_left _ h
  · dsimp only
    split
    · exact List.mem_append_left _ ((List.mem_eraseP_of_neg (by rw [hn]; decide)).2 h)
    · exact h

/-! ### A notch in service -/

/-- What an abandonment leaves of the band and the profile, and of what a drop behind it asks (R79). -/
theorem Part.abandonCore_fields (c : AbandonCause) (k : Nat) (s : Part) :
    (s.abandonCore c k).band = { s.band with offeredMap := none } ∧
      (s.abandonCore c k).load = { s.load with offeredProfile := none } ∧
      (s.abandonCore c k).line.state = .carrying ∧ (s.abandonCore c k).supply = s.supply := by
  simp [Part.abandonCore, Part.discardOffers, Part.postLine]

/-- A drop keeps the windows and the set profile. -/
theorem Part.dropLine_settings {s : Part} (c : Cause) (hs : s.inService = true) (hcut : s.supply.state ≠ .cutoff) :
    (s.dropLine c).band.windows = s.band.windows ∧ (s.dropLine c).load.setProfile = s.load.setProfile := by
  obtain ⟨-, -, -, hband, hload, -⟩ := s.droppedFrom_fields c
  rw [Part.dropLine_eq c hs hcut, Part.postLine, Part.post_band, Part.post_load, Part.portsLeaveService_band,
    Part.portsLeaveService_load, hband, hload]
  exact ⟨rfl, rfl⟩

/-- A reshape started keeps the windows and the set profile, whether it has a payload or not. -/
theorem Part.startReshape_settings {s : Part} (own : Bool) (set : List Reason) (hcut : s.supply.state ≠ .cutoff) :
    (s.startReshape own set).band.windows = s.band.windows ∧
      (s.startReshape own set).load.setProfile = s.load.setProfile := by
  by_cases h : payload s.reshapeTableOf = 0
  · have hframe := Part.offered_frame own set s
    generalize hx : s.offered own set = x at hframe
    have htable : x.reshapeTableOf = s.reshapeTableOf := by
      rw [hframe]
      rfl
    have hsame : x.band = s.band ∧ x.load = s.load ∧ x.supply = s.supply := by
      rw [hframe]
      exact ⟨rfl, rfl, rfl⟩
    obtain ⟨hband, hload, hsupply⟩ := hsame
    rw [Part.startReshape_eq, hx, Part.computeReshape_abandons (by rw [htable]; exact h)]
    obtain ⟨hb, hl, hstate, hsup⟩ := Part.abandonCore_fields .noPayload 0 { x with
      band := { x.band with offeredMap := some x.band.configured }
      load := { x.load with offeredProfile := some x.load.setProfile } }
    generalize Part.abandonCore .noPayload 0 { x with
      band := { x.band with offeredMap := some x.band.configured }
      load := { x.load with offeredProfile := some x.load.setProfile } } = y at hb hl hstate hsup ⊢
    unfold Part.dropIfThird
    split
    · obtain ⟨h1, h2⟩ := Part.dropLine_settings (s := y) .reshapeFailed (by rw [Part.inService, hstate]; rfl)
        (by rw [hsup]; exact fun hc => hcut (hsupply ▸ hc))
      rw [h1, h2, hb, hl, ← hband, ← hload]
      exact ⟨rfl, rfl⟩
    · rw [hb, hl, ← hband, ← hload]
      exact ⟨rfl, rfl⟩
  · have hstart := Part.startReshape_offers own set h
    have hband := congrArg (fun x : Part => x.band.windows) hstart
    have hload := congrArg (fun x : Part => x.load.setProfile) hstart
    exact ⟨hband, hload⟩

/-- The part with the windows written, and told where a role changed (R13). -/
def Part.windowsWritten (ws : List Window) (p : Part) : Part :=
  let p' : Part := { p with band := { p.band with windows := ws } }
  if rolesChanged p.band.configured p'.band.configured = 0 then p'
  else p'.post (.bandMap (rolesChanged p.band.configured p'.band.configured))

theorem Part.windowsWritten_frame (ws : List Window) (p : Part) :
    p.windowsWritten ws = { p with
      band := { p.band with windows := ws }, link := (p.windowsWritten ws).link } := by
  unfold Part.windowsWritten
  dsimp only
  split <;> rfl

theorem Part.acceptWindow_eq (ws : List Window) (p : Part) :
    p.acceptWindow ws =
      if p.inService then ((p.windowsWritten ws).raise .notch).refreshHeard else p.windowsWritten ws := by
  have hs : (p.windowsWritten ws).inService = p.inService := by
    rw [Part.windowsWritten_frame]
    rfl
  rw [← hs]
  rfl

/-- The window adds QUIET coverage alone (R9). -/
theorem addsQuietOnly_of {old w : Window} (hen : w.enable = true) (hcls : w.cls = .quiet)
    (h : old.enable = false ∨ old.cls = .quiet ∧ (∀ t, t < 448 → old.covers t = true → w.covers t = true) ∧
      ∃ t, t < 448 ∧ w.covers t = true ∧ old.covers t = false) : addsQuietOnly old w = true := by
  unfold addsQuietOnly
  rw [hen, hcls]
  rcases h with h | ⟨hold, hall, t, ht, hnew, hno⟩
  · rw [h]
    rfl
  · have hevery : tones.all (fun t => !old.covers t || w.covers t) = true := by
      refine List.all_eq_true.2 fun t ht => ?_
      cases hc : old.covers t
      · rfl
      · simp [hall t (mem_tones.1 ht) hc]
    have hsome : tones.any (fun t => w.covers t && !old.covers t) = true :=
      List.any_eq_true.2 ⟨t, mem_tones.2 ht, by simp [hnew, hno]⟩
    rw [hold, hevery, hsome]
    simp

/-- A notch in service (R13, R72, R73). -/
theorem Part.acceptWindow_notch {p : Part} (ws : List Window) (hs : p.inService = true) :
    let map := perTone (resolve p.band.overlay ws)
    let q := p.acceptWindow ws
    q.band.windows = ws ∧ q.load.setProfile = p.load.setProfile ∧
      ((p.line.state = .reshape ∨ p.line.move.isSome = true ∨ p.supply.state = .cutoff) →
        q.line = { p.line with reasons := q.line.reasons } ∧ q.band.mapInForce = p.band.mapInForce ∧
        ∀ r, r ∈ q.line.reasons ↔ r ∈ p.line.reasons ∨ r = .notch) ∧
      (p.line.state = .carrying → p.line.move = none → p.supply.state ≠ .cutoff →
        payload (computeDown map p.load.setProfile p.load.averages (p.line.downInForce.getD [])) ≠ 0 →
        q.line.state = .reshape ∧ q.line.reasons = [] ∧ q.band.offeredMap = some map ∧
        q.band.mapInForce = p.band.mapInForce ∧ q.line.downInForce = p.line.downInForce ∧
        ∃ x, q.line.reshape = some x ∧ ∀ r, r ∈ x.reasons ↔ r ∈ p.line.reasons ∨ r = .notch) := by
  intro map q
  have hq : q = ((p.windowsWritten ws).raise .notch).refreshHeard := (p.acceptWindow_eq ws).trans (if_pos hs)
  have hframe := p.windowsWritten_frame ws
  rw [hq, Part.refreshHeard_band, Part.refreshHeard_load, Part.refreshHeard_line]
  generalize p.windowsWritten ws = x at hframe ⊢
  have hsame : x.line = p.line ∧ x.load = p.load ∧ x.supply = p.supply ∧
      x.band = { p.band with windows := ws } := by
    rw [hframe]
    exact ⟨rfl, rfl, rfl, rfl⟩
  obtain ⟨hline, hload, hsupply, hband⟩ := hsame
  have hxs : x.inService = true := by
    rw [Part.inService, hline]
    exact hs
  cases hcan : x.canReshape with
  | false =>
    rw [Part.raise_pending _ hxs hcan]
    have hno : ¬ (p.line.state = .carrying ∧ p.line.move = none ∧ p.supply.state ≠ .cutoff) := by
      rw [← hline, ← hsupply, ← Part.canReshape_iff, hcan]
      decide
    dsimp only
    rw [hband, hload, hline]
    exact ⟨rfl, rfl, fun _ => ⟨rfl, rfl, fun r => mem_addReason⟩, fun h1 h2 h3 => absurd ⟨h1, h2, h3⟩ hno⟩
  | true =>
    have hcut := (x.canReshape_iff.1 hcan).2.2
    rw [Part.raise_starts _ hcan]
    obtain ⟨hwindows, hprofile⟩ := Part.startReshape_settings (s := x) true (addReason .notch x.line.reasons) hcut
    have hnot : ¬ (p.line.state = .reshape ∨ p.line.move.isSome = true ∨ p.supply.state = .cutoff) := by
      rw [← hline, ← hsupply]
      intro h
      rw [Part.canReshape_held h] at hcan
      cases hcan
    refine ⟨hwindows.trans (by rw [hband]), hprofile.trans (by rw [hload]), fun h => absurd h hnot, fun _ _ _ hpay => ?_⟩
    have htable : payload x.reshapeTableOf ≠ 0 := by
      unfold Part.reshapeTableOf
      rw [hband, hload, hline]
      exact hpay
    have hstart := Part.startReshape_offers true (addReason .notch x.line.reasons) htable
    generalize x.startReshape true (addReason .notch x.line.reasons) = y at hstart
    have hyline := congrArg (fun z : Part => z.line) hstart
    have hyband := congrArg (fun z : Part => z.band) hstart
    simp only [Part.reshapeStarted, Part.postLine, Part.post_line] at hyline
    dsimp only at hyband
    rw [hyline, hyband, hband, hline]
    exact ⟨rfl, rfl, rfl, rfl, rfl, _, rfl, fun r => mem_addReason⟩

/-- Settles O24: the write behind its checks, by what the candidate map holds and by the line. -/
theorem bandWindowsAreWrittenOrRefused : Obligations.BandWindowsAreWrittenOrRefused := by
  have hdone {s : State} {e : Envelope} {w : WindowArg} (h : s.takes e) (hp : s.permits e .lineProfile true) {q : Part}
      {st : Status} {body : ReplyBody} (ho : ownSetBandWindow w (s.part.heardFrom e) = (q, st, body)) :
      Completes (.setBandWindow e w) s (q.answeredTo e 5 st body) :=
    h.answered (c := .setBandWindow w) rfl nofun hp.refuses ho
  refine ⟨fun s e n base size en d c h hp hn hbase hsize hstate => ?_,
    fun s e n base size en d c h hp hn hbase hsize hstate => ?_, fun s e n base size d h hp hn hbase hsize => ?_,
    fun s e w h hp => ?_⟩
  · intro p w ws hclear k p'
    have hline : p.line = s.part.line := (s.part.heardFrom_same e).2.1
    have hs : p.inService = false := by
      rw [Part.inService, hline]
      rcases hstate with hst | hst | hst <;> rw [hst] <;> rfl
    have hown := ownSetBandWindow_eq (p := p) (windowOf_some (n := n) (base := base) (en := en) (d := d) (c := c) hsize)
      hn hbase (by rw [hline]; exact takesWindow_resting _ _ hstate)
    dsimp only at hown
    rw [conflictTones_nil hclear, detectConflict_none (conflictTones_nil hclear), if_neg (by simp),
      Part.acceptWindow_eq, if_neg (by rw [hs]; decide)] at hown
    have hq := hdone h hp hown
    simp only [aligned_iff] at hq
    exact hq
  · intro p w ws clashes hstrict hclash
    have hline : p.line = s.part.line := (s.part.heardFrom_same e).2.1
    have hs : p.inService = false := by
      rw [Part.inService, hline]
      rcases hstate with hst | hst | hst <;> rw [hst] <;> rfl
    have hfound : (conflictTones ws).isEmpty = false := by
      rw [List.isEmpty_eq_false_iff]
      exact hclash
    have hown := ownSetBandWindow_eq (p := p) (windowOf_some (n := n) (base := base) (en := en) (d := d) (c := c) hsize)
      hn hbase (by rw [hline]; exact takesWindow_resting _ _ hstate)
    dsimp only at hown
    obtain ⟨hband, hpline, hload, hsvc, hsched, htel, hnext⟩ := detectConflict_fields hfound hs
    have hsd : (p.detectConflict ws).inService = false := by rw [Part.inService, hpline]; exact hs
    rw [hstrict, Bool.false_and, if_neg (by decide), Part.acceptWindow_eq, if_neg (by rw [hsd]; decide)] at hown
    have hq := hdone h hp hown
    simp only [aligned_iff] at hq
    refine ⟨_, hq, ?_⟩
    have hframe := (p.detectConflict ws).windowsWritten_frame ws
    have hnotices : ∀ r k, Notice.fault r k ∈ (p.detectConflict ws).link.notices →
        Notice.fault r k ∈ ((p.detectConflict ws).windowsWritten ws).link.notices := by
      intro r k hr
      unfold Part.windowsWritten
      dsimp only
      split
      · exact hr
      · exact Link.mem_post_of_mem hr rfl
    generalize hz : (p.detectConflict ws).windowsWritten ws = z at hframe hnotices
    have hzband := congrArg (fun x : Part => x.band) hframe
    have hzline := congrArg (fun x : Part => x.line) hframe
    have hzload := congrArg (fun x : Part => x.load) hframe
    have hzsvc := congrArg (fun x : Part => x.svc) hframe
    have hzsched := congrArg (fun x : Part => x.sched) hframe
    have hzlog := congrArg (fun x : Part => x.log) hframe
    have hzA := congrArg (fun x : Part => x.portA) hframe
    have hzB := congrArg (fun x : Part => x.portB) hframe
    have hzV := congrArg (fun x : Part => x.voice) hframe
    dsimp only at hzband hzline hzload hzsvc hzsched hzlog hzA hzB hzV
    obtain ⟨hA, hB, hV⟩ := htel
    refine ⟨by rw [hzband, hband], hzline.trans hpline, hzload.trans hload, hzsvc.trans hsvc, hzsched.trans hsched,
      ⟨hzA.trans hA, hzB.trans hB, hzV.trans hV⟩, by rw [hzlog]; exact hnext, fun hflag hroom => ?_⟩
    obtain ⟨kept, hmem⟩ := Part.fault_mem_makeRecordAt .planConflict .line p.line.state (conflictDetails ws)
      (s := p.conflictCounted) hroom
    refine ⟨p.conflictCounted.newRecord .planConflict .line p.line.state (conflictDetails ws), kept, hnotices _ _ ?_, rfl,
      rfl, rfl, rfl, rfl⟩
    rw [detectConflict_found hfound, if_neg (by rw [hflag]; decide)]
    exact hmem
  · intro p w ws hs old hold hquiet hclear map
    have hgetD : p.band.windows.getD n w = old := by rw [List.getD_eq_getElem?_getD, hold]; rfl
    have hown := ownSetBandWindow_eq (p := p) (windowOf_some (n := n) (base := base) (en := true) (d := d) (c := .quiet)
      hsize) hn hbase (by
        have hadds := addsQuietOnly_of (old := old) (w := w) rfl rfl hquiet
        show p.line.state.takesWindow (p.band.windows.getD n w) w = true
        rw [hgetD]
        cases hst : p.line.state
        all_goals
          rw [Part.inService, hst] at hs
        case carrying => exact hadds
        case reshape => exact hadds
        all_goals cases hs)
    dsimp only at hown
    rw [conflictTones_nil hclear, detectConflict_none (conflictTones_nil hclear), if_neg (by simp)] at hown
    have hq := hdone h hp hown
    simp only [aligned_iff] at hq
    have hnotch := Part.acceptWindow_notch (p := p) ws hs
    generalize p.acceptWindow ws = x at hq hnotch
    exact ⟨x, hq, hnotch⟩
  · intro p
    refine ⟨fun hform => ?_, fun win hwin => ⟨fun hrange => ?_, fun hn hbase old hold => ⟨fun hactive => ?_,
      fun hrest hstrict hclash => ?_⟩⟩⟩
    · refine hdone h hp ?_
      have hnone : windowOf w = none := by
        unfold windowOf
        split
        · rename_i hen hd hc
          refine if_neg fun hsize => ?_
          rcases hform with hf | hf | hf | hf
          · rw [hen] at hf; cases hf
          · rw [hd] at hf; cases hf
          · rw [hc] at hf; cases hf
          · exact hf (by simpa [windowSizes] using hsize)
        · rfl
      unfold ownSetBandWindow
      rw [hnone]
    · refine hdone h hp ?_
      unfold ownSetBandWindow
      rw [hwin]
      exact if_pos hrange
    · have hgetD : p.band.windows.getD w.number win = old := by rw [List.getD_eq_getElem?_getD, hold]; rfl
      refine hdone h hp ?_
      have hno : p.line.state.takesWindow old win = false := by
        rcases hactive with hst | hst | hst | ⟨hs, hadds⟩
        · rw [hst]; rfl
        · rw [hst]; rfl
        · rw [hst]; rfl
        · cases hst : p.line.state
          all_goals
            rw [Part.inService, hst] at hs
          case carrying => exact hadds
          case reshape => exact hadds
          all_goals cases hs
      unfold ownSetBandWindow
      rw [hwin]
      dsimp only
      rw [if_neg (by omega)]
      show (if (!p.line.state.takesWindow (p.band.windows.getD w.number win) win) = true then _ else _) = _
      rw [hgetD, hno]
      rfl
    · have hgetD : p.band.windows.getD w.number win = old := by rw [List.getD_eq_getElem?_getD, hold]; rfl
      have hs : p.inService = false := by
        rw [Part.inService]
        rcases hrest with hst | hst | hst <;> rw [hst] <;> rfl
      have hown := ownSetBandWindow_eq (p := p) hwin hn hbase (takesWindow_resting _ _ hrest)
      dsimp only at hown
      rw [hstrict, hclash, hgetD, if_pos (by decide)] at hown
      obtain ⟨hband, hpline, hload, -, -, -, hnext⟩ := detectConflict_fields hclash hs
      refine ⟨_, hdone h hp hown, hband, ?_, hpline, hload⟩
      rw [hnext]
      split
      · exact BitVec.add_zero _
      · rfl

end Sys2Proof.Machine
end

section
/-! SUPPORT. What the operations on calls and rings do to the records of the two ports (R96 to R107), one lemma for the port
they act on and one for the other; and the wiring, the voice path and the scheduler but for what the generators play, that
rings and calls leave alone. -/

namespace Sys2Proof.Machine

variable (s : Part) (p q : PortId)

/-! ### Records and messages -/

@[simp] theorem Part.port_modPort_by_other (f : Port → Port) : (s.modPort (other p) f).port p = s.port p := by
  cases p <;> rfl
@[simp] theorem Part.gen_setGen_by_other (g : Generator) : (s.setGen (other p) g).gen p = s.gen p := by cases p <;> rfl
@[simp] theorem Part.gen_modPort (f : Port → Port) : (s.modPort p f).gen q = s.gen q := by cases p <;> cases q <;> rfl
@[simp] theorem Part.port_post (n : Notice) : (s.post n).port q = s.port q := by cases q <;> rfl
@[simp] theorem Part.port_enqueue (m : Msg) : (s.enqueue m).port q = s.port q := by rw [Part.enqueue_frame]; cases q <;> rfl
@[simp] theorem Part.port_signal (x : Signal) : (s.signal p x).port q = s.port q := s.port_enqueue q _
@[simp] theorem Part.port_portEvent (e : PortEvent) (m : Option Mode) : (s.portEvent p e m).port q = s.port q :=
  s.port_post q _
@[simp] theorem Part.port_tryOffer : s.tryOffer.port q = s.port q := by rw [Part.tryOffer_frame]; cases q <;> rfl
@[simp] theorem Part.port_makeRecordAt (k : FaultKind) (src : FaultSource) (ls : LineState) (ds : List Int) :
    (s.makeRecordAt k src ls ds).port q = s.port q := by rw [Part.makeRecordAt_frame]; cases q <;> rfl
@[simp] theorem Part.port_makeRecord (k : FaultKind) (src : FaultSource) (ds : List Int) :
    (s.makeRecord k src ds).port q = s.port q := s.port_makeRecordAt q _ _ _ _
@[simp] theorem Part.enterState_port_by_other (n : PortState) (m : Option Mode) :
    (s.enterState (other p) n m).port p = s.port p := by
  have h := s.enterState_port_other (other p) n m
  rwa [other_other] at h

@[simp] theorem Part.inService_enterState (n : PortState) (m : Option Mode) :
    (s.enterState p n m).inService = s.inService := Part.inService_of_ground (by simp)
@[simp] theorem Part.inService_modPort (f : Port → Port) : (s.modPort p f).inService = s.inService :=
  Part.inService_of_ground (by simp)
@[simp] theorem Part.inService_setGen (g : Generator) : (s.setGen p g).inService = s.inService :=
  Part.inService_of_ground (by simp)
@[simp] theorem Part.inService_signal (x : Signal) : (s.signal p x).inService = s.inService :=
  Part.inService_of_ground (by simp)

theorem other_ne : other p ≠ p := by cases p <;> decide

theorem eq_or_other (y : PortId) : y = p ∨ y = other p := by cases p <;> cases y <;> simp [other]

/-! ### Announcing -/

@[simp] theorem Part.sayOffHook_port : (s.sayOffHook p).port p = { s.port p with announced := true } := by
  simp [Part.sayOffHook]
@[simp] theorem Part.sayOffHook_port_other : (s.sayOffHook p).port (other p) = s.port (other p) := by
  simp [Part.sayOffHook]
@[simp] theorem Part.sayOffHook_port_by_other : (s.sayOffHook (other p)).port p = s.port p := by
  simp [Part.sayOffHook]
@[simp] theorem Part.sayOnHook_port : (s.sayOnHook p).port p = { s.port p with announced := false } := by
  simp [Part.sayOnHook]
@[simp] theorem Part.sayOnHook_port_other : (s.sayOnHook p).port (other p) = s.port (other p) := by
  simp [Part.sayOnHook]

/-! ### The caller of a local ring, when the ring ends -/

/-- The port with a TONE held for it released (R130). -/
def Port.toneReleased (r : Port) : Port :=
  match r.lastTone with
  | some (k, true) => { r with lastTone := some (k, false) }
  | _ => r

@[simp] theorem Part.releaseTone_port : (s.releaseTone p).port p = (s.port p).toneReleased := by
  unfold Part.releaseTone Port.toneReleased
  cases h : (s.port p).lastTone with
  | none => rfl
  | some kt =>
    obtain ⟨k, b⟩ := kt
    cases b
    · rfl
    · simp

@[simp] theorem Part.releaseTone_port_other : (s.releaseTone p).port (other p) = s.port (other p) := by
  unfold Part.releaseTone
  split <;> simp

theorem Port.toneReleased_frame (r : Port) : r.toneReleased = { r with lastTone := r.toneReleased.lastTone } := by
  unfold Port.toneReleased
  split <;> rfl

/-- The port of a caller whose local ring has ended without answer (R96, R107, R130). -/
def Port.calledBack (inService : Bool) (r : Port) : Port :=
  if r.state = .dialling then
    let x := Port.toneReleased { r with dialTimer := some 30000 }
    { x with announced := inService || r.announced }
  else r

theorem Port.announced_self {r : Port} {b : Bool} (h : r.announced = b) : { r with announced := b } = r := by
  subst h
  rfl

@[simp] theorem Part.inService_releaseTone : (s.releaseTone p).inService = s.inService :=
  Part.inService_of_ground (by simp)

@[simp] theorem Part.callerBack_port : (s.callerBack p).port p = (s.port p).calledBack s.inService := by
  unfold Part.callerBack Port.calledBack
  dsimp only
  split
  · generalize hz : (s.modPort p fun r => { r with dialTimer := some 30000 }).releaseTone p = z
    have hx : Port.toneReleased { s.port p with dialTimer := some 30000 } = z.port p := by
      subst hz
      simp
    have ha : (z.port p).announced = (s.port p).announced := by rw [← hx, Port.toneReleased_frame]
    have hs : z.inService = s.inService := by
      subst hz
      simp
    rw [hs, hx]
    cases hserv : s.inService <;> cases hann : (z.port p).announced
    case true.false => exact z.sayOffHook_port p
    all_goals
      refine (Port.announced_self (r := z.port p) ?_).symm
      rw [hann, ← ha, hann]
      rfl
  · rfl

@[simp] theorem Part.callerBack_port_other : (s.callerBack p).port (other p) = s.port (other p) := by
  unfold Part.callerBack
  dsimp only
  split
  · split <;> simp
  · rfl

@[simp] theorem Part.callerBack_port_by_other : (s.callerBack (other p)).port p = s.port p := by
  have h := s.callerBack_port_other (other p)
  rwa [other_other] at h

theorem Port.calledBack_of_ne {r : Port} (h : r.state ≠ .dialling) (b : Bool) : r.calledBack b = r := if_neg h

/-! ### A ring ends -/

/-- The port whose ring ends loses the ring and goes to the state given (R107). -/
theorem Part.endRing_port {n : PortState} (b : Bool) (hn : n ≠ .dialling) (hg : (s.port p).ring.isSome = true) :
    (s.endRing p b n).port p = { s.port p with ring := none, state := n } := by
  obtain ⟨g, hg⟩ := Option.isSome_iff_exists.1 hg
  have hended : ((s.modPort p fun r => { r with ring := none }).enterState p n none).port p =
      { s.port p with ring := none, state := n } := by simp
  unfold Part.endRing
  rw [hg]
  dsimp only
  split
  · split
    · rw [Part.port_signal, hended]
    · exact hended
  · split
    · rename_i y _
      rcases eq_or_other p y with rfl | rfl
      · rw [Part.callerBack_port, hended]
        exact Port.calledBack_of_ne hn _
      · rw [Part.callerBack_port_by_other, hended]
    · exact hended

theorem Part.endRing_of_none {s : Part} {p : PortId} (b : Bool) (n : PortState) (hg : (s.port p).ring = none) :
    s.endRing p b n = s := by
  unfold Part.endRing
  rw [hg]

/-- The other port is called back where it was the caller of a local ring, and stays as it was else (R107). -/
theorem Part.endRing_port_other (b : Bool) (n : PortState) {g : Ring} (hg : (s.port p).ring = some g) :
    (s.endRing p b n).port (other p) =
      if g.origin = .loc ∧ g.partner = some (other p) then (s.port (other p)).calledBack s.inService
      else s.port (other p) := by
  have hended : ((s.modPort p fun r => { r with ring := none }).enterState p n none).port (other p) =
      s.port (other p) := by simp
  unfold Part.endRing
  rw [hg]
  dsimp only
  cases horigin : g.origin with
  | line =>
    rw [if_neg (show ¬ (Origin.line = .loc ∧ g.partner = some (other p)) from fun h => nomatch h.1)]
    dsimp only
    split
    · rw [Part.port_signal, hended]
    · exact hended
  | loc =>
    dsimp only
    cases hpartner : g.partner with
    | none =>
      rw [if_neg (show ¬ (Origin.loc = .loc ∧ none = some (other p)) from fun h => nomatch h.2)]
      exact hended
    | some y =>
      dsimp only
      rcases eq_or_other p y with rfl | rfl
      · rw [Part.callerBack_port_other, hended, if_neg]
        exact fun h => other_ne y (Option.some.inj h.2).symm
      · rw [Part.callerBack_port, hended, if_pos ⟨rfl, rfl⟩]
        simp

/-- The caller of a local ring: the other port rings, with this one as partner. -/
theorem Part.isCaller_iff {s : Part} {p : PortId} :
    s.isCaller p = true ↔ (s.port (other p)).state = .ringing ∧
      ∃ g, (s.port (other p)).ring = some g ∧ g.partner = some p := by
  unfold Part.isCaller
  cases hr : (s.port (other p)).ring <;> simp [hr]

theorem Part.isCaller_congr {s x : Part} {p : PortId} (h : x.port (other p) = s.port (other p)) :
    x.isCaller p = s.isCaller p := by
  unfold Part.isCaller
  rw [h]

/-- The ring on the other port that this port was the caller of (R101, R107). -/
theorem Part.dropRungBy_port_other :
    (s.dropRungBy p).port (other p) =
      if s.isCaller p then { s.port (other p) with ring := none, state := .idle } else s.port (other p) := by
  unfold Part.dropRungBy
  split
  · rename_i h
    obtain ⟨-, g, hg, -⟩ := Part.isCaller_iff.1 h
    exact Part.endRing_port _ _ false (by decide) (by rw [hg]; rfl)
  · rfl

theorem Part.dropRungBy_port (hp : (s.port p).state ≠ .dialling) : (s.dropRungBy p).port p = s.port p := by
  unfold Part.dropRungBy
  split
  · rename_i h
    obtain ⟨-, g, hg, -⟩ := Part.isCaller_iff.1 h
    have hother := Part.endRing_port_other s (other p) false .idle hg
    rw [other_other, Port.calledBack_of_ne hp] at hother
    rw [hother]
    split <;> rfl
  · rfl

/-! ### PARKED -/

/-- The port in PARKED, the howler on (R102). -/
def Port.parked (r : Port) : Port :=
  { r with dialTimer := none, digit := none, howler := some 60000, state := .parked }

theorem Part.park_port : (s.park p).port p = (s.port p).parked := by
  unfold Part.park
  rw [Part.dropRungBy_port] <;> simp [Port.parked]

theorem Part.park_port_other :
    (s.park p).port (other p) =
      if s.isCaller p then { s.port (other p) with ring := none, state := .idle } else s.port (other p) := by
  unfold Part.park
  have hsame : ((s.modPort p fun r => { r with dialTimer := none, digit := none, howler := some 60000 }).enterState p
      .parked none).port (other p) = s.port (other p) := by simp
  rw [Part.dropRungBy_port_other, Part.isCaller_congr hsame, hsame]

/-! ### The wiring -/

/-- The voice path and the scheduler, but for what the generators play. -/
def Part.wiring (s : Part) : Voice × Sched := ({ s.voice with genA := .silent, genB := .silent }, s.sched)

theorem Part.wiring_of_same {s x : Part} (hv : x.voice = s.voice) (hs : x.sched = s.sched) : x.wiring = s.wiring := by
  rw [Part.wiring, hv, hs]
  rfl

@[simp] theorem Part.modPort_wiring (f : Port → Port) : (s.modPort p f).wiring = s.wiring :=
  Part.wiring_of_same (by simp) (by simp)
@[simp] theorem Part.setGen_wiring (g : Generator) : (s.setGen p g).wiring = s.wiring := by cases p <;> rfl
@[simp] theorem Part.post_wiring (n : Notice) : (s.post n).wiring = s.wiring := rfl
@[simp] theorem Part.enqueue_wiring (m : Msg) : (s.enqueue m).wiring = s.wiring :=
  Part.wiring_of_same (by simp) (by simp)
@[simp] theorem Part.signal_wiring (x : Signal) : (s.signal p x).wiring = s.wiring := s.enqueue_wiring _
@[simp] theorem Part.portEvent_wiring (e : PortEvent) (m : Option Mode) : (s.portEvent p e m).wiring = s.wiring := rfl
@[simp] theorem Part.makeRecordAt_wiring (k : FaultKind) (src : FaultSource) (ls : LineState) (ds : List Int) :
    (s.makeRecordAt k src ls ds).wiring = s.wiring := Part.wiring_of_same (by simp) (by simp)
@[simp] theorem Part.enterState_wiring (n : PortState) (m : Option Mode) : (s.enterState p n m).wiring = s.wiring :=
  Part.wiring_of_same (by simp) (by simp)
@[simp] theorem Part.sayOffHook_wiring : (s.sayOffHook p).wiring = s.wiring := by simp [Part.sayOffHook]
@[simp] theorem Part.sayOnHook_wiring : (s.sayOnHook p).wiring = s.wiring := by simp [Part.sayOnHook]
@[simp] theorem Part.withdraw_wiring : (s.withdraw p).wiring = s.wiring := by
  unfold Part.withdraw
  split <;> simp
@[simp] theorem Part.releaseTone_wiring : (s.releaseTone p).wiring = s.wiring := by
  unfold Part.releaseTone
  split <;> simp
@[simp] theorem Part.callerBack_wiring : (s.callerBack p).wiring = s.wiring := by
  unfold Part.callerBack
  dsimp only
  split
  · split <;> simp
  · rfl
@[simp] theorem Part.endRing_wiring (b : Bool) (n : PortState) : (s.endRing p b n).wiring = s.wiring := by
  unfold Part.endRing
  dsimp only
  split
  · rfl
  · split
    · split <;> simp
    · split <;> simp
@[simp] theorem Part.dropRungBy_wiring : (s.dropRungBy p).wiring = s.wiring := by
  unfold Part.dropRungBy
  split <;> simp
@[simp] theorem Part.park_wiring : (s.park p).wiring = s.wiring := by simp [Part.park]
@[simp] theorem Part.toDialling_wiring : (s.toDialling p).wiring = s.wiring := by
  unfold Part.toDialling
  dsimp only
  split <;> simp
@[simp] theorem Part.startRing_wiring (c : Nat) (o : Origin) (x : Option PortId) :
    (s.startRing p c o x).wiring = s.wiring := by
  unfold Part.startRing
  dsimp only
  split <;> simp
@[simp] theorem Part.portLeavesService_wiring : (s.portLeavesService p).wiring = s.wiring := by
  unfold Part.portLeavesService
  dsimp only
  rw [Part.modPort_wiring]
  split
  any_goals simp
  split <;> simp
@[simp] theorem Part.refreshHeard_wiring : s.refreshHeard.wiring = s.wiring := rfl

section
variable {s x : Part} (h : x.wiring = s.wiring)
include h

theorem Part.sched_of_wiring : x.sched = s.sched := by
  have he := congrArg Prod.snd h
  exact he
theorem Part.chan_of_wiring (p : PortId) : x.chan p = s.chan p := by
  have hA := congrArg (fun w => w.1.chanA) h
  have hB := congrArg (fun w => w.1.chanB) h
  cases p
  · exact hA
  · exact hB
theorem Part.joinLink_of_wiring : x.voice.joinLink = s.voice.joinLink := by
  have he := congrArg (fun w => w.1.joinLink) h
  exact he
theorem Part.slot_of_wiring (p : PortId) : x.slot p = s.slot p := by
  simp only [Part.slot, Part.sched_of_wiring h]
theorem Part.hold_of_wiring (p : PortId) : x.hold p = s.hold p := by
  simp only [Part.hold, Part.sched_of_wiring h]

end

end Sys2Proof.Machine
end

section
/-! SUPPORT and PROOF. The line's way to QUIET (R16, R18, R35) and the entry to SHUTDOWN (R186), which LINE_STOP, the resets
and the end of the last report share; LINE_STOP (O22). -/

namespace Sys2Proof.Machine

/-! ### A port that has left its call -/

/-- Parking the other port leaves a port alone that does not ring. -/
theorem Part.park_port_by_other {s : Part} {p : PortId} (hr : (s.port p).state ≠ .ringing) :
    (s.park (other p)).port p = s.port p := by
  have h := s.park_port_other (other p)
  rw [other_other] at h
  rw [h, if_neg]
  intro hc
  have hring := (Part.isCaller_iff.1 hc).1
  rw [other_other] at hring
  exact hr hring

@[simp] theorem Part.port_unlink (s : Part) (p : PortId) : s.unlink.port p = s.port p := by cases p <;> rfl

/-- A port that has left its call stays as it is while the other port leaves it too (R101, R112, R114). -/
theorem Part.leaveCall_port {s : Part} {p : PortId} (old : PortState) (hr : (s.port p).state ≠ .ringing)
    (hd : (s.port p).state ≠ .dialling) : (s.leaveCall p old).port p = s.port p := by
  unfold Part.leaveCall
  dsimp only
  generalize hx : (if old = .intercom ∧ (s.port (other p)).state = .intercom then s.park (other p) else s) = x
  have hxp : x.port p = s.port p := by
    subst hx
    split
    · exact Part.park_port_by_other hr
    · rfl
  generalize hy : (if p = .a then x.parkJoined else if old = .joined then x.unlink else x) = y
  have hyp : y.port p = s.port p := by
    rw [← hxp]
    subst hy
    split
    · rename_i hp
      subst hp
      unfold Part.parkJoined
      split
      · have hpark := Part.park_port_by_other (s := x.unlink) (p := .a) (by
          rw [Part.port_unlink, hxp]
          exact hr)
        exact hpark.trans (x.port_unlink .a)
      · rfl
    · split
      · exact x.port_unlink p
      · rfl
  rw [Part.dropRungBy_port _ _ (by rw [hyp]; exact hd), hyp]

/-! ### The line in QUIET -/

/-- The line as it goes to QUIET (R18). -/
def Line.quieted (l : Line) : Line := { l.rest .quiet with attempts := 0 }

/-- The part as its line goes to QUIET, with what a cause brings: the snapshot and the record (R18, R35, R36). -/
def Part.quieted (cause : Option Cause) (s : Part) : Part :=
  match cause with
  | none => s.restedAs .quiet s.line.quieted
  | some c =>
    ((s.writeSnapshot c).restedAs .quiet s.line.quieted).makeRecordAt .lineDrop .line s.line.state
      (s.snapshotOf c).dropDetails

/-- What the data paths and the log do as the line leaves `was`, ahead of the ports (R20, R135, R145, R155). -/
def Part.pathsLeave (was : LineState) (s : Part) : Part :=
  if was.inService then Part.logLeavesService { s with sched := s.sched.flush, svc := s.svc.cut true }
  else { s with svc := s.svc.cut false }

theorem Part.afterLeaving_eq (was : LineState) (s : Part) :
    s.afterLeaving was = if was.inService then (s.pathsLeave was).portsLeaveService else s.pathsLeave was := by
  unfold Part.afterLeaving Part.pathsLeave
  split <;> rfl

theorem Part.toQuiet_eq (cause : Option Cause) (s : Part) :
    s.toQuiet cause =
      if s.line.state = .quiet then ((s.quieted cause).afterLeaving s.line.state).settleRelay
      else (((s.quieted cause).afterLeaving s.line.state).settleRelay).postLine s.line.state cause [] := by
  cases cause <;> rfl

/-- The part on its way to QUIET, ahead of the ports. -/
def Part.stopped (cause : Option Cause) (s : Part) : Part := (s.quieted cause).pathsLeave s.line.state

theorem Part.quieted_ground_fields (cause : Option Cause) (s : Part) :
    (s.quieted cause).line = s.line.quieted ∧
      (s.quieted cause).band = { s.band with offeredMap := none, mapInForce := none } ∧
      (s.quieted cause).load = { s.load with offeredProfile := none, periodSums := [], periodCount := 0 } ∧
      (s.quieted cause).snapshot = (match cause with | some c => some (s.snapshotOf c) | none => s.snapshot) ∧
      (s.quieted cause).supply = s.supply ∧ (s.quieted cause).access = s.access ∧
      (s.quieted cause).diag = s.diag ∧ (s.quieted cause).time = s.time ∧ (s.quieted cause).running = s.running ∧
      (s.quieted cause).svc = { s.svc with outQ := [] } ∧
      (s.quieted cause).sched = { s.sched with burst := ⟨[], none⟩ } ∧
      (s.quieted cause).portA = s.portA ∧ (s.quieted cause).portB = s.portB ∧
      (s.quieted cause).link.replies = s.link.replies ∧ (s.quieted cause).link.silenceHold = s.link.silenceHold := by
  cases cause with
  | none => exact ⟨rfl, rfl, rfl, rfl, rfl, rfl, rfl, rfl, rfl, rfl, rfl, rfl, rfl, rfl, rfl⟩
  | some c =>
    have hsvc : (s.quieted (some c)).svc = { s.svc with outQ := [] } := by
      unfold Part.quieted
      dsimp only
      rw [Part.makeRecordAt_svc_outOfService rfl]
      rfl
    refine ⟨?_, ?_, ?_, ?_, ?_, ?_, ?_, ?_, ?_, hsvc, ?_, ?_, ?_, ?_, ?_⟩
    all_goals simp [Part.quieted, Part.restedAs, Part.restLine, Part.writeSnapshot, Part.makeRecordAt_link]

/-- The data paths and the log alone change as the line leaves its state. -/
theorem Part.pathsLeave_frame (was : LineState) (s : Part) :
    s.pathsLeave was = { s with
      log := (s.pathsLeave was).log, svc := s.svc.cut was.inService
      sched := if was.inService then { s.sched.flush with lastReport := none } else s.sched } := by
  unfold Part.pathsLeave
  split
  · rename_i h
    rw [h]
    have hframe := Part.logLeavesService_frame { s with sched := s.sched.flush, svc := s.svc.cut true }
    rw [Part.logLeavesService_lastReport] at hframe
    exact hframe
  · rename_i h
    rw [eq_false_of_ne_true h]

theorem Part.pathsLeave_log (was : LineState) (s : Part) :
    (s.pathsLeave was).log.said = s.log.said ∧ (s.pathsLeave was).log.next = s.log.next := by
  unfold Part.pathsLeave
  split
  · exact Part.logLeavesService_log _
  · exact ⟨rfl, rfl⟩

section
variable (cause : Option Cause) (s : Part)

theorem Part.stopped_fields :
    (s.stopped cause).line = s.line.quieted ∧
      (s.stopped cause).band = { s.band with offeredMap := none, mapInForce := none } ∧
      (s.stopped cause).load = { s.load with offeredProfile := none, periodSums := [], periodCount := 0 } ∧
      (s.stopped cause).snapshot = (match cause with | some c => some (s.snapshotOf c) | none => s.snapshot) ∧
      (s.stopped cause).supply = s.supply ∧ (s.stopped cause).access = s.access ∧
      (s.stopped cause).diag = s.diag ∧ (s.stopped cause).time = s.time ∧ (s.stopped cause).running = s.running ∧
      (s.stopped cause).svc = Service.cut s.inService { s.svc with outQ := [] } ∧
      (s.stopped cause).sched = (if s.inService then
        { Sched.flush { s.sched with burst := ⟨[], none⟩ } with lastReport := none }
        else { s.sched with burst := ⟨[], none⟩ }) ∧
      (s.stopped cause).portA = s.portA ∧ (s.stopped cause).portB = s.portB ∧
      (s.stopped cause).link.replies = s.link.replies ∧ (s.stopped cause).link.silenceHold = s.link.silenceHold := by
  obtain ⟨hline, hband, hload, hsnapshot, hsupply, haccess, hdiag, htime, hrunning, hsvc, hsched, ha, hb, hreplies,
    hhold⟩ := s.quieted_ground_fields cause
  unfold Part.stopped
  rw [Part.pathsLeave_frame]
  refine ⟨hline, hband, hload, hsnapshot, hsupply, haccess, hdiag, htime, hrunning, ?_, ?_, ha, hb, hreplies, hhold⟩
  · rw [hsvc]
    rfl
  · rw [hsched]
    rfl

theorem Part.quieted_outOfService : (s.quieted cause).inService = false := by
  rw [Part.inService, (s.quieted_ground_fields cause).1]
  rfl

theorem Part.stopped_outOfService : (s.stopped cause).inService = false := by
  rw [Part.inService, (s.stopped_fields cause).1]
  rfl

theorem Part.leftLine_ground : ((s.quieted cause).afterLeaving s.line.state).ground = (s.stopped cause).ground := by
  rw [Part.afterLeaving_eq]
  split
  · exact Part.portsLeaveService_ground _
  · rfl

theorem Part.leftLine_outbound : ((s.quieted cause).afterLeaving s.line.state).outbound = (s.stopped cause).outbound := by
  rw [Part.afterLeaving_eq]
  split
  · exact Part.portsLeaveService_outbound _
  · rfl

/-- The line in QUIET, with the relay where R187 drives it. -/
theorem Part.toQuiet_ground :
    (s.toQuiet cause).ground = { (s.stopped cause).ground with
      supply := { s.supply with relay := ((s.quieted cause).afterLeaving s.line.state).relayTarget } } := by
  have hsupply : ((s.quieted cause).afterLeaving s.line.state).supply = s.supply :=
    (Part.supply_of_ground (s.leftLine_ground cause)).trans (s.stopped_fields cause).2.2.2.2.1
  rw [Part.toQuiet_eq]
  split
  · rw [Part.settleRelay_ground, s.leftLine_ground, hsupply]
  · rw [Part.postLine, Part.post_ground, Part.settleRelay_ground, s.leftLine_ground, hsupply]

theorem Part.toQuiet_svc_log :
    (s.toQuiet cause).svc = (s.stopped cause).svc ∧ (s.toQuiet cause).log = (s.stopped cause).log := by
  refine Part.svc_log_of_outbound ?_ (s.stopped_outOfService cause)
  rw [Part.toQuiet_eq]
  split
  · rw [Part.settleRelay_outbound, s.leftLine_outbound]
  · rw [Part.postLine, Part.post_outbound, Part.settleRelay_outbound, s.leftLine_outbound]

theorem Part.toQuiet_watches : s.Watches (s.toQuiet cause) := by
  have hstopped : s.Watches (s.stopped cause) := (Part.Watches_refl s).same (s.stopped_fields cause).2.2.2.2.2.2.1
  have hleft : s.Watches ((s.quieted cause).afterLeaving s.line.state) := by
    rw [Part.afterLeaving_eq]
    split
    · exact hstopped.portsLeaveService
    · exact hstopped
  rw [Part.toQuiet_eq]
  split
  · exact hleft.settleRelay
  · exact hleft.settleRelay

/-- The relay is through behind the way to QUIET, but for a LOOP_TEST that holds it (R18, R187). -/
theorem Part.toQuiet_relay (h : s.loopTesting = false ∨ s.supply.state = .shutdown) :
    (s.toQuiet cause).supply.relay = false := by
  have hground := congrArg (fun x : Part => x.supply.relay) (s.toQuiet_ground cause)
  refine hground.trans ?_
  have hleft := s.leftLine_ground cause
  have hline := (Part.line_of_ground hleft).trans (s.stopped_fields cause).1
  have hsupply := (Part.supply_of_ground hleft).trans (s.stopped_fields cause).2.2.2.2.1
  rcases h with hloop | hshut
  · refine Part.relayTarget_through ?_ (by rw [hline]; rfl)
    have hstopped : s.Watches (s.stopped cause) := (Part.Watches_refl s).same (s.stopped_fields cause).2.2.2.2.2.2.1
    rw [Part.afterLeaving_eq]
    split
    · exact hstopped.portsLeaveService.loopTesting hloop
    · exact hstopped.loopTesting hloop
  · exact Part.relayTarget_shut (by rw [hsupply]; exact hshut)

/-! ### No channel is left -/

/-- Where the relay goes, a port without a channel stays without one. -/
theorem Part.settleRelay_noChannels {x : Part} (h : x.outline.chan = ⟨false, false⟩) :
    x.settleRelay.outline.chan = ⟨false, false⟩ := by
  rw [Part.settleRelay_outline (x := x) rfl, Outline.move]
  split
  · exact h
  · split
    · exact h
    · show x.outline.chan.put .a false = _
      rw [h]
      rfl

theorem Part.toQuiet_noChannels (hs : s.inService = true) : (s.toQuiet cause).outline.chan = ⟨false, false⟩ := by
  have hleft : ((s.quieted cause).afterLeaving s.line.state).outline.chan = ⟨false, false⟩ := by
    rw [Part.afterLeaving_eq, if_pos (show s.line.state.inService = true from hs), Part.portsLeaveService_outline rfl]
    rfl
  rw [Part.toQuiet_eq]
  split
  · exact Part.settleRelay_noChannels hleft
  · rw [Part.postLine, Part.post_outline _ rfl]
    exact Part.settleRelay_noChannels hleft

end

theorem Part.chan_none_of_outline {x : Part} (h : x.outline.chan = ⟨false, false⟩) : x.chan .a = none ∧ x.chan .b = none := by
  have ha := Part.outline_chan x .a
  have hb := Part.outline_chan x .b
  rw [h] at ha hb
  exact ⟨Option.isSome_eq_false_iff.1 ha.symm |> Option.isNone_iff_eq_none.1,
    Option.isSome_eq_false_iff.1 hb.symm |> Option.isNone_iff_eq_none.1⟩

/-- The whole way to QUIET, field by field. -/
theorem Part.toQuiet_fields (cause : Option Cause) (s : Part) :
    (s.toQuiet cause).line = s.line.quieted ∧
      (s.toQuiet cause).band = { s.band with offeredMap := none, mapInForce := none } ∧
      (s.toQuiet cause).load = { s.load with offeredProfile := none, periodSums := [], periodCount := 0 } ∧
      (s.toQuiet cause).snapshot = (match cause with | some c => some (s.snapshotOf c) | none => s.snapshot) ∧
      (s.toQuiet cause).supply = { s.supply with relay := (s.toQuiet cause).supply.relay } ∧
      (s.toQuiet cause).access = s.access ∧ (s.toQuiet cause).time = s.time ∧
      (s.toQuiet cause).running = s.running ∧
      (s.toQuiet cause).svc = Service.cut s.inService { s.svc with outQ := [] } ∧
      (s.toQuiet cause).sched.ground = (if s.inService then
        { Sched.flush { s.sched with burst := ⟨[], none⟩ } with lastReport := none }
        else { s.sched with burst := ⟨[], none⟩ }).ground ∧
      (s.toQuiet cause).link.replies = s.link.replies ∧
      (s.toQuiet cause).link.silenceHold = s.link.silenceHold := by
  obtain ⟨hline, hband, hload, hsnapshot, hsupply, haccess, -, htime, hrunning, hsvc, hsched, -, -, hreplies, hhold⟩ :=
    s.stopped_fields cause
  have hground := s.toQuiet_ground cause
  have hl := congrArg Part.line hground
  have hb := congrArg Part.band hground
  have hd := congrArg Part.load hground
  have hn := congrArg Part.snapshot hground
  have hv := congrArg Part.supply hground
  have ha := congrArg Part.access hground
  have ht := congrArg Part.time hground
  have hr := congrArg Part.running hground
  have hc := congrArg Part.sched hground
  have hy := congrArg (fun x : Part => x.link.replies) hground
  have hh := congrArg (fun x : Part => x.link.silenceHold) hground
  have hvr : (s.toQuiet cause).supply.relay = ((s.quieted cause).afterLeaving s.line.state).relayTarget :=
    congrArg Supply.relay hv
  refine ⟨hl.trans hline, hb.trans hband, hd.trans hload, hn.trans hsnapshot, ?_, ha.trans haccess, ht.trans htime,
    hr.trans hrunning, (s.toQuiet_svc_log cause).1.trans hsvc, ?_, hy.trans hreplies, hh.trans hhold⟩
  · rw [hvr]
    exact hv
  · rw [← hsched]
    exact hc

theorem Part.quieted_next (cause : Option Cause) (s : Part) :
    (s.quieted cause).log.next = s.log.next + (if cause.isSome then 1 else 0) := by
  cases cause with
  | none => exact (BitVec.add_zero _).symm
  | some c => exact Part.makeRecordAt_next _ _ _ _ _

theorem Part.toQuiet_next (cause : Option Cause) (s : Part) :
    (s.toQuiet cause).log.next = s.log.next + (if cause.isSome then 1 else 0) := by
  rw [(s.toQuiet_svc_log cause).2, Part.stopped, (Part.pathsLeave_log _ _).2, s.quieted_next]

theorem Part.toQuiet_waits (cause : Option Cause) (s : Part) :
    (s.toQuiet cause).mayStart = false ∧ (s.toQuiet cause).inService = false := by
  obtain ⟨hline, -⟩ := s.toQuiet_fields cause
  exact ⟨Part.mayStart_of_notPending (by rw [hline]; rfl), by rw [Part.inService, hline]; rfl⟩

/-! ### The entry to SHUTDOWN -/

/-- The part in SHUTDOWN with its holds and its overlay, ahead of the line (R179, R186, R188). -/
def Part.shut (s : Part) : Part :=
  Part.setOverlay false
    (Part.setHolds true s.link.silenceHold { s with supply := { s.supply with state := .shutdown, budget := 0 } })

theorem Part.shut_fields (s : Part) :
    s.shut.line = s.line ∧ s.shut.band = { s.band with overlay := false } ∧ s.shut.load = s.load ∧
      s.shut.snapshot = s.snapshot ∧ s.shut.access = s.access ∧ s.shut.diag = s.diag ∧ s.shut.log = s.log ∧
      s.shut.svc = s.svc ∧ s.shut.portA = s.portA ∧ s.shut.portB = s.portB ∧ s.shut.time = s.time ∧
      s.shut.supply = { s.supply with state := .shutdown, budget := 0, hold := true } ∧
      s.shut.sched.lastReport = s.sched.lastReport := by
  unfold Part.shut
  rw [Part.setOverlay_frame]
  refine ⟨rfl, rfl, rfl, rfl, rfl, rfl, rfl, rfl, rfl, rfl, rfl, rfl, ?_⟩
  unfold Part.setHolds
  dsimp only
  split <;> rfl

/-- The cause that the drop of a line in service carries into SHUTDOWN (R35). -/
def Part.shutCause (s : Part) : Option Cause := if s.inService then some .supply else none

theorem Part.enterShutdown_eq {s : Part} (h : s.supply.tPresence = none) :
    s.enterShutdown =
      (Part.retime (s.shut.toQuiet s.shutCause).settleRelay.shedAtShutdown).postSupply (some s.supply.state) := by
  have hservice : s.shut.inService = s.inService := by rw [Part.inService, s.shut_fields.1]; rfl
  have hnot : s.supply.presenceExpired = false := by rw [Supply.presenceExpired, h]
  unfold Part.enterShutdown
  dsimp only
  rw [if_neg (by rw [hnot]; decide)]
  show Part.postSupply (some s.supply.state) (Part.retime (s.shut.toQuiet
    (if s.shut.inService = true then some .supply else none)).settleRelay.shedAtShutdown) = _
  rw [hservice]
  rfl

/-- Port B at entry to SHUTDOWN (R183). -/
theorem Part.shedAtShutdown_shed (s : Part) : s.shedAtShutdown.portB.state = .shed := by
  have hshed (x : Part) : (x.shedPort.port .b).state = .shed := by
    unfold Part.shedPort
    rw [Part.enterState_port]
  unfold Part.shedAtShutdown
  split
  · exact hshed _
  · dsimp only
    have hport : ((s.shedPort.modPort .b fun r => { r with announced := false }).port .b).state = .shed := by
      simp [hshed]
    have hleave := Part.leaveCall_port s.portB.state (by rw [hport]; decide) (by rw [hport]; decide)
    exact (congrArg Port.state hleave).trans hport

/-- The entry to SHUTDOWN where the mains have been absent (R35, R186). -/
theorem Part.enterShutdown_fields {s : Part} (h : s.supply.tPresence = none) :
    s.enterShutdown.line = s.line.quieted ∧ s.enterShutdown.band.overlay = false ∧
      s.enterShutdown.supply.state = .shutdown ∧ s.enterShutdown.supply.budget = 0 ∧
      s.enterShutdown.supply.hold = true ∧ s.enterShutdown.supply.relay = false ∧
      s.enterShutdown.portB.state = .shed ∧ s.enterShutdown.access = s.access ∧
      s.enterShutdown.snapshot = (s.shut.toQuiet s.shutCause).snapshot ∧ s.enterShutdown.svc.outQ = [] ∧
      s.enterShutdown.log = (s.shut.toQuiet s.shutCause).log ∧
      s.enterShutdown.sched.lastReport = (if s.inService then none else s.sched.lastReport) := by
  rw [Part.enterShutdown_eq h]
  obtain ⟨hxline, hxband, -, hxsnapshot, hxaccess, -, -, hxsvc, -, -, -, hxsupply, hxreport⟩ := s.shut_fields
  have hxservice : s.shut.inService = s.inService := by rw [Part.inService, hxline]; rfl
  generalize hx : s.shut = x at *
  obtain ⟨hline, hband, -, -, hsupply, haccess, -, -, hsvc, hsched, -, -⟩ := x.toQuiet_fields s.shutCause
  have hrelay := x.toQuiet_relay s.shutCause (.inr (by rw [hxsupply]))
  have hout := (x.toQuiet_waits s.shutCause).2
  generalize hy : x.toQuiet s.shutCause = y at *
  have hystate : y.supply.state = .shutdown := by rw [hsupply, hxsupply]
  have hstay : y.settleRelay = y := Part.settleRelay_same (by rw [hrelay, Part.relayTarget_shut hystate])
  rw [hstay]
  have hground := y.shedAtShutdown_ground
  obtain ⟨hsvc', hlog'⟩ := Part.svc_log_of_outbound y.shedAtShutdown_outbound hout
  have hshed := y.shedAtShutdown_shed
  generalize hz : y.shedAtShutdown = z at *
  have hzsupply := Part.supply_of_ground hground
  have hreport : z.sched.lastReport = y.sched.lastReport := Part.lastReport_of_ground hground
  have hyreport : y.sched.lastReport = (if s.inService then none else s.sched.lastReport) := by
    have hr := congrArg Sched.lastReport hsched
    refine hr.trans ?_
    rw [hxservice, ← hxreport]
    split <;> rfl
  refine ⟨(Part.line_of_ground hground).trans (hline.trans (by rw [hxline])), ?_, ?_, ?_, ?_, ?_, hshed,
    (Part.access_of_ground hground).trans (haccess.trans hxaccess),
    show z.snapshot = y.snapshot from Part.snapshot_of_ground hground, ?_, hlog',
    hreport.trans hyreport⟩
  · show z.band.overlay = false
    rw [Part.band_of_ground hground, hband, hxband]
  · show z.supply.state = .shutdown
    rw [hzsupply, hystate]
  · show z.supply.budget = 0
    rw [hzsupply, hsupply, hxsupply]
  · show z.supply.hold = true
    rw [hzsupply, hsupply, hxsupply]
  · show z.supply.relay = false
    rw [hzsupply, hrelay]
  · show z.svc.outQ = []
    rw [hsvc', hsvc]
    rfl

/-- Behind the entry to SHUTDOWN nothing starts and the relay stays through. -/
theorem Part.enterShutdown_settle {s : Part} (h : s.supply.tPresence = none) :
    s.enterShutdown.settle = s.enterShutdown.refreshHeard := by
  obtain ⟨hline, -, hstate, -, -, hrelay, -⟩ := Part.enterShutdown_fields h
  rw [Part.settle_waiting (Part.mayStart_of_notPending (by rw [hline]; rfl)),
    Part.settleRelay_same (by rw [hrelay, Part.relayTarget_shut hstate])]

/-! ### The stop of the line -/

theorem Part.stopLine_quiet {s : Part} (h : s.supply.state = .cutoff → s.sched.lastReport = none) :
    s.stopLine = s.toQuiet none := by
  unfold Part.stopLine Part.proceedIfReporting
  refine if_neg fun hgo => ?_
  simp only [Bool.and_eq_true, beq_iff_eq] at hgo
  obtain ⟨⟨hreport, hcut⟩, -⟩ := hgo
  rw [(s.toQuiet_fields none).2.2.2.2.1] at hcut
  rw [h hcut] at hreport
  cases hreport

theorem Part.stopLine_shuts {s : Part} (hcut : s.supply.state = .cutoff) (hreport : s.sched.lastReport.isSome = true) :
    s.stopLine = (s.toQuiet none).enterShutdown := by
  unfold Part.stopLine Part.proceedIfReporting
  refine if_pos ?_
  rw [hreport, (s.toQuiet_waits none).2, (s.toQuiet_fields none).2.2.2.2.1, hcut]
  rfl

/-- The line in QUIET, settled: no start waits, and the relay stays where it is driven. -/
theorem Part.toQuiet_settled (s : Part) :
    (s.toQuiet none).settle.supply = { s.supply with relay := (s.toQuiet none).relayTarget } ∧
      s.Watches (s.toQuiet none).settle ∧
      (s.inService = true → (s.toQuiet none).settle.outline.chan = ⟨false, false⟩) := by
  obtain ⟨hwait, hout⟩ := s.toQuiet_waits none
  obtain ⟨-, -, -, -, -, -, -, hsupply⟩ := Part.settle_same hwait hout
  refine ⟨?_, ?_, fun hs => ?_⟩
  · rw [hsupply, (s.toQuiet_fields none).2.2.2.2.1]
  · rw [Part.settle_waiting hwait]
    exact (s.toQuiet_watches none).settleRelay.refreshHeard
  · rw [Part.settle_waiting hwait, Part.refreshHeard_outline rfl]
    exact Part.settleRelay_noChannels (s.toQuiet_noChannels none hs)

/-- Settles O22: the way to QUIET settles with nothing waiting; under last-report mode the part goes on to SHUTDOWN. -/
theorem lineStopTakesTheLineToQuiet : Obligations.LineStopTakesTheLineToQuiet := by
  intro s e h hp
  dsimp only
  generalize hx : s.part.heardFrom e = p
  have hdone : Completes (.lineStop e) s (p.stopLine.settle.answeredTo e 2 .ok .none) :=
    h.answered (c := .lineStop) rfl nofun hp.refuses (by rw [hx]; rfl)
  refine ⟨fun hmode => ?_, fun hcut hreport hs hpresence => ?_⟩
  · rw [Part.stopLine_quiet hmode] at hdone
    obtain ⟨hwait, hout⟩ := p.toQuiet_waits none
    obtain ⟨hline, hband, hload, hsnapshot, haccess, hsvc, hlog, hsupply⟩ := Part.settle_same hwait hout
    obtain ⟨hqline, hqband, hqload, hqsnapshot, -, hqaccess, -, -, hqsvc, -⟩ := p.toQuiet_fields none
    obtain ⟨hsupply', hwatch, hchan⟩ := p.toQuiet_settled
    refine ⟨_, hdone, ?_⟩
    rw [hline, hband, hload, hsnapshot, haccess, hsvc, hlog, hsupply', hqline, hqband, hqload, hqsnapshot, hqaccess, hqsvc,
      p.toQuiet_next]
    refine ⟨rfl, rfl, rfl, rfl, rfl, rfl, rfl, rfl, rfl, rfl, rfl, rfl, rfl, rfl, rfl, rfl, rfl, rfl, rfl, BitVec.add_zero _,
      fun hnone => hwatch.diag_eq hnone, fun hloop => ?_, fun hs => Part.chan_none_of_outline (hchan hs), rfl, rfl, rfl,
      rfl, rfl⟩
    exact Part.relayTarget_through ((p.toQuiet_watches none).loopTesting hloop) (by rw [hqline]; rfl)
  · have hq : (p.toQuiet none).supply.tPresence = none := by
      rw [(p.toQuiet_fields none).2.2.2.2.1]
      exact hpresence
    obtain ⟨hline, -, hstate, -, -, hrelay, hshed, -, hsnapshot, hsent, hlog, hlast⟩ := Part.enterShutdown_fields hq
    rw [Part.stopLine_shuts hcut hreport, Part.enterShutdown_settle hq] at hdone
    have hout := (p.toQuiet_waits none).2
    have hcause : (p.toQuiet none).shutCause = none := by rw [Part.shutCause, hout]; rfl
    have hlogs : ((p.toQuiet none).shut.toQuiet none).log.next = p.log.next := by
      rw [Part.toQuiet_next, (p.toQuiet none).shut_fields.2.2.2.2.2.2.1, Part.toQuiet_next]
      simp
    have hlasts : (p.toQuiet none).sched.lastReport = none := by
      have hr := congrArg Sched.lastReport (p.toQuiet_fields none).2.2.2.2.2.2.2.2.2.1
      rw [hs] at hr
      exact hr
    refine ⟨_, hdone, ?_⟩
    rw [Part.refreshHeard_line, Part.refreshHeard_sched, Part.refreshHeard_supply, Part.refreshHeard_snapshot,
      Part.refreshHeard_log, Part.refreshHeard_svc, hline, hlast, hout, hstate, hrelay, hsnapshot, hlog, hsent, hcause,
      ((p.toQuiet none).shut.toQuiet_fields none).2.2.2.1, (p.toQuiet none).shut_fields.2.2.2.1, hlogs, hlasts]
    refine ⟨rfl, rfl, rfl, rfl, ?_, (p.toQuiet_fields none).2.2.2.1, rfl, rfl, rfl⟩
    exact (congrArg Port.state (Part.refreshHeard_port _ .b)).trans hshed

end Sys2Proof.Machine
end

section
/-! SUPPORT. A notice that is no STATS notice stays in the notice queue until the host reads it, whatever the telephones and the
line go on to do (R204). One lemma per operation. -/

namespace Sys2Proof.Machine

/-- From `s` to `x` every notice but the STATS notices is kept. -/
def Part.Notices (s x : Part) : Prop := ∀ n : Notice, n.isStats = false → n ∈ s.link.notices → n ∈ x.link.notices

theorem Part.Notices_refl (s : Part) : s.Notices s := fun _ _ h => h

variable {s x y : Part}

theorem Part.Notices.trans (h : s.Notices x) (k : x.Notices y) : s.Notices y := fun n hn hm => k n hn (h n hn hm)

/-- What leaves the link alone. -/
theorem Part.Notices.same (h : s.Notices x) (hl : y.link = x.link) : s.Notices y := by
  unfold Part.Notices
  rw [hl]
  exact h

theorem Part.Notices.post (n : Notice) (h : s.Notices x) : s.Notices (x.post n) :=
  fun m hm hmem => Link.mem_post_of_mem (h m hm hmem) hm

theorem Part.Notices.endTest (o : DiagOutcome) (d : Nat) (h : s.Notices x) : s.Notices (x.endTest o d) := by
  unfold Part.endTest
  split
  · exact h
  · exact Part.Notices.post _ h

theorem Part.Notices.makeRecordAt (k : FaultKind) (src : FaultSource) (ls : LineState) (ds : List Int)
    (h : s.Notices x) : s.Notices (x.makeRecordAt k src ls ds) := by
  intro n hn hmem
  rw [Part.makeRecordAt_link]
  exact Link.mem_post_of_mem (h n hn hmem) hn

theorem Part.Notices.modPort (p : PortId) (f : Port → Port) (h : s.Notices x) : s.Notices (x.modPort p f) :=
  h.same (x.modPort_link p f)

theorem Part.Notices.setGen (p : PortId) (g : Generator) (h : s.Notices x) : s.Notices (x.setGen p g) :=
  h.same (x.setGen_link p g)

theorem Part.Notices.setChan (p : PortId) (c : Option Channel) (h : s.Notices x) : s.Notices (x.setChan p c) :=
  h.same (x.setChan_link p c)

theorem Part.Notices.setHold (p : PortId) (t : Option Nat) (h : s.Notices x) : s.Notices (x.setHold p t) :=
  h.same (x.setHold_link p t)

theorem Part.Notices.signal (p : PortId) (v : Signal) (h : s.Notices x) : s.Notices (x.signal p v) :=
  h.same (Part.signal_link p v x)

theorem Part.Notices.enterState (p : PortId) (n : PortState) (m : Option Mode) (h : s.Notices x) :
    s.Notices (x.enterState p n m) := by
  unfold Part.enterState
  dsimp only
  split
  · exact h
  · have hposted := (h.modPort p fun r => { r with state := n }).post
      (.portEvent p (.state (x.port p).state n) (x.modPort p fun r => { r with state := n }).line.state m)
    split
    · exact hposted.endTest _ _
    · exact hposted

theorem Part.Notices.sayOffHook (p : PortId) (h : s.Notices x) : s.Notices (x.sayOffHook p) :=
  (h.signal p .offHook).modPort p _

theorem Part.Notices.sayOnHook (p : PortId) (h : s.Notices x) : s.Notices (x.sayOnHook p) :=
  (h.signal p .onHook).modPort p _

theorem Part.Notices.withdraw (p : PortId) (h : s.Notices x) : s.Notices (x.withdraw p) := by
  unfold Part.withdraw
  split
  · exact h.sayOnHook p
  · exact h

theorem Part.Notices.releaseTone (p : PortId) (h : s.Notices x) : s.Notices (x.releaseTone p) := by
  unfold Part.releaseTone
  split
  · exact (h.modPort p _).setGen p _
  · exact h

theorem Part.Notices.callerBack (p : PortId) (h : s.Notices x) : s.Notices (x.callerBack p) := by
  unfold Part.callerBack
  dsimp only
  split
  · split
    · exact ((h.modPort p _).releaseTone p).sayOffHook p
    · exact (h.modPort p _).releaseTone p
  · exact h

theorem Part.Notices.endRing (p : PortId) (b : Bool) (n : PortState) (h : s.Notices x) :
    s.Notices (x.endRing p b n) := by
  unfold Part.endRing
  dsimp only
  split
  · exact h
  · have hended := (h.modPort p fun r => { r with ring := none }).enterState p n none
    split
    · split
      · exact hended.signal p _
      · exact hended
    · split
      · exact hended.callerBack _
      · exact hended

theorem Part.Notices.dropRungBy (p : PortId) (h : s.Notices x) : s.Notices (x.dropRungBy p) := by
  unfold Part.dropRungBy
  split
  · exact h.endRing _ _ _
  · exact h

theorem Part.Notices.park (p : PortId) (h : s.Notices x) : s.Notices (x.park p) :=
  ((h.modPort p _).enterState p _ _).dropRungBy p

theorem Part.Notices.toDialling (p : PortId) (h : s.Notices x) : s.Notices (x.toDialling p) := by
  have hentered := (h.modPort p fun r =>
    { r with dialTimer := some 30000, digit := none, lastTone := none, howler := none }).enterState p .dialling none
  unfold Part.toDialling
  dsimp only
  split
  · exact hentered.sayOffHook p
  · exact hentered

theorem Part.Notices.unlink (h : s.Notices x) : s.Notices x.unlink := h

theorem Part.Notices.parkJoined (h : s.Notices x) : s.Notices x.parkJoined := by
  unfold Part.parkJoined
  split
  · exact h.unlink.park .b
  · exact h

theorem Part.Notices.leaveCall (p : PortId) (old : PortState) (h : s.Notices x) : s.Notices (x.leaveCall p old) := by
  unfold Part.leaveCall
  dsimp only
  refine Part.Notices.dropRungBy p ?_
  have hpartner : s.Notices (if old = .intercom ∧ (x.port (other p)).state = .intercom then x.park (other p) else x) := by
    split
    · exact h.park _
    · exact h
  split
  · exact hpartner.parkJoined
  · split
    · exact hpartner.unlink
    · exact hpartner

theorem Part.Notices.portLeavesService (p : PortId) (h : s.Notices x) : s.Notices (x.portLeavesService p) := by
  unfold Part.portLeavesService
  dsimp only
  refine Part.Notices.modPort p _ ?_
  split
  · exact h.park p
  · exact h.park p
  · exact h.park p
  · split
    · exact h.endRing p _ _
    · exact h
  · exact h.modPort p _
  · exact h

theorem Part.Notices.portsLeaveService (h : s.Notices x) : s.Notices x.portsLeaveService :=
  Part.Notices.portLeavesService .b (Part.Notices.portLeavesService .a h)

theorem Part.Notices.enterThrough (h : s.Notices x) : s.Notices x.enterThrough :=
  ((((h.endRing .a false .through).setChan .a none).setHold .a none).modPort .a _).enterState .a _ _ |>.leaveCall .a _

theorem Part.Notices.settleRelay (h : s.Notices x) : s.Notices x.settleRelay := by
  unfold Part.settleRelay
  dsimp only
  split
  · exact h
  · split
    · exact Part.Notices.enterState .a _ _ h
    · exact Part.Notices.enterThrough h

theorem Part.Notices.refreshHeard (h : s.Notices x) : s.Notices x.refreshHeard := h.same (by simp)

theorem Part.Notices.settle (h : s.Notices x) : s.Notices x.settle := by
  unfold Part.settle Part.soundingIfReady
  refine Part.Notices.refreshHeard (Part.Notices.settleRelay ?_)
  split
  · exact Part.Notices.post _ (Part.Notices.settleRelay h)
  · exact h

theorem Part.Notices.logLeavesService (h : s.Notices x) : s.Notices x.logLeavesService :=
  h.same (by rw [Part.logLeavesService_frame])

theorem Part.Notices.toQuiet (cause : Option Cause) (h : s.Notices x) : s.Notices (x.toQuiet cause) := by
  have hquieted : s.Notices (x.quieted cause) := by
    cases cause with
    | none => exact h
    | some c => exact Part.Notices.makeRecordAt _ _ _ _ h
  have hleft : s.Notices ((x.quieted cause).afterLeaving x.line.state) := by
    unfold Part.afterLeaving
    split
    · exact Part.Notices.portsLeaveService (Part.Notices.logLeavesService hquieted)
    · exact hquieted
  rw [Part.toQuiet_eq]
  split
  · exact hleft.settleRelay
  · exact hleft.settleRelay.post _

end Sys2Proof.Machine
end

section
/-! SUPPORT. What no call, ring or move of the relay changes in the records of the ports: enable flag, hook, heat, trip, ring
load and shed pending. One lemma per operation. -/

namespace Sys2Proof.Machine

/-- The port with what calls and rings leave alone, and nothing else. -/
def Port.fixed (r : Port) : Port :=
  { Port.initial .idle with
    enable := r.enable, hook := r.hook, heat := r.heat, ringAcc := r.ringAcc, coolAcc := r.coolAcc
    ringLoad := r.ringLoad, trip := r.trip, shedPending := r.shedPending }

/-- What calls and rings leave alone in both ports. -/
def Part.fixed (s : Part) : Port × Port := (s.portA.fixed, s.portB.fixed)

section
variable {s x : Part} (h : x.fixed = s.fixed)
include h

theorem Part.port_of_fixed (p : PortId) : (x.port p).fixed = (s.port p).fixed := by
  cases p
  · exact congrArg Prod.fst h
  · exact congrArg Prod.snd h

theorem Part.hook_of_fixed (p : PortId) : (x.port p).hook = (s.port p).hook := by
  have he := congrArg Port.hook (Part.port_of_fixed h p)
  exact he
theorem Part.enable_of_fixed (p : PortId) : (x.port p).enable = (s.port p).enable := by
  have he := congrArg Port.enable (Part.port_of_fixed h p)
  exact he
theorem Part.heat_of_fixed (p : PortId) : (x.port p).heat = (s.port p).heat := by
  have he := congrArg Port.heat (Part.port_of_fixed h p)
  exact he
theorem Part.trip_of_fixed (p : PortId) : (x.port p).trip = (s.port p).trip := by
  have he := congrArg Port.trip (Part.port_of_fixed h p)
  exact he
theorem Part.ringLoad_of_fixed (p : PortId) : (x.port p).ringLoad = (s.port p).ringLoad := by
  have he := congrArg Port.ringLoad (Part.port_of_fixed h p)
  exact he
theorem Part.shedPending_of_fixed (p : PortId) : (x.port p).shedPending = (s.port p).shedPending := by
  have he := congrArg Port.shedPending (Part.port_of_fixed h p)
  exact he

end

variable (s : Part) (p : PortId)

theorem Part.fixed_of_ports {s x : Part} (hA : x.portA = s.portA) (hB : x.portB = s.portB) : x.fixed = s.fixed := by
  rw [Part.fixed, hA, hB]
  rfl

theorem Part.modPort_fixed {f : Port → Port} (hf : (f (s.port p)).fixed = (s.port p).fixed) :
    (s.modPort p f).fixed = s.fixed := by
  cases p
  · exact Prod.ext hf rfl
  · exact Prod.ext rfl hf

@[simp] theorem Part.setGen_fixed (g : Generator) : (s.setGen p g).fixed = s.fixed := by cases p <;> rfl
@[simp] theorem Part.setChan_fixed (c : Option Channel) : (s.setChan p c).fixed = s.fixed := by cases p <;> rfl
@[simp] theorem Part.setHold_fixed (t : Option Nat) : (s.setHold p t).fixed = s.fixed := by cases p <;> rfl
@[simp] theorem Part.setSlot_fixed (x : Slot) : (s.setSlot p x).fixed = s.fixed := by cases p <;> rfl
@[simp] theorem Part.post_fixed (n : Notice) : (s.post n).fixed = s.fixed := rfl
@[simp] theorem Part.enqueue_fixed (m : Msg) : (s.enqueue m).fixed = s.fixed :=
  Part.fixed_of_ports (by rw [Part.enqueue_frame]) (by rw [Part.enqueue_frame])
@[simp] theorem Part.signal_fixed (x : Signal) : (s.signal p x).fixed = s.fixed := s.enqueue_fixed _
@[simp] theorem Part.makeRecordAt_fixed (k : FaultKind) (src : FaultSource) (ls : LineState) (ds : List Int) :
    (s.makeRecordAt k src ls ds).fixed = s.fixed := Part.fixed_of_ports (by simp) (by simp)
@[simp] theorem Part.endTest_fixed (o : DiagOutcome) (d : Nat) : (s.endTest o d).fixed = s.fixed := by
  rw [Part.endTest_frame]
  rfl

@[simp] theorem Part.enterState_fixed (n : PortState) (m : Option Mode) : (s.enterState p n m).fixed = s.fixed := by
  rw [Part.enterState_frame]
  exact s.modPort_fixed p rfl

@[simp] theorem Part.sayOffHook_fixed : (s.sayOffHook p).fixed = s.fixed :=
  ((s.signal p .offHook).modPort_fixed p rfl).trans (s.signal_fixed p _)
@[simp] theorem Part.sayOnHook_fixed : (s.sayOnHook p).fixed = s.fixed :=
  ((s.signal p .onHook).modPort_fixed p rfl).trans (s.signal_fixed p _)

@[simp] theorem Part.withdraw_fixed : (s.withdraw p).fixed = s.fixed := by
  unfold Part.withdraw
  split <;> simp

@[simp] theorem Part.releaseTone_fixed : (s.releaseTone p).fixed = s.fixed := by
  unfold Part.releaseTone
  split
  · rw [Part.setGen_fixed]
    exact s.modPort_fixed p rfl
  · rfl

@[simp] theorem Part.callerBack_fixed : (s.callerBack p).fixed = s.fixed := by
  have hback : ((s.modPort p fun r => { r with dialTimer := some 30000 }).releaseTone p).fixed = s.fixed :=
    (Part.releaseTone_fixed _ p).trans (s.modPort_fixed p rfl)
  unfold Part.callerBack
  dsimp only
  split
  · split
    · rw [Part.sayOffHook_fixed, hback]
    · exact hback
  · rfl

@[simp] theorem Part.endRing_fixed (b : Bool) (n : PortState) : (s.endRing p b n).fixed = s.fixed := by
  have hended : ((s.modPort p fun r => { r with ring := none }).enterState p n none).fixed = s.fixed :=
    (Part.enterState_fixed _ p n none).trans (s.modPort_fixed p rfl)
  unfold Part.endRing
  dsimp only
  split
  · rfl
  · split
    · split
      · rw [Part.signal_fixed, hended]
      · exact hended
    · split
      · rw [Part.callerBack_fixed, hended]
      · exact hended

@[simp] theorem Part.dropRungBy_fixed : (s.dropRungBy p).fixed = s.fixed := by
  unfold Part.dropRungBy
  split <;> simp

@[simp] theorem Part.park_fixed : (s.park p).fixed = s.fixed := by
  unfold Part.park
  rw [Part.dropRungBy_fixed, Part.enterState_fixed]
  exact s.modPort_fixed p rfl

@[simp] theorem Part.unlink_fixed : s.unlink.fixed = s.fixed := rfl

@[simp] theorem Part.parkJoined_fixed : s.parkJoined.fixed = s.fixed := by
  unfold Part.parkJoined
  split <;> simp

@[simp] theorem Part.toDialling_fixed : (s.toDialling p).fixed = s.fixed := by
  have hentered : ((s.modPort p fun r => { r with
      dialTimer := some 30000, digit := none, lastTone := none, howler := none }).enterState p .dialling none).fixed =
      s.fixed := (Part.enterState_fixed _ p _ _).trans (s.modPort_fixed p rfl)
  unfold Part.toDialling
  dsimp only
  split
  · rw [Part.sayOffHook_fixed, hentered]
  · exact hentered

@[simp] theorem Part.startRing_fixed (c : Nat) (o : Origin) (x : Option PortId) : (s.startRing p c o x).fixed = s.fixed := by
  have hringing (g : Ring) : ((s.modPort p fun r => { r with ring := some g }).enterState p .ringing none).fixed = s.fixed :=
    (Part.enterState_fixed _ p _ _).trans (s.modPort_fixed p rfl)
  unfold Part.startRing
  dsimp only
  split
  · rw [Part.setGen_fixed]
    exact (Part.modPort_fixed _ _ rfl).trans (hringing _)
  · exact hringing _

@[simp] theorem Part.leaveCall_fixed (old : PortState) : (s.leaveCall p old).fixed = s.fixed := by
  unfold Part.leaveCall
  dsimp only
  rw [Part.dropRungBy_fixed]
  have hpartner : (if old = .intercom ∧ (s.port (other p)).state = .intercom then s.park (other p) else s).fixed =
      s.fixed := by split <;> simp
  split
  · rw [Part.parkJoined_fixed, hpartner]
  · split
    · rw [Part.unlink_fixed, hpartner]
    · exact hpartner

@[simp] theorem Part.beginChannel_fixed (m : Mode) : (s.beginChannel p m).fixed = s.fixed :=
  (Part.signal_fixed _ _ _).trans (s.setChan_fixed p _)

@[simp] theorem Part.endChannel_fixed : (s.endChannel p).fixed = s.fixed := by
  unfold Part.endChannel
  split
  · simp
  · exact (Part.signal_fixed _ _ _).trans
      ((Part.setSlot_fixed _ _ _).trans ((Part.setHold_fixed _ _ _).trans (s.setChan_fixed p _)))

@[simp] theorem Part.hangUp_fixed (n : PortState) : (s.hangUp p n).fixed = s.fixed := by
  unfold Part.hangUp
  dsimp only
  rw [Part.leaveCall_fixed, Part.enterState_fixed]
  refine (Part.modPort_fixed _ p rfl).trans ?_
  rw [Part.endChannel_fixed, Part.withdraw_fixed]

@[simp] theorem Part.portLeavesService_fixed : (s.portLeavesService p).fixed = s.fixed := by
  unfold Part.portLeavesService
  dsimp only
  refine (Part.modPort_fixed _ p rfl).trans ?_
  split
  · exact s.park_fixed p
  · exact s.park_fixed p
  · exact s.park_fixed p
  · split
    · exact s.endRing_fixed p _ _
    · rfl
  · exact s.modPort_fixed p rfl
  · rfl

@[simp] theorem Part.portsLeaveService_fixed : s.portsLeaveService.fixed = s.fixed :=
  (Part.portLeavesService_fixed _ .b).trans (Part.portLeavesService_fixed s.channelsEnd .a)

@[simp] theorem Part.enterThrough_fixed : s.enterThrough.fixed = s.fixed := by
  unfold Part.enterThrough
  dsimp only
  rw [Part.leaveCall_fixed, Part.enterState_fixed]
  refine (Part.modPort_fixed _ .a rfl).trans ?_
  rw [Part.setHold_fixed, Part.setChan_fixed, Part.endRing_fixed]

@[simp] theorem Part.settleRelay_fixed : s.settleRelay.fixed = s.fixed := by
  unfold Part.settleRelay
  dsimp only
  split
  · rfl
  · split
    · exact Part.enterState_fixed _ .a _ _
    · exact Part.enterThrough_fixed _

@[simp] theorem Part.refreshHeard_fixed : s.refreshHeard.fixed = s.fixed := by
  have hport (x : Part) (p : PortId) : (x.refreshPort p).fixed = x.fixed := by
    unfold Part.refreshPort
    rw [Part.setGen_fixed]
    exact x.modPort_fixed p rfl
  rw [Part.refreshHeard, hport, hport]

@[simp] theorem Part.enterSounding_fixed : s.enterSounding.fixed = s.fixed :=
  Part.settleRelay_fixed _

@[simp] theorem Part.settle_fixed : s.settle.fixed = s.fixed := by
  unfold Part.settle Part.soundingIfReady
  rw [Part.refreshHeard_fixed, Part.settleRelay_fixed]
  split
  · exact s.enterSounding_fixed
  · rfl

theorem Part.logLeavesService_fixed : s.logLeavesService.fixed = s.fixed :=
  Part.fixed_of_ports (by rw [Part.logLeavesService_frame]) (by rw [Part.logLeavesService_frame])

@[simp] theorem Part.toQuiet_fixed (cause : Option Cause) : (s.toQuiet cause).fixed = s.fixed := by
  have hquieted : (s.quieted cause).fixed = s.fixed := by
    cases cause with
    | none => rfl
    | some c => exact Part.makeRecordAt_fixed _ _ _ _ _
  have hleft : ((s.quieted cause).afterLeaving s.line.state).fixed = s.fixed := by
    unfold Part.afterLeaving
    split
    · rw [Part.portsLeaveService_fixed, Part.logLeavesService_fixed]
      exact hquieted
    · exact hquieted
  rw [Part.toQuiet_eq]
  split
  · rw [Part.settleRelay_fixed, hleft]
  · rw [Part.postLine, Part.post_fixed, Part.settleRelay_fixed, hleft]

end Sys2Proof.Machine
end

section
/-! PROOF. RESET with scope FULL and LINE (O20). -/

namespace Sys2Proof.Machine

/-- The log keeps its lost count and its threshold as the line leaves its state. -/
theorem Part.pathsLeave_log_settings (was : LineState) (s : Part) :
    (s.pathsLeave was).log.lost = s.log.lost ∧ (s.pathsLeave was).log.threshold = s.log.threshold := by
  have hsettle (l : Log) : l.settle.lost = l.lost ∧ l.settle.threshold = l.threshold := by
    unfold Log.settle
    split <;> exact ⟨rfl, rfl⟩
  unfold Part.pathsLeave Part.logLeavesService
  split
  · split
    · dsimp only
      split <;> exact ⟨rfl, rfl⟩
    · exact ⟨rfl, rfl⟩
    · split
      · exact ⟨rfl, rfl⟩
      · exact hsettle _
  · exact ⟨rfl, rfl⟩

/-- The log at the stop of the line (R155): as many records, the same numbers and settings. -/
theorem Part.toQuiet_log (s : Part) :
    (s.toQuiet none).log.records.length = s.log.records.length ∧ (s.toQuiet none).log.next = s.log.next ∧
      (s.toQuiet none).log.lost = s.log.lost ∧ (s.toQuiet none).log.threshold = s.log.threshold := by
  obtain ⟨hsaid, hnext⟩ := Part.pathsLeave_log s.line.state (s.quieted none)
  obtain ⟨hlost, hthreshold⟩ := Part.pathsLeave_log_settings s.line.state (s.quieted none)
  rw [(s.toQuiet_svc_log none).2]
  refine ⟨?_, hnext, hlost, hthreshold⟩
  have hlength := congrArg List.length hsaid
  rw [Log.said_length, Log.said_length] at hlength
  exact hlength

theorem Part.toQuiet_link_ground (s : Part) : (s.toQuiet none).link.ground = s.link.ground := by
  have hlink := congrArg Part.link (s.toQuiet_ground none)
  have hstopped : (s.stopped none).link = s.link := by
    unfold Part.stopped
    rw [Part.pathsLeave_frame]
    rfl
  refine Eq.trans hlink ?_
  show (s.stopped none).link.ground = _
  rw [hstopped]

/-- The result of the test that ended stands in the test's own slot (R163). -/
theorem Diag.finish_slot {d : Diag} {t : RunningTest} (h : d.running = some t) (o : DiagOutcome) (n : Nat) :
    (d.finish o n).slot t.test t.port = some (t.result o n) := by
  unfold Diag.finish
  rw [h]
  cases ht : t.test with
  | loopTest => simp [Diag.store, RunningTest.result, ht, Diag.slot]
  | noiseScan => simp [Diag.store, RunningTest.result, ht, Diag.slot]
  | portTest =>
    cases hp : t.port with
    | none => simp [Diag.store, RunningTest.result, ht, hp, Diag.slot]
    | some x => cases x <;> simp [Diag.store, RunningTest.result, ht, hp, Diag.slot]

theorem Diag.finish_running (d : Diag) (o : DiagOutcome) (n : Nat) : (d.finish o n).running = none := by
  unfold Diag.finish
  split
  · assumption
  · rfl

theorem Diag.finish_tables (d : Diag) (o : DiagOutcome) (n : Nat) :
    (d.finish o n).attenuation = d.attenuation ∧ (d.finish o n).noiseTable = d.noiseTable := by
  unfold Diag.finish Diag.store
  split
  · exact ⟨rfl, rfl⟩
  · split
    · exact ⟨rfl, rfl⟩
    · exact ⟨rfl, rfl⟩
    · split <;> exact ⟨rfl, rfl⟩

theorem Diag.finish_of_none {d : Diag} (h : d.running = none) (o : DiagOutcome) (n : Nat) : d.finish o n = d := by
  unfold Diag.finish
  rw [h]

theorem Part.endTest_diag (s : Part) (o : DiagOutcome) (n : Nat) : (s.endTest o n).diag = s.diag.finish o n := by
  unfold Part.endTest
  split
  · rename_i h
    rw [Diag.finish_of_none h]
  · rfl

/-! ### COMMAND_FULL -/

/-- COMMAND_FULL once the line has stopped and both ports have taken their states (R209). -/
def Part.restarted (s : Part) : Part :=
  let x : Part :=
    { s with
      line := { Line.initial with abandoned := s.line.abandoned, symbol := s.line.symbol }
      load := .initial
      band := { Band.initial with overlay := s.supply.state == .batteryLow }
      monitor := .initial
      tracker := .initial
      portA := s.portA.afterReset .through
      portB := s.portB.afterReset s.portBAfterReset
      voice := .initial
      sched := { Sched.initial with arrival := s.sched.arrival.doom }
      svc := .initial
      supply := { s.supply with relay := false } }
  { x.clearFlags with link := { x.clearFlags.link with replies := [], notices := [] } }

/-- The part at a COMMAND_FULL with its test ended, its line stopped and its ports in the states they restart in. -/
def Part.halted (s : Part) : Part :=
  ((s.abortUntold.stopLine).enterState .a .through none).enterState .b s.abortUntold.stopLine.portBAfterReset none

theorem Part.commandFull_eq (s : Part) : s.commandFull = s.halted.restarted := rfl

/-- The blocks behind a COMMAND_FULL (R209). -/
theorem Part.restarted_fields (s : Part) :
    s.restarted.line = { Line.initial with abandoned := s.line.abandoned, symbol := s.line.symbol } ∧
      s.restarted.load = .initial ∧
      s.restarted.band = { Band.initial with overlay := s.supply.state == .batteryLow } ∧
      s.restarted.portA = s.portA.afterReset .through ∧ s.restarted.portB = s.portB.afterReset s.portBAfterReset ∧
      s.restarted.voice = .initial ∧ s.restarted.sched = { Sched.initial with arrival := s.sched.arrival.doom } ∧
      s.restarted.svc = .initial ∧ s.restarted.supply = { s.supply with relay := false } ∧
      s.restarted.log = s.log ∧ s.restarted.diag = s.diag ∧ s.restarted.access.perms = s.access.perms ∧
      s.restarted.time = s.time ∧ s.restarted.snapshot = s.snapshot ∧
      s.restarted.flags = ⟨false, false, false, false, false, false, false⟩ ∧
      s.restarted.link.replies = [] ∧ s.restarted.link.notices = [] ∧
      s.restarted.link.silenceSetting = s.link.silenceSetting ∧ s.restarted.link.statsPeriod = s.link.statsPeriod ∧
      s.restarted.link.framingErrors = s.link.framingErrors :=
  ⟨rfl, rfl, rfl, rfl, rfl, rfl, rfl, rfl, rfl, rfl, rfl, rfl, rfl, rfl, rfl, rfl, rfl, rfl, rfl, rfl⟩

theorem Part.halted_fields {s : Part} (h : s.supply.state = .cutoff → s.sched.lastReport = none) :
    s.halted.supply = { s.supply with relay := s.halted.supply.relay } ∧ s.halted.fixed = s.fixed ∧
      s.halted.time = s.time ∧ s.halted.access = s.access ∧ s.halted.snapshot = s.snapshot ∧
      s.halted.link.ground = s.link.ground ∧ s.halted.log.records.length = s.log.records.length ∧
      s.halted.log.next = s.log.next ∧ s.halted.log.lost = s.log.lost ∧ s.halted.log.threshold = s.log.threshold ∧
      s.halted.diag = s.diag.finish (.aborted .reset) s.diag.elapsed := by
  have hquiet : s.abortUntold.stopLine = s.abortUntold.toQuiet none := Part.stopLine_quiet h
  unfold Part.halted
  rw [hquiet]
  have hdiag : s.abortUntold.diag = s.diag.finish (.aborted .reset) s.diag.elapsed := rfl
  have hrunning : s.abortUntold.diag.running = none := by rw [hdiag, Diag.finish_running]
  have hwatch := s.abortUntold.toQuiet_watches none
  obtain ⟨-, -, -, hsnapshot, hsupply, haccess, htime, -⟩ := s.abortUntold.toQuiet_fields none
  have hlink := s.abortUntold.toQuiet_link_ground
  obtain ⟨hlength, hnext, hlost, hthreshold⟩ := s.abortUntold.toQuiet_log
  have hfixed := s.abortUntold.toQuiet_fixed none
  generalize s.abortUntold.toQuiet none = x at *
  have hground : ((x.enterState .a .through none).enterState .b x.portBAfterReset none).ground = x.ground := by simp
  refine ⟨?_, ?_, ?_, ?_, ?_, ?_, ?_, ?_, ?_, ?_, ?_⟩
  · simp only [Part.enterState_supply]
    exact hsupply
  · rw [Part.enterState_fixed, Part.enterState_fixed, hfixed]
    rfl
  · rw [Part.enterState_time, Part.enterState_time]
    exact htime
  · rw [Part.enterState_access, Part.enterState_access]
    exact haccess
  · rw [Part.enterState_snapshot, Part.enterState_snapshot]
    exact hsnapshot
  · have hl := congrArg Part.link hground
    exact Eq.trans hl hlink
  · rw [Part.enterState_log, Part.enterState_log]
    exact hlength
  · rw [Part.enterState_log, Part.enterState_log]
    exact hnext
  · rw [Part.enterState_log, Part.enterState_log]
    exact hlost
  · rw [Part.enterState_log, Part.enterState_log]
    exact hthreshold
  · rw [← hdiag]
    exact ((hwatch.enterState .a _ _).enterState .b _ _).diag_eq (Part.underTest_of_none hrunning)

/-! ### COMMAND_LINE -/

/-- The part at a COMMAND_LINE with its test ended and its line stopped. -/
def Part.lineHalted (s : Part) : Part := (s.abortTest .reset).stopLine

/-- What COMMAND_LINE clears behind the stop of the line (R209). -/
def Part.lineCleared (s : Part) : Part :=
  { s with
    line := { s.line with lastFailure := none }
    load := { s.load with averages := noAverages, offeredProfile := none, measureSums := [], measureCount := 0 }
    sched := s.sched.flush.emptyBuffer }

theorem Part.commandLine_eq (s : Part) : s.commandLine = s.lineHalted.lineCleared.settleRelay.refreshHeard := rfl

/-- COMMAND_LINE, field by field. -/
theorem Part.commandLine_fields {s : Part} (h : s.supply.state = .cutoff → s.sched.lastReport = none) :
    s.commandLine.line = { s.line.quieted with lastFailure := none } ∧
      s.commandLine.band = { s.band with offeredMap := none, mapInForce := none } ∧
      s.commandLine.load.averages = noAverages ∧ s.commandLine.load.setProfile = s.load.setProfile ∧
      s.commandLine.svc = Service.cut s.inService { s.svc with outQ := [] } ∧
      s.commandLine.sched.upQueue = [] ∧ s.commandLine.sched.downBuffer = [] ∧
      s.commandLine.sched.framesLost = satAdd 0xFFFFFFFF s.sched.framesLost s.sched.upQueue.length ∧
      s.commandLine.access = s.access ∧ s.commandLine.log.next = s.log.next ∧
      s.commandLine.log.threshold = s.log.threshold ∧ s.commandLine.supply.state = s.supply.state ∧
      s.commandLine.time = s.time ∧ s.commandLine.snapshot = s.snapshot ∧
      s.commandLine.link.replies = s.link.replies ∧
      s.commandLine.diag = s.diag.finish (.aborted .reset) s.diag.elapsed ∧
      (s.abortTest .reset).Notices s.commandLine := by
  have habort : (s.abortTest .reset) = { s with diag := (s.abortTest .reset).diag, link := (s.abortTest .reset).link } :=
    s.endTest_frame _ _
  have hreplies : (s.abortTest .reset).link.replies = s.link.replies := by
    unfold Part.abortTest Part.endTest
    split
    · rfl
    · exact Link.post_replies _ _
  have hdiag : (s.abortTest .reset).diag = s.diag.finish (.aborted .reset) s.diag.elapsed := s.endTest_diag _ _
  have hrunning : (s.abortTest .reset).diag.running = none := by rw [hdiag, Diag.finish_running]
  have hquiet : s.lineHalted = (s.abortTest .reset).toQuiet none :=
    Part.stopLine_quiet (by rw [habort]; exact h)
  rw [Part.commandLine_eq, hquiet]
  generalize s.abortTest .reset = b at *
  have hb : b.line = s.line ∧ b.band = s.band ∧ b.load = s.load ∧ b.svc = s.svc ∧ b.sched = s.sched ∧
      b.access = s.access ∧ b.log = s.log ∧ b.supply = s.supply ∧ b.time = s.time ∧ b.snapshot = s.snapshot ∧
      b.inService = s.inService := by
    rw [habort]
    exact ⟨rfl, rfl, rfl, rfl, rfl, rfl, rfl, rfl, rfl, rfl, rfl⟩
  obtain ⟨bline, bband, bload, bsvc, bsched, baccess, blog, bsupply, btime, bsnapshot, bservice⟩ := hb
  obtain ⟨hline, hband, hload, hsnapshot, hsupply, haccess, htime, -, hsvc, hsched, hlreplies, -⟩ := b.toQuiet_fields none
  obtain ⟨-, hnext, -, hthreshold⟩ := b.toQuiet_log
  have hwatch := b.toQuiet_watches none
  have hnotices := b.Notices_refl.toQuiet none
  generalize b.toQuiet none = x at *
  have hout : x.lineCleared.inService = false := by
    show x.line.state.inService = false
    rw [hline]
    rfl
  have hground := (Part.refreshHeard_ground _).trans x.lineCleared.settleRelay_ground
  obtain ⟨hqsvc, hqlog⟩ := Part.svc_log_of_outbound
    ((Part.refreshHeard_outbound _).trans x.lineCleared.settleRelay_outbound) hout
  have hwatch' : b.Watches x.lineCleared.settleRelay.refreshHeard :=
    Part.Watches.refreshHeard (Part.Watches.settleRelay (hwatch.same rfl))
  have hnotices' : b.Notices x.lineCleared.settleRelay.refreshHeard :=
    Part.Notices.refreshHeard (Part.Notices.settleRelay (hnotices.same rfl))
  generalize x.lineCleared.settleRelay.refreshHeard = q at *
  have kline := congrArg Part.line hground
  have kband := congrArg Part.band hground
  have kload := congrArg Part.load hground
  have ksched := congrArg Part.sched hground
  have kaccess := congrArg Part.access hground
  have ksupply := congrArg (fun y : Part => y.supply.state) hground
  have ktime := congrArg Part.time hground
  have ksnapshot := congrArg Part.snapshot hground
  have kreplies := congrArg (fun y : Part => y.link.replies) hground
  have kaverages : q.load.averages = noAverages := congrArg Load.averages (show q.load = x.lineCleared.load from kload)
  have kset : q.load.setProfile = x.load.setProfile := by
    have he := congrArg Load.setProfile (show q.load = x.lineCleared.load from kload)
    exact he
  have kup : q.sched.upQueue = [] := congrArg Sched.upQueue ksched
  have kdown : q.sched.downBuffer = [] := congrArg Sched.downBuffer ksched
  have klost : q.sched.framesLost = satAdd 0xFFFFFFFF x.sched.framesLost x.sched.upQueue.length :=
    congrArg Sched.framesLost ksched
  have hxline : q.line = { x.line with lastFailure := none } := kline
  refine ⟨?_, Eq.trans kband (by rw [← bband]; exact hband), kaverages, ?_, ?_, kup, kdown, ?_,
    Eq.trans kaccess (haccess.trans baccess), ?_, ?_, ?_, Eq.trans ktime (htime.trans btime),
    Eq.trans ksnapshot (hsnapshot.trans bsnapshot), Eq.trans kreplies (hlreplies.trans hreplies), ?_, hnotices'⟩
  · rw [hxline, hline, bline]
  · rw [kset, hload, bload]
  · rw [hqsvc, ← bservice, ← bsvc]
    exact hsvc
  · have kframes : x.sched.framesLost =
        (if b.inService then satAdd 0xFFFFFFFF b.sched.framesLost b.sched.upQueue.length else b.sched.framesLost) := by
      have he := congrArg Sched.framesLost hsched
      refine Eq.trans he ?_
      split <;> rfl
    have kqueue : x.sched.upQueue = (if b.inService then [] else b.sched.upQueue) := by
      have he := congrArg Sched.upQueue hsched
      refine Eq.trans he ?_
      split <;> rfl
    rw [klost, kframes, kqueue, ← bsched]
    cases b.inService
    · rfl
    · simp [satAdd]
  · rw [hqlog, ← blog]
    exact hnext
  · rw [hqlog, ← blog]
    exact hthreshold
  · have hstate : q.supply.state = x.supply.state := ksupply
    rw [hstate, hsupply, bsupply]
  · rw [← hdiag]
    exact hwatch'.diag_eq (Part.underTest_of_none hrunning)

/-- A test aborted at a RESET is told where the notice queue has room (R165). -/
theorem Part.abortTest_told {s : Part} {t : RunningTest} (h : s.diag.running = some t) (why : AbortCause)
    (hroom : s.link.notices.length < 16) :
    .diagDone (t.result (.aborted why) s.diag.elapsed) ∈ (s.abortTest why).link.notices := by
  unfold Part.abortTest Part.endTest
  rw [h]
  exact Link.mem_post _ hroom

/-- Settles O20: what clears and what is kept, field by field, at either scope. -/
theorem commandResetsClearAndKeep : Obligations.CommandResetsClearAndKeep := by
  refine ⟨fun s tag h hp => ?_, fun s tag h hp => ?_⟩
  · dsimp only
    generalize hx : s.part.heardFrom ⟨.loc, tag, .fits⟩ = p
    intro hmode
    have hdone : Completes (.resetFull ⟨.loc, tag, .fits⟩) s
        (p.commandFull.answeredTo ⟨.loc, tag, .fits⟩ 33 .ok (.reset .full p.commandFull.time)) :=
      h.answered (c := .reset (some .full)) rfl nofun hp.refuses (by rw [hx]; rfl)
    refine ⟨_, hdone, ?_⟩
    rw [Part.commandFull_eq]
    obtain ⟨hsupply, hfixed, htime, haccess, hsnapshot, hlink, hlength, hnext, hlost, hthreshold, hdiag⟩ :=
      Part.halted_fields hmode
    generalize p.halted = z at *
    have hstate : z.supply.state = p.supply.state := by rw [hsupply]
    have hlow : z.supply.low = p.supply.low := by rw [hsupply]
    have hsilence : z.link.silenceSetting = p.link.silenceSetting := by
      have he := congrArg Link.silenceSetting hlink
      exact he
    have hperiod : z.link.statsPeriod = p.link.statsPeriod := by
      have he := congrArg Link.statsPeriod hlink
      exact he
    have herrors : z.link.framingErrors = p.link.framingErrors := by
      have he := congrArg Link.framingErrors hlink
      exact he
    obtain ⟨rline, rload, rband, rportA, rportB, rvoice, rsched, rsvc, rsupply, rlog, rdiag, rperms, rtime, rsnapshot,
      rflags, rreplies, rnotices, rsilence, rperiod, rerrors⟩ := z.restarted_fields
    generalize z.restarted = q at *
    have hanswer : q.answeredTo ⟨.loc, tag, .fits⟩ 33 .ok (.reset .full q.time) =
      { q with link := { q.link with replies := q.link.replies ++ [⟨tag, 33, .ok, .reset .full q.time⟩] } } := rfl
    have hflags : Part.flags { q with link := { q.link with
        replies := q.link.replies ++ [⟨tag, 33, .ok, .reset .full q.time⟩] } } = q.flags := rfl
    rw [hanswer]
    refine ⟨?_, rnotices, ?_⟩
    · show q.link.replies ++ [_] = _
      rw [rreplies, rtime, htime]
      rfl
    rw [hflags]
    simp only [Part.chan]
    rw [rline, rload, rband, rportA, rportB, rvoice, rsched, rsvc, rsupply, rlog, rdiag, rperms, rtime, rsnapshot, rflags,
      rsilence, rperiod, rerrors, hlength, hnext, hlost, hthreshold, htime, hsnapshot, hsilence, hperiod, herrors, haccess,
      hdiag, hstate, hlow]
    refine ⟨rfl, rfl, rfl, rfl, rfl, rfl, rfl, rfl, rfl, rfl, rfl, rfl, rfl, rfl, rfl, rfl, rfl, rfl, rfl, rfl,
      rfl, rfl, rfl, Part.heat_of_fixed hfixed .a, Part.heat_of_fixed hfixed .b, fun hmains => ?_, fun hshed => ?_, rfl, rfl,
      rfl, rfl, rfl, rfl, rfl, rfl, rfl, rfl, rfl, rfl, rfl, rfl, rfl, Diag.finish_running _ _ _,
      (Diag.finish_tables _ _ _).1, (Diag.finish_tables _ _ _).2, fun hnone => Diag.finish_of_none hnone _ _,
      fun t ht => ?_⟩
    · show z.portBAfterReset = .disabled
      rw [Part.portBAfterReset, hstate, hmains]
      rfl
    · show z.portBAfterReset = .shed
      rw [Part.portBAfterReset, hstate, hshed]
      rfl
    · rw [Diag.finish_slot ht, RunningTest.result, Diag.elapsed, ht]
      rfl
  · dsimp only
    generalize hx : s.part.heardFrom ⟨.loc, tag, .fits⟩ = p
    intro hmode
    have hdone : Completes (.resetLine ⟨.loc, tag, .fits⟩) s
        (p.commandLine.answeredTo ⟨.loc, tag, .fits⟩ 33 .ok (.reset .line p.commandLine.time)) :=
      h.answered (c := .reset (some .line)) rfl nofun hp.refuses (by rw [hx]; rfl)
    refine ⟨_, hdone, ?_⟩
    obtain ⟨hline, hband, haverages, hset, hsvc, hup, hdown, hlost, haccess, hnext, hthreshold, hsupply, htime, hsnapshot,
      hreplies, hdiag, hnotices⟩ := Part.commandLine_fields hmode
    have htold (t : RunningTest) (ht : p.diag.running = some t) (hroom : p.link.notices.length < 16) :
        Notice.diagDone (t.result (.aborted .reset) p.diag.elapsed) ∈ p.commandLine.link.notices :=
      hnotices _ rfl (Part.abortTest_told ht .reset hroom)
    generalize p.commandLine = q at *
    rw [Part.answeredTo]
    show (q.link.replies ++ [_] = _) ∧ q.line.state = _ ∧ q.line.attempts = _ ∧ q.line.startPending = _ ∧
      q.line.lastFailure = _ ∧ q.line.downInForce = _ ∧ q.line.upInForce = _ ∧ q.load.averages = _ ∧ q.svc.outQ = _ ∧
      q.svc.discards = _ ∧ q.svc.rxErrors = _ ∧ q.sched.upQueue = _ ∧ q.sched.downBuffer = _ ∧ q.sched.framesLost = _ ∧
      q.line.nextTable = _ ∧ q.load.setProfile = _ ∧ q.band.windows = _ ∧ q.band.strict = _ ∧ q.band.conflictFlag = _ ∧
      q.access = _ ∧ q.log.next = _ ∧ q.log.threshold = _ ∧ q.supply.state = _ ∧ q.time = _ ∧ q.snapshot = _ ∧
      q.diag.running = _ ∧ (p.diag.running = none → q.diag = _) ∧ ∀ t, p.diag.running = some t →
        q.diag.slot t.test t.port = _ ∧ (p.link.notices.length < 16 → _ ∈ q.link.notices)
    rw [hline, hband, haverages, hset, hsvc, hup, hdown, hlost, haccess, hnext, hthreshold, hsupply, htime, hsnapshot,
      hreplies, hdiag]
    refine ⟨rfl, rfl, rfl, rfl, rfl, rfl, rfl, rfl, rfl, rfl, ?_, rfl, rfl, rfl, rfl, rfl, rfl, rfl, rfl, rfl, rfl, rfl,
      rfl, rfl, rfl, Diag.finish_running _ _ _, fun hnone => Diag.finish_of_none hnone _ _, fun t ht => ⟨?_, fun hroom => ?_⟩⟩
    · show (if p.inService && !p.svc.rx.1.isEmpty then satAdd 65535 p.svc.rxErrors 1 else p.svc.rxErrors) = _
      simp [satAdd]
    · rw [Diag.finish_slot ht, RunningTest.result, Diag.elapsed, ht]
      rfl
    · have hmem := htold t ht hroom
      rw [Diag.elapsed, ht] at hmem
      exact hmem

end Sys2Proof.Machine
end

section
/-! SUPPORT and PROOF. Offering and settling reports (R152 to R157, R161) and the statement about them (O51). -/

namespace Sys2Proof.Machine

/-! ### Offering a report -/

/-- With no record to send nothing is offered (R152). -/
theorem Part.tryOffer_of_none {s : Part} (h : chooseReport s.log.records = none) : s.tryOffer = s := by
  unfold Part.tryOffer
  split
  · rw [h]
  · rfl

/-- A full outbound queue holds the next report back (R152). -/
theorem Part.tryOffer_of_full {s : Part} (h : 16 ≤ s.svc.outQ.length) : s.tryOffer = s := by
  unfold Part.tryOffer
  rw [if_neg]
  simp [Nat.not_lt.2 h]

/-- The chosen record goes out behind the messages that wait (R152). -/
theorem Part.tryOffer_offers {s : Part} {r : FaultRecord} (hs : s.inService = true) (hflight : s.log.inFlight = none)
    (hlast : s.sched.lastReport = none) (hroom : s.svc.outQ.length < 16) (hr : chooseReport s.log.records = some r) :
    s.tryOffer = { s with
      svc := { s.svc with outQ := s.svc.outQ ++ [.faultReport r.offered] }
      log := { s.log.modify r.seq FaultRecord.offered with inFlight := some r.seq, ackTimer := none } } := by
  unfold Part.tryOffer
  rw [if_pos (by simp [hs, hflight, hlast, hroom]), hr]
  exact Part.enqueue_room (.faultReport r.offered) _ hroom

theorem Log.settle_single {l : Log} {r : FaultRecord} (hr : l.records = [r]) (hflight : l.inFlight = some r.seq) :
    l.settle = { l with records := [r.settled], inFlight := none, ackTimer := none } := by
  simp [Log.settle, Log.modify, hr, hflight]

/-- A record that stands alone in the log, in flight or settled. -/
theorem chooseReport_single (r : FaultRecord) : chooseReport [r] = if r.delivery = .toSend then some r else none := rfl

/-! ### A record made at a full log -/

theorem Part.makeRecordAt_log_outOfService {s : Part} (hs : s.inService = false) (k : FaultKind) (src : FaultSource)
    (ls : LineState) (ds : List Int) :
    (s.makeRecordAt k src ls ds).log = (s.storeRecord (s.newRecord k src ls ds)).log := by
  unfold Part.makeRecordAt
  dsimp only
  split
  · rw [Part.tryOffer_outOfService (by exact hs)]
  · rfl

/-- A full log makes room by what it can spare, and else the new record is discarded (R157). -/
theorem Log.makeRoom_full {l : Log} (r : FaultRecord) (h : l.records.length = 32) :
    l.makeRoom r =
      if l.records.any FaultRecord.expendable then (l.records.eraseP FaultRecord.expendable ++ [r], true, true)
      else if l.records.any (·.yieldsTo l.inFlight r.severity) then
        (l.records.eraseP (·.yieldsTo l.inFlight r.severity) ++ [r], true, true)
      else (l.records, false, true) := by
  unfold Log.makeRoom
  rw [if_neg (by omega)]

theorem FaultRecord.yieldsTo_major (l : Log) (z : FaultRecord) :
    z.yieldsTo l.inFlight .major = ((z.severity == .info || z.severity == .minor) && l.inFlight != some z.seq) := by
  unfold FaultRecord.yieldsTo
  rw [Bool.and_comm]
  refine congrArg₂ _ ?_ ?_
  · cases z.severity <;> rfl
  · rw [Bool.eq_iff_iff]
    simp

/-! ### The log at the entry to SHUTDOWN -/

/-- A report placed to its last byte, and no later one in flight, stays SENT as the line leaves service (R155). -/
theorem Part.logLeavesService_placed {s : Part} (hlast : s.sched.lastReport = none) (hplaced : s.log.lastPlaced = true)
    (hflight : s.log.inFlight.isSome = true) (hseq : s.log.inFlight = s.log.lastSeq) : s.logLeavesService = s := by
  unfold Part.logLeavesService
  rw [hlast]
  dsimp only
  rw [if_pos (by rw [hplaced, hflight, hseq]; simp)]

/-- A report in flight that is placed to its last byte stays in the log, as it is, at a drop to QUIET (R35, R155). -/
theorem Part.toQuiet_keeps_placed {s : Part} {r : FaultRecord} (c : Cause) (hs : s.inService = true)
    (hlast : s.sched.lastReport = none) (hplaced : s.log.lastPlaced = true) (hflight : s.log.inFlight = some r.seq)
    (hseq : s.log.inFlight = s.log.lastSeq) (hroom : s.log.records.length < 32) (hr : r ∈ s.log.records) :
    r ∈ (s.toQuiet (some c)).log.records := by
  generalize hz : (s.writeSnapshot c).restedAs .quiet s.line.quieted = z
  have hzlog : z.log = s.log := by
    subst hz
    rfl
  have hzout : z.inService = false := by
    subst hz
    rfl
  have hquieted : s.quieted (some c) =
      z.makeRecordAt .lineDrop .line s.line.state (s.snapshotOf c).dropDetails := by
    subst hz
    rfl
  have hlog := Part.makeRecordAt_log_outOfService hzout .lineDrop .line s.line.state (s.snapshotOf c).dropDetails
  have hmade := Part.makeRecordAt_outOfService .lineDrop .line s.line.state (s.snapshotOf c).dropDetails hzout
    (by rw [hzlog]; exact hroom)
  rw [← hquieted] at hlog hmade
  have hsched := (s.quieted_ground_fields (some c)).2.2.2.2.2.2.2.2.2.2.1
  have hleave : ((s.quieted (some c)).pathsLeave s.line.state).log = (s.quieted (some c)).log := by
    unfold Part.pathsLeave
    rw [if_pos (show s.line.state.inService = true from hs), Part.logLeavesService_placed]
    · show (s.quieted (some c)).sched.flush.lastReport = none
      rw [hsched]
      exact hlast
    · show (s.quieted (some c)).log.lastPlaced = true
      rw [hlog]
      exact (congrArg Log.lastPlaced hzlog).trans hplaced
    · show (s.quieted (some c)).log.inFlight.isSome = true
      rw [hlog]
      exact congrArg Option.isSome ((congrArg Log.inFlight hzlog).trans hflight)
    · show (s.quieted (some c)).log.inFlight = (s.quieted (some c)).log.lastSeq
      rw [hlog]
      exact (congrArg Log.inFlight hzlog).trans (hseq.trans (congrArg Log.lastSeq hzlog).symm)
  rw [(s.toQuiet_svc_log (some c)).2, Part.stopped, hleave, hmade, hzlog]
  exact List.mem_append_left _ hr

/-- Settles O51: the acknowledgements, the full log, and the end of the last report. -/
theorem reportsAreSettledToTheLast : Obligations.ReportsAreSettledToTheLast := by
  refine ⟨fun s r hrun hs hrecords hflight hsent => ?_, fun s hrun hs htimer hsilent hfull => ?_,
    fun s hrun hlast hcut hs hpresence hdiag => ?_, fun s hrun hlast => ?_⟩
  · intro p again
    have hsettle := Log.settle_single hrecords hflight
    refine ⟨?_, fun k hk => ?_, fun htimer hsends => ?_, fun htimer hsends hlast hroom => ?_, fun htimer hsends hfull => ?_⟩
    · refine completes_of (o := execReportAck r.seq s) rfl rfl hrun ?_
      rw [if_pos (by simp [hs, hflight])]
      have hmodify : s.part.log.modify r.seq (fun z => { z with delivery := .delivered }) =
          { s.part.log with records := [{ r with delivery := .delivered }] } := by
        simp [Log.modify, hrecords]
      unfold Part.reportAck
      rw [hmodify]
      exact Part.tryOffer_of_none rfl
    · refine completes_of (o := execReportAck k s) rfl rfl hrun ?_
      rw [if_neg (by
        rw [hflight]
        simpa [hs] using hk.symm)]
    · refine completes_of (o := execReportAckTimeout s) rfl rfl hrun ?_
      have hlate : r.settled = { r with delivery := .undelivered } := by
        rw [FaultRecord.settled, if_neg (Nat.not_lt.2 hsends)]
      rw [if_pos htimer, hsettle, hlate]
      exact Part.tryOffer_of_none rfl
    · refine completes_of (o := execReportAckTimeout s) rfl rfl hrun ?_
      have hearly : r.settled = { r with delivery := .toSend } := by rw [FaultRecord.settled, if_pos hsends]
      rw [if_pos htimer, hsettle, hearly]
      generalize hz : ({ s.part with log := { s.part.log with
        records := [{ r with delivery := .toSend }], inFlight := none, ackTimer := none } } : Part) = z
      have hzlog : z.log.records = [{ r with delivery := .toSend }] ∧ z.log.inFlight = none := by
        subst hz
        exact ⟨rfl, rfl⟩
      rw [Part.tryOffer_offers (r := { r with delivery := .toSend }) (by subst hz; exact hs) hzlog.2 (by subst hz; exact hlast)
        (by subst hz; exact hroom) (by rw [hzlog.1]; rfl)]
      subst hz
      simp [Log.modify, FaultRecord.offered, again, p, hflight]
    · refine completes_of (o := execReportAckTimeout s) rfl rfl hrun ?_
      have hearly : r.settled = { r with delivery := .toSend } := by rw [FaultRecord.settled, if_pos hsends]
      rw [if_pos htimer, hsettle, hearly]
      exact Part.tryOffer_of_full hfull
  · intro l spent lower
    have hdone : Completes .hostSilenceTimeout s s.part.hostSilence :=
      completes_of (o := execHostSilenceTimeout s) rfl rfl hrun (if_pos htimer)
    refine ⟨_, hdone, ?_⟩
    rw [Part.hostSilence_first hsilent]
    generalize hr : s.part.silenceBegun.newRecord .hostSilent .link s.part.line.state [(s.part.link.silenceSetting : Int)] = r
    have hrsame : r.seq = l.next ∧ r.kind = .hostSilent ∧ r.severity = .major := by
      subst hr
      exact ⟨rfl, rfl, rfl⟩
    have hlog : (s.part.silenceBegun.makeRecord .hostSilent .link [(s.part.link.silenceSetting : Int)]).silenceHeld.log =
        (s.part.silenceBegun.storeRecord r).log := by
      rw [← hr]
      exact Part.makeRecordAt_log_outOfService (s := s.part.silenceBegun) hs _ _ _ _
    have hmake : s.part.silenceBegun.log.makeRoom r =
        if l.records.any spent then (l.records.eraseP spent ++ [r], true, true)
        else if l.records.any lower then (l.records.eraseP lower ++ [r], true, true)
        else (l.records, false, true) := by
      have hlower : (fun z : FaultRecord => z.yieldsTo l.inFlight r.severity) = lower := by
        funext z
        rw [hrsame.2.2]
        exact FaultRecord.yieldsTo_major l z
      rw [← hlower]
      exact Log.makeRoom_full r hfull
    have hlost : (s.part.silenceBegun.log.makeRoom r).2.2 = true := by
      rw [hmake]
      split
      · rfl
      · split <;> rfl
    have hlink : (s.part.silenceBegun.makeRecord .hostSilent .link
        [(s.part.link.silenceSetting : Int)]).silenceHeld.link.logLost = true := by
      have hmade : (s.part.silenceBegun.makeRecord .hostSilent .link
          [(s.part.link.silenceSetting : Int)]).link.logLost = true := by
        rw [Part.makeRecord, Part.makeRecordAt_link, Link.post_logLost]
        show (_ || (s.part.silenceBegun.log.makeRoom (s.part.silenceBegun.newRecord .hostSilent .link s.part.line.state
          [(s.part.link.silenceSetting : Int)])).2.2) = true
        rw [hr, hlost, Bool.or_true]
      exact hmade
    refine ⟨?_, hlink, ?_, fun hspent hlower => ?_, fun hroom => ⟨r, ?_⟩⟩
    · rw [hlog]
      show (if (s.part.silenceBegun.log.makeRoom r).2.2 then _ else _) = _
      rw [hlost]
      rfl
    · rw [hlog]
      rfl
    · rw [hlog]
      show (s.part.silenceBegun.log.makeRoom r).1 = _
      rw [hmake, hspent, hlower]
      rfl
    · have hrecords : (s.part.silenceBegun.log.makeRoom r).1 =
          (if l.records.any spent = true then l.records.eraseP spent else l.records.eraseP lower) ++ [r] := by
        rw [hmake]
        by_cases hspent : l.records.any spent = true
        · rw [if_pos hspent, if_pos hspent]
        · rw [if_neg hspent, if_neg hspent, if_pos (hroom.resolve_left hspent)]
      rw [hlog]
      show (s.part.silenceBegun.log.makeRoom r).1.getLast? = _ ∧ _ ∧ _ ∧ _ ∧
        (s.part.silenceBegun.log.makeRoom r).1.dropLast = _
      rw [hrecords]
      exact ⟨List.getLast?_concat, hrsame.1, hrsame.2.1, hrsame.2.2, List.dropLast_concat⟩
  · generalize hx : ({ s.part with
        sched := { s.part.sched with lastReport := none }, log := { s.part.log with lastPlaced := true } } : Part) = x
    have hdone : Completes .lastReportDone s x.enterShutdown.settle := by
      refine completes_of (o := execLastReportDone s) rfl rfl hrun ?_
      rw [if_pos hlast, ← hx]
    have hxsame : x.supply = s.part.supply ∧ x.line = s.part.line ∧ x.access = s.part.access ∧
        x.log = { s.part.log with lastPlaced := true } ∧ x.sched.lastReport = none := by
      subst hx
      exact ⟨rfl, rfl, rfl, rfl, rfl⟩
    obtain ⟨hxsupply, hxline, hxaccess, hxlog, hxlast⟩ := hxsame
    have hxpresence : x.supply.tPresence = none := by rw [hxsupply]; exact hpresence
    have hxs : x.inService = true := by
      rw [Part.inService, hxline]
      exact hs
    have hcause : x.shutCause = some .supply := by rw [Part.shutCause, hxs]; rfl
    obtain ⟨hline, hoverlay, hstate, hbudget, hhold, hrelay, hshed, haccess, hsnapshot, -, hlog, hlast'⟩ :=
      Part.enterShutdown_fields hxpresence
    obtain ⟨hfline, -, -, -, -, -, hflog, -, -, -, -, -, hflast⟩ := x.shut_fields
    rw [Part.enterShutdown_settle hxpresence] at hdone
    refine ⟨_, hdone, ?_⟩
    rw [Part.dataOpen, Part.refreshHeard_line, Part.refreshHeard_sched, Part.refreshHeard_supply,
      Part.refreshHeard_snapshot, Part.refreshHeard_log, Part.refreshHeard_band, Part.refreshHeard_access, hline, hoverlay,
      hstate, hbudget, hhold, hrelay, haccess, hsnapshot, hlog, hlast', hcause, hxs, hxaccess,
      (x.shut.toQuiet_fields (some .supply)).2.2.2.1, Part.toQuiet_next, hflog, hxlog]
    refine ⟨rfl, rfl, rfl, rfl, rfl, rfl, rfl, rfl, ?_, rfl, rfl, rfl, rfl, rfl, fun hroom hseq r hr hflight => ?_⟩
    · exact (congrArg Port.state (Part.refreshHeard_port _ .b)).trans hshed
    · have hxflog : x.shut.log = { s.part.log with lastPlaced := true } := hflog.trans hxlog
      have hfs : x.shut.inService = true := by
        rw [Part.inService, hfline]
        exact hxs
      have hlogs : x.shut.log.lastPlaced = true ∧ x.shut.log.inFlight = s.part.log.inFlight ∧
          x.shut.log.lastSeq = s.part.log.lastSeq ∧ x.shut.log.records = s.part.log.records := by
        rw [hxflog]
        exact ⟨rfl, rfl, rfl, rfl⟩
      obtain ⟨hplaced, hkflight, hkseq, hkrecords⟩ := hlogs
      exact Part.toQuiet_keeps_placed .supply hfs (hflast.trans hxlast) hplaced (hkflight.trans hflight)
        (hkflight.trans (hseq.trans hkseq.symm)) (by rw [hkrecords]; exact hroom) (by rw [hkrecords]; exact hr)
  · refine completes_of (o := execLastReportDone s) rfl rfl hrun ?_
    rw [if_neg hlast]

end Sys2Proof.Machine
end

section
/-! SUPPORT and PROOF. The telephones as the line leaves service (R103), and the drop from service (O38). -/

namespace Sys2Proof.Machine

/-! ### One port -/

/-- The port is in a call that the end of service ends (R103). -/
def PortState.parks (n : PortState) : Bool := n == .connected || n == .held || n == .joined

/-- A port as the line leaves service, the caller of a local ring or not (R103). -/
def Port.left (caller : Bool) (r : Port) : Port :=
  if r.state.parks then { r.parked with announced := false }
  else if r.state = .ringing then
    if r.ring.map Ring.origin = some Origin.line then { r with ring := none, state := .idle, announced := false }
    else { r with announced := false }
  else if r.state = .dialling then
    { r with dialTimer := if caller then none else some 30000, announced := false }
  else { r with announced := false }

/-- The port whose ring has been stopped (R107). -/
def Port.rung (r : Port) : Port := { r with ring := none, state := .idle }

theorem Port.left_announced (k : Bool) (r : Port) : (r.left k).announced = false := by
  unfold Port.left
  split
  · rfl
  · split
    · split <;> rfl
    · split <;> rfl

theorem Port.left_parks (k : Bool) {r : Port} (h : r.state.parks = true) :
    r.left k = { r.parked with announced := false } := if_pos h

theorem Port.left_dialling (k : Bool) {r : Port} (h : r.state = .dialling) :
    r.left k = { r with dialTimer := if k then none else some 30000, announced := false } := by
  unfold Port.left
  rw [h]
  rfl

theorem Port.left_line (k : Bool) {r : Port} (h : r.state = .ringing) (ho : r.ring.map Ring.origin = some Origin.line) :
    r.left k = { r with ring := none, state := .idle, announced := false } := by
  unfold Port.left
  rw [h, ho]
  rfl

theorem Port.left_local (k : Bool) {r : Port} (h : r.state = .ringing) (ho : r.ring.map Ring.origin ≠ some Origin.line) :
    r.left k = { r with announced := false } := by
  unfold Port.left
  rw [if_neg (by rw [h]; decide), if_pos h, if_neg ho]

theorem Port.left_other (k : Bool) {r : Port}
    (h : r.state ∉ [PortState.connected, .held, .joined, .ringing, .dialling]) : r.left k = { r with announced := false } := by
  unfold Port.left
  simp only [List.mem_cons, not_or, List.not_mem_nil, not_false_eq_true, and_true] at h
  rw [if_neg (by simp [PortState.parks, h]), if_neg h.2.2.2.1, if_neg h.2.2.2.2]

theorem PortState.parks_iff {n : PortState} : n.parks = true ↔ n = .connected ∨ n = .held ∨ n = .joined := by
  cases n <;> decide

/-- How a port leaves service is told by its state (R103). -/
theorem PortState.leaves_cases (n : PortState) :
    n.parks = true ∨ n = .ringing ∨ n = .dialling ∨
      n ∉ [PortState.connected, .held, .joined, .ringing, .dialling] := by
  cases n <;> decide

/-- Leaving service starts no ring. -/
theorem Port.left_ringing {k : Bool} {r : Port} (h : (r.left k).state = .ringing) :
    r.state = .ringing ∧ (r.left k).ring = r.ring := by
  rcases r.state.leaves_cases with hst | hst | hst | hst
  · rw [Port.left_parks k hst] at h
    cases h
  · refine ⟨hst, ?_⟩
    by_cases ho : r.ring.map Ring.origin = some Origin.line
    · rw [Port.left_line k hst ho] at h
      cases h
    · rw [Port.left_local k hst ho]
  · rw [Port.left_dialling k hst] at h
    exact absurd (hst.symm.trans h) (by decide)
  · rw [Port.left_other k hst] at h
    exact absurd h fun hr => hst (by rw [show r.state = .ringing from hr]; decide)

variable (s : Part) (p : PortId)

theorem Part.portLeavesService_parks (h : (s.port p).state.parks = true) :
    s.portLeavesService p = (s.park p).modPort p fun r => { r with announced := false } := by
  unfold Part.portLeavesService
  dsimp only
  rcases PortState.parks_iff.1 h with hst | hst | hst <;> rw [hst]

theorem Part.portLeavesService_line (h : (s.port p).state = .ringing)
    (ho : (s.port p).ring.map Ring.origin = some Origin.line) :
    s.portLeavesService p = (s.endRing p false .idle).modPort p fun r => { r with announced := false } := by
  unfold Part.portLeavesService
  dsimp only
  rw [h]
  dsimp only
  rw [if_pos ho]

theorem Part.portLeavesService_local (h : (s.port p).state = .ringing)
    (ho : (s.port p).ring.map Ring.origin ≠ some Origin.line) :
    s.portLeavesService p = s.modPort p fun r => { r with announced := false } := by
  unfold Part.portLeavesService
  dsimp only
  rw [h]
  dsimp only
  rw [if_neg ho]

theorem Part.portLeavesService_dialling (h : (s.port p).state = .dialling) :
    s.portLeavesService p = (s.modPort p fun r => { r with dialTimer := if s.isCaller p then none else some 30000 }).modPort
      p fun r => { r with announced := false } := by
  unfold Part.portLeavesService
  dsimp only
  rw [h]

theorem Part.portLeavesService_other
    (h : (s.port p).state ∉ [PortState.connected, .held, .joined, .ringing, .dialling]) :
    s.portLeavesService p = s.modPort p fun r => { r with announced := false } := by
  unfold Part.portLeavesService
  dsimp only
  generalize (s.port p).state = n at h
  cases n
  any_goals rfl
  all_goals exact absurd (by decide) h

theorem Part.portLeavesService_port : (s.portLeavesService p).port p = (s.port p).left (s.isCaller p) := by
  rcases (s.port p).state.leaves_cases with hst | hst | hst | hst
  · rw [Part.portLeavesService_parks s p hst, Part.port_modPort, Part.park_port, Port.left_parks _ hst]
  · by_cases ho : (s.port p).ring.map Ring.origin = some Origin.line
    · have hsome : (s.port p).ring.isSome = true := by
        cases hg : (s.port p).ring with
        | none =>
          rw [hg] at ho
          cases ho
        | some g => rfl
      rw [Part.portLeavesService_line s p hst ho, Part.port_modPort, Part.endRing_port s p false (by decide) hsome,
        Port.left_line _ hst ho]
    · rw [Part.portLeavesService_local s p hst ho, Part.port_modPort, Port.left_local _ hst ho]
  · rw [Part.portLeavesService_dialling s p hst, Part.port_modPort, Part.port_modPort, Port.left_dialling _ hst]
  · rw [Part.portLeavesService_other s p hst, Part.port_modPort, Port.left_other _ hst]

/-- The other port is left alone, but where this one was the caller of its ring in spite of being in a call. -/
theorem Part.portLeavesService_port_other :
    (s.portLeavesService p).port (other p) =
      if (s.port p).state.parks = true ∧ s.isCaller p = true then (s.port (other p)).rung else s.port (other p) := by
  have hstays (hn : (s.port p).state.parks = false) : s.port (other p) =
      if (s.port p).state.parks = true ∧ s.isCaller p = true then (s.port (other p)).rung else s.port (other p) := by
    rw [if_neg (by rw [hn]; exact fun h => nomatch h.1)]
  rcases (s.port p).state.leaves_cases with hst | hst | hst | hst
  · rw [Part.portLeavesService_parks s p hst, Part.port_modPort_other, Part.park_port_other]
    simp only [hst, true_and]
    rfl
  · rw [← hstays (by rw [hst]; rfl)]
    by_cases ho : (s.port p).ring.map Ring.origin = some Origin.line
    · obtain ⟨g, hg, horigin⟩ := Option.map_eq_some_iff.1 ho
      rw [Part.portLeavesService_line s p hst ho, Part.port_modPort_other, Part.endRing_port_other s p false .idle hg,
        if_neg (by rw [horigin]; exact fun h => nomatch h.1)]
    · rw [Part.portLeavesService_local s p hst ho, Part.port_modPort_other]
  · rw [← hstays (by rw [hst]; rfl), Part.portLeavesService_dialling s p hst, Part.port_modPort_other,
      Part.port_modPort_other]
  · have hn : (s.port p).state.parks = false := by
      refine eq_false_of_ne_true fun h => hst ?_
      rcases PortState.parks_iff.1 h with h | h | h <;> rw [h] <;> decide
    rw [← hstays hn, Part.portLeavesService_other s p hst, Part.port_modPort_other]

/-! ### Both ports -/

variable {s p}

theorem Part.portsLeaveService_a :
    s.portsLeaveService.port .a =
      let x := s.channelsEnd.portLeavesService .a
      if (x.port .b).state.parks = true ∧ x.isCaller .b = true then ((s.port .a).left (s.isCaller .a)).rung
      else (s.port .a).left (s.isCaller .a) := by
  have hself : (s.channelsEnd.portLeavesService .a).port .a = (s.port .a).left (s.isCaller .a) :=
    s.channelsEnd.portLeavesService_port .a
  have hother := (s.channelsEnd.portLeavesService .a).portLeavesService_port_other .b
  rw [show other .b = PortId.a from rfl, hself] at hother
  exact hother

theorem Part.portsLeaveService_b :
    s.portsLeaveService.port .b =
      let r := if (s.port .a).state.parks = true ∧ s.isCaller .a = true then (s.port .b).rung else s.port .b
      r.left ((s.channelsEnd.portLeavesService .a).isCaller .b) := by
  have hself := (s.channelsEnd.portLeavesService .a).portLeavesService_port .b
  rw [show (s.channelsEnd.portLeavesService .a).port .b =
    if (s.port .a).state.parks = true ∧ s.isCaller .a = true then (s.port .b).rung else s.port .b from
    s.channelsEnd.portLeavesService_port_other .a] at hself
  exact hself

/-- The caller of a ring on port A, once port A has left. -/
theorem Part.portLeavesService_isCaller_b :
    (s.channelsEnd.portLeavesService .a).isCaller .b =
      (s.isCaller .b && decide ((s.portA.ring.map Ring.origin) ≠ some Origin.line)) := by
  have hself : (s.channelsEnd.portLeavesService .a).port .a = (s.port .a).left (s.isCaller .a) :=
    s.channelsEnd.portLeavesService_port .a
  unfold Part.isCaller
  simp only [show other .b = PortId.a from rfl, hself]
  by_cases hr : (s.port .a).state = .ringing
  · by_cases ho : (s.portA.ring.map Ring.origin) = some Origin.line
    · rw [Port.left_line _ hr ho]
      simp [ho]
    · rw [Port.left_local _ hr ho]
      simp [ho]
  · have hleft : ((s.port .a).left (s.isCaller .a)).state ≠ .ringing := fun h => hr (Port.left_ringing h).1
    rw [beq_false_of_ne hleft, beq_false_of_ne hr]
    rfl

/-- A port that does not ring leaves service by itself. -/
theorem Part.portsLeaveService_quiet {y : PortId} (hr : (s.port y).state ≠ .ringing) :
    ∃ k, s.portsLeaveService.port y = (s.port y).left k ∧ (s.isCaller y = false → k = false) ∧
      ((s.port (other y)).ring.map Ring.origin ≠ some Origin.line → k = s.isCaller y) := by
  cases y with
  | a =>
    refine ⟨s.isCaller .a, ?_, id, fun _ => rfl⟩
    rw [Part.portsLeaveService_a]
    dsimp only
    rw [if_neg]
    rintro ⟨-, hcall⟩
    rw [Part.portLeavesService_isCaller_b, Bool.and_eq_true] at hcall
    exact hr (Part.isCaller_iff.1 hcall.1).1
  | b =>
    refine ⟨(s.channelsEnd.portLeavesService .a).isCaller .b, ?_, fun h => ?_, fun h => ?_⟩
    · rw [Part.portsLeaveService_b]
      dsimp only
      rw [if_neg]
      rintro ⟨-, hcall⟩
      exact hr (Part.isCaller_iff.1 hcall).1
    · rw [Part.portLeavesService_isCaller_b, h, Bool.false_and]
    · rw [Part.portLeavesService_isCaller_b]
      have ho : (s.portA.ring.map Ring.origin) ≠ some Origin.line := h
      simp [ho]

/-- A local ring goes on, unless its caller is in a call that ends (R103). -/
theorem Part.portsLeaveService_local {y : PortId} (hr : (s.port y).state = .ringing)
    (ho : (s.port y).ring.map Ring.origin ≠ some Origin.line)
    (hother : (s.port (other y)).state.parks = false ∨ s.isCaller (other y) = false) :
    s.portsLeaveService.port y = { s.port y with announced := false } := by
  cases y with
  | a =>
    rw [Part.portsLeaveService_a]
    dsimp only
    rw [if_neg, Port.left_local _ hr ho]
    rintro ⟨hparks, hcall⟩
    rw [Part.portLeavesService_isCaller_b, Bool.and_eq_true] at hcall
    have hport := s.channelsEnd.portLeavesService_port_other .a
    rw [show other .a = PortId.b from rfl] at hport hother
    rcases hother with hother | hother
    · rw [hport] at hparks
      split at hparks
      · cases hparks
      · rw [show (s.channelsEnd.port .b).state = (s.port .b).state from rfl, hother] at hparks
        cases hparks
    · rw [hother] at hcall
      cases hcall.1
  | b =>
    rw [Part.portsLeaveService_b]
    dsimp only
    rw [if_neg, Port.left_local _ hr ho]
    rintro ⟨hparks, hcall⟩
    rcases hother with hother | hother
    · rw [show (s.port .a).state.parks = false from hother] at hparks
      cases hparks
    · rw [show s.isCaller .a = false from hother] at hcall
      cases hcall

/-- A ring from the line stops (R103). -/
theorem Part.portsLeaveService_fromLine {y : PortId} (hr : (s.port y).state = .ringing)
    (ho : (s.port y).ring.map Ring.origin = some Origin.line) :
    (s.portsLeaveService.port y).state = .idle ∧ (s.portsLeaveService.port y).ring = none := by
  cases y with
  | a =>
    rw [Part.portsLeaveService_a, Port.left_line _ hr ho]
    dsimp only
    split <;> exact ⟨rfl, rfl⟩
  | b =>
    rw [Part.portsLeaveService_b]
    dsimp only
    split
    · rw [Port.left_other _ (show PortState.idle ∉ _ by decide)]
      exact ⟨rfl, rfl⟩
    · rw [Port.left_line _ hr ho]
      exact ⟨rfl, rfl⟩

theorem Part.portsLeaveService_announced (y : PortId) : (s.portsLeaveService.port y).announced = false := by
  cases y with
  | a =>
    rw [Part.portsLeaveService_a]
    dsimp only
    split
    · exact Port.left_announced _ _
    · exact Port.left_announced _ _
  | b =>
    rw [Part.portsLeaveService_b]
    exact Port.left_announced _ _

/-- What rings behind the end of service rang before, on the same ring. -/
theorem Part.portsLeaveService_ringing {y : PortId} (h : (s.portsLeaveService.port y).state = .ringing) :
    (s.port y).state = .ringing ∧ (s.portsLeaveService.port y).ring = (s.port y).ring := by
  cases y with
  | a =>
    rw [Part.portsLeaveService_a] at h ⊢
    dsimp only at h ⊢
    split at h
    · cases h
    · rename_i hn
      rw [if_neg hn]
      exact Port.left_ringing h
  | b =>
    rw [Part.portsLeaveService_b] at h ⊢
    dsimp only at h ⊢
    split at h
    · exact nomatch (Port.left_ringing h).1
    · rename_i hn
      rw [if_neg hn]
      exact Port.left_ringing h

/-- No port becomes the caller of a ring. -/
theorem Part.portsLeaveService_isCaller {y : PortId} (h : s.isCaller y = false) : s.portsLeaveService.isCaller y = false := by
  refine eq_false_of_ne_true fun hcall => ?_
  obtain ⟨hring, g, hg, hpartner⟩ := Part.isCaller_iff.1 hcall
  obtain ⟨hr, hsame⟩ := Part.portsLeaveService_ringing hring
  rw [Part.isCaller_iff.2 ⟨hr, g, hsame ▸ hg, hpartner⟩] at h
  cases h

/-! ### The wiring behind the end of service -/

theorem Part.unlink_wiring (h : s.voice.joinLink = false) : s.unlink.wiring = s.wiring := by
  unfold Part.unlink Part.wiring
  rw [← h]

theorem Part.parkJoined_wiring (h : s.voice.joinLink = false) : s.parkJoined.wiring = s.wiring := by
  unfold Part.parkJoined
  split
  · rw [Part.park_wiring, Part.unlink_wiring h]
  · rfl

theorem Part.leaveCall_wiring (p : PortId) (old : PortState) (h : s.voice.joinLink = false) :
    (s.leaveCall p old).wiring = s.wiring := by
  unfold Part.leaveCall
  dsimp only
  rw [Part.dropRungBy_wiring]
  generalize hx : (if old = .intercom ∧ (s.port (other p)).state = .intercom then s.park (other p) else s) = x
  have hxw : x.wiring = s.wiring := by
    subst hx
    split
    · exact s.park_wiring _
    · rfl
  have hxj : x.voice.joinLink = false := (Part.joinLink_of_wiring hxw).trans h
  split
  · rw [Part.parkJoined_wiring hxj, hxw]
  · split
    · rw [Part.unlink_wiring hxj, hxw]
    · exact hxw

/-- Where there is no channel, no hold and no join link, the relay's move leaves it so. -/
theorem Part.settleRelay_wiring (hchan : s.chan .a = none) (hhold : s.hold .a = none) (hlink : s.voice.joinLink = false) :
    s.settleRelay.wiring = s.wiring := by
  have hthrough (x : Part) (hx : x.wiring = s.wiring) : x.enterThrough.wiring = s.wiring := by
    unfold Part.enterThrough
    dsimp only
    have hring : (x.endRing .a false .through).wiring = s.wiring := (x.endRing_wiring .a _ _).trans hx
    generalize x.endRing .a false .through = z at hring
    have hnone : ((z.setChan .a none).setHold .a none).wiring = z.wiring := by
      have hc : z.chan .a = none := (Part.chan_of_wiring hring .a).trans hchan
      have hh : z.hold .a = none := (Part.hold_of_wiring hring .a).trans hhold
      unfold Part.chan at hc
      unfold Part.hold at hh
      dsimp only at hc hh
      unfold Part.setChan Part.setHold Part.wiring
      dsimp only
      rw [← hc, ← hh]
    have hlinked : z.voice.joinLink = false := (Part.joinLink_of_wiring hring).trans hlink
    rw [Part.leaveCall_wiring, Part.enterState_wiring, Part.modPort_wiring, hnone, hring]
    rw [Part.enterState_voice, Part.modPort_voice]
    exact (Part.joinLink_of_wiring hnone).trans hlinked
  unfold Part.settleRelay
  dsimp only
  split
  · rfl
  · split
    · exact Part.enterState_wiring _ .a _ _
    · exact hthrough _ rfl

theorem Part.portsLeaveService_wiring : s.portsLeaveService.wiring = s.channelsEnd.wiring :=
  (Part.portLeavesService_wiring _ .b).trans (Part.portLeavesService_wiring _ .a)

theorem Generator.select_kind (g : Generator) (k : ToneKind) : (g.select k).kind = k := by
  unfold Generator.select
  split
  · assumption
  · rfl

/-! ### What a port hears -/

theorem Part.heardOf_parked {y : PortId} (h : (s.port y).state = .parked) :
    s.heardOf y = if (s.port y).howler.isSome then .tone .howler else .silence := by
  simp [Part.heardOf, h]

theorem Part.heardOf_dialling_caller {y : PortId} (h : (s.port y).state = .dialling) (hc : s.isCaller y = true) :
    s.heardOf y = .tone .ringback := by
  simp [Part.heardOf, h, hc]

theorem Part.heardOf_dialling_out {y : PortId} (h : (s.port y).state = .dialling) (hc : s.isCaller y = false)
    (hs : s.inService = false) : s.heardOf y = .tone .noService := by
  simp [Part.heardOf, h, hc, hs]

/-! ### The drop from service -/

/-- Behind the drop of a part with the relay at PART, outside SHUTDOWN, the relay stays and each port hears what it should
(R187). -/
theorem Part.dropLine_heard {p : Part} (c : Cause) (hs : p.inService = true) (hcut : p.supply.state ≠ .cutoff)
    (hrelay : p.supply.relay = true) (hshut : p.supply.state ≠ .shutdown) :
    (p.dropLine c).settle = (p.dropLine c).refreshHeard := by
  obtain ⟨hline, -, -, -, -, -, -, hsupply, -⟩ := p.droppedFrom_fields c
  have hground : (p.dropLine c).ground = (p.droppedFrom c).ground := by
    rw [Part.dropLine_eq c hs hcut, Part.postLine, Part.post_ground, Part.portsLeaveService_ground]
  have hxline := (Part.line_of_ground hground).trans hline
  have hxsupply := (Part.supply_of_ground hground).trans hsupply
  generalize p.dropLine c = x at *
  rw [Part.settle_waiting (Part.mayStart_of_notPending (by rw [hxline]; rfl)), Part.settleRelay_same]
  rw [Part.relayTarget, hxline, hxsupply, if_neg hshut, hrelay]
  split
  · rfl
  · rfl

/-- Settles O38: the ground of the drop, its record, and each port by the state it left service in. -/
theorem dropsFromServiceKeepASnapshot : Obligations.DropsFromServiceKeepASnapshot := by
  intro s i cause hrun hs hcut hi
  dsimp only
  generalize hp : s.part = p at *
  have hdone : Completes i s (p.dropLine cause).settle := by
    subst hp
    rcases hi with ⟨rfl, rfl⟩ | ⟨rfl, rfl⟩
    · exact completes_of (o := execDrop s) rfl rfl hrun (if_pos hs)
    · exact completes_of (o := execSyncLoss s) rfl rfl hrun (if_pos hs)
  have hcode : (if i = .drop then (6 : Int) else 7) = (cause.code : Int) := by
    rcases hi with ⟨rfl, rfl⟩ | ⟨rfl, rfl⟩ <;> rfl
  obtain ⟨hground, hsvc, hlog⟩ := Part.dropLine_settled cause hs hcut
  obtain ⟨hline, hsnapshot, hnew, hband, hload, hmonitor, htracker, -, haccess, -, hportA, hportB, -, -, hsched, hout⟩ :=
    p.droppedFrom_fields cause
  have hrecorded := Part.droppedFrom_recorded (s := p) (q := (p.dropLine cause).settle) cause (by rw [hlog]) (by rw [hlog])
  have hwiring : (p.dropLine cause).settle.wiring = (p.droppedFrom cause).channelsEnd.wiring := by
    have hx : (p.dropLine cause).wiring = (p.droppedFrom cause).channelsEnd.wiring := by
      rw [Part.dropLine_eq cause hs hcut, Part.postLine, Part.post_wiring, Part.portsLeaveService_wiring]
    have hxline : (p.dropLine cause).line = p.line.droppedOnce := by
      have hg : (p.dropLine cause).ground = (p.droppedFrom cause).ground := by
        rw [Part.dropLine_eq cause hs hcut, Part.postLine, Part.post_ground, Part.portsLeaveService_ground]
      exact (Part.line_of_ground hg).trans hline
    rw [Part.settle_waiting (Part.mayStart_of_notPending (by rw [hxline]; rfl)), Part.refreshHeard_wiring,
      Part.settleRelay_wiring (Part.chan_of_wiring hx .a) (Part.hold_of_wiring hx .a) (Part.joinLink_of_wiring hx), hx]
  have kline := congrArg Part.line hground
  have kband := congrArg Part.band hground
  have kload := congrArg Part.load hground
  have kmonitor := congrArg Part.monitor hground
  have ktracker := congrArg Part.tracker hground
  have kaccess := congrArg Part.access hground
  have ksnapshot := congrArg Part.snapshot hground
  have knew := congrArg (fun x : Part => x.link.snapshotNew) hground
  have kup := congrArg (fun x : Part => x.sched.upQueue) hground
  have hport (y : PortId) : (p.droppedFrom cause).port y = p.port y := by cases y; exacts [hportA, hportB]
  have hqline : (p.dropLine cause).settle.line = p.line.droppedOnce := Eq.trans kline hline
  have hqband : (p.dropLine cause).settle.band = { p.band with offeredMap := none, mapInForce := none } :=
    Eq.trans kband hband
  have hqload : (p.dropLine cause).settle.load =
      { p.load with offeredProfile := none, periodSums := [], periodCount := 0 } := Eq.trans kload hload
  have hqup : (p.dropLine cause).settle.sched.upQueue = [] := by
    refine Eq.trans kup ?_
    show (p.droppedFrom cause).sched.upQueue = []
    rw [hsched]
    rfl
  refine ⟨_, p.snapshotOf cause, hdone, ?_⟩
  rw [hqline, hqband, hqload, hqup, hsvc, hcode]
  refine ⟨rfl, rfl, rfl, rfl, rfl, Eq.trans ksnapshot hsnapshot, rfl, Nat.mul_comm _ _, Nat.mul_comm _ _, rfl, rfl, rfl,
    rfl, rfl, ?_, rfl, rfl, Eq.trans knew hnew, hrecorded.2, rfl, rfl, rfl, rfl, hout, rfl, Part.chan_of_wiring hwiring .a,
    Part.chan_of_wiring hwiring .b, Part.hold_of_wiring hwiring .a, Part.hold_of_wiring hwiring .b, Eq.trans kmonitor hmonitor,
    Eq.trans ktracker htracker, hrecorded.1, rfl, rfl, Eq.trans kaccess haccess, rfl, Part.joinLink_of_wiring hwiring,
    fun hrelay hshut y => ?_⟩
  · show p.sessionSeconds = _
    unfold Part.sessionSeconds
    cases p.line.session <;> rfl
  rw [Part.dropLine_heard cause hs hcut hrelay hshut, Part.refreshHeard_port, Part.refreshHeard_port,
    Part.refreshHeard_gen, Generator.select_kind]
  have hxport (z : PortId) : (p.dropLine cause).port z = (p.droppedFrom cause).portsLeaveService.port z := by
    rw [Part.dropLine_eq cause hs hcut, Part.postLine, Part.port_post]
  have hxout : (p.dropLine cause).inService = false := by
    rw [Part.dropLine_eq cause hs hcut]
    show (p.droppedFrom cause).portsLeaveService.line.state.inService = false
    rw [Part.portsLeaveService_line, hline]
    rfl
  have hcaller (z : PortId) : (p.droppedFrom cause).isCaller z = p.isCaller z := Part.isCaller_congr (hport _)
  generalize p.droppedFrom cause = z at *
  generalize p.dropLine cause = x at *
  have hstart (w : PortId) (hr : (p.port w).state ≠ .ringing) : ∃ k, x.port w = (p.port w).left k ∧
      (p.isCaller w = false → k = false) ∧
      ((p.port (other w)).ring.map Ring.origin ≠ some Origin.line → k = p.isCaller w) := by
    have hquiet := Part.portsLeaveService_quiet (s := z) (y := w) (by rw [hport]; exact hr)
    rwa [hport, hcaller, ← hxport, hport] at hquiet
  have hring (w : PortId) (hr : (p.port w).state = .ringing) (ho : (p.port w).ring.map Ring.origin ≠ some Origin.line)
      (hother : (p.port (other w)).state.parks = false ∨ p.isCaller (other w) = false) :
      x.port w = { p.port w with announced := false } := by
    rw [hxport, Part.portsLeaveService_local (by rw [hport]; exact hr) (by rw [hport]; exact ho)
      (by rw [hport, hcaller]; exact hother), hport]
  refine ⟨?_, fun hst => ?_, fun g hst hg => ⟨fun horigin => ?_, fun horigin hpartner => ?_⟩, fun hst hcall => ?_,
    fun g hst hother hg horigin hpartner => ?_, fun hst => ?_⟩
  · rw [hxport]
    exact Part.portsLeaveService_announced y
  · have hparks := PortState.parks_iff.2 hst
    obtain ⟨k, hk, -⟩ := hstart y (by rcases hst with h | h | h <;> rw [h] <;> decide)
    rw [Port.left_parks k hparks] at hk
    rw [Part.heardOf_parked (by rw [hk]; rfl), hk]
    exact ⟨rfl, rfl, rfl, rfl⟩
  · have hline := Part.portsLeaveService_fromLine (s := z) (y := y) (by rw [hport]; exact hst)
      (by rw [hport, hg]; exact congrArg some horigin)
    rw [← hxport] at hline
    exact hline
  · have hnot : p.isCaller (other y) = false := by
      refine eq_false_of_ne_true fun h => ?_
      obtain ⟨-, g', hg', hpartner'⟩ := Part.isCaller_iff.1 h
      rw [other_other, hg] at hg'
      rw [← Option.some.inj hg', hpartner] at hpartner'
      cases hpartner'
    have hx := hring y hst (by
      rw [hg]
      intro h
      rw [Option.map_some, horigin] at h
      cases h) (.inr hnot)
    rw [hx]
  · obtain ⟨k, hk, hfalse, -⟩ := hstart y (by rw [hst]; decide)
    rw [hfalse hcall, Port.left_dialling false hst] at hk
    have hcaller' : x.isCaller y = false := by
      rw [← hcaller] at hcall
      have hleft := Part.portsLeaveService_isCaller hcall
      rwa [← Part.isCaller_congr (hxport (other y))] at hleft
    rw [Part.heardOf_dialling_out (by rw [hk]; exact hst) hcaller' hxout, hk]
    exact ⟨hst, rfl, rfl, rfl⟩
  · have ho : (p.port (other y)).ring.map Ring.origin ≠ some Origin.line := by
      rw [hg]
      intro h
      rw [Option.map_some, horigin] at h
      cases h
    obtain ⟨k, hk, -, hsome⟩ := hstart y (by rw [hst]; decide)
    have hcall : p.isCaller y = true := Part.isCaller_iff.2 ⟨hother, g, hg, hpartner⟩
    rw [hsome ho, hcall, Port.left_dialling true hst] at hk
    have hx := hring (other y) hother ho (.inl (by rw [other_other, hst]; rfl))
    have hxcall : x.isCaller y = true := Part.isCaller_iff.2 ⟨by rw [hx]; exact hother, g, by rw [hx]; exact hg, hpartner⟩
    rw [Part.heardOf_dialling_caller (by rw [hk]; exact hst) hxcall, hk, hx]
    exact ⟨hst, rfl, rfl, hother, hg⟩
  · obtain ⟨k, hk, -⟩ := hstart y (by
      intro h
      rw [h] at hst
      exact hst (by decide))
    rw [Port.left_other k hst] at hk
    rw [hk]

end Sys2Proof.Machine
end

section
/-! SUPPORT. What the operations on calls and rings send: the service channel and the log as functions of the messages
offered (R21, R95, R138), one lemma per operation. And what the ports' operations leave of each other, of the channels and of
a running test, where `Calls` and `Watched` do not say it. -/

namespace Sys2Proof.Machine

variable (s : Part) (p q : PortId)

/-! ### The mail -/

/-- The service channel and the log, which the outbound queue's owner is told through. -/
def Part.mail (s : Part) : Service × Log := (s.svc, s.log)

/-- A message offered to the outbound queue (R21). -/
def offer (m : Msg) (l : Service × Log) : Service × Log :=
  if l.1.outQ.length < 16 then ({ l.1 with outQ := insertMsg m l.1.outQ }, l.2)
  else
    match m with
    | .faultReport _ => l
    | .signal .. =>
      match newestOther l.1.outQ with
      | none => (l.1.discard, l.2)
      | some x => ({ l.1.displaced x with outQ := insertMsg m (dropNewest l.1.outQ) }, l.2.displaced x)
    | _ => (l.1.discard, l.2)

theorem Part.enqueue_mail (m : Msg) : (s.enqueue m).mail = offer m s.mail := by
  unfold Part.enqueue offer Part.mail
  dsimp only
  split
  · rfl
  · cases m with
    | signal p x =>
      dsimp only
      cases newestOther s.svc.outQ <;> rfl
    | _ => rfl

theorem offer_room {m : Msg} {l : Service × Log} (h : l.1.outQ.length < 16) :
    offer m l = ({ l.1 with outQ := insertMsg m l.1.outQ }, l.2) := if_pos h

/-- A SIGNAL behind SIGNALs alone joins at the end. -/
theorem insertMsg_signals {m : Msg} {ms : List Msg} (hm : m.isSignal = true) (h : ∀ k ∈ ms, k.isSignal = true) :
    insertMsg m ms = ms ++ [m] := by
  unfold insertMsg
  rw [if_pos hm, List.takeWhile_eq_self_iff.2 h, List.dropWhile_eq_nil_iff.2 h]

/-- A SIGNAL joins behind the SIGNALs and ahead of every other kind (R21). -/
theorem insertMsg_split {m : Msg} {signals others : List Msg} (hm : m.isSignal = true)
    (hs : ∀ k ∈ signals, k.isSignal = true) (ho : ∀ k ∈ others, k.isSignal = false) :
    insertMsg m (signals ++ others) = signals ++ m :: others := by
  have htake : (signals ++ others).takeWhile (·.isSignal) = signals := by
    rw [List.takeWhile_append_of_pos hs]
    cases others with
    | nil => simp
    | cons k ks => rw [List.takeWhile_cons_of_neg (by rw [ho k List.mem_cons_self]; decide), List.append_nil]
  have hdrop : (signals ++ others).dropWhile (·.isSignal) = others := by
    rw [List.dropWhile_append_of_pos hs]
    cases others with
    | nil => rfl
    | cons k ks => rw [List.dropWhile_cons_of_neg (by rw [ho k List.mem_cons_self]; decide)]
  unfold insertMsg
  rw [if_pos hm, htake, hdrop]

theorem Part.mail_of_same {s x : Part} (hv : x.svc = s.svc) (hl : x.log = s.log) : x.mail = s.mail := by
  rw [Part.mail, hv, hl]
  rfl

theorem Part.svc_of_mail {s x : Part} (h : x.mail = s.mail) : x.svc = s.svc := congrArg Prod.fst h
theorem Part.log_of_mail {s x : Part} (h : x.mail = s.mail) : x.log = s.log := congrArg Prod.snd h

@[simp] theorem Part.modPort_mail (f : Port → Port) : (s.modPort p f).mail = s.mail :=
  Part.mail_of_same (s.modPort_svc p f) (s.modPort_log p f)
@[simp] theorem Part.setGen_mail (g : Generator) : (s.setGen p g).mail = s.mail := by cases p <;> rfl
@[simp] theorem Part.setChan_mail (c : Option Channel) : (s.setChan p c).mail = s.mail := by cases p <;> rfl
@[simp] theorem Part.setHold_mail (t : Option Nat) : (s.setHold p t).mail = s.mail := by cases p <;> rfl
@[simp] theorem Part.setSlot_mail (x : Slot) : (s.setSlot p x).mail = s.mail := by cases p <;> rfl
@[simp] theorem Part.post_mail (n : Notice) : (s.post n).mail = s.mail := rfl
@[simp] theorem Part.portEvent_mail (e : PortEvent) (m : Option Mode) : (s.portEvent p e m).mail = s.mail := rfl
@[simp] theorem Part.unlink_mail : s.unlink.mail = s.mail := rfl
@[simp] theorem Part.signal_mail (x : Signal) : (s.signal p x).mail = offer (.signal p x) s.mail := s.enqueue_mail _
@[simp] theorem Part.enterState_mail (n : PortState) (m : Option Mode) : (s.enterState p n m).mail = s.mail :=
  Part.mail_of_same (s.enterState_svc p n m) (s.enterState_log p n m)
@[simp] theorem Part.sayOffHook_mail : (s.sayOffHook p).mail = offer (.signal p .offHook) s.mail := by
  simp [Part.sayOffHook]
@[simp] theorem Part.sayOnHook_mail : (s.sayOnHook p).mail = offer (.signal p .onHook) s.mail := by
  simp [Part.sayOnHook]
@[simp] theorem Part.refreshHeard_mail : s.refreshHeard.mail = s.mail :=
  Part.mail_of_same s.refreshHeard_svc s.refreshHeard_log
@[simp] theorem Part.releaseTone_mail : (s.releaseTone p).mail = s.mail := by
  unfold Part.releaseTone
  split <;> simp
@[simp] theorem Part.endTest_mail (o : DiagOutcome) (d : Nat) : (s.endTest o d).mail = s.mail := by
  rw [Part.endTest_frame]
  rfl

theorem Part.withdraw_mail :
    (s.withdraw p).mail =
      if (s.port p).announced && s.inService then offer (.signal p .onHook) s.mail else s.mail := by
  unfold Part.withdraw
  split <;> simp

theorem Part.toDialling_mail :
    (s.toDialling p).mail = if s.inService then offer (.signal p .offHook) s.mail else s.mail := by
  unfold Part.toDialling
  dsimp only
  rw [Part.inService_enterState, Part.inService_modPort]
  split <;> simp

theorem Part.callerBack_mail :
    (s.callerBack p).mail =
      if (s.port p).state = .dialling ∧ s.inService = true ∧ (s.port p).announced = false then
        offer (.signal p .offHook) s.mail
      else s.mail := by
  have hannounced : (((s.modPort p fun r => { r with dialTimer := some 30000 }).releaseTone p).port p).announced =
      (s.port p).announced := by
    rw [Part.releaseTone_port, Port.toneReleased_frame]
    simp
  unfold Part.callerBack
  dsimp only
  by_cases hd : (s.port p).state = .dialling
  · rw [if_pos hd, hannounced]
    simp only [Part.inService_releaseTone, Part.inService_modPort, hd, true_and]
    cases s.inService <;> cases (s.port p).announced <;> simp
  · rw [if_neg hd, if_neg (fun h => hd h.1)]

theorem Part.callerBack_mail_of_ne (h : (s.port p).state ≠ .dialling) : (s.callerBack p).mail = s.mail := by
  rw [Part.callerBack_mail, if_neg fun k => h k.1]

/-- A ring that the caller's port survives in another state than DIALLING, and that the part did not end, sends nothing. -/
theorem Part.endRing_mail_line (b : Bool) (n : PortState) {g : Ring} (hg : (s.port p).ring = some g)
    (ho : g.origin = .line) :
    (s.endRing p b n).mail = if b && s.inService then offer (.signal p .ringLimited) s.mail else s.mail := by
  unfold Part.endRing
  rw [hg]
  dsimp only
  rw [ho]
  dsimp only
  rw [Part.inService_enterState, Part.inService_modPort]
  split <;> simp

theorem Part.endRing_mail_alone (b : Bool) (n : PortState) {g : Ring} (hg : (s.port p).ring = some g)
    (ho : g.origin = .loc) (hp : g.partner = none) : (s.endRing p b n).mail = s.mail := by
  unfold Part.endRing
  rw [hg]
  dsimp only
  rw [ho, hp]
  simp

theorem Part.endRing_mail_caller (b : Bool) (n : PortState) {g : Ring} (hg : (s.port p).ring = some g)
    (ho : g.origin = .loc) (hp : g.partner = some (other p)) :
    (s.endRing p b n).mail = (s.callerBack (other p)).mail := by
  unfold Part.endRing
  rw [hg]
  dsimp only
  rw [ho, hp]
  dsimp only
  rw [Part.callerBack_mail, Part.callerBack_mail, Part.enterState_port_other, Part.port_modPort_other,
    Part.inService_enterState, Part.inService_modPort, Part.enterState_mail, Part.modPort_mail]

/-- A caller that has left DIALLING hears nothing of the end of the ring. -/
theorem Part.dropRungBy_mail (h : (s.port p).state ≠ .dialling) : (s.dropRungBy p).mail = s.mail := by
  unfold Part.dropRungBy
  split
  · rename_i hc
    obtain ⟨-, g, hg, hpartner⟩ := Part.isCaller_iff.1 hc
    cases ho : g.origin with
    | line => exact (s.endRing_mail_line (other p) false .idle hg ho).trans (if_neg Bool.false_ne_true)
    | loc =>
      rw [s.endRing_mail_caller (other p) false .idle hg ho (by rw [other_other]; exact hpartner), other_other,
        s.callerBack_mail_of_ne p h]
  · rfl

@[simp] theorem Part.park_mail : (s.park p).mail = s.mail := by
  unfold Part.park
  rw [Part.dropRungBy_mail] <;> simp

@[simp] theorem Part.parkJoined_mail : s.parkJoined.mail = s.mail := by
  unfold Part.parkJoined
  split <;> simp

/-- Leaving a call tells nothing of the port that left it. -/
theorem Part.leaveCall_mail (old : PortState) (hr : (s.port p).state ≠ .ringing) (hd : (s.port p).state ≠ .dialling) :
    (s.leaveCall p old).mail = s.mail := by
  unfold Part.leaveCall
  dsimp only
  generalize hx : (if old = .intercom ∧ (s.port (other p)).state = .intercom then s.park (other p) else s) = x
  have hxp : x.port p = s.port p := by
    subst hx
    split
    · exact Part.park_port_by_other hr
    · rfl
  have hxm : x.mail = s.mail := by
    subst hx
    split <;> simp
  generalize hy : (if p = .a then x.parkJoined else if old = .joined then x.unlink else x) = y
  have hyp : y.port p = s.port p := by
    rw [← hxp]
    subst hy
    split
    · rename_i hp
      subst hp
      unfold Part.parkJoined
      split
      · have hpark := Part.park_port_by_other (s := x.unlink) (p := .a) (by
          rw [Part.port_unlink, hxp]
          exact hr)
        exact hpark.trans (x.port_unlink .a)
      · rfl
    · split
      · exact x.port_unlink p
      · rfl
  rw [Part.dropRungBy_mail _ _ (by rw [hyp]; exact hd), ← hxm]
  subst hy
  split
  · exact x.parkJoined_mail
  · split <;> simp

@[simp] theorem Part.startRing_mail (c : Nat) (o : Origin) (x : Option PortId) : (s.startRing p c o x).mail = s.mail := by
  unfold Part.startRing
  dsimp only
  split <;> simp

theorem Part.beginChannel_mail (m : Mode) :
    (s.beginChannel p m).mail = offer (.signal p (.channel (some m) (s.line.symbol + 2000))) s.mail := by
  unfold Part.beginChannel
  dsimp only
  rw [Part.signal_mail]
  refine congrArg _ ?_
  cases p <;> rfl

theorem Part.endChannel_mail :
    (s.endChannel p).mail =
      match s.chan p with
      | none => s.mail
      | some _ => offer (.signal p (.channel none (s.line.symbol + 2000))) s.mail := by
  unfold Part.endChannel
  cases s.chan p with
  | none => exact s.setHold_mail p none
  | some c =>
    dsimp only
    rw [Part.signal_mail]
    cases p <;> rfl

/-! ### Channels -/

theorem Part.sched_signal (x : Signal) : (s.signal p x).sched = s.sched := Part.signal_sched p x s

theorem Part.beginChannel_chan (m : Mode) : (s.beginChannel p m).chan p = some ⟨m, true, (0, 0), 0⟩ := by
  unfold Part.beginChannel
  cases p <;> simp [Part.chan, Part.setChan, Part.signal_voice]

theorem Part.beginChannel_chan_other (m : Mode) : (s.beginChannel p m).chan (other p) = s.chan (other p) := by
  unfold Part.beginChannel
  cases p <;> simp [Part.chan, Part.setChan, other, Part.signal_voice]

theorem Part.beginChannel_sched (m : Mode) :
    (s.beginChannel p m).sched =
      { s.sched with switches := s.sched.switches ++ [⟨p, s.line.symbol + 2000, .begin⟩] } := by
  unfold Part.beginChannel
  dsimp only
  rw [Part.sched_signal]
  cases p <;> rfl

@[simp] theorem Part.beginChannel_port (m : Mode) : (s.beginChannel p m).port q = s.port q := by
  unfold Part.beginChannel
  dsimp only
  rw [Part.port_signal]
  cases p <;> cases q <;> rfl

@[simp] theorem Part.endChannel_port : (s.endChannel p).port q = s.port q := by
  unfold Part.endChannel
  split
  · cases p <;> cases q <;> rfl
  · dsimp only
    rw [Part.port_signal]
    cases p <;> cases q <;> rfl

theorem Part.endChannel_chan : (s.endChannel p).chan p = none := by
  unfold Part.endChannel
  split
  · rename_i h
    cases p <;> exact h
  · cases p <;> simp [Part.chan, Part.setChan, Part.setHold, Part.setSlot, Part.signal_voice]

theorem Part.endChannel_chan_other : (s.endChannel p).chan (other p) = s.chan (other p) := by
  unfold Part.endChannel
  split
  · cases p <;> rfl
  · cases p <;> simp [Part.chan, Part.setChan, Part.setHold, Part.setSlot, other, Part.signal_voice]

theorem Part.endChannel_hold : (s.endChannel p).hold p = none := by
  unfold Part.endChannel
  split
  · cases p <;> rfl
  · cases p <;> simp [Part.hold, Part.setChan, Part.setHold, Part.setSlot, Part.signal_sched]

theorem Part.endChannel_joinLink : (s.endChannel p).voice.joinLink = s.voice.joinLink := by
  unfold Part.endChannel
  split
  · cases p <;> rfl
  · cases p <;> simp [Part.setChan, Part.setHold, Part.setSlot, Part.signal_voice]

theorem Part.endChannel_switches {c : Channel} (h : s.chan p = some c) :
    (s.endChannel p).sched.switches =
      s.sched.switches.map (·.finish p c) ++ [⟨p, s.line.symbol + 2000, .finish⟩] := by
  unfold Part.endChannel
  rw [h]
  dsimp only
  rw [Part.sched_signal]
  cases p <;> rfl

theorem Part.endChannel_slot {c : Channel} (h : s.chan p = some c) :
    (s.endChannel p).slot p = (s.slot p).finish c := by
  unfold Part.endChannel
  rw [h]
  dsimp only
  unfold Part.slot
  rw [Part.sched_signal]
  cases p <;> rfl

theorem Part.leaveCall_sched (old : PortState) : (s.leaveCall p old).sched = s.sched := by
  have hpark (x : Part) (q : PortId) : (x.park q).sched = x.sched := Part.sched_of_wiring (x.park_wiring q)
  unfold Part.leaveCall
  dsimp only
  rw [Part.sched_of_wiring (Part.dropRungBy_wiring _ p)]
  generalize hx : (if old = .intercom ∧ (s.port (other p)).state = .intercom then s.park (other p) else s) = x
  have hpartner : x.sched = s.sched := by
    subst hx
    split <;> simp [hpark]
  split
  · unfold Part.parkJoined
    split
    · rw [hpark]
      exact hpartner
    · exact hpartner
  · split
    · exact hpartner
    · exact hpartner

theorem Part.leaveCall_chan (old : PortState) : (s.leaveCall p old).chan q = s.chan q := by
  have hpark (x : Part) (y : PortId) : (x.park y).chan q = x.chan q := Part.chan_of_wiring (x.park_wiring y) q
  have hunlink (x : Part) : x.unlink.chan q = x.chan q := by cases q <;> rfl
  unfold Part.leaveCall
  dsimp only
  rw [Part.chan_of_wiring (Part.dropRungBy_wiring _ p) q]
  generalize hx : (if old = .intercom ∧ (s.port (other p)).state = .intercom then s.park (other p) else s) = x
  have hpartner : x.chan q = s.chan q := by
    subst hx
    split <;> simp [hpark]
  split
  · unfold Part.parkJoined
    split
    · rw [hpark, hunlink]
      exact hpartner
    · exact hpartner
  · split
    · rw [hunlink]
      exact hpartner
    · exact hpartner

/-! ### A running test -/

section
variable {s x : Part}

theorem Part.Watches.sayOnHook (p : PortId) (h : s.Watches x) : s.Watches (x.sayOnHook p) :=
  (h.signal p .onHook).modPort p _

theorem Part.Watches.withdraw (p : PortId) (h : s.Watches x) : s.Watches (x.withdraw p) := by
  unfold Part.withdraw
  split
  · exact h.sayOnHook p
  · exact h

theorem Part.Watches.toDialling (p : PortId) (h : s.Watches x) : s.Watches (x.toDialling p) := by
  unfold Part.toDialling
  dsimp only
  have hentered := (h.modPort p fun r =>
    { r with dialTimer := some 30000, digit := none, lastTone := none, howler := none }).enterState p .dialling none
  split
  · exact hentered.sayOffHook p
  · exact hentered

theorem Part.Watches.endChannel (p : PortId) (h : s.Watches x) : s.Watches (x.endChannel p) := by
  refine h.same ?_
  unfold Part.endChannel
  split
  · cases p <;> rfl
  · dsimp only
    rw [Part.signal_diag]
    cases p <;> rfl

theorem Part.Watches.beginChannel (p : PortId) (m : Mode) (h : s.Watches x) : s.Watches (x.beginChannel p m) := by
  refine h.same ?_
  unfold Part.beginChannel
  dsimp only
  rw [Part.signal_diag]
  cases p <;> rfl

theorem Part.Watches.hangUp (p : PortId) (n : PortState) (h : s.Watches x) : s.Watches (x.hangUp p n) :=
  ((((h.withdraw p).endChannel p).modPort p _).enterState p n none).leaveCall p _

theorem Part.Watches.startRing (p : PortId) (c : Nat) (o : Origin) (q : Option PortId) (h : s.Watches x) :
    s.Watches (x.startRing p c o q) := by
  unfold Part.startRing
  dsimp only
  split
  · exact (((h.modPort p _).enterState p _ _).modPort _ _).setGen _ _
  · exact (h.modPort p _).enterState p _ _

/-- A LOOP_TEST begins or ends by nothing that the telephones do. -/
theorem Part.Watches.loopTesting_eq (h : s.Watches x) : x.loopTesting = s.loopTesting := by
  cases hs : s.loopTesting with
  | false => exact h.loopTesting hs
  | true =>
    unfold Part.loopTesting at hs ⊢
    rw [h.loopTesting_true hs]
    exact hs

/-- What the relay is driven by stays, where the telephones act and port A's hook does not change (R187). -/
theorem Part.relayTarget_kept (hw : s.Watches x) (hg : x.ground = s.ground) (hhook : x.portA.hook = s.portA.hook) :
    x.relayTarget = s.relayTarget := by
  unfold Part.relayTarget
  rw [Part.supply_of_ground hg, Part.line_of_ground hg, hw.loopTesting_eq, hhook]

/-- Where the telephones act with no start waiting, and what drives the relay is as it was, there is nothing to settle but
what the ports hear. -/
theorem Part.settle_heard (hw : s.Watches x) (hg : x.ground = s.ground) (hhook : x.portA.hook = s.portA.hook)
    (hpending : s.line.startPending = false) (hrelay : s.relayTarget = s.supply.relay) : x.settle = x.refreshHeard := by
  rw [Part.settle_waiting (Part.mayStart_of_notPending (by rw [Part.line_of_ground hg]; exact hpending)),
    Part.settleRelay_same]
  rw [Part.relayTarget_kept hw hg hhook, Part.supply_of_ground hg]
  exact hrelay

/-- The same with the relay at PART, where the line asks for it. -/
theorem Part.settle_atPart (hg : x.ground = s.ground) (hpending : s.line.startPending = false)
    (hreq : s.line.request = .part) (hrelay : s.supply.relay = true) (hshut : s.supply.state ≠ .shutdown) :
    x.settle = x.refreshHeard := by
  have hsupply := Part.supply_of_ground hg
  have hline := Part.line_of_ground hg
  rw [Part.settle_waiting (Part.mayStart_of_notPending (by rw [hline]; exact hpending)), Part.settleRelay_same]
  rw [Part.relayTarget, hsupply, hline, if_neg hshut, hreq, hrelay]
  split <;> rfl

end

/-- Entering IDLE or DISABLED ends no test. -/
theorem Part.enterState_diag_rest {n : PortState} (h : n = .idle ∨ n = .disabled) (m : Option Mode) :
    (s.enterState p n m).diag = s.diag := by
  have hdiag : ((s.modPort p fun r => { r with state := n }).portEvent p (.state (s.port p).state n) m).diag = s.diag := by
    simp [Part.portEvent]
  unfold Part.enterState
  dsimp only
  split
  · rfl
  · rw [if_neg (by rcases h with rfl | rfl <;> simp)]
    exact hdiag

end Sys2Proof.Machine
end

section
/-! PROOF. Breaks and digits (R92 to R95) and their SIGNALs in the outbound queue (O47). -/

namespace Sys2Proof.Machine

/-! ### A full queue -/

/-- The newest message that is no SIGNAL is displaced (R21). -/
theorem newest_split {signals others : List Msg} {m : Msg} (hm : m.isSignal = false) :
    newestOther (signals ++ (others ++ [m])) = some m ∧
      dropNewest (signals ++ (others ++ [m])) = signals ++ others := by
  unfold newestOther dropNewest
  rw [← List.append_assoc, List.reverse_append, List.reverse_singleton, List.singleton_append,
    List.find?_cons_of_pos (by rw [hm]; rfl), List.eraseP_cons_of_pos (by rw [hm]; rfl), List.reverse_reverse]
  exact ⟨rfl, rfl⟩

/-- Where SIGNALs alone wait there is nothing to displace (R21). -/
theorem newestOther_signals {ms : List Msg} (h : ∀ k ∈ ms, k.isSignal = true) : newestOther ms = none := by
  refine List.find?_eq_none.2 fun k hk => ?_
  rw [h k (List.mem_reverse.1 hk)]
  decide

/-- A SIGNAL at a queue full of SIGNALs is discarded and counted (R21). -/
theorem offer_full_signals {p : PortId} {x : Signal} {l : Service × Log} (hfull : 16 ≤ l.1.outQ.length)
    (h : ∀ k ∈ l.1.outQ, k.isSignal = true) : offer (.signal p x) l = (l.1.discard, l.2) := by
  unfold offer
  rw [if_neg (Nat.not_lt.2 hfull)]
  dsimp only
  rw [newestOther_signals h]

/-- A SIGNAL at a full queue displaces the newest other message (R21, R155). -/
theorem offer_full_displaces {p : PortId} {x : Signal} {v : Service} {l : Log} {signals others : List Msg} {m : Msg}
    (hfull : 16 ≤ v.outQ.length) (hq : v.outQ = signals ++ (others ++ [m])) (hs : ∀ k ∈ signals, k.isSignal = true)
    (ho : ∀ k ∈ others ++ [m], k.isSignal = false) :
    offer (.signal p x) (v, l) =
      ({ v.displaced m with outQ := signals ++ .signal p x :: others }, l.displaced m) := by
  obtain ⟨hnewest, hdrop⟩ := newest_split (signals := signals) (others := others) (ho m (by simp))
  unfold offer
  rw [if_neg (Nat.not_lt.2 hfull)]
  dsimp only
  rw [hq, hnewest, hdrop]
  dsimp only
  rw [insertMsg_split rfl hs fun k hk => ho k (List.mem_append_left _ hk)]

/-! ### An event and its SIGNAL -/

/-- An event of a port, told to the exchange unit where it is to be and the queue is empty (R95). -/
def Part.eventTold (told : Bool) (p : PortId) (e : PortEvent) (x : Signal) (s : Part) : Part :=
  let s' := s.post (.portEvent p e s.line.state none)
  if told then { s' with svc := { s.svc with outQ := [.signal p x] } } else s'

theorem Part.giveEvent_told {s : Part} {p : PortId} {told : Bool} (e : PortEvent) (x : Signal)
    (ht : s.signalsDigits p = told) (hq : told = true → s.svc.outQ = []) : s.giveEvent p e x = s.eventTold told p e x := by
  unfold Part.giveEvent Part.eventTold
  have hsame : (s.portEvent p e none).signalsDigits p = told := by
    rw [← ht]
    cases p <;> rfl
  dsimp only
  rw [hsame]
  cases told with
  | false => rfl
  | true =>
    have hempty : (s.portEvent p e none).svc.outQ = [] := hq rfl
    have hsent := Part.enqueue_room (.signal p x) (s.portEvent p e none) (by rw [hempty]; decide)
    rw [hempty] at hsent
    exact hsent

theorem Part.giveEvent_port (s : Part) (p q : PortId) (e : PortEvent) (x : Signal) :
    (s.giveEvent p e x).port q = s.port q := by
  unfold Part.giveEvent
  dsimp only
  split <;> simp

theorem Part.giveEvent_mail (s : Part) (p : PortId) (e : PortEvent) (x : Signal) :
    (s.giveEvent p e x).mail = if s.signalsDigits p then offer (.signal p x) s.mail else s.mail := by
  have hsame : (s.portEvent p e none).signalsDigits p = s.signalsDigits p := by cases p <;> rfl
  unfold Part.giveEvent
  dsimp only
  rw [hsame]
  split <;> simp

/-- A digit in DIALLING restarts the dial timer, but for the caller of a local ring (R98). -/
theorem Part.giveDigit_eq (s : Part) (p : PortId) (d : Digit) (pulse : Bool) :
    s.giveDigit p d pulse =
      if (s.port p).state = .dialling ∧ s.isCaller p = false then
        (s.giveEvent p (.digit d pulse) (.digit d)).modPort p fun r => { r with dialTimer := some 30000 }
      else s.giveEvent p (.digit d pulse) (.digit d) := by
  unfold Part.giveDigit
  dsimp only
  rw [s.giveEvent_port p p, Part.isCaller_congr (s.giveEvent_port p (other p) _ _)]

/-- The part with the digit in progress dropped. -/
def Part.noDigit (s : Part) (p : PortId) : Part := s.modPort p fun r => { r with digit := none }

theorem Part.noDigit_same (s : Part) (p : PortId) :
    ((s.noDigit p).port p).state = (s.port p).state ∧ (s.noDigit p).isCaller p = s.isCaller p ∧
      (s.noDigit p).signalsDigits p = s.signalsDigits p ∧ (s.noDigit p).svc = s.svc ∧ (s.noDigit p).log = s.log ∧
      (s.noDigit p).line = s.line ∧ (s.noDigit p).link = s.link := by
  cases p <;> exact ⟨rfl, rfl, rfl, rfl, rfl, rfl, rfl⟩

/-! ### Breaks -/

theorem Port.pulses_of_offHook {r : Port} (h : r.state ∈ [PortState.dialling, .connected, .held, .intercom, .joined, .parked]) :
    r.pulses = true := by
  have hoff : r.state.offHook = true := by
    revert h
    generalize r.state = n
    cases n <;> decide
  rw [Port.pulses, hoff]
  rfl

section
variable {s : State} {x : PortId} (hrun : s.part.running = true) (hpulses : (s.part.port x).pulses = true)
include hrun hpulses

theorem breakEnd_kind {ms : Nat} {q : Part} (hms : ms < 300)
    (hq : (match breakKind ms (s.part.port x).digit.isSome with
      | .ignored => s.part
      | .pulse => s.part.modPort x fun r => { r with digit := some (r.digit.getD 0 + 1) }
      | .flash => s.part.giveEvent x .flash .flash
      | .malformed => (s.part.noDigit x).giveEvent x .dialError .dialError) = q) :
    Completes (.breakEnd x ms) s q := by
  refine completes_of (o := execBreakEnd x ms s) rfl rfl hrun (Eq.trans ?_ hq)
  unfold Part.breakEnds
  dsimp only
  rw [hpulses, if_pos (by simpa using hms)]
  rfl

theorem breakEnd_pulse {ms : Nat} (h35 : 35 ≤ ms) (h80 : ms ≤ 80) :
    Completes (.breakEnd x ms) s (s.part.modPort x fun r => { r with digit := some (r.digit.getD 0 + 1) }) := by
  refine breakEnd_kind hrun hpulses (by omega) ?_
  rw [breakKind, if_neg (by omega), if_pos ⟨h35, h80⟩]

theorem breakEnd_ignored {ms : Nat} (h12 : ms < 12) : Completes (.breakEnd x ms) s s.part := by
  refine breakEnd_kind hrun hpulses (by omega) ?_
  rw [breakKind, if_pos h12]

theorem breakEnd_flash {ms : Nat} (h95 : 95 ≤ ms) (h260 : ms ≤ 260) (hdigit : (s.part.port x).digit = none) :
    Completes (.breakEnd x ms) s (s.part.giveEvent x .flash .flash) := by
  refine breakEnd_kind hrun hpulses (by omega) ?_
  rw [breakKind, if_neg (by omega), if_neg (by omega), if_pos ⟨h95, h260⟩, hdigit]
  rfl

theorem breakEnd_malformed {ms : Nat} (h12 : 12 ≤ ms) (h300 : ms < 300) (hpulse : ¬ (35 ≤ ms ∧ ms ≤ 80))
    (hflash : ¬ (95 ≤ ms ∧ ms ≤ 260 ∧ (s.part.port x).digit = none)) :
    Completes (.breakEnd x ms) s ((s.part.noDigit x).giveEvent x .dialError .dialError) := by
  refine breakEnd_kind hrun hpulses h300 ?_
  rw [breakKind, if_neg (by omega), if_neg hpulse]
  by_cases hms : 95 ≤ ms ∧ ms ≤ 260
  · rw [if_pos hms]
    cases hd : (s.part.port x).digit with
    | none => exact absurd ⟨hms.1, hms.2, hd⟩ hflash
    | some n => rfl
  · rw [if_neg hms]

theorem digitEnd_given {n : Nat} (hn : (s.part.port x).digit = some n) :
    Completes (.digitEnd x) s
      (match pulseDigit n with
        | some d => (s.part.noDigit x).giveDigit x d true
        | none => (s.part.noDigit x).giveEvent x .dialError .dialError) := by
  refine completes_of (o := execDigitEnd x s) rfl rfl hrun ?_
  unfold Part.digitEnds
  rw [hpulses, hn]
  rfl

end

theorem toneDigit_given {s : State} {x : PortId} (hrun : s.part.running = true) (d : Digit)
    (h : (s.part.port x).state = .dialling ∨ (s.part.port x).state = .connected) :
    Completes (.toneDigit x d) s ((s.part.noDigit x).giveDigit x d false) := by
  refine completes_of (o := execToneDigit x d s) rfl rfl hrun ?_
  unfold Part.toneDigit
  exact if_pos h

theorem pulseDigit_eq (n : Nat) : pulseDigit n = if 1 ≤ n ∧ n ≤ 10 then some (.num (Fin.ofNat 10 n)) else none := by
  unfold pulseDigit
  by_cases h9 : 1 ≤ n ∧ n ≤ 9
  · rw [dif_pos h9, if_pos ⟨h9.1, by omega⟩]
    refine congrArg (fun k => some (Digit.num k)) (Fin.ext ?_)
    exact (Nat.mod_eq_of_lt (show n < 10 by omega)).symm
  · rw [dif_neg h9]
    by_cases h10 : n = 10
    · subst h10
      rfl
    · rw [if_neg h10, if_neg (by omega)]

/-- A tone digit in DIALLING, but for the caller of a local ring: what it leaves and what it sends (R94, R98). -/
theorem toneDigit_dialling (p : Part) {x : PortId} (d : Digit) (hst : (p.port x).state = .dialling)
    (hs : p.inService = true) (hcall : p.isCaller x = false) :
    let q := (p.noDigit x).giveDigit x d false
    (q.port x).digit = none ∧ (q.port x).dialTimer = some 30000 ∧ (q.port x).state = .dialling ∧ q.line = p.line ∧
      q.mail = offer (.signal x (.digit d)) p.mail := by
  obtain ⟨hstate, hcaller, hsignals, hsvc, hlog, hline, -⟩ := p.noDigit_same x
  have hgives : (p.noDigit x).signalsDigits x = true := by
    rw [hsignals, Part.signalsDigits, hst, hs, hcall]
    rfl
  intro q
  have hq : q = ((p.noDigit x).giveEvent x (.digit d false) (.digit d)).modPort x fun r =>
      { r with dialTimer := some 30000 } := by
    show (p.noDigit x).giveDigit x d false = _
    rw [Part.giveDigit_eq, if_pos ⟨hstate.trans hst, hcaller.trans hcall⟩]
  rw [hq, Part.port_modPort, Part.giveEvent_port, Part.modPort_mail, Part.giveEvent_mail, if_pos hgives]
  refine ⟨?_, rfl, hstate.trans hst, ?_, ?_⟩
  · show (((p.modPort x fun r => { r with digit := none }).port x)).digit = none
    rw [Part.port_modPort]
  · rw [Part.modPort_line, Part.line_of_ground (Part.giveEvent_ground _ _ _ _)]
    exact hline
  · rw [Part.mail, hsvc, hlog]
    rfl

/-- Settles O47: each break and digit by what it is, and the SIGNAL's place in the queue by what waits there. -/
theorem breaksAndDigitsAreRead : Obligations.BreaksAndDigitsAreRead := by
  refine ⟨fun s x hrun hst => ?_, fun s x hrun hst => ?_⟩
  · intro p
    have hpulses : (s.part.port x).pulses = true := Port.pulses_of_offHook (by rw [hst]; decide)
    refine ⟨fun ms h35 h80 => breakEnd_pulse hrun hpulses h35 h80, fun ms h12 => breakEnd_ignored hrun hpulses h12,
      fun ms h95 h260 hdigit hs => ?_, fun n d hn hd hs hcall => ?_, fun d signals others hs hcall hq hsig hoth => ?_,
      pulseDigit_eq⟩
    · have hdone := breakEnd_flash hrun hpulses h95 h260 hdigit
      rw [Part.giveEvent_told (told := false) .flash .flash (by
        rw [Part.signalsDigits, show s.part.inService = false from hs]
        rfl) nofun] at hdone
      exact hdone
    · have hdone := digitEnd_given hrun hpulses hn
      obtain ⟨hstate, hcaller, hsignals, hsvc, hlog, hline, hlink⟩ := p.noDigit_same x
      have hgives : (p.noDigit x).signalsDigits x = false := by
        rw [hsignals, Part.signalsDigits, hs]
        rfl
      rw [hd] at hdone
      dsimp only at hdone
      rw [Part.giveDigit_eq, if_pos ⟨hstate.trans hst, hcaller.trans hcall⟩,
        Part.giveEvent_told (told := false) _ _ hgives nofun] at hdone
      refine ⟨_, hdone, ?_⟩
      rw [Part.port_modPort, Part.modPort_link, Part.modPort_svc, Part.modPort_line]
      refine ⟨?_, rfl, ?_, hsvc, hline⟩
      · show (((p.modPort x fun r => { r with digit := none }).port x)).digit = none
        rw [Part.port_modPort]
      · show (p.noDigit x).link.post _ = p.link.post _
        rw [hlink, hline]
    · have hdone := toneDigit_given hrun d (.inl hst)
      obtain ⟨hdigit, htimer, hstate, hline, hmail⟩ := toneDigit_dialling p d hst hs hcall
      generalize (s.part.noDigit x).giveDigit x d false = q at hdone hdigit htimer hstate hline hmail
      have hsvc : q.svc = (offer (.signal x (.digit d)) p.mail).1 := congrArg Prod.fst hmail
      have hlog : q.log = (offer (.signal x (.digit d)) p.mail).2 := congrArg Prod.snd hmail
      refine ⟨q, hdone, hdigit, htimer, hstate, hline, fun hroom => ?_, fun hfull hnone => ?_, fun hfull hsome => ?_⟩
      · rw [hsvc, hlog, offer_room (l := p.mail) hroom]
        show ({ p.svc with outQ := insertMsg (.signal x (.digit d)) p.svc.outQ } : Service) = _ ∧ _
        rw [hq, insertMsg_split rfl hsig hoth]
        exact ⟨rfl, rfl⟩
      · rw [hsvc, hlog, offer_full_signals (l := p.mail) hfull (fun k hk => hsig k (by
          have hk' : k ∈ p.svc.outQ := hk
          rwa [hq, hnone, List.append_nil] at hk'))]
        exact ⟨rfl, rfl⟩
      · obtain ⟨init, m, rfl⟩ : ∃ init m, others = init ++ [m] :=
          ⟨others.dropLast, others.getLast hsome, (List.dropLast_append_getLast hsome).symm⟩
        have hsent := offer_full_displaces (p := x) (x := .digit d) (v := p.svc) (l := p.log) hfull hq hsig hoth
        rw [hsvc, hlog, Part.mail, hsent, List.dropLast_concat, List.getLast?_concat]
        refine ⟨rfl, ?_, fun a ha => ?_, fun r hr hflight => ?_⟩
        · cases m <;> rfl
        · cases Option.some.inj ha
          exact ⟨rfl, rfl⟩
        · cases Option.some.inj hr
          have hretract : p.log.displaced (.faultReport r) = p.log.retract r.seq := if_pos hflight
          rw [hretract]
          exact ⟨rfl, rfl, rfl⟩
  · intro p told event noDigit
    have hpulses : (s.part.port x).pulses = true := Port.pulses_of_offHook hst
    have htold : p.signalsDigits x = told := rfl
    obtain ⟨hstate, hcaller, hsignals, hsvc, hlog, hline, -⟩ := p.noDigit_same x
    refine ⟨fun ms h35 h80 => breakEnd_pulse hrun hpulses h35 h80, fun ms h12 => breakEnd_ignored hrun hpulses h12,
      fun hempty => ?_⟩
    have hevent (e : PortEvent) (g : Signal) : p.giveEvent x e g = event e g p := Part.giveEvent_told e g htold hempty
    have hnoDigit (e : PortEvent) (g : Signal) : (p.noDigit x).giveEvent x e g = event e g noDigit := by
      rw [Part.giveEvent_told e g (hsignals.trans htold) (by rw [hsvc]; exact hempty), Part.eventTold, hsvc, hline]
      rfl
    refine ⟨fun ms h95 h260 hdigit => ?_, fun ms h12 h300 hpulse hflash => ?_, fun n hn => ⟨fun hd => ?_, fun d hd => ?_⟩,
      fun hconn n d => ⟨?_, fun hn hd => ?_, fun hn hd => ?_⟩⟩
    · rw [← hevent]
      exact breakEnd_flash hrun hpulses h95 h260 hdigit
    · rw [← hnoDigit]
      exact breakEnd_malformed hrun hpulses h12 h300 hpulse hflash
    · have hdone := digitEnd_given hrun hpulses hn
      rw [hd] at hdone
      rw [← hnoDigit]
      exact hdone
    · have hdone := digitEnd_given hrun hpulses hn
      rw [hd] at hdone
      dsimp only at hdone
      rw [Part.giveDigit_eq, hstate, hcaller, hnoDigit] at hdone
      exact hdone
    · have hdone := toneDigit_given hrun d (.inr hconn)
      rw [Part.giveDigit_eq, if_neg (by rw [hstate, hconn]; exact fun h => nomatch h.1), hnoDigit] at hdone
      exact hdone
    · have hdone := digitEnd_given hrun hpulses hn
      rw [hd] at hdone
      dsimp only at hdone
      rw [Part.giveDigit_eq, if_neg (by rw [hstate, hconn]; exact fun h => nomatch h.1), hnoDigit] at hdone
      exact hdone
    · have hdone := digitEnd_given hrun hpulses hn
      rw [hd] at hdone
      rw [← hnoDigit]
      exact hdone

end Sys2Proof.Machine
end

section
/-! SUPPORT and PROOFS. The owners' answers to PORT_ENABLE and PORT_DISABLE (O28), RING_LOCAL and INTERCOM (O29), JOIN and
PART (O30), and the laws of the port operations they share with the hook. -/

namespace Sys2Proof.Machine

variable (s : Part) (p q : PortId)

/-! ### Port operations -/

theorem Part.withdraw_port :
    (s.withdraw p).port p = { s.port p with announced := (s.port p).announced && !s.inService } := by
  unfold Part.withdraw
  cases ha : (s.port p).announced <;> cases hs : s.inService <;> simp
  case false.false => exact (Port.announced_self ha).symm
  case false.true => exact (Port.announced_self ha).symm
  case true.false => exact (Port.announced_self ha).symm

@[simp] theorem Part.withdraw_port_other : (s.withdraw p).port (other p) = s.port (other p) := by
  unfold Part.withdraw
  split <;> simp

@[simp] theorem Part.withdraw_port_by_other : (s.withdraw (other p)).port p = s.port p := by
  have h := s.withdraw_port_other (other p)
  rwa [other_other] at h

/-- The port as it enters DIALLING (R96). -/
theorem Part.toDialling_port :
    (s.toDialling p).port p = { s.port p with
      dialTimer := some 30000, digit := none, lastTone := none, howler := none, state := .dialling
      announced := s.inService || (s.port p).announced } := by
  unfold Part.toDialling
  dsimp only
  rw [Part.inService_enterState, Part.inService_modPort]
  cases hs : s.inService <;> simp

@[simp] theorem Part.toDialling_port_other : (s.toDialling p).port (other p) = s.port (other p) := by
  unfold Part.toDialling
  dsimp only
  split <;> simp

/-- The port that has hung up (R101). -/
theorem Part.hangUp_port {n : PortState} (hr : n ≠ .ringing) (hd : n ≠ .dialling) :
    (s.hangUp p n).port p = { s.port p with
      dialTimer := none, howler := none, digit := none, lastTone := none, state := n
      announced := (s.port p).announced && !s.inService } := by
  unfold Part.hangUp
  dsimp only
  have hport : ((((s.withdraw p).endChannel p).modPort p fun r =>
      { r with dialTimer := none, howler := none, digit := none, lastTone := none }).enterState p n none).port p =
      { s.port p with
        dialTimer := none, howler := none, digit := none, lastTone := none, state := n
        announced := (s.port p).announced && !s.inService } := by
    simp [Part.withdraw_port]
  rw [Part.leaveCall_port _ (by rw [hport]; exact hr) (by rw [hport]; exact hd), hport]

theorem Part.hangUp_chan (n : PortState) : (s.hangUp p n).chan p = none := by
  have hsame (x : Part) (f : Port → Port) : ((x.modPort p f).enterState p n none).chan p = x.chan p :=
    Part.chan_of_wiring ((Part.enterState_wiring _ p n none).trans (x.modPort_wiring p f)) p
  unfold Part.hangUp
  dsimp only
  rw [Part.leaveCall_chan, hsame, Part.endChannel_chan]

theorem Part.hangUp_hold (n : PortState) : (s.hangUp p n).hold p = none := by
  have hsched : (s.hangUp p n).sched = ((s.withdraw p).endChannel p).sched := by
    unfold Part.hangUp
    dsimp only
    rw [Part.leaveCall_sched, Part.enterState_sched, Part.modPort_sched]
  have hnone := (s.withdraw p).endChannel_hold p
  unfold Part.hold at hnone ⊢
  rw [hsched]
  exact hnone

@[simp] theorem Part.refreshHeard_hold : s.refreshHeard.hold p = s.hold p := by
  unfold Part.hold
  rw [Part.refreshHeard_sched]

/-- The port that rings (R104, R111). -/
theorem Part.startRing_port (c : Nat) (o : Origin) {x : Option PortId} (hx : x ≠ some p) :
    (s.startRing p c o x).port p = { s.port p with
      ring := some ⟨c, 0, (cadencePhases c).headD 0, o, x, if o = .loc then some 60000 else none⟩, state := .ringing } := by
  unfold Part.startRing
  dsimp only
  cases x with
  | none => simp
  | some y =>
    rcases eq_or_other p y with rfl | rfl
    · exact absurd rfl hx
    · simp

/-- The caller of a local ring, or a bystander (R98, R111). -/
theorem Part.startRing_port_other (c : Nat) (o : Origin) {x : Option PortId} (hx : x ≠ some p) :
    (s.startRing p c o x).port (other p) =
      if x = some (other p) then { s.port (other p) with dialTimer := none } else s.port (other p) := by
  unfold Part.startRing
  dsimp only
  cases x with
  | none => simp
  | some y =>
    rcases eq_or_other p y with rfl | rfl
    · exact absurd rfl hx
    · simp

/-! ### PORT_ENABLE and PORT_DISABLE -/

theorem Part.port_withSupply (v : Supply) : ({ s with supply := v } : Part).port p = s.port p := by cases p <;> rfl

variable {s p q}

/-- A hook that comes to stand ON_HOOK only draws the relay to PART (R187). -/
theorem Part.relayTarget_onHook {s x : Part} (hw : s.Watches x) (hg : x.ground = s.ground)
    (hhook : x.portA.hook = .onHook ∨ x.portA.hook = s.portA.hook) (h : x.relayTarget = false) :
    s.relayTarget = false := by
  rcases hhook with hhook | hhook
  · unfold Part.relayTarget at h ⊢
    rw [Part.supply_of_ground hg, Part.line_of_ground hg, hw.loopTesting_eq, hhook] at h
    revert h
    split
    · exact fun _ => rfl
    · split
      · exact id
      · split
        · exact fun _ => rfl
        · intro h
          simp at h
  · rw [← Part.relayTarget_kept hw hg hhook]
    exact h

/-- A port at rest by its enable flag, whose own hook alone has come to stand ON_HOOK, stays so as the relay settles: port A
that the relay leaves to it is where R90 puts it already. -/
theorem Part.settleRelay_resting {s x : Part} {p : PortId} (hw : s.Watches x) (hg : x.ground = s.ground)
    (hrelay : s.relayTarget = s.supply.relay) (hhook : (x.port p).hook = .onHook)
    (hst : (x.port p).state = if (x.port p).enable then .idle else .disabled)
    (hother : x.port (other p) = s.port (other p)) :
    x.settleRelay = { x with supply := { x.supply with relay := x.relayTarget } } := by
  by_cases hkeep : x.relayTarget = x.supply.relay
  · rw [Part.settleRelay_same hkeep, hkeep]
  · have hsupply := Part.supply_of_ground hg
    have hhookA : x.portA.hook = .onHook ∨ x.portA.hook = s.portA.hook := by
      cases p with
      | a => exact .inl hhook
      | b => exact .inr (congrArg Port.hook hother)
    have hthrough : x.supply.relay = false := by
      refine eq_false_of_ne_true fun htrue => hkeep ?_
      rw [htrue]
      refine eq_true_of_ne_false fun hfalse => ?_
      have hbefore := Part.relayTarget_onHook hw hg hhookA hfalse
      rw [hrelay, ← hsupply, htrue] at hbefore
      cases hbefore
    have htarget : x.relayTarget = true := eq_true_of_ne_false fun h => hkeep (h.trans hthrough.symm)
    cases p with
    | a =>
      rw [Part.settleRelay_part htarget, if_neg (by rw [hthrough]; decide), htarget]
      exact if_pos hst
    | b =>
      refine absurd ?_ hkeep
      rw [Part.relayTarget_kept hw hg (congrArg Port.hook hother), hrelay, hsupply]

/-- The same, all settled. -/
theorem Part.settle_resting {s x : Part} {p : PortId} (hw : s.Watches x) (hg : x.ground = s.ground)
    (hpending : s.line.startPending = false) (hrelay : s.relayTarget = s.supply.relay) (hhook : (x.port p).hook = .onHook)
    (hst : (x.port p).state = if (x.port p).enable then .idle else .disabled)
    (hother : x.port (other p) = s.port (other p)) :
    x.settle = ({ x with supply := { x.supply with relay := x.relayTarget } } : Part).refreshHeard := by
  rw [Part.settle_waiting (Part.mayStart_of_notPending (by rw [Part.line_of_ground hg]; exact hpending)),
    Part.settleRelay_resting hw hg hrelay hhook hst hother]

/-- The states in which a port hears nothing (R97). -/
theorem Part.heardOf_silent {x : Part} {p : PortId}
    (h : (x.port p).state ∉ [PortState.dialling, .connected, .joined, .held, .intercom, .parked]) :
    x.heardOf p = .silence := by
  unfold Part.heardOf
  dsimp only
  generalize (x.port p).state = n at h
  cases n
  any_goals rfl
  all_goals exact absurd (by decide) h

/-- The port field that names a port. -/
def argOf : PortId → PortArg
  | .a => .a
  | .b => .b

theorem onPort_argOf (f : PortId → Part → Answer) (p : PortId) (s : Part) : onPort (argOf p) f s = f p s := by
  cases p <;> rfl

/-- A port taken out of TRIPPED or LOCKED_OUT by its enabling, on-hook (R88). -/
theorem Part.enableTripped_onHook {x : Part} {p : PortId} (h : (x.port p).hook = .onHook) :
    x.enableTripped p = x.enterState p .idle none := by
  unfold Part.enableTripped
  rw [if_neg (by rw [h]; decide)]

theorem Part.enableTripped_offHook {x : Part} {p : PortId} (h : (x.port p).hook = .offHook) :
    x.enableTripped p = x.toDialling p := if_pos h

/-- The port as its enabling finds it, tripped or locked out: the enable flag set, and a locked-out port's trip history gone
(R88). -/
def Part.reEnabled (p : PortId) (s : Part) : Part :=
  let x := s.modPort p fun r => { r with enable := true }
  if (s.port p).state = .lockedOut then x.modPort p fun r => { r with trip := none } else x

theorem Part.reEnabled_port (p : PortId) (s : Part) :
    (s.reEnabled p).port p = { s.port p with
      enable := true, trip := if (s.port p).state = .lockedOut then none else (s.port p).trip } := by
  unfold Part.reEnabled
  dsimp only
  split <;> simp

theorem Part.reEnabled_port_other (p : PortId) (s : Part) : (s.reEnabled p).port (other p) = s.port (other p) := by
  unfold Part.reEnabled
  dsimp only
  split <;> simp

theorem Part.reEnabled_ground (p : PortId) (s : Part) : (s.reEnabled p).ground = s.ground := by
  unfold Part.reEnabled
  dsimp only
  split <;> simp

theorem Part.reEnabled_mail (p : PortId) (s : Part) : (s.reEnabled p).mail = s.mail := by
  unfold Part.reEnabled
  dsimp only
  split <;> simp

theorem Part.reEnabled_watches (p : PortId) (s : Part) : s.Watches (s.reEnabled p) := by
  unfold Part.reEnabled
  dsimp only
  split
  · exact ((Part.Watches_refl s).modPort p _).modPort p _
  · exact (Part.Watches_refl s).modPort p _

theorem ownPortEnable_tripped {s : Part} {p : PortId} (h : (s.port p).state = .tripped ∨ (s.port p).state = .lockedOut) :
    ownPortEnable (argOf p) s = (((s.reEnabled p).enableTripped p).settle, .ok, .none) := by
  unfold ownPortEnable Part.reEnabled
  rw [onPort_argOf]
  dsimp only
  rcases h with h | h <;> rw [h] <;> rfl

/-- PORT_DISABLE of a port at rest (R89). -/
theorem Part.portDisable_rest {s : Part} {p : PortId}
    (h : (s.port p).state = .idle ∨ (s.port p).state = .tripped ∨ (s.port p).state = .lockedOut) :
    s.portDisable p = (((s.modPort p fun r => { r with enable := false }).modPort p fun r =>
      { r with hook := .onHook, digit := none })).enterState p .disabled none := if_pos h

theorem Part.portDisable_ringing {s : Part} {p : PortId} (h : (s.port p).state = .ringing) :
    s.portDisable p = (s.modPort p fun r => { r with enable := false }).endRing p true .disabled := by
  unfold Part.portDisable
  dsimp only
  rw [if_neg (by rw [h]; decide), if_pos h]

theorem Part.portDisable_offHook {s : Part} {p : PortId} (h : (s.port p).state.offHook = true) :
    s.portDisable p = ((s.modPort p fun r => { r with enable := false }).hangUp p
      (if p = .b ∧ s.portB.shedPending = true then .shed else .disabled)).modPort p fun r =>
        { r with hook := .onHook, shedPending := false } := by
  unfold Part.portDisable
  dsimp only
  rw [if_neg, if_neg, if_pos h]
  · intro hr
    rw [hr] at h
    cases h
  · rintro (hr | hr | hr) <;> · rw [hr] at h; cases h

theorem Part.portDisable_idle {s : Part} {p : PortId}
    (h : (s.port p).state ∈ [PortState.cooldown, .shed, .through, .disabled]) :
    s.portDisable p = s.modPort p fun r => { r with enable := false } := by
  unfold Part.portDisable
  dsimp only
  generalize (s.port p).state = n at h
  cases n
  case cooldown => rfl
  case shed => rfl
  case through => rfl
  case disabled => rfl
  all_goals exact absurd h (by decide)

/-! ### O28 -/

/-- The state given to a port at rest (R88, R89), with nothing else changed but its PORT_EVENT. -/
theorem Part.enterState_rest_keeps (x : Part) {n : PortState} (hn : n = .idle ∨ n = .disabled) (p : PortId) :
    x.Watches (x.enterState p n none) ∧ (x.enterState p n none).ground = x.ground ∧
      (x.enterState p n none).mail = x.mail ∧ (x.enterState p n none).port p = { x.port p with state := n } :=
  ⟨(Part.Watches_refl x).same (x.enterState_diag_rest p hn none), by simp, by simp, by simp⟩

/-- The states in which PORT_ENABLE sets the flag and no more (R88). -/
theorem ownPortEnable_flag {s : Part} {p : PortId} (hd : (s.port p).state ≠ .disabled) (ht : (s.port p).state ≠ .tripped)
    (hl : (s.port p).state ≠ .lockedOut) :
    ownPortEnable (argOf p) s =
      (s.modPort p fun r => { r with enable := true }, if (s.port p).state = .shed then .shed else .ok, .none) := by
  unfold ownPortEnable
  rw [onPort_argOf]
  dsimp only
  generalize (s.port p).state = n at hd ht hl
  cases n
  case disabled => exact absurd rfl hd
  case tripped => exact absurd rfl ht
  case lockedOut => exact absurd rfl hl
  all_goals rfl

theorem ownPortEnable_disabled {s : Part} {p : PortId} (h : (s.port p).state = .disabled) :
    ownPortEnable (argOf p) s =
      ((((s.modPort p fun r => { r with enable := true }).modPort p fun r => { r with hook := .onHook }).enterState p .idle
        none).settle, .ok, .none) := by
  unfold ownPortEnable
  rw [onPort_argOf]
  dsimp only
  rw [h]

theorem ownPortDisable_argOf (p : PortId) (s : Part) : ownPortDisable (argOf p) s = ((s.portDisable p).settle, .ok, .none) :=
  onPort_argOf _ p s

section
variable {p : Part} {x : PortId} (hpending : p.line.startPending = false)
include hpending

theorem ownPortEnable_fromDisabled (hst : (p.port x).state = .disabled) (hrelay : p.relayTarget = p.supply.relay) :
    ∃ q : Part, ownPortEnable (argOf x) p = (q, .ok, .none) ∧ (q.port x).state = .idle ∧
      (q.port x).enable = true ∧ (q.port (other x)).state = (p.port (other x)).state ∧ q.line = p.line ∧
      (q.port x).hook = .onHook := by
  refine ⟨_, ownPortEnable_disabled hst, ?_⟩
  generalize hy : ((p.modPort x fun r => { r with enable := true }).modPort x fun r =>
    { r with hook := .onHook }).enterState x .idle none = y
  have hport : y.port x = { p.port x with enable := true, hook := .onHook, state := .idle } := by
    subst hy
    simp
  have hother : y.port (other x) = p.port (other x) := by
    subst hy
    simp
  have hground : y.ground = p.ground := by
    subst hy
    simp
  have hwatch : p.Watches y := by
    subst hy
    exact (((Part.Watches_refl p).modPort x _).modPort x _).enterState x .idle none
  rw [Part.settle_resting (p := x) hwatch hground hpending hrelay (by rw [hport]) (by rw [hport]; rfl) hother,
    Part.refreshHeard_port, Part.refreshHeard_port, Part.port_withSupply y x, Part.port_withSupply y (other x), hport,
    hother, Part.refreshHeard_line]
  have hline : y.line = p.line := Part.line_of_ground hground
  exact ⟨rfl, rfl, rfl, hline, rfl⟩

theorem ownPortEnable_fromTripped (hst : (p.port x).state = .tripped ∨ (p.port x).state = .lockedOut)
    (hrelay : p.relayTarget = p.supply.relay) :
    ((p.port x).hook = .onHook →
      ∃ q : Part, ownPortEnable (argOf x) p = (q, .ok, .none) ∧ (q.port x).state = .idle ∧
        (q.port x).enable = true ∧ (q.port (other x)).state = (p.port (other x)).state ∧ q.line = p.line ∧
        (q.port x).trip = (if (p.port x).state = .lockedOut then none else (p.port x).trip) ∧
        (q.port x).heat = (p.port x).heat ∧ q.svc = p.svc) ∧
    ((p.port x).hook = .offHook →
      ∃ q : Part, ownPortEnable (argOf x) p = (q, .ok, .none) ∧ (q.port x).state = .dialling ∧
        (q.port x).enable = true ∧ (q.port x).dialTimer = some 30000 ∧ (q.port x).hook = .offHook ∧
        (q.port (other x)).state = (p.port (other x)).state ∧ q.line = p.line ∧
        (q.port x).heat = (p.port x).heat ∧
        (q.port x).trip = (if (p.port x).state = .lockedOut then none else (p.port x).trip) ∧
        (p.inService = false → q.svc = p.svc) ∧
        (p.inService = true → (q.port x).announced = true ∧
          (p.svc.outQ = [] → q.svc.outQ = [.signal x .offHook]))) := by
  have hport := p.reEnabled_port x
  have hother := p.reEnabled_port_other x
  have hground := p.reEnabled_ground x
  have hmail := p.reEnabled_mail x
  have hwatch := p.reEnabled_watches x
  have hown := ownPortEnable_tripped hst
  generalize p.reEnabled x = y at hport hother hground hmail hwatch hown
  have hhookA (h : (y.port x).hook = (p.port x).hook) : y.portA.hook = p.portA.hook := by
    cases x with
    | a => exact h
    | b => exact congrArg Port.hook hother
  have hhook : (y.port x).hook = (p.port x).hook := by rw [hport]
  constructor
  · intro hon
    rw [Part.enableTripped_onHook (hhook.trans hon)] at hown
    have hset : (y.enterState x .idle none).settle = (y.enterState x .idle none).refreshHeard :=
      Part.settle_heard (hwatch.enterState x .idle none) ((y.enterState_ground x .idle none).trans hground)
        ((Part.hook_of_fixed (y.enterState_fixed x .idle none) .a).trans (hhookA hhook)) hpending hrelay
    rw [hset] at hown
    refine ⟨_, hown, ?_⟩
    rw [Part.refreshHeard_port, Part.refreshHeard_port, Part.enterState_port, Part.enterState_port_other, hport, hother,
      Part.refreshHeard_line, Part.refreshHeard_svc, Part.line_of_ground ((y.enterState_ground x .idle none).trans hground),
      Part.svc_of_mail ((y.enterState_mail x .idle none).trans hmail)]
    exact ⟨rfl, rfl, rfl, rfl, rfl, rfl, rfl⟩
  · intro hoff
    have hserv : y.inService = p.inService := Part.inService_of_ground hground
    rw [Part.enableTripped_offHook (hhook.trans hoff)] at hown
    have hset : (y.toDialling x).settle = (y.toDialling x).refreshHeard :=
      Part.settle_heard (hwatch.toDialling x) ((y.toDialling_ground x).trans hground)
        ((Part.hook_of_fixed (y.toDialling_fixed x) .a).trans (hhookA hhook)) hpending hrelay
    have hsent : (y.toDialling x).mail = if p.inService then offer (.signal x .offHook) p.mail else p.mail := by
      rw [Part.toDialling_mail, hserv, hmail]
    rw [hset] at hown
    refine ⟨_, hown, ?_⟩
    rw [Part.refreshHeard_port, Part.refreshHeard_port, Part.toDialling_port, Part.toDialling_port_other, hport, hother,
      Part.refreshHeard_line, Part.refreshHeard_svc, Part.line_of_ground ((y.toDialling_ground x).trans hground), hserv]
    refine ⟨rfl, rfl, rfl, hoff, rfl, rfl, rfl, rfl, fun hs => ?_, fun hs => ⟨?_, fun hq => ?_⟩⟩
    · rw [hs] at hsent
      exact Part.svc_of_mail hsent
    · rw [hs]
      rfl
    · rw [hs, if_pos rfl, offer_room (by rw [Part.mail, hq]; decide)] at hsent
      have hsvc : (y.toDialling x).svc = { p.svc with outQ := insertMsg (.signal x .offHook) p.svc.outQ } :=
        congrArg Prod.fst hsent
      rw [hsvc, hq]
      rfl

theorem portDisable_flag (hst : (p.port x).state ∈ [PortState.cooldown, .shed, .through, .disabled])
    (hrelay : p.relayTarget = p.supply.relay) :
    ∃ q : Part, ownPortDisable (argOf x) p = (q, .ok, .none) ∧
      q.port x = { p.port x with enable := false, heard := .silence } ∧
      q.port (other x) = { p.port (other x) with heard := (q.port (other x)).heard } ∧
      q.line = p.line ∧ q.svc = p.svc ∧ q.log = p.log ∧ q.link = p.link ∧ q.supply = p.supply := by
  have hset : (p.modPort x fun r => { r with enable := false }).settle =
      (p.modPort x fun r => { r with enable := false }).refreshHeard :=
    Part.settle_heard ((Part.Watches_refl p).modPort x _) (by simp) (by cases x <;> rfl) hpending hrelay
  have hsilent : (p.modPort x fun r => { r with enable := false }).heardOf x = .silence := by
    refine Part.heardOf_silent ?_
    rw [Part.port_modPort]
    intro h
    have hboth : ∀ n : PortState, n ∈ [PortState.cooldown, .shed, .through, .disabled] →
        n ∉ [PortState.dialling, .connected, .joined, .held, .intercom, .parked] := by decide
    exact hboth _ hst h
  refine ⟨_, (ownPortDisable_argOf x p).trans (by rw [Part.portDisable_idle hst, hset]), ?_⟩
  rw [Part.refreshHeard_port, Part.refreshHeard_port, hsilent, Part.port_modPort, Part.port_modPort_other]
  simp

theorem portDisable_fromIdle (hst : (p.port x).state = .idle) (hrelay : p.relayTarget = p.supply.relay)
    (hhook : p.portA.hook = .onHook) :
    ∃ q : Part, ownPortDisable (argOf x) p = (q, .ok, .none) ∧ (q.port x).state = .disabled ∧
      (q.port x).enable = false ∧ (q.port (other x)).state = (p.port (other x)).state ∧ q.line = p.line ∧
      q.svc = p.svc ∧ q.log = p.log := by
  refine ⟨_, (ownPortDisable_argOf x p).trans (by rw [Part.portDisable_rest (.inl hst)]), ?_⟩
  generalize hy : (p.modPort x fun r => { r with enable := false }).modPort x (fun r =>
    { r with hook := .onHook, digit := none }) = y
  have hport : y.port x = { p.port x with enable := false, hook := .onHook, digit := none } := by
    subst hy
    simp
  have hother : y.port (other x) = p.port (other x) := by
    subst hy
    simp
  have hground : y.ground = p.ground := by
    subst hy
    simp
  have hmail : y.mail = p.mail := by
    subst hy
    simp
  have hwatch : p.Watches y := by
    subst hy
    exact ((Part.Watches_refl p).modPort x _).modPort x _
  have hhookA : y.portA.hook = p.portA.hook := by
    cases x with
    | a => exact (congrArg Port.hook hport).trans hhook.symm
    | b => exact congrArg Port.hook hother
  rw [Part.settle_heard (hwatch.enterState x .disabled none) ((y.enterState_ground x .disabled none).trans hground)
    ((Part.hook_of_fixed (y.enterState_fixed x .disabled none) .a).trans hhookA) hpending hrelay,
    Part.refreshHeard_port, Part.refreshHeard_port, Part.enterState_port, Part.enterState_port_other, hport, hother,
    Part.refreshHeard_line, Part.refreshHeard_svc, Part.refreshHeard_log,
    Part.line_of_ground ((y.enterState_ground x .disabled none).trans hground),
    Part.svc_of_mail ((y.enterState_mail x .disabled none).trans hmail),
    Part.log_of_mail ((y.enterState_mail x .disabled none).trans hmail)]
  exact ⟨rfl, rfl, rfl, rfl, rfl, rfl⟩

section
variable (hreq : p.line.request = .part) (hrelay : p.supply.relay = true) (hmains : p.supply.state = .mains)
include hreq hrelay hmains

theorem portDisable_atPart {y : Part} (hy : p.portDisable x = y) (hground : y.ground = p.ground) :
    ownPortDisable (argOf x) p = (y.refreshHeard, .ok, .none) := by
  rw [ownPortDisable_argOf, hy, Part.settle_atPart hground hpending hreq hrelay (by rw [hmains]; decide)]

theorem portDisable_fromTripped (hst : (p.port x).state = .tripped ∨ (p.port x).state = .lockedOut) :
    ∃ q : Part, ownPortDisable (argOf x) p = (q, .ok, .none) ∧ (q.port x).state = .disabled ∧
      (q.port x).enable = false ∧ (q.port x).hook = .onHook ∧ (q.port x).trip = (p.port x).trip ∧ q.line = p.line ∧
      q.svc = p.svc := by
  refine ⟨_, portDisable_atPart hpending hreq hrelay hmains (Part.portDisable_rest (.inr hst)) (by simp), ?_⟩
  rw [Part.refreshHeard_port, Part.refreshHeard_line, Part.refreshHeard_svc]
  simp

theorem portDisable_fromRinging {g : Ring} (hst : (p.port x).state = .ringing) (hg : (p.port x).ring = some g)
    (hpartner : g.partner = none) :
    ∃ q : Part, ownPortDisable (argOf x) p = (q, .ok, .none) ∧ (q.port x).state = .disabled ∧
      (q.port x).enable = false ∧ (q.port x).ring = none ∧ q.line = p.line ∧
      (g.origin = .line → p.inService = true → p.svc.outQ = [] → q.svc.outQ = [.signal x .ringLimited]) ∧
      (g.origin = .loc → q.svc = p.svc) := by
  refine ⟨_, portDisable_atPart hpending hreq hrelay hmains (Part.portDisable_ringing hst) (by simp), ?_⟩
  generalize hy : (p.modPort x fun r => { r with enable := false }) = y
  have hport : y.port x = { p.port x with enable := false } := by
    subst hy
    simp
  have hground : y.ground = p.ground := by
    subst hy
    simp
  have hmail : y.mail = p.mail := by
    subst hy
    simp
  have hyg : (y.port x).ring = some g := by rw [hport]; exact hg
  rw [Part.refreshHeard_port, Part.endRing_port y x true (by decide) (by rw [hyg]; rfl), hport, Part.refreshHeard_line,
    Part.refreshHeard_svc, Part.line_of_ground ((y.endRing_ground x true .disabled).trans hground)]
  refine ⟨rfl, rfl, rfl, rfl, fun ho hs hq => ?_, fun ho => ?_⟩
  · have hsent := y.endRing_mail_line x true .disabled hyg ho
    rw [Part.inService_of_ground hground, hs, hmail, if_pos (show (true && true) = true from rfl),
      offer_room (by rw [Part.mail, hq]; decide)] at hsent
    have hsvc : (y.endRing x true .disabled).svc = { p.svc with outQ := insertMsg (.signal x .ringLimited) p.svc.outQ } :=
      congrArg Prod.fst hsent
    rw [hsvc, hq]
    rfl
  · exact Part.svc_of_mail ((y.endRing_mail_alone x true .disabled hyg ho hpartner).trans hmail)

theorem portDisable_fromOffHook (hst : (p.port x).state.offHook = true) :
    ∃ q : Part, ownPortDisable (argOf x) p = (q, .ok, .none) ∧
      (q.port x).state = (if x = .b ∧ p.portB.shedPending = true then .shed else .disabled) ∧
      (q.port x).enable = false ∧ (q.port x).hook = .onHook ∧ (q.port x).dialTimer = none ∧
      (q.port x).howler = none ∧ (q.port x).shedPending = false ∧ q.chan x = none ∧ q.hold x = none ∧
      (p.inService = true → (q.port x).announced = false) ∧ q.line = p.line := by
  refine ⟨_, portDisable_atPart hpending hreq hrelay hmains (Part.portDisable_offHook hst) (by simp), ?_⟩
  generalize hn : (if x = .b ∧ p.portB.shedPending = true then PortState.shed else .disabled) = n
  have hrest : n = .shed ∨ n = .disabled := by
    subst hn
    split
    · exact .inl rfl
    · exact .inr rfl
  have hring : n ≠ .ringing := by rcases hrest with rfl | rfl <;> decide
  have hdial : n ≠ .dialling := by rcases hrest with rfl | rfl <;> decide
  rw [Part.refreshHeard_port, Part.port_modPort, Part.hangUp_port _ x hring hdial, Part.port_modPort,
    Part.refreshHeard_chan, Part.refreshHeard_hold, Part.refreshHeard_line, Part.modPort_line]
  refine ⟨rfl, rfl, rfl, rfl, rfl, rfl, ?_, ?_, fun hs => ?_, ?_⟩
  · exact (Part.chan_of_wiring (Part.modPort_wiring _ x _) x).trans (Part.hangUp_chan _ x n)
  · exact (Part.hold_of_wiring (Part.modPort_wiring _ x _) x).trans (Part.hangUp_hold _ x n)
  · rw [Part.inService_modPort, hs]
    exact Bool.and_false _
  · exact Part.line_of_ground (by simp)

end

end

/-- Settles O28: the port by the state that the command finds it in. -/
theorem portsAreEnabledAndDisabled : Obligations.PortsAreEnabledAndDisabled := by
  intro s e x h hp p arg
  have harg : arg = argOf x := by cases x <;> rfl
  have enables {f : PortArg} {q : Part} {st : Status} (ho : ownPortEnable f p = (q, st, .none)) :
      Completes (.portEnable e f) s (q.answeredTo e 11 st .none) :=
    h.answered (c := .portEnable f) rfl nofun hp.refuses ho
  have disables {f : PortArg} {q : Part} {st : Status} (ho : ownPortDisable f p = (q, st, .none)) :
      Completes (.portDisable e f) s (q.answeredTo e 12 st .none) :=
    h.answered (c := .portDisable f) rfl nofun hp.refuses ho
  clear_value arg
  subst harg
  refine ⟨fun hst hpending hrelay => ?_, fun hst hon hpending hrelay => ?_, fun hst hoff hpending hrelay => ?_,
    fun hst hpending hrelay => ?_, fun hd ht hl => enables (ownPortEnable_flag hd ht hl),
    fun hst hpending hrelay hhook => ?_, fun hpending hreq hrelay hmains => ⟨fun hst => ?_, fun g hst hg hpartner => ?_,
      fun hst => ?_⟩, enables rfl, disables rfl⟩
  · obtain ⟨q, ho, hq⟩ := ownPortEnable_fromDisabled hpending hst hrelay
    exact ⟨q, enables ho, hq⟩
  · obtain ⟨q, ho, hq⟩ := (ownPortEnable_fromTripped hpending hst hrelay).1 hon
    exact ⟨q, enables ho, hq⟩
  · obtain ⟨q, ho, hq⟩ := (ownPortEnable_fromTripped hpending hst hrelay).2 hoff
    exact ⟨q, enables ho, hq⟩
  · obtain ⟨q, ho, hq⟩ := portDisable_flag hpending hst hrelay
    exact ⟨q, disables ho, hq⟩
  · obtain ⟨q, ho, hq⟩ := portDisable_fromIdle hpending hst hrelay hhook
    exact ⟨q, disables ho, hq⟩
  · obtain ⟨q, ho, hq⟩ := portDisable_fromTripped hpending hreq hrelay hmains hst
    exact ⟨q, disables ho, hq⟩
  · obtain ⟨q, ho, hq⟩ := portDisable_fromRinging hpending hreq hrelay hmains hst hg hpartner
    exact ⟨q, disables ho, hq⟩
  · obtain ⟨q, ho, hq⟩ := portDisable_fromOffHook hpending hreq hrelay hmains hst
    exact ⟨q, disables ho, hq⟩

/-! ### O29 -/

/-- The load a ring on the port would put on the budget (R105). -/
def Part.loadWith (p : Part) (x : PortId) : Nat :=
  (p.port x).ringLoad + if (p.port (other x)).state = .ringing then (p.port (other x)).ringLoad else 0

theorem Part.budgetAllows_iff {p : Part} {x : PortId} (h : (p.port x).state ≠ .ringing) :
    p.budgetAllows x = decide (p.loadWith x ≤ p.supply.budget) := by
  have hload : p.ringingLoad + (p.port x).ringLoad = p.loadWith x := by
    unfold Part.loadWith Part.ringingLoad
    cases x with
    | a =>
      rw [if_neg (show ¬ p.portA.state = .ringing from h), Nat.zero_add, Nat.add_comm]
      rfl
    | b =>
      rw [if_neg (show ¬ p.portB.state = .ringing from h), Nat.add_zero, Nat.add_comm]
      rfl
  rw [Part.budgetAllows, hload]

/-- A ring within the budget and one above it (R105, R111). -/
theorem Part.localRing_within {p : Part} {x : PortId} (caller : Option PortId) (h : (p.port x).state ≠ .ringing)
    (hload : p.loadWith x ≤ p.supply.budget) :
    p.localRing x caller = ((p.startRing x 2 .loc caller).refreshHeard, .started, .none) := by
  unfold Part.localRing
  rw [Part.budgetAllows_iff h, if_pos (decide_eq_true hload)]

theorem Part.localRing_above {p : Part} {x : PortId} (caller : Option PortId) (h : (p.port x).state ≠ .ringing)
    (hload : p.supply.budget < p.loadWith x) :
    p.localRing x caller = (p.post (.ringLimited x (p.port x).ringLoad p.supply.budget), .busy, .none) := by
  unfold Part.localRing
  rw [Part.budgetAllows_iff h, if_neg (by simp only [decide_eq_true_eq]; omega)]
  rfl

/-- A local ring that starts: the port rings for 60 s, and the caller hears ringback (R97, R98, R111). -/
theorem Part.startRing_local (p : Part) (x : PortId) {caller : Option PortId} (hx : caller ≠ some x) :
    let q := (p.startRing x 2 .loc caller).refreshHeard
    (q.port x).state = .ringing ∧ (q.port x).ring = some ⟨2, 0, 250, .loc, caller, some 60000⟩ ∧
      q.line = p.line ∧ q.svc = p.svc ∧ q.log = p.log ∧ (q.port (other x)).state = (p.port (other x)).state ∧
      (q.port (other x)).ring = (p.port (other x)).ring ∧
      (caller = some (other x) → (p.port (other x)).state = .dialling →
        (q.port (other x)).dialTimer = none ∧ (q.port (other x)).heard = .tone .ringback) := by
  intro q
  have hport := p.startRing_port x 2 .loc hx
  have hother := p.startRing_port_other x 2 .loc hx
  have hline : (p.startRing x 2 .loc caller).line = p.line := Part.line_of_ground (p.startRing_ground x 2 .loc caller)
  have hmail := p.startRing_mail x 2 .loc caller
  have hq : q = (p.startRing x 2 .loc caller).refreshHeard := rfl
  clear_value q
  generalize p.startRing x 2 .loc caller = y at hport hother hline hmail hq
  subst hq
  rw [Part.refreshHeard_port, Part.refreshHeard_port, Part.refreshHeard_line, Part.refreshHeard_svc, Part.refreshHeard_log,
    hline, Part.svc_of_mail hmail, Part.log_of_mail hmail]
  have hsame : (y.port (other x)).state = (p.port (other x)).state ∧ (y.port (other x)).ring = (p.port (other x)).ring := by
    rw [hother]
    split <;> exact ⟨rfl, rfl⟩
  refine ⟨by rw [hport], by rw [hport]; rfl, rfl, rfl, rfl, hsame.1, hsame.2, fun hc hst => ⟨?_, ?_⟩⟩
  · rw [hother, if_pos hc]
  · refine Part.heardOf_dialling_caller (hsame.1.trans hst) (Part.isCaller_iff.2 ?_)
    rw [other_other, hport]
    exact ⟨rfl, _, rfl, hc⟩

section
variable {p : Part} {x : PortId}

theorem Part.isShed_false (h : (p.port x).state ≠ .shed) : p.isShed x = false := by
  rw [Part.isShed]
  exact beq_eq_false_iff_ne.2 h

theorem Part.isShed_true (h : (p.port x).state = .shed) : p.isShed x = true := beq_iff_eq.2 h

theorem ownRingLocal_shed (h : (p.port x).state = .shed) : ownRingLocal (argOf x) p = (p, .shed, .none) :=
  (onPort_argOf _ x p).trans (if_pos (Part.isShed_true h))

theorem ownRingLocal_busy (h : (p.port x).state ≠ .shed) (ht : p.underTest x = true) :
    ownRingLocal (argOf x) p = (p, .busy, .none) := by
  refine (onPort_argOf _ x p).trans ?_
  rw [Part.isShed_false h, if_neg Bool.false_ne_true, if_pos ht]

theorem ownRingLocal_wrongState (h : (p.port x).state ≠ .shed) (hi : (p.port x).state ≠ .idle)
    (ht : p.underTest x = false) : ownRingLocal (argOf x) p = (p, .wrongState, .none) := by
  refine (onPort_argOf _ x p).trans ?_
  rw [Part.isShed_false h, if_neg Bool.false_ne_true, ht, if_neg Bool.false_ne_true, if_pos hi]

theorem ownRingLocal_idle (hi : (p.port x).state = .idle) (ht : p.underTest x = false) :
    ownRingLocal (argOf x) p =
      p.localRing x (if (p.port (other x)).state = .dialling then some (other x) else none) := by
  refine (onPort_argOf _ x p).trans ?_
  rw [Part.isShed_false (by rw [hi]; decide), if_neg Bool.false_ne_true, ht, if_neg Bool.false_ne_true,
    if_neg (not_not_intro hi)]

/-- INTERCOM from one port to the other, before its refusals (R111, R174). -/
theorem ownIntercom_ports :
    ownIntercom (argOf (other x)) (argOf x) p =
      if p.isShed (other x) || p.isShed x then (p, .shed, .none)
      else if p.underTest x then (p, .busy, .none)
      else if (p.port (other x)).state ≠ .dialling ∨ (p.port x).state ≠ .idle then (p, .wrongState, .none)
      else p.localRing x (some (other x)) := by
  cases x <;> rfl

theorem ownIntercom_shed (h : (p.port x).state = .shed) :
    ownIntercom (argOf (other x)) (argOf x) p = (p, .shed, .none) ∧
      ownIntercom (argOf x) (argOf (other x)) p = (p, .shed, .none) := by
  constructor
  · rw [ownIntercom_ports, Part.isShed_true h, Bool.or_true, if_pos rfl]
  · have hports := ownIntercom_ports (p := p) (x := other x)
    rw [other_other] at hports
    rw [hports, Part.isShed_true h, Bool.true_or, if_pos rfl]

theorem ownIntercom_powered (h : (p.port x).state ≠ .shed) (ho : (p.port (other x)).state ≠ .shed) :
    ownIntercom (argOf (other x)) (argOf x) p =
      if p.underTest x then (p, .busy, .none)
      else if (p.port (other x)).state ≠ .dialling ∨ (p.port x).state ≠ .idle then (p, .wrongState, .none)
      else p.localRing x (some (other x)) := by
  rw [ownIntercom_ports, Part.isShed_false h, Part.isShed_false ho, Bool.or_false, if_neg Bool.false_ne_true]

theorem ownIntercom_idle (hi : (p.port x).state = .idle) (ht : p.underTest x = false)
    (ho : (p.port (other x)).state = .dialling) :
    ownIntercom (argOf (other x)) (argOf x) p = p.localRing x (some (other x)) := by
  rw [ownIntercom_powered (by rw [hi]; decide) (by rw [ho]; decide), ht, if_neg Bool.false_ne_true,
    if_neg (not_or.2 ⟨not_not_intro ho, not_not_intro hi⟩)]

end

/-- Settles O29: within the budget the ring starts, and every refusal is answered alone. -/
theorem localRingsStartWithinTheBudget : Obligations.LocalRingsStartWithinTheBudget := by
  intro s e x h hp p dst src load limited
  have hdst : dst = argOf x := by cases x <;> rfl
  have hsrc : src = argOf (other x) := by cases x <;> rfl
  have rings {f : PortArg} {q : Part} {st : Status} (ho : ownRingLocal f p = (q, st, .none)) :
      Completes (.ringLocal e f) s (q.answeredTo e 13 st .none) :=
    h.answered (c := .ringLocal f) rfl nofun hp.refuses ho
  have calls {f g : PortArg} {q : Part} {st : Status} (ho : ownIntercom f g p = (q, st, .none)) :
      Completes (.intercom e f g) s (q.answeredTo e 14 st .none) :=
    h.answered (c := .intercom f g) rfl nofun hp.refuses ho
  clear_value dst src
  subst hdst hsrc
  refine ⟨fun hi ht => ?_, fun hst => ⟨rings (ownRingLocal_shed hst), calls (ownIntercom_shed hst).1,
      calls (ownIntercom_shed hst).2⟩, fun hst ht => ⟨rings (ownRingLocal_busy hst ht), fun ho => calls ?_⟩,
    fun hi hst ht => rings (ownRingLocal_wrongState hst hi ht), fun hwrong hst ho ht => calls ?_, rings rfl,
    calls ?_, calls ?_, calls ?_⟩
  · have hringing : (p.port x).state ≠ .ringing := by rw [hi]; decide
    have hcaller : (if (p.port (other x)).state = .dialling then some (other x) else none) ≠ some x := by
      split
      · exact fun hc => other_ne x (Option.some.inj hc)
      · nofun
    refine ⟨fun hload => ⟨_, rings ((ownRingLocal_idle hi ht).trans (Part.localRing_within _ hringing hload)), ?_⟩,
      fun hload => rings ((ownRingLocal_idle hi ht).trans (Part.localRing_above _ hringing hload)),
      fun hdial => ⟨fun hload =>
        ⟨_, calls ((ownIntercom_idle hi ht hdial).trans (Part.localRing_within _ hringing hload)), ?_⟩,
        fun hload => calls ((ownIntercom_idle hi ht hdial).trans (Part.localRing_above _ hringing hload))⟩⟩
    · obtain ⟨hstate, hring, hline, hsvc, hlog, hother, hotherRing, hheard⟩ := p.startRing_local x hcaller
      exact ⟨hstate, hring, hline, hsvc, hlog, hother, hotherRing, fun hdial => hheard (if_pos hdial) hdial⟩
    · obtain ⟨hstate, hring, hline, hsvc, hlog, hother, -, hheard⟩ :=
        p.startRing_local x (caller := some (other x)) (fun hc => other_ne x (Option.some.inj hc))
      exact ⟨hstate, hring, hother.trans hdial, (hheard rfl hdial).1, (hheard rfl hdial).2, hline, hsvc, hlog⟩
  · rw [ownIntercom_powered hst ho, if_pos ht]
  · rw [ownIntercom_powered hst ho, ht, if_neg Bool.false_ne_true, if_pos hwrong]
  · cases x <;> rfl
  · cases x <;> rfl
  · cases x <;> rfl

/-! ### O30 -/

theorem offer_signal_room {x : Signal} {p : PortId} {l : Service × Log} (h : l.1.outQ.length < 16) :
    (offer (.signal p x) l).1.outQ = l.1.outQ.takeWhile (·.isSignal) ++ .signal p x :: l.1.outQ.dropWhile (·.isSignal) := by
  rw [offer_room h]
  rfl

/-- Port B as it joins the call of port A, with the link set (R113). -/
def Part.joining (s : Part) : Part :=
  let x := ((s.modPort .b fun r => { r with dialTimer := none }).withdraw .b).enterState .b .joined none
  { x with voice := { x.voice with joinLink := true } }

theorem Part.joining_port (s : Part) :
    s.joining.port .b = { s.port .b with
      dialTimer := none, state := .joined, announced := (s.port .b).announced && !s.inService } ∧
      s.joining.port .a = s.port .a := by
  let x := ((s.modPort .b fun r => { r with dialTimer := none }).withdraw .b).enterState .b .joined none
  have hB : x.port .b = { s.port .b with
      dialTimer := none, state := .joined, announced := (s.port .b).announced && !s.inService } := by
    simp [x, Part.withdraw_port]
  have hA : x.port (other .b) = s.port (other .b) := by simp [x]
  exact ⟨hB, hA⟩

theorem Part.joining_rest (s : Part) :
    s.joining.ground = s.ground ∧ s.joining.chan .a = s.chan .a ∧
      s.joining.mail =
        if (s.port .b).announced && s.inService then offer (.signal .b .onHook) s.mail else s.mail := by
  let x := ((s.modPort .b fun r => { r with dialTimer := none }).withdraw .b).enterState .b .joined none
  have hground : x.ground = s.ground := by simp [x]
  have hwiring : x.wiring = s.wiring := by simp [x]
  have hmail : x.mail = if (s.port .b).announced && s.inService then offer (.signal .b .onHook) s.mail else s.mail := by
    simp [x, Part.withdraw_mail]
  exact ⟨hground, Part.chan_of_wiring hwiring .a, hmail⟩

theorem ownJoin_joins {p : Part} (hA : p.portA.state = .connected) (hB : p.portB.state = .dialling) :
    ownJoin p = ((p.joining.dropRungBy .b).refreshHeard, .ok, .none) := by
  have hshed : p.isShed .b = false := Part.isShed_false (by rw [Part.port, hB]; decide)
  unfold ownJoin
  rw [hshed, if_neg Bool.false_ne_true, if_pos ⟨hA, hB⟩]
  rfl

/-- What JOIN leaves, of a port B in DIALLING beside a CONNECTED port A (R113). -/
theorem Part.joined_fields {p : Part} (hA : p.portA.state = .connected) :
    let q := (p.joining.dropRungBy .b).refreshHeard
    q.portB.state = .joined ∧ q.voice.joinLink = true ∧ q.portB.dialTimer = none ∧ q.portA.state = .connected ∧
      q.portB.heard = .line ∧ q.line = p.line ∧ q.chan .a = p.chan .a ∧
      q.portB.announced = (p.portB.announced && !p.inService) ∧
      q.mail = if p.portB.announced && p.inService then offer (.signal .b .onHook) p.mail else p.mail := by
  intro q
  obtain ⟨hportB, hportA⟩ := p.joining_port
  obtain ⟨hground, hchan, hmail⟩ := p.joining_rest
  have hcaller : p.joining.isCaller .b = false := by
    refine eq_false_of_ne_true fun hc => ?_
    have hringing : (p.joining.port .a).state = .ringing := (Part.isCaller_iff.1 hc).1
    rw [hportA, Part.port, hA] at hringing
    cases hringing
  have hdrop : p.joining.dropRungBy .b = p.joining := by
    unfold Part.dropRungBy
    rw [hcaller, if_neg Bool.false_ne_true]
  have hlink : p.joining.voice.joinLink = true := rfl
  have hq : q = p.joining.refreshHeard := congrArg Part.refreshHeard hdrop
  clear_value q
  generalize p.joining = y at hportB hportA hground hchan hmail hlink hq
  subst hq
  have hA' : y.portA.state = .connected := (congrArg Port.state hportA).trans hA
  have hheard : y.heardOf .b = .line := by
    unfold Part.heardOf
    dsimp only
    rw [hportB, hA']
    rfl
  have hB' : y.refreshHeard.portB = { y.port .b with heard := .line } := by
    have he := y.refreshHeard_port .b
    rw [hheard] at he
    exact he
  have hA'' : y.refreshHeard.portA.state = y.portA.state := by
    show (y.refreshHeard.port .a).state = _
    rw [Part.refreshHeard_port]
    rfl
  rw [hB', hportB, hA'', Part.refreshHeard_line, Part.refreshHeard_mail, Part.line_of_ground hground]
  exact ⟨rfl, (Part.joinLink_of_wiring y.refreshHeard_wiring).trans hlink, rfl, hA', rfl, rfl,
    (Part.chan_of_wiring y.refreshHeard_wiring .a).trans hchan, rfl, hmail⟩

/-- What PART leaves, of a JOINED port B (R114). -/
theorem Part.parted_fields (p : Part) :
    let q := (p.unlink.toDialling .b).refreshHeard
    q.portB.state = .dialling ∧ q.voice.joinLink = false ∧ q.portB.dialTimer = some 30000 ∧ q.line = p.line ∧
      q.chan .a = p.chan .a ∧ q.portB.announced = (p.inService || p.portB.announced) ∧
      q.mail = if p.inService then offer (.signal .b .offHook) p.mail else p.mail := by
  intro q
  have hport := p.unlink.toDialling_port .b
  have hwiring := p.unlink.toDialling_wiring .b
  have hmail := p.unlink.toDialling_mail .b
  have hline : (p.unlink.toDialling .b).line = p.line := Part.line_of_ground (p.unlink.toDialling_ground .b)
  have hq : q = (p.unlink.toDialling .b).refreshHeard := rfl
  clear_value q
  generalize p.unlink.toDialling .b = y at hport hwiring hmail hline hq
  subst hq
  have hB : y.refreshHeard.portB = { y.port .b with heard := y.heardOf .b } := y.refreshHeard_port .b
  rw [hB, hport, Part.refreshHeard_line, Part.refreshHeard_mail, hline]
  exact ⟨rfl, (Part.joinLink_of_wiring y.refreshHeard_wiring).trans (Part.joinLink_of_wiring hwiring), rfl, rfl,
    (Part.chan_of_wiring y.refreshHeard_wiring .a).trans (Part.chan_of_wiring hwiring .a), rfl, hmail⟩

/-- Settles O30: port B enters and leaves the call, and each SIGNAL takes its place. -/
theorem joinAndPartMovePortB : Obligations.JoinAndPartMovePortB := by
  intro s e h hp p signalled
  have joins {q : Part} {st : Status} (ho : ownJoin p = (q, st, .none)) :
      Completes (.join e) s (q.answeredTo e 15 st .none) := h.answered (c := .join) rfl nofun hp.refuses ho
  have parts {q : Part} {st : Status} (ho : ownPart p = (q, st, .none)) :
      Completes (.part e) s (q.answeredTo e 16 st .none) := h.answered (c := .part) rfl nofun hp.refuses ho
  refine ⟨fun hA hB => ⟨_, joins (ownJoin_joins hA hB), ?_⟩, fun hst => joins (if_pos (Part.isShed_true (x := .b) hst)),
    fun hst hwrong => joins ?_, fun hB => ⟨_, parts (if_pos hB), ?_⟩, fun hB => parts (if_neg hB)⟩
  · obtain ⟨hstB, hlink, htimer, hstA, hheard, hline, hchan, hann, hmail⟩ := Part.joined_fields hA
    refine ⟨hstB, hlink, htimer, hstA, hheard, hline, hchan, fun hnot => ?_, fun hs hyes => ⟨?_, fun hroom => ?_⟩⟩
    · rw [hnot] at hann hmail
      exact ⟨hann, Part.svc_of_mail hmail⟩
    · rw [hann, hs, Bool.not_true, Bool.and_false]
    · rw [hyes, hs, if_pos (show (true && true) = true from rfl)] at hmail
      have hsvc := congrArg (fun l => l.1.outQ) hmail
      exact hsvc.trans (offer_signal_room (l := p.mail) hroom)
  · show (if p.isShed .b then _ else _) = _
    rw [Part.isShed_false (x := .b) hst, if_neg Bool.false_ne_true, if_neg (not_and_or.2 hwrong)]
  · obtain ⟨hstB, hlink, htimer, hline, hchan, hann, hmail⟩ := p.parted_fields
    refine ⟨hstB, hlink, htimer, hline, hchan, fun hs => ⟨?_, fun hroom => ?_⟩⟩
    · rw [hann, hs, Bool.true_or]
    · rw [hs, if_pos rfl] at hmail
      have hsvc := congrArg (fun l => l.1.outQ) hmail
      exact hsvc.trans (offer_signal_room (l := p.mail) hroom)

end Sys2Proof.Machine
end

section
/-! SUPPORT and PROOFS. The exchange unit's signalling to a port, its dial timer and its howler (O48), and admission (R137),
which the ring trip shares. -/

namespace Sys2Proof.Machine

/-! ### Messages to an empty queue -/

theorem offer_empty {m : Msg} {l : Service × Log} (h : l.1.outQ = []) : (offer m l).1.outQ = [m] := by
  rw [offer_room (by rw [h]; decide)]
  show insertMsg m l.1.outQ = [m]
  rw [h]
  unfold insertMsg
  split <;> rfl

theorem offer_signal_one {p q : PortId} {x y : Signal} {l : Service × Log} (h : l.1.outQ = [.signal q y]) :
    (offer (.signal p x) l).1.outQ = [.signal q y, .signal p x] := by
  rw [offer_room (by rw [h]; simp)]
  show insertMsg (.signal p x) l.1.outQ = _
  rw [h]
  simp [insertMsg, Msg.isSignal]

/-- A SIGNAL behind the SIGNAL OFF_HOOK that goes ahead of it where the port was not announced. -/
theorem offer_after_called {announced : Bool} {p : PortId} {x : Signal} {l : Service × Log}
    (h : l.1.outQ = if announced then [] else [.signal p .offHook]) :
    (offer (.signal p x) l).1.outQ = (if announced then [] else [.signal p .offHook]) ++ [.signal p x] := by
  cases announced
  · exact offer_signal_one h
  · exact offer_empty h

/-! ### Admission -/

section
variable (s : Part) (p : PortId)

/-- A port is announced, if it is not (R95). -/
def Part.announce : Part := if (s.port p).announced then s else s.sayOffHook p

theorem Part.announce_port : (s.announce p).port p = { s.port p with announced := true } := by
  unfold Part.announce
  split
  · rename_i h
    exact (Port.announced_self h).symm
  · exact s.sayOffHook_port p

@[simp] theorem Part.announce_port_other : (s.announce p).port (other p) = s.port (other p) := by
  unfold Part.announce
  split <;> simp

@[simp] theorem Part.announce_ground : (s.announce p).ground = s.ground := by
  unfold Part.announce
  split <;> simp

@[simp] theorem Part.announce_wiring : (s.announce p).wiring = s.wiring := by
  unfold Part.announce
  split <;> simp

@[simp] theorem Part.announce_mail :
    (s.announce p).mail = if (s.port p).announced then s.mail else offer (.signal p .offHook) s.mail := by
  unfold Part.announce
  split <;> simp

theorem Part.Watches.announce {s x : Part} (p : PortId) (h : s.Watches x) : s.Watches (x.announce p) := by
  unfold Part.announce
  split
  · exact h
  · exact h.sayOffHook p

@[simp] theorem Part.announce_fixed : (s.announce p).fixed = s.fixed := by
  unfold Part.announce
  split <;> simp

/-- The port admitted in a mode (R99, R106). -/
def Part.admitted (m : Mode) : Part :=
  (((s.announce p).beginChannel p m).modPort p fun r => { r with dialTimer := none }).enterState p .connected (some m)

theorem Part.askChannel_admitted {m : Mode} (f : Part → Part) (h : s.admission = some m) :
    s.askChannel p f = s.admitted p m := by
  unfold Part.askChannel
  rw [h]
  rfl

theorem Part.askChannel_refused (f : Part → Part) (h : s.admission = none) : s.askChannel p f = f s := by
  unfold Part.askChannel
  rw [h]

theorem Part.admitted_port (m : Mode) :
    (s.admitted p m).port p = { s.port p with announced := true, dialTimer := none, state := .connected } := by
  unfold Part.admitted
  rw [Part.enterState_port, Part.port_modPort, Part.beginChannel_port, Part.announce_port]

@[simp] theorem Part.admitted_port_other (m : Mode) : (s.admitted p m).port (other p) = s.port (other p) := by
  unfold Part.admitted
  rw [Part.enterState_port_other, Part.port_modPort_other, Part.beginChannel_port, Part.announce_port_other]

@[simp] theorem Part.admitted_ground (m : Mode) : (s.admitted p m).ground = s.ground := by
  unfold Part.admitted
  simp

@[simp] theorem Part.admitted_fixed (m : Mode) : (s.admitted p m).fixed = s.fixed := by
  unfold Part.admitted
  rw [Part.enterState_fixed, Part.modPort_fixed _ p rfl, Part.beginChannel_fixed, Part.announce_fixed]

theorem Part.Watches.admitted {s x : Part} (p : PortId) (m : Mode) (h : s.Watches x) : s.Watches (x.admitted p m) :=
  (((h.announce p).beginChannel p m).modPort p _).enterState p _ _

theorem Part.admitted_wiring (m : Mode) : (s.admitted p m).wiring = ((s.announce p).beginChannel p m).wiring := by
  unfold Part.admitted
  rw [Part.enterState_wiring, Part.modPort_wiring]

theorem Part.admitted_chan (m : Mode) : (s.admitted p m).chan p = some ⟨m, true, (0, 0), 0⟩ :=
  (Part.chan_of_wiring (s.admitted_wiring p m) p).trans (Part.beginChannel_chan _ p m)

theorem Part.admitted_sched (m : Mode) :
    (s.admitted p m).sched =
      { s.sched with switches := s.sched.switches ++ [⟨p, s.line.symbol + 2000, .begin⟩] } := by
  rw [Part.sched_of_wiring (s.admitted_wiring p m), Part.beginChannel_sched, Part.sched_of_wiring (s.announce_wiring p),
    Part.line_of_ground (s.announce_ground p)]

/-- The messages of an admission: SIGNAL OFF_HOOK where the port was not announced, then SIGNAL CHANNEL (R99). -/
theorem Part.admitted_mail (m : Mode) :
    (s.admitted p m).mail = offer (.signal p (.channel (some m) (s.line.symbol + 2000)))
      (if (s.port p).announced then s.mail else offer (.signal p .offHook) s.mail) := by
  unfold Part.admitted
  rw [Part.enterState_mail, Part.modPort_mail, Part.beginChannel_mail, Part.announce_mail,
    Part.line_of_ground (s.announce_ground p)]

theorem Part.admitted_outQ (m : Mode) (h : s.svc.outQ = []) :
    (s.admitted p m).svc.outQ = (if (s.port p).announced then [] else [.signal p .offHook]) ++
      [.signal p (.channel (some m) (s.line.symbol + 2000))] := by
  have hmail := congrArg (fun l => l.1.outQ) (s.admitted_mail p m)
  refine Eq.trans hmail (offer_after_called ?_)
  split
  · exact h
  · exact offer_empty (l := s.mail) h

end

section
variable {s x : Part}

/-- What admission reads: the tables in force and the channels that exist (R137). -/
theorem Part.admission_congr (hg : x.ground = s.ground) (hw : x.wiring = s.wiring) : x.admission = s.admission := by
  have hdemand : x.channelDemand = s.channelDemand := by
    rw [Part.channelDemand, Part.chan_of_wiring hw, Part.chan_of_wiring hw]
    rfl
  have hc : x.capC = s.capC := by
    rw [Part.capC, Part.capU, Part.capP, Part.line_of_ground hg]
    rfl
  rw [Part.admission, hdemand, hc]
  rfl

theorem Part.admission_full (h : s.channelDemand + 3 ≤ s.capC) : s.admission = some .full := if_pos h

theorem Part.admission_half (h : s.channelDemand + 2 = s.capC) : s.admission = some .half := by
  unfold Part.admission
  rw [if_neg (by omega), if_pos (by omega)]

theorem Part.admission_none (h : s.capC < s.channelDemand + 2) : s.admission = none := by
  unfold Part.admission
  rw [if_neg (by omega), if_neg (by omega)]

theorem Part.heardOf_connected {p : PortId} (h : (x.port p).state = .connected) : x.heardOf p = .line := by
  unfold Part.heardOf
  dsimp only
  rw [h]

theorem Part.heardOf_howler {p : PortId} (h : (x.port p).state = .parked) (hh : (x.port p).howler.isSome = true) :
    x.heardOf p = .tone .howler := by
  unfold Part.heardOf
  dsimp only
  rw [h]
  exact if_pos hh

end

/-! ### CONNECT -/

section
variable {s : State} {x : PortId} (hrun : s.part.running = true)
include hrun

theorem connect_completes {q : Part} (hq : s.part.connect x = q) : Completes (.connect x) s q.refreshHeard :=
  completes_of (o := execConnect x s) rfl rfl hrun (congrArg Part.refreshHeard hq)

end

section
variable {p : Part} {x : PortId} (hs : p.inService = true) (hst : (p.port x).state = .dialling)
include hs hst

theorem Part.connect_asks :
    p.connect x = (p.dropRungBy x).askChannel x fun q =>
      (q.modPort x fun r => { r with dialTimer := none }).signal x .capacityHold := by
  unfold Part.connect
  rw [hs, hst]
  rfl

theorem Part.connect_alone (hcall : p.isCaller x = false) :
    p.connect x = p.askChannel x fun q => (q.modPort x fun r => { r with dialTimer := none }).signal x .capacityHold := by
  rw [Part.connect_asks hs hst]
  have hdrop : p.dropRungBy x = p := if_neg (by rw [hcall]; decide)
  rw [hdrop]

end

/-- What a port admitted hears and keeps, once the port controllers have selected it (R97, R99). -/
theorem Part.admitted_heard (p : Part) (x : PortId) (m : Mode) :
    let q := (p.admitted x m).refreshHeard
    (q.port x).state = .connected ∧ q.chan x = some ⟨m, true, (0, 0), 0⟩ ∧ (q.port x).dialTimer = none ∧
      q.sched.switches = p.sched.switches ++ [⟨x, p.line.symbol + 2000, .begin⟩] ∧ (q.port x).heard = .line ∧
      q.line = p.line ∧ q.log.next = p.log.next ∧ (q.port x).announced = true ∧
      (q.port (other x)).state = (p.port (other x)).state ∧ (q.port (other x)).ring = (p.port (other x)).ring ∧
      (p.svc.outQ = [] → q.svc.outQ = (if (p.port x).announced then [] else [.signal x .offHook]) ++
        [.signal x (.channel (some m) (p.line.symbol + 2000))]) := by
  have hport := p.admitted_port x m
  have hother := p.admitted_port_other x m
  have hground := p.admitted_ground x m
  have hchan := p.admitted_chan x m
  have hsched := p.admitted_sched x m
  have hmail := p.admitted_outQ x m
  intro q
  have hq : q = (p.admitted x m).refreshHeard := rfl
  clear_value q
  generalize p.admitted x m = y at hport hother hground hchan hsched hmail hq
  subst hq
  rw [Part.refreshHeard_port, Part.refreshHeard_port, Part.heardOf_connected (by rw [hport]), hport, hother,
    Part.refreshHeard_chan, Part.refreshHeard_sched, hsched, Part.refreshHeard_line, Part.refreshHeard_log,
    Part.refreshHeard_svc]
  exact ⟨rfl, hchan, rfl, rfl, rfl, Part.line_of_ground hground, Part.logNext_of_ground hground, rfl, rfl, rfl, hmail⟩

/-- A port not admitted: SIGNAL CAPACITY_HOLD (R99). -/
theorem Part.notAdmitted_heard (p : Part) (x : PortId) :
    let q := ((p.modPort x fun r => { r with dialTimer := none }).signal x .capacityHold).refreshHeard
    (q.port x).state = (p.port x).state ∧ q.chan x = p.chan x ∧ (q.port x).dialTimer = none ∧
      (q.port x).announced = (p.port x).announced ∧ q.sched = p.sched ∧ q.line = p.line ∧ q.log.next = p.log.next ∧
      (q.port (other x)).state = (p.port (other x)).state ∧ (q.port (other x)).ring = (p.port (other x)).ring ∧
      q.mail = offer (.signal x .capacityHold) p.mail := by
  have hport : ((p.modPort x fun r => { r with dialTimer := none }).signal x .capacityHold).port x =
      { p.port x with dialTimer := none } := by simp
  have hother : ((p.modPort x fun r => { r with dialTimer := none }).signal x .capacityHold).port (other x) =
      p.port (other x) := by simp
  have hground : ((p.modPort x fun r => { r with dialTimer := none }).signal x .capacityHold).ground = p.ground := by simp
  have hwiring : ((p.modPort x fun r => { r with dialTimer := none }).signal x .capacityHold).wiring = p.wiring := by simp
  have hmail : ((p.modPort x fun r => { r with dialTimer := none }).signal x .capacityHold).mail =
      offer (.signal x .capacityHold) p.mail := by simp
  intro q
  have hq : q = ((p.modPort x fun r => { r with dialTimer := none }).signal x .capacityHold).refreshHeard := rfl
  clear_value q
  generalize (p.modPort x fun r => { r with dialTimer := none }).signal x .capacityHold = y at hport hother hground hwiring hmail hq
  subst hq
  rw [Part.refreshHeard_port, Part.refreshHeard_port, hport, hother, Part.refreshHeard_chan, Part.refreshHeard_sched,
    Part.refreshHeard_line, Part.refreshHeard_log, Part.refreshHeard_mail]
  exact ⟨rfl, Part.chan_of_wiring hwiring x, rfl, rfl, Part.sched_of_wiring hwiring, Part.line_of_ground hground,
    Part.logNext_of_ground hground, rfl, rfl, hmail⟩

/-- The caller of a local ring, its ring stopped (R107). -/
theorem Part.dropRungBy_caller {p : Part} {x : PortId} (hs : p.inService = true) (hst : (p.port x).state = .dialling)
    (hcall : p.isCaller x = true) (hloc : ∀ g : Ring, (p.port (other x)).ring = some g → g.origin = .loc) :
    let y := p.dropRungBy x
    (y.port x).state = .dialling ∧ (y.port x).announced = true ∧ (y.port (other x)).state = .idle ∧
      (y.port (other x)).ring = none ∧ y.ground = p.ground ∧ y.wiring = p.wiring ∧
      y.mail = if (p.port x).announced then p.mail else offer (.signal x .offHook) p.mail := by
  obtain ⟨-, g, hg, hpartner⟩ := Part.isCaller_iff.1 hcall
  have hdrop : p.dropRungBy x = p.endRing (other x) false .idle := if_pos hcall
  have hport : (p.dropRungBy x).port x = (p.port x).calledBack true := by
    have hended := p.endRing_port_other (other x) false .idle hg
    rw [other_other, if_pos ⟨hloc g hg, hpartner⟩, hs] at hended
    rw [hdrop, hended]
  have hother : (p.dropRungBy x).port (other x) = { p.port (other x) with ring := none, state := .idle } := by
    rw [hdrop, Part.endRing_port _ _ _ (by decide) (by rw [hg]; rfl)]
  have hmail : (p.dropRungBy x).mail = if (p.port x).announced then p.mail else offer (.signal x .offHook) p.mail := by
    rw [hdrop, p.endRing_mail_caller (other x) false .idle hg (hloc g hg) (by rw [other_other]; exact hpartner),
      other_other, Part.callerBack_mail]
    cases hann : (p.port x).announced with
    | true => rw [if_neg (fun h => nomatch h.2.2), if_pos rfl]
    | false => rw [if_pos ⟨hst, hs, rfl⟩, if_neg Bool.false_ne_true]
  intro y
  refine ⟨?_, ?_, ?_, ?_, p.dropRungBy_ground x, p.dropRungBy_wiring x, hmail⟩
  · show ((p.dropRungBy x).port x).state = _
    rw [hport, Port.calledBack, if_pos hst, Port.toneReleased_frame]
    exact hst
  · show ((p.dropRungBy x).port x).announced = _
    rw [hport, Port.calledBack, if_pos hst]
    rfl
  · exact congrArg Port.state hother
  · exact congrArg Port.ring hother

/-! ### RELEASE, TONE and the timers -/

/-- The port parked by a RELEASE, with what its leaving does to port B (R100). -/
theorem Part.release_eq {p : Part} {x : PortId} (hs : p.inService = true)
    (hst : (p.port x).state = .connected ∨ (p.port x).state = .held ∨ (p.port x).state = .dialling) :
    p.release x = if x = .a then ((p.endChannel x).park x).parkJoined else (p.endChannel x).park x := by
  unfold Part.release
  rw [hs]
  dsimp only
  rcases hst with h | h | h <;> rw [h] <;> rfl

theorem Part.parkJoined_eq (s : Part) : s.parkJoined = if s.portB.state = .joined then s.unlink.park .b else s := rfl

theorem Part.released_port {p : Part} {x : PortId} (hs : p.inService = true)
    (hst : (p.port x).state = .connected ∨ (p.port x).state = .held ∨ (p.port x).state = .dialling) :
    (p.release x).port x = (p.port x).parked := by
  have hparked : ((p.endChannel x).park x).port x = (p.port x).parked := by
    rw [Part.park_port, Part.endChannel_port]
  rw [Part.release_eq hs hst]
  split
  · rename_i hx
    subst hx
    have hjoined : ((p.endChannel .a).park .a).parkJoined.port .a = ((p.endChannel .a).park .a).port .a := by
      rw [Part.parkJoined_eq]
      split
      · have hother := (((p.endChannel .a).park .a).unlink).park_port_other .b
        rw [if_neg] at hother
        · exact hother
        · intro hc
          have hringing : (((p.endChannel .a).park .a).port .a).state = .ringing := (Part.isCaller_iff.1 hc).1
          rw [hparked] at hringing
          cases hringing
      · rfl
    rw [hjoined, hparked]
  · exact hparked

theorem Part.parkJoined_sched (s : Part) : s.parkJoined.sched = s.sched := by
  rw [Part.parkJoined_eq]
  split
  · have he : (s.unlink.park .b).sched = s.unlink.sched := Part.sched_of_wiring (s.unlink.park_wiring .b)
    exact he
  · rfl

theorem Part.parkJoined_chan (s : Part) (x : PortId) : s.parkJoined.chan x = s.chan x := by
  rw [Part.parkJoined_eq]
  split
  · exact (Part.chan_of_wiring (s.unlink.park_wiring .b) x).trans (by cases x <;> rfl)
  · rfl

/-- What a RELEASE leaves of the channel, and what it sends (R100, R138). -/
theorem Part.released_rest {p : Part} {x : PortId} (hs : p.inService = true)
    (hst : (p.port x).state = .connected ∨ (p.port x).state = .held ∨ (p.port x).state = .dialling) :
    (p.release x).chan x = none ∧ (p.release x).sched = (p.endChannel x).sched ∧ (p.release x).ground = p.ground ∧
      (p.release x).mail = (p.endChannel x).mail := by
  have hchan : ((p.endChannel x).park x).chan x = none :=
    (Part.chan_of_wiring (Part.park_wiring _ x) x).trans (p.endChannel_chan x)
  have hsched : ((p.endChannel x).park x).sched = (p.endChannel x).sched := Part.sched_of_wiring (Part.park_wiring _ x)
  rw [Part.release_eq hs hst]
  split
  · rename_i hx
    subst hx
    exact ⟨(Part.parkJoined_chan _ _).trans hchan, (Part.parkJoined_sched _).trans hsched, by simp, by simp⟩
  · exact ⟨hchan, hsched, by simp, by simp⟩

/-- The silence of a PARKED port whose howler has ended (R97). -/
theorem Part.heardOf_parkedSilent {x : Part} {p : PortId} (h : (x.port p).state = .parked)
    (hh : (x.port p).howler = none) : x.heardOf p = .silence := by
  unfold Part.heardOf
  dsimp only
  rw [h, hh]
  rfl

theorem Part.refreshHeard_gen_kind (s : Part) (p : PortId) : (s.refreshHeard.gen p).kind = (s.heardOf p).kind := by
  rw [Part.refreshHeard_gen, Generator.select_kind]

theorem Part.hold_of_sched {s x : Part} (h : x.sched = s.sched) (p : PortId) : x.hold p = s.hold p := by
  unfold Part.hold
  rw [h]

theorem Part.isCaller_false {p : Part} {x : PortId} (h : (p.port (other x)).state ≠ .ringing) : p.isCaller x = false :=
  eq_false_of_ne_true fun hc => h (Part.isCaller_iff.1 hc).1

/-- Port B in JOINED as port A is released: parked with the link cleared (R100). -/
theorem Part.released_joined {p : Part} (hs : p.inService = true)
    (hst : (p.port .a).state = .connected ∨ (p.port .a).state = .held ∨ (p.port .a).state = .dialling)
    (hB : p.portB.state = .joined) :
    (p.release .a).portB = p.portB.parked ∧ (p.release .a).voice.joinLink = false := by
  have hparked : ((p.endChannel .a).park .a).port .b = p.port .b := by
    have hother := (p.endChannel .a).park_port_other .a
    rw [Part.isCaller_false (by rw [Part.endChannel_port]; exact fun h => nomatch hB.symm.trans h),
      if_neg Bool.false_ne_true] at hother
    exact hother.trans (p.endChannel_port .a .b)
  have hjoined : ((p.endChannel .a).park .a).portB.state = .joined := (congrArg Port.state hparked).trans hB
  rw [Part.release_eq hs hst, if_pos rfl, Part.parkJoined_eq, if_pos hjoined]
  constructor
  · have hport := Part.park_port ((p.endChannel .a).park .a).unlink .b
    exact hport.trans (congrArg Port.parked hparked)
  · exact Part.joinLink_of_wiring (Part.park_wiring ((p.endChannel .a).park .a).unlink .b)

section
variable {p : Part} {x : PortId}

/-- What a RELEASE leaves, once the port controllers have selected what is heard (R97, R100). -/
theorem Part.released_heard (hs : p.inService = true)
    (hst : (p.port x).state = .connected ∨ (p.port x).state = .held ∨ (p.port x).state = .dialling) :
    let q := (p.release x).refreshHeard
    (q.port x).state = .parked ∧ q.chan x = none ∧ q.hold x = none ∧ (q.port x).howler = some 60000 ∧
      (q.port x).heard = .tone .howler ∧ (q.port x).announced = (p.port x).announced ∧ q.line = p.line ∧
      q.log.next = p.log.next ∧ q.sched = (p.endChannel x).sched ∧ q.mail = (p.endChannel x).mail ∧
      (x = .a → p.portB.state = .joined →
        q.portB.state = .parked ∧ q.voice.joinLink = false ∧ q.portB.howler = some 60000) := by
  intro q
  have hport := Part.released_port hs hst
  obtain ⟨hchan, hsched, hground, hmail⟩ := Part.released_rest hs hst
  have hjoined : x = .a → p.portB.state = .joined →
      (p.release x).portB = p.portB.parked ∧ (p.release x).voice.joinLink = false := by
    rintro rfl hB
    exact Part.released_joined hs hst hB
  have hq : q = (p.release x).refreshHeard := rfl
  clear_value q
  generalize p.release x = y at hport hchan hsched hground hmail hjoined hq
  subst hq
  rw [Part.refreshHeard_port, Part.heardOf_howler (by rw [hport]; rfl) (by rw [hport]; rfl), hport,
    Part.refreshHeard_chan, Part.refreshHeard_hold, Part.refreshHeard_line, Part.refreshHeard_log,
    Part.refreshHeard_sched, Part.refreshHeard_mail, hchan, hsched, hmail]
  refine ⟨rfl, rfl, (Part.hold_of_sched hsched x).trans (p.endChannel_hold x), rfl, rfl, rfl,
    Part.line_of_ground hground, Part.logNext_of_ground hground, rfl, rfl, fun hx hB => ?_⟩
  obtain ⟨hportB, hlink⟩ := hjoined hx hB
  have hB' : y.refreshHeard.portB = { y.portB with heard := y.heardOf .b } := y.refreshHeard_port .b
  rw [hB', hportB]
  exact ⟨rfl, (Part.joinLink_of_wiring y.refreshHeard_wiring).trans hlink, rfl⟩

/-- A TONE taken in DIALLING (R97, R98). -/
theorem Part.callTone_eq (hs : p.inService = true) (hst : (p.port x).state = .dialling) (k : CallTone) :
    p.callTone x k = p.modPort x fun r =>
      { r with
        lastTone := some (k, p.isCaller x)
        dialTimer :=
          if p.isCaller x then r.dialTimer
          else if k = .dial then some 30000
          else if k = .ringback then none
          else r.dialTimer } := by
  unfold Part.callTone
  rw [hs, hst]
  rfl

theorem Part.heardOf_told {y : Part} (hst : (y.port x).state = .dialling) (hs : y.inService = true)
    (hcall : y.isCaller x = false) {k : CallTone} {b : Bool} (ht : (y.port x).lastTone = some (k, b)) :
    y.heardOf x = heardTone k := by
  unfold Part.heardOf
  dsimp only
  rw [hst, hcall, hs, ht]
  rfl

theorem tone_completes {s : State} (hrun : s.part.running = true) (hs : s.part.inService = true)
    (hst : (s.part.port x).state = .dialling) (k : CallTone) :
    ∃ q : Part, Completes (.tone x k) s q ∧ (q.port x).state = .dialling ∧
      (q.port x).lastTone = some (k, s.part.isCaller x) ∧
      (q.port x).dialTimer = (if s.part.isCaller x then (s.part.port x).dialTimer
        else if k = .dial then some 30000
        else if k = .ringback then none
        else (s.part.port x).dialTimer) ∧
      (q.port x).heard = (if s.part.isCaller x then .tone .ringback else heardTone k) ∧
      (q.port (other x)).state = (s.part.port (other x)).state ∧ q.line = s.part.line ∧ q.svc = s.part.svc := by
  generalize hp : s.part = p at hrun hs hst
  have htone := Part.callTone_eq hs hst k
  generalize hf : (fun r : Port =>
    { r with
      lastTone := some (k, p.isCaller x)
      dialTimer :=
        if p.isCaller x then r.dialTimer
        else if k = CallTone.dial then some 30000
        else if k = CallTone.ringback then none
        else r.dialTimer }) = f at htone
  refine ⟨(p.modPort x f).refreshHeard, completes_of (o := execTone x k s) rfl rfl (by rw [hp]; exact hrun)
    (by rw [hp]; exact congrArg Part.refreshHeard htone), ?_⟩
  have hport : (p.modPort x f).port x = f (p.port x) := p.port_modPort x f
  have hother : (p.modPort x f).port (other x) = p.port (other x) := p.port_modPort_other x f
  have hcaller : (p.modPort x f).isCaller x = p.isCaller x := Part.isCaller_congr hother
  have hserv : (p.modPort x f).inService = true := by rw [Part.inService_modPort, hs]
  have hheard : (p.modPort x f).heardOf x = if p.isCaller x then .tone .ringback else heardTone k := by
    have hdial : ((p.modPort x f).port x).state = .dialling := by rw [hport, ← hf]; exact hst
    cases hc : p.isCaller x with
    | true => exact (Part.heardOf_dialling_caller hdial (hcaller.trans hc)).trans (if_pos rfl).symm
    | false =>
      exact (Part.heardOf_told hdial hserv (hcaller.trans hc) (by rw [hport, ← hf])).trans
        (if_neg Bool.false_ne_true).symm
  rw [Part.refreshHeard_port, Part.refreshHeard_port, hheard, hport, hother, Part.refreshHeard_line,
    Part.refreshHeard_svc, Part.modPort_line, Part.modPort_svc, ← hf]
  exact ⟨hst, rfl, rfl, rfl, rfl, rfl, rfl⟩

/-- The dial timer's expiry parks the port, withdrawn (R98). -/
theorem dialTimeout_completes {s : State} (hrun : s.part.running = true) (hst : (s.part.port x).state = .dialling)
    (ht : (s.part.port x).dialTimer.isSome = true) :
    ∃ q : Part, Completes (.dialTimeout x) s q ∧ (q.port x).state = .parked ∧ (q.port x).dialTimer = none ∧
      (q.port x).howler = some 60000 ∧ (s.part.inService = true → (q.port x).announced = false) ∧
      q.line = s.part.line := by
  have hexp : s.part.dialExpires x = (s.part.withdraw x).park x := if_pos ⟨hst, ht⟩
  refine ⟨_, completes_of (o := execDialTimeout x s) rfl rfl hrun (congrArg Part.refreshHeard hexp), ?_⟩
  rw [Part.refreshHeard_port, Part.park_port, Part.withdraw_port, Part.refreshHeard_line,
    Part.line_of_ground ((Part.park_ground _ x).trans (Part.withdraw_ground _ x))]
  refine ⟨rfl, rfl, rfl, fun hs => ?_, rfl⟩
  show ((s.part.port x).announced && !s.part.inService) = false
  rw [hs, Bool.not_true, Bool.and_false]

theorem howlerTimeout_completes {s : State} (hrun : s.part.running = true) (hst : (s.part.port x).state = .parked)
    (ht : (s.part.port x).howler.isSome = true) :
    ∃ q : Part, Completes (.howlerTimeout x) s q ∧ (q.port x).howler = none ∧ (q.port x).heard = .silence ∧
      (q.port x).state = .parked ∧ (q.gen x).kind = .silent ∧ q.line = s.part.line ∧ q.svc = s.part.svc := by
  have hport : (s.part.modPort x fun r => { r with howler := none }).port x = { s.part.port x with howler := none } :=
    s.part.port_modPort x _
  have hheard := Part.heardOf_parkedSilent (x := s.part.modPort x fun r => { r with howler := none }) (p := x)
    (by rw [hport]; exact hst) (by rw [hport])
  refine ⟨_, completes_of (o := execHowlerTimeout x s) rfl rfl hrun (if_pos ⟨hst, ht⟩), ?_⟩
  rw [Part.refreshHeard_gen_kind, Part.refreshHeard_port, hheard, hport, Part.refreshHeard_line, Part.refreshHeard_svc,
    Part.modPort_line, Part.modPort_svc]
  exact ⟨rfl, rfl, hst, rfl, rfl, rfl⟩

end

/-- Settles O48: admission, release, tones and the two timers, the caller of a local ring apart. -/
theorem callSignallingActs : Obligations.CallSignallingActs := by
  intro s x hrun p
  refine ⟨fun hs hst hcall hC => ?_, fun hs hst hcall hC => ?_, fun hs hst hcall hC => ?_, fun hs hst hcall hloc => ?_,
    fun hs hst c hc => ?_, fun hs hst hB => ?_, fun hs hst hcall k => ?_, fun hst ht _ => dialTimeout_completes hrun hst ht,
    fun hst ht => ⟨howlerTimeout_completes hrun hst ht, fun hk =>
      completes_of (o := execHowlerStep x s) rfl rfl hrun (if_pos ⟨ht, hk⟩)⟩⟩
  · obtain ⟨hstate, hchan, htimer, hsw, hheard, hline, hnext, -⟩ := p.admitted_heard x .full
    exact ⟨_, connect_completes hrun ((Part.connect_alone hs hst hcall).trans
      (p.askChannel_admitted x _ (Part.admission_full hC))), hstate, hchan, htimer, hsw, hheard, hline, hnext⟩
  · obtain ⟨hstate, hchan, htimer, hsw, hheard, hline, hnext, -, -, -, hout⟩ := p.admitted_heard x .half
    exact ⟨_, connect_completes hrun ((Part.connect_alone hs hst hcall).trans
      (p.askChannel_admitted x _ (Part.admission_half hC.symm))), hstate, hchan, htimer, hsw, hheard, hline, hnext, hout⟩
  · obtain ⟨hstate, hchan, htimer, hann, hsched, hline, hnext, -, -, hmail⟩ := p.notAdmitted_heard x
    exact ⟨_, connect_completes hrun ((Part.connect_alone hs hst hcall).trans
      (p.askChannel_refused x _ (Part.admission_none hC))), hstate.trans hst, hchan, htimer, hann, hsched, hline, hnext,
      fun hq => (congrArg (fun l => l.1.outQ) hmail).trans (offer_empty (l := p.mail) hq)⟩
  · intro called stopped
    obtain ⟨hyst, hyann, hyidle, hyring, hyground, hywiring, hymail⟩ := Part.dropRungBy_caller hs hst hcall hloc
    have hconnect := Part.connect_asks hs hst
    generalize p.dropRungBy x = y at hyst hyann hyidle hyring hyground hywiring hymail hconnect
    have hline : y.line = p.line := Part.line_of_ground hyground
    have hnext : y.log.next = p.log.next := Part.logNext_of_ground hyground
    have hsched : y.sched = p.sched := Part.sched_of_wiring hywiring
    have hcalled : p.svc.outQ = [] → y.mail.1.outQ = called := by
      intro hq
      rw [hymail]
      show _ = if (p.port x).announced then [] else [Msg.signal x .offHook]
      split
      · exact hq
      · exact offer_empty (l := p.mail) hq
    refine ⟨fun m hm => ?_, fun hC => ?_, fun k => ?_⟩
    · have hadm : y.admission = some m := by
        rw [Part.admission_congr hyground hywiring]
        rcases hm with ⟨rfl, hC⟩ | ⟨rfl, hC⟩
        · exact Part.admission_full hC
        · exact Part.admission_half hC
      obtain ⟨hstate, hchan, htimer, hsw, hheard, hqline, hqnext, hann, hother, hring, -⟩ := y.admitted_heard x m
      have hmail := y.admitted_mail x m
      rw [hyann, if_pos rfl] at hmail
      refine ⟨_, connect_completes hrun (hconnect.trans (y.askChannel_admitted x _ hadm)),
        ⟨hother.trans hyidle, hring.trans hyring, htimer, hann, hqline.trans hline, hqnext.trans hnext⟩, hstate, hheard,
        hchan, by rw [hsw, hsched, hline], fun hq => ?_⟩
      have hsent : (y.admitted x m).refreshHeard.svc.outQ = _ :=
        congrArg (fun l => l.1.outQ) ((y.admitted x m).refreshHeard_mail.trans hmail)
      rw [hsent, hline]
      exact offer_after_called (hcalled hq)
    · have hadm : y.admission = none := by
        rw [Part.admission_congr hyground hywiring]
        exact Part.admission_none hC
      obtain ⟨hstate, hchan, htimer, hann, hqsched, hqline, hqnext, hother, hring, hmail⟩ := y.notAdmitted_heard x
      refine ⟨_, connect_completes hrun (hconnect.trans (y.askChannel_refused x _ hadm)),
        ⟨hother.trans hyidle, hring.trans hyring, htimer, hann.trans hyann, hqline.trans hline, hqnext.trans hnext⟩,
        hstate.trans hyst, hchan.trans (Part.chan_of_wiring hywiring x), hqsched.trans hsched, fun hq => ?_⟩
      exact (congrArg (fun l => l.1.outQ) hmail).trans (offer_after_called (hcalled hq))
    · obtain ⟨q, hq, hstate, htone, htimer, hheard, hother, hqline, hsvc⟩ := tone_completes hrun hs hst k
      rw [show s.part.isCaller x = true from hcall, if_pos rfl] at htimer hheard
      exact ⟨q, hq, hheard, hstate, by rw [htone, show s.part.isCaller x = true from hcall], htimer,
        hother.trans (Part.isCaller_iff.1 hcall).1, hqline, hsvc⟩
  · have hst' : (p.port x).state = .connected ∨ (p.port x).state = .held ∨ (p.port x).state = .dialling :=
      hst.elim .inl fun h => .inr (.inl h)
    obtain ⟨hstate, hchan, hhold, hhowler, hheard, hann, hline, hnext, hsched, hmail, hjoined⟩ := Part.released_heard hs hst'
    refine ⟨_, completes_of (o := execRelease x s) rfl rfl hrun rfl, hstate, hchan, hhold, hhowler, hheard, hann, ?_, hline,
      hnext, hjoined, fun hq => ?_⟩
    · have hsw := p.endChannel_switches x hc
      rw [hsched, hsw, List.getLast?_concat]
    · have hsent := p.endChannel_mail x
      rw [hc] at hsent
      exact (congrArg (fun l => l.1.outQ) (hmail.trans hsent)).trans (offer_empty (l := p.mail) hq)
  · obtain ⟨hstate, hchan, -, hhowler, hheard, hann, hline, -⟩ := Part.released_heard hs (.inr (.inr hst))
    exact ⟨_, completes_of (o := execRelease x s) rfl rfl hrun rfl, hstate, hchan, hhowler, hheard, hann, hline⟩
  · obtain ⟨q, hq, hstate, -, htimer, hheard, -, hline, hsvc⟩ := tone_completes hrun hs hst k
    rw [show s.part.isCaller x = false from hcall, if_neg Bool.false_ne_true] at htimer hheard
    exact ⟨q, hq, hheard, hstate, htimer.trans (by cases k <;> rfl), hline, hsvc⟩

end Sys2Proof.Machine
end

section
/-! SUPPORT and PROOFS. Heat, thermal trips and the cooldown (O50), and a record made behind what the telephones did. -/

namespace Sys2Proof.Machine

/-- A record made of a part on the same ground, and kept in what the log says (R149). -/
theorem Part.recorded_after {s x q : Part} (hg : x.ground = s.ground) (k : FaultKind) (src : FaultSource)
    (ds : List Int) (hnext : q.log.next = (x.makeRecord k src ds).log.next)
    (hsaid : q.log.said = (x.makeRecord k src ds).log.said) :
    q.log.next = s.log.next + 1 ∧ s.recorded q 0 1 k k.severity src s.line.state ds := by
  have hxnext : x.log.next = s.log.next := Part.logNext_of_ground hg
  have hxsaid : x.log.said = s.log.said := Part.said_of_ground hg
  have hlength : x.log.records.length = s.log.records.length := by
    have hmap := congrArg List.length hxsaid
    rwa [Log.said, Log.said, List.length_map, List.length_map] at hmap
  refine ⟨?_, ?_⟩
  · rw [hnext, Part.makeRecord, Part.makeRecordAt_next, hxnext]
  · refine Part.recorded_of_said (r := x.newRecord k src x.line.state ds) (fun hroom => ?_)
      (by simp [Part.newRecord, hxnext]) (Part.time_of_ground hg) rfl rfl rfl
      (congrArg Line.state (Part.line_of_ground hg)) rfl
    rw [hsaid, Part.makeRecord, Part.makeRecordAt_said _ _ _ _ (by omega)]
    exact List.mem_append_right _ (List.mem_singleton_self _)

theorem portSource_eq (x : PortId) : portSource x = sourceOf x := by cases x <;> rfl

theorem originCode_eq (o : Origin) : ((originCode o : Nat) : Int) = if o = .line then 0 else 1 := by cases o <;> rfl

section
variable {s : State} {x : PortId} (hrun : s.part.running = true)
include hrun

theorem heatStep_completes {q : Part} (hq : s.part.heatStep x = q) : Completes (.heatStep x) s q.refreshHeard :=
  completes_of (o := execHeatStep x s) rfl rfl hrun (congrArg Part.refreshHeard hq)

theorem cooldownEnd_completes {q : Part} (hq : (s.part.cooldownEnds x).settle = q) : Completes (.cooldownEnd x) s q :=
  completes_of (o := execCooldownEnd x s) rfl rfl hrun hq

end

section
variable {p : Part} {x : PortId}

/-- A heat step of an on phase, below the trip (R109). -/
theorem Part.heatStep_warms (hacc : 100 ≤ (p.port x).ringAcc) (hcool : (p.port x).heat + 2 + (p.port x).ringLoad < 1000) :
    p.heatStep x = p.modPort x fun r =>
      { r with heat := (p.port x).heat + 2 + (p.port x).ringLoad, ringAcc := r.ringAcc - 100 } := by
  have hup : (p.port x).heatsUp = true := if_pos hacc
  unfold Part.heatStep
  dsimp only
  rw [hup, if_pos rfl, Nat.min_eq_right (by omega), if_neg (fun h => by omega)]

theorem Part.heatStep_cools (hring : (p.port x).ringAcc < 100) (hacc : 100 ≤ (p.port x).coolAcc) :
    p.heatStep x = p.modPort x fun r => { r with heat := r.heat - 3, coolAcc := r.coolAcc - 100 } := by
  have hup : (p.port x).heatsUp = false := by
    unfold Port.heatsUp
    rw [if_neg (show ¬ 100 ≤ (p.port x).ringAcc by omega), if_pos hacc]
  unfold Part.heatStep
  dsimp only
  rw [hup, if_neg Bool.false_ne_true]

theorem Part.heatStep_trips (hacc : 100 ≤ (p.port x).ringAcc) (hst : (p.port x).state = .ringing)
    (hhot : 1000 ≤ (p.port x).heat + 2 + (p.port x).ringLoad) :
    p.heatStep x = (p.modPort x fun r => { r with heat := 1000, ringAcc := r.ringAcc - 100 }).thermalTrip x := by
  have hup : (p.port x).heatsUp = true := if_pos hacc
  unfold Part.heatStep
  dsimp only
  rw [hup, if_pos rfl, Nat.min_eq_left hhot, if_pos ⟨Nat.le_refl _, hst⟩]

/-- The seconds since the last trip (R110). -/
def Part.sinceTrip (s : Part) (p : PortId) : Nat := ((s.port p).trip.map fun t => s.time - t).getD 0

/-- Whether the last trip lies within 600 s (R110). -/
def Part.tripsAgain (s : Part) (p : PortId) : Bool := (s.port p).trip.isSome && decide (s.sinceTrip p ≤ 600)

/-- The part as its ring is cut for heat, before the record (R110). -/
def Part.cutForHeat (p : PortId) (s : Part) : Part :=
  (s.endRing p true (if s.tripsAgain p then .lockedOut else .cooldown)).modPort p fun r =>
    { r with
      trip := some s.time
      enable := if s.tripsAgain p then false else r.enable
      cooldown := if s.tripsAgain p then none else some 30000 }

theorem Part.thermalTrip_eq {g : Ring} (hg : (p.port x).ring = some g) :
    p.thermalTrip x = (p.cutForHeat x).makeRecord (if p.tripsAgain x then .portLockedOut else .ringThermal) (portSource x)
      [((p.port x).ringLoad : Int), (g.cadence : Int), (originCode g.origin : Int), (p.sinceTrip x : Int)] := by
  unfold Part.thermalTrip
  dsimp only
  rw [hg]
  rfl

theorem Part.cutForHeat_port (hg : (p.port x).ring.isSome = true) :
    (p.cutForHeat x).port x = { p.port x with
      ring := none, state := if p.tripsAgain x then .lockedOut else .cooldown
      trip := some p.time, enable := if p.tripsAgain x then false else (p.port x).enable
      cooldown := if p.tripsAgain x then none else some 30000 } := by
  unfold Part.cutForHeat
  rw [Part.port_modPort, Part.endRing_port _ _ _ (by split <;> decide) hg]

theorem Part.cutForHeat_ground : (p.cutForHeat x).ground = p.ground := by
  unfold Part.cutForHeat
  rw [Part.modPort_ground, Part.endRing_ground]

/-- A thermal trip and its record (R110, R148). -/
theorem heatStep_tripped {s : State} (hrun : s.part.running = true) {g : Ring} (hacc : 100 ≤ (s.part.port x).ringAcc)
    (hst : (s.part.port x).state = .ringing) (hg : (s.part.port x).ring = some g)
    (hhot : 1000 ≤ (s.part.port x).heat + 2 + (s.part.port x).ringLoad) :
    ∃ q : Part, Completes (.heatStep x) s q ∧ (q.port x).heat = 1000 ∧ (q.port x).ring = none ∧
      (q.port x).trip = some s.part.time ∧ q.log.next = s.part.log.next + 1 ∧
      (q.port x).state = (if s.part.tripsAgain x then .lockedOut else .cooldown) ∧
      (q.port x).cooldown = (if s.part.tripsAgain x then none else some 30000) ∧
      (q.port x).enable = (if s.part.tripsAgain x then false else (s.part.port x).enable) ∧
      s.part.recorded q 0 1 (if s.part.tripsAgain x then .portLockedOut else .ringThermal)
        (FaultKind.severity (if s.part.tripsAgain x then .portLockedOut else .ringThermal)) (sourceOf x) s.part.line.state
        [((s.part.port x).ringLoad : Int), (g.cadence : Int), if g.origin = .line then 0 else 1,
          (s.part.sinceTrip x : Int)] := by
  generalize hp : s.part = p at hrun hacc hst hg hhot
  have hstep := Part.heatStep_trips hacc hst hhot
  generalize hz : (p.modPort x fun r => { r with heat := 1000, ringAcc := r.ringAcc - 100 }) = z at hstep
  have hport : z.port x = { p.port x with heat := 1000, ringAcc := (p.port x).ringAcc - 100 } := by
    subst hz
    simp
  have hground : z.ground = p.ground := by
    subst hz
    simp
  have hsince : z.sinceTrip x = p.sinceTrip x := by
    rw [Part.sinceTrip, hport, Part.time_of_ground hground]
    rfl
  have hagain : z.tripsAgain x = p.tripsAgain x := by
    rw [Part.tripsAgain, hsince, hport]
    rfl
  have hzg : (z.port x).ring = some g := by rw [hport]; exact hg
  rw [Part.thermalTrip_eq hzg, hagain, hsince, portSource_eq, originCode_eq,
    show (z.port x).ringLoad = (p.port x).ringLoad by rw [hport]] at hstep
  refine ⟨(p.heatStep x).refreshHeard, hp ▸ heatStep_completes (hp.symm ▸ hrun) rfl, ?_⟩
  have hcut := Part.cutForHeat_port (p := z) (x := x) (by rw [hzg]; rfl)
  have hcutGround : (z.cutForHeat x).ground = p.ground := Part.cutForHeat_ground.trans hground
  rw [hagain, hport, Part.time_of_ground hground] at hcut
  obtain ⟨hnext, hrecorded⟩ := Part.recorded_after (q := (p.heatStep x).refreshHeard) hcutGround
    (if p.tripsAgain x then .portLockedOut else .ringThermal) (sourceOf x)
    [((p.port x).ringLoad : Int), (g.cadence : Int), if g.origin = .line then 0 else 1, (p.sinceTrip x : Int)]
    (by rw [Part.refreshHeard_log, hstep]) (by rw [Part.refreshHeard_log, hstep])
  have hqport : ∀ {α : Type} (f : Port → α), (∀ (r : Port) h, f { r with heard := h } = f r) →
      f ((p.heatStep x).refreshHeard.port x) = f ((z.cutForHeat x).port x) := by
    intro α f hf
    rw [Part.refreshHeard_port, hf, hstep, Part.port_makeRecord]
  rw [hqport Port.heat (fun _ _ => rfl), hqport Port.ring (fun _ _ => rfl), hqport Port.trip (fun _ _ => rfl),
    hqport Port.state (fun _ _ => rfl), hqport Port.cooldown (fun _ _ => rfl), hqport Port.enable (fun _ _ => rfl), hcut]
  exact ⟨rfl, rfl, rfl, hnext, rfl, rfl, rfl, hrecorded⟩

end

/-! ### The cooldown's end -/

section
variable {p : Part} {x : PortId} (hst : (p.port x).state = .cooldown) (hcool : (p.port x).cooldown.isSome = true)
include hst hcool

theorem Part.cooldownEnds_eq :
    p.cooldownEnds x =
      let y := p.modPort x fun r => { r with cooldown := none }
      if (p.port x).enable = false then
        (y.modPort x fun r => { r with hook := .onHook, digit := none }).enterState x .disabled none
      else if (p.port x).hook = .offHook then y.toDialling x
      else y.enterState x .idle none := if_pos ⟨hst, hcool⟩

variable (hpending : p.line.startPending = false) (hrelay : p.relayTarget = p.supply.relay)
include hpending hrelay

theorem Part.cooled_idle (henable : (p.port x).enable = true) (hhook : (p.port x).hook = .onHook) :
    let q := (p.cooldownEnds x).settle
    (q.port x).state = .idle ∧ (q.port x).cooldown = none ∧ q.line = p.line := by
  intro q
  have hends := Part.cooldownEnds_eq hst hcool
  dsimp only at hends
  rw [henable, if_neg (by decide), hhook, if_neg (by decide)] at hends
  generalize hy : (p.modPort x fun r => { r with cooldown := none }).enterState x .idle none = y at hends
  have hport : y.port x = { p.port x with cooldown := none, state := .idle } := by subst hy; simp
  have hground : y.ground = p.ground := by subst hy; simp
  have hfixed : y.fixed = p.fixed := by
    subst hy
    rw [Part.enterState_fixed, Part.modPort_fixed _ x rfl]
  have hwatch : p.Watches y := by subst hy; exact ((Part.Watches_refl p).modPort x _).enterState x _ _
  have hq : q = y.refreshHeard := by
    show (p.cooldownEnds x).settle = _
    rw [hends, Part.settle_heard hwatch hground (Part.hook_of_fixed hfixed .a) hpending hrelay]
  rw [hq, Part.refreshHeard_port, hport, Part.refreshHeard_line]
  exact ⟨rfl, rfl, Part.line_of_ground hground⟩

theorem Part.cooled_disabled (henable : (p.port x).enable = false) :
    let q := (p.cooldownEnds x).settle
    (q.port x).state = .disabled ∧ (q.port x).cooldown = none ∧ (q.port x).enable = false ∧
      (q.port x).heat = (p.port x).heat ∧ (q.port x).trip = (p.port x).trip ∧ q.line = p.line ∧ q.svc = p.svc ∧
      q.log = p.log := by
  intro q
  have hends := Part.cooldownEnds_eq hst hcool
  dsimp only at hends
  rw [henable, if_pos rfl] at hends
  generalize hy : ((p.modPort x fun r => { r with cooldown := none }).modPort x fun r =>
    { r with hook := .onHook, digit := none }).enterState x .disabled none = y at hends
  have hport : y.port x = { p.port x with cooldown := none, hook := .onHook, digit := none, state := .disabled } := by
    subst hy; simp
  have hother : y.port (other x) = p.port (other x) := by subst hy; simp
  have hground : y.ground = p.ground := by subst hy; simp
  have hmail : y.mail = p.mail := by subst hy; simp
  have hwatch : p.Watches y := by
    subst hy
    exact (((Part.Watches_refl p).modPort x _).modPort x _).enterState x _ _
  have hq : q = ({ y with supply := { y.supply with relay := y.relayTarget } } : Part).refreshHeard := by
    show (p.cooldownEnds x).settle = _
    rw [hends, Part.settle_resting (p := x) hwatch hground hpending hrelay (by rw [hport])
      (by rw [hport]; exact (if_neg (by rw [henable]; decide)).symm) hother]
  have hline : y.line = p.line := Part.line_of_ground hground
  rw [hq, Part.refreshHeard_port, Part.port_withSupply y x, hport, Part.refreshHeard_line, Part.refreshHeard_svc,
    Part.refreshHeard_log]
  exact ⟨rfl, rfl, henable, rfl, rfl, hline, Part.svc_of_mail hmail, Part.log_of_mail hmail⟩

theorem Part.cooled_dialling (henable : (p.port x).enable = true) (hhook : (p.port x).hook = .offHook) :
    let q := (p.cooldownEnds x).settle
    (q.port x).state = .dialling ∧ (q.port x).cooldown = none ∧ (q.port x).hook = .offHook ∧
      (q.port x).dialTimer = some 30000 ∧ (q.port x).heat = (p.port x).heat ∧ (q.port x).trip = (p.port x).trip ∧
      q.line = p.line ∧
      (p.inService = false → (q.port x).announced = (p.port x).announced ∧ q.svc = p.svc ∧ q.log = p.log) ∧
      (p.inService = true → (q.port x).announced = true ∧ (p.svc.outQ = [] → q.svc.outQ = [.signal x .offHook])) := by
  intro q
  have hends := Part.cooldownEnds_eq hst hcool
  dsimp only at hends
  rw [henable, if_neg (by decide), if_pos hhook] at hends
  generalize hy : (p.modPort x fun r => { r with cooldown := none }).toDialling x = y at hends
  have hport : y.port x = { p.port x with
      cooldown := none, dialTimer := some 30000, digit := none, lastTone := none, howler := none, state := .dialling
      announced := p.inService || (p.port x).announced } := by
    subst hy
    simp [Part.toDialling_port]
  have hground : y.ground = p.ground := by subst hy; simp
  have hmail : y.mail = if p.inService then offer (.signal x .offHook) p.mail else p.mail := by
    subst hy
    simp [Part.toDialling_mail]
  have hfixed : y.fixed = p.fixed := by
    subst hy
    rw [Part.toDialling_fixed, Part.modPort_fixed _ x rfl]
  have hwatch : p.Watches y := by subst hy; exact ((Part.Watches_refl p).modPort x _).toDialling x
  have hq : q = y.refreshHeard := by
    show (p.cooldownEnds x).settle = _
    rw [hends, Part.settle_heard hwatch hground (Part.hook_of_fixed hfixed .a) hpending hrelay]
  rw [hq, Part.refreshHeard_port, hport, Part.refreshHeard_line, Part.refreshHeard_svc, Part.refreshHeard_log]
  refine ⟨rfl, rfl, hhook, rfl, rfl, rfl, Part.line_of_ground hground, fun hs => ?_, fun hs => ?_⟩
  · rw [hs] at hmail ⊢
    exact ⟨rfl, Part.svc_of_mail hmail, Part.log_of_mail hmail⟩
  · rw [hs, if_pos rfl] at hmail
    rw [hs]
    exact ⟨rfl, fun hq => (congrArg (fun l => l.1.outQ) hmail).trans (offer_empty (l := p.mail) hq)⟩

end

/-- Settles O50: the heat step by its accumulator and the cut at 1000, and the three ends of the cooldown. -/
theorem heatStepsAndCooldown : Obligations.HeatStepsAndCooldown := by
  intro s x hrun p r
  refine ⟨fun hacc hst hcool => ?_, fun hring hacc => ?_, fun g hacc hst hg hhot => ?_,
    fun hst hcool henable hhook hpending hrelay =>
      ⟨_, cooldownEnd_completes hrun rfl, Part.cooled_idle hst hcool hpending hrelay henable hhook⟩,
    fun hst hcool hpending hrelay =>
      ⟨fun henable => ⟨_, cooldownEnd_completes hrun rfl, Part.cooled_disabled hst hcool hpending hrelay henable⟩,
        fun henable hhook =>
          ⟨_, cooldownEnd_completes hrun rfl, Part.cooled_dialling hst hcool hpending hrelay henable hhook⟩⟩⟩
  · refine ⟨_, heatStep_completes hrun (Part.heatStep_warms hacc hcool), ?_⟩
    rw [Part.refreshHeard_port, Part.port_modPort, Part.refreshHeard_line, Part.refreshHeard_log, Part.modPort_line,
      Part.modPort_log]
    exact ⟨rfl, rfl, rfl, hst, rfl, rfl⟩
  · refine ⟨_, heatStep_completes hrun (Part.heatStep_cools hring hacc), ?_⟩
    rw [Part.refreshHeard_port, Part.port_modPort, Part.refreshHeard_line, Part.refreshHeard_log, Part.modPort_line,
      Part.modPort_log]
    exact ⟨rfl, rfl, rfl, rfl, rfl, rfl⟩
  · obtain ⟨q, hq, hheat, hring, htrip, hnext, hstate, hcooldown, henable, hrecorded⟩ :=
      heatStep_tripped hrun hacc hst hg hhot
    refine ⟨q, hq, hheat, hring, htrip, hnext, ?_⟩
    intro details
    refine ⟨fun hnone => ?_, fun t0 ht0 => ?_⟩
    · have hsince : p.sinceTrip x = 0 := by rw [Part.sinceTrip, show (p.port x).trip = none from hnone]; rfl
      have hagain : p.tripsAgain x = false := by rw [Part.tripsAgain, show (p.port x).trip = none from hnone]; rfl
      rw [hagain] at hstate hcooldown henable hrecorded
      rw [hsince] at hrecorded
      exact ⟨hrecorded, hstate, hcooldown, henable⟩
    · have hsince : p.sinceTrip x = p.time - t0 := by rw [Part.sinceTrip, show (p.port x).trip = some t0 from ht0]; rfl
      have hagain : p.tripsAgain x = decide (p.time - t0 ≤ 600) := by
        rw [Part.tripsAgain, hsince, show (p.port x).trip = some t0 from ht0]
        rfl
      rw [hagain] at hstate hcooldown henable hrecorded
      rw [hsince] at hrecorded
      refine ⟨fun hsoon => ?_, fun hlate => ?_⟩
      · rw [decide_eq_true hsoon] at hstate hcooldown henable hrecorded
        exact ⟨hrecorded, hstate, hcooldown, henable⟩
      · rw [decide_eq_false (by omega)] at hstate hcooldown henable hrecorded
        exact ⟨hrecorded, hstate, hcooldown, henable⟩

end Sys2Proof.Machine
end

section
/-! SUPPORT and PROOFS. Rings: how they start, stop, run out, are tripped and are cut for overcurrent (O49). -/

namespace Sys2Proof.Machine

theorem Part.modPort_congr (s : Part) (p : PortId) {f g : Port → Port} (h : f (s.port p) = g (s.port p)) :
    s.modPort p f = s.modPort p g := by
  cases p
  · exact congrArg (fun r => ({ s with portA := r } : Part)) h
  · exact congrArg (fun r => ({ s with portB := r } : Part)) h

theorem cadencePhases_other {n : Nat} (h : 3 < n) : cadencePhases n = cadencePhases 0 := by
  match n, h with
  | _ + 4, _ => rfl

theorem cadencePhases_cadenceOf (c : Nat) : cadencePhases (cadenceOf c) = cadencePhases c := by
  unfold cadenceOf
  split
  · rfl
  · exact (cadencePhases_other (by omega)).symm

/-! ### A RING -/

section
variable {p : Part} {x : PortId} (hs : p.inService = true)
include hs

theorem Part.takeRing_idle (c : Nat) (hst : (p.port x).state = .idle) (ht : p.underTest x = false) :
    p.takeRing x c = if p.budgetAllows x then p.startRing x (cadenceOf c) .line none
      else (p.postRingLimited x).signal x .ringLimited := by
  unfold Part.takeRing
  dsimp only
  have hnot : ¬ ((p.port x).state = .ringing ∧ (p.port x).ring.map Ring.origin = some Origin.line) := by
    rw [hst]
    exact fun h => nomatch h.1
  rw [hs, if_neg (by decide), if_neg hnot, if_pos ⟨hst, ht⟩]

theorem Part.takeRing_fromLine (c : Nat)
    (h : (p.port x).state = .ringing ∧ (p.port x).ring.map Ring.origin = some Origin.line) : p.takeRing x c = p := by
  unfold Part.takeRing
  dsimp only
  rw [hs, if_neg (by decide), if_pos h]

theorem Part.takeRing_busy (c : Nat)
    (h : ¬ ((p.port x).state = .ringing ∧ (p.port x).ring.map Ring.origin = some Origin.line))
    (hst : (p.port x).state ≠ .idle) :
    p.takeRing x c = if (p.port x).hook = .offHook then p.sayOffHook x else p.signal x .ringLimited := by
  unfold Part.takeRing
  dsimp only
  rw [hs, if_neg (by decide), if_neg h, if_neg (fun k => hst k.1)]

end

theorem ring_completes {s : State} {x : PortId} {c : Nat} (hrun : s.part.running = true) {q : Part}
    (hq : s.part.takeRing x c = q) : Completes (.ring x c) s q.refreshHeard :=
  completes_of (o := execRing x c s) rfl rfl hrun (congrArg Part.refreshHeard hq)

/-- What a RING from the line leaves, once it rings (R104). -/
theorem Part.startRing_line (p : Part) (x : PortId) (c : Nat) :
    let q := (p.startRing x (cadenceOf c) .line none).refreshHeard
    (q.port x).state = .ringing ∧
      (q.port x).ring = some ⟨if c ≤ 3 then c else 0, 0, (cadencePhases c).headD 0, .line, none, none⟩ ∧
      (q.port (other x)).state = (p.port (other x)).state ∧ (q.port (other x)).ring = (p.port (other x)).ring ∧
      q.line = p.line ∧ q.svc = p.svc ∧ q.log = p.log := by
  have hport := p.startRing_port x (cadenceOf c) .line (x := none) nofun
  have hother := p.startRing_port_other x (cadenceOf c) .line (x := none) nofun
  have hline : (p.startRing x (cadenceOf c) .line none).line = p.line :=
    Part.line_of_ground (p.startRing_ground x (cadenceOf c) .line none)
  have hmail := p.startRing_mail x (cadenceOf c) .line none
  rw [if_neg nofun] at hother
  rw [cadencePhases_cadenceOf] at hport
  intro q
  have hq : q = (p.startRing x (cadenceOf c) .line none).refreshHeard := rfl
  clear_value q
  generalize p.startRing x (cadenceOf c) .line none = y at hport hother hline hmail hq
  subst hq
  rw [Part.refreshHeard_port, Part.refreshHeard_port, hport, hother, Part.refreshHeard_line, Part.refreshHeard_svc,
    Part.refreshHeard_log]
  exact ⟨rfl, rfl, rfl, rfl, hline, Part.svc_of_mail hmail, Part.log_of_mail hmail⟩

/-- The states and rings of both ports are as they were once the port controllers have selected what is heard. -/
theorem Part.refreshHeard_ports (s : Part) (y : PortId) :
    (s.refreshHeard.port y).state = (s.port y).state ∧ (s.refreshHeard.port y).ring = (s.port y).ring ∧
      (s.refreshHeard.port y).hook = (s.port y).hook ∧ (s.refreshHeard.port y).announced = (s.port y).announced := by
  rw [Part.refreshHeard_port]
  exact ⟨rfl, rfl, rfl, rfl⟩

theorem Part.sayOffHook_calls (s : Part) (x y : PortId) :
    ((s.sayOffHook x).port y).state = (s.port y).state ∧ ((s.sayOffHook x).port y).ring = (s.port y).ring ∧
      ((s.sayOffHook x).port y).hook = (s.port y).hook := by
  rcases eq_or_other x y with rfl | rfl
  · rw [Part.sayOffHook_port]
    exact ⟨rfl, rfl, rfl⟩
  · rw [Part.sayOffHook_port_other]
    exact ⟨rfl, rfl, rfl⟩

/-- A RING on a port that is neither IDLE nor ringing from the line is answered alone (R104). -/
theorem ring_answered {s : State} {x : PortId} (c : Nat) (hrun : s.part.running = true) (hs : s.part.inService = true)
    (hst : (s.part.port x).state ≠ .idle) :
    let p := s.part
    let fromLine : Prop := (p.port x).state = .ringing ∧ (p.port x).ring.map Ring.origin = some .line
    ∃ q : Part, Completes (.ring x c) s q ∧
      (∀ y : PortId, (q.port y).state = (p.port y).state ∧ (q.port y).ring = (p.port y).ring ∧
        (q.port y).hook = (p.port y).hook) ∧
      q.line = p.line ∧ q.link = p.link ∧ q.supply = p.supply ∧
      (fromLine → q.svc = p.svc ∧ q.log = p.log ∧ (q.port x).announced = (p.port x).announced) ∧
      (¬ fromLine → (p.port x).hook = .offHook →
        (q.port x).announced = true ∧ (p.svc.outQ = [] → q.svc.outQ = [.signal x .offHook])) ∧
      (¬ fromLine → (p.port x).hook = .onHook → (q.port x).announced = (p.port x).announced ∧
        (p.svc.outQ = [] → q.svc.outQ = [.signal x .ringLimited])) := by
  intro p fromLine
  by_cases hfrom : fromLine
  · refine ⟨_, ring_completes hrun (Part.takeRing_fromLine hs c hfrom), fun y => ?_, by simp [p], by simp [p], by simp [p],
      fun _ => ⟨by simp [p], by simp [p], (s.part.refreshHeard_ports x).2.2.2⟩, fun h => absurd hfrom h, fun h => absurd hfrom h⟩
    obtain ⟨hstate, hring, hhook, -⟩ := s.part.refreshHeard_ports y
    exact ⟨hstate, hring, hhook⟩
  · have htakes := Part.takeRing_busy hs c hfrom hst
    cases hhook : (p.port x).hook with
    | offHook =>
      rw [hhook, if_pos rfl] at htakes
      refine ⟨_, ring_completes hrun htakes, fun y => ?_, ?_, ?_, ?_, fun h => absurd h hfrom, fun _ _ => ⟨?_, fun hq => ?_⟩,
        nofun⟩
      · obtain ⟨hstate, hring, hhooked, -⟩ := (p.sayOffHook x).refreshHeard_ports y
        obtain ⟨hstate', hring', hhooked'⟩ := p.sayOffHook_calls x y
        exact ⟨hstate.trans hstate', hring.trans hring', hhooked.trans hhooked'⟩
      · simp [p, Part.sayOffHook]
      · simp [p, Part.sayOffHook]
      · simp [p, Part.sayOffHook]
      · rw [((p.sayOffHook x).refreshHeard_ports x).2.2.2, Part.sayOffHook_port]
      · exact (congrArg (fun l => l.1.outQ) ((Part.refreshHeard_mail _).trans (p.sayOffHook_mail x))).trans
          (offer_empty (l := p.mail) hq)
    | onHook =>
      rw [hhook, if_neg nofun] at htakes
      refine ⟨_, ring_completes hrun htakes, fun y => ?_, ?_, ?_, ?_, fun h => absurd h hfrom, nofun,
        fun _ _ => ⟨?_, fun hq => ?_⟩⟩
      · obtain ⟨hstate, hring, hhooked, -⟩ := (p.signal x .ringLimited).refreshHeard_ports y
        rw [Part.port_signal] at hstate hring hhooked
        exact ⟨hstate, hring, hhooked⟩
      · simp [p]
      · simp [p]
      · simp [p]
      · rw [((p.signal x .ringLimited).refreshHeard_ports x).2.2.2, Part.port_signal]
      · exact (congrArg (fun l => l.1.outQ) ((Part.refreshHeard_mail _).trans (p.signal_mail x _))).trans
          (offer_empty (l := p.mail) hq)

/-! ### A ring that stops or runs out -/

theorem Part.callerBack_gen {s : Part} {y : PortId} (hst : (s.port y).state = .dialling) {k : CallTone}
    (ht : (s.port y).lastTone = some (k, true)) : (s.callerBack y).gen y = .silent := by
  have hsay (z : Part) : (z.sayOffHook y).gen y = z.gen y := by
    unfold Part.sayOffHook
    rw [Part.gen_modPort]
    cases y <;> simp [Part.gen, Part.signal_voice]
  have hrelease : ((s.modPort y fun r => { r with dialTimer := some 30000 }).releaseTone y).gen y = .silent := by
    unfold Part.releaseTone
    rw [Part.port_modPort, ht]
    exact Part.gen_setGen _ y _
  unfold Part.callerBack
  rw [if_pos hst]
  dsimp only
  split
  · rw [hsay, hrelease]
  · exact hrelease

theorem Port.ringsFrom_of {r : Port} {g : Ring} {o : Origin} (hst : r.state = .ringing) (hg : r.ring = some g)
    (ho : g.origin = o) : r.ringsFrom o = true := by
  unfold Port.ringsFrom
  rw [hst, hg]
  show (PortState.ringing == .ringing && g.origin == o) = true
  rw [ho]
  cases o <;> rfl

section
variable {p : Part} {x : PortId} {g : Ring} (hg : (p.port x).ring = some g)
include hg

/-- What the end of a ring leaves of its port (R107). -/
theorem Part.rungOut :
    let q := (p.endRing x false .idle).refreshHeard
    (q.port x).state = .idle ∧ (q.port x).ring = none ∧ q.line = p.line := by
  intro q
  rw [Part.refreshHeard_port, Part.endRing_port _ _ _ (by decide) (by rw [hg]; rfl), Part.refreshHeard_line]
  exact ⟨rfl, rfl, Part.line_of_ground (p.endRing_ground x false .idle)⟩

end

theorem Generator.silent_select_pos (k : ToneKind) : (Generator.silent.select k).pos = 0 := by
  unfold Generator.select
  split <;> rfl

theorem Port.toneReleased_tone (r : Port) : r.toneReleased.lastTone.map Prod.fst = r.lastTone.map Prod.fst := by
  unfold Port.toneReleased
  split
  · rename_i h
    rw [h]
    rfl
  · rfl

/-- What a port in DIALLING in service hears that is no caller (R97). -/
theorem Part.heardOf_dialling_in {x : Part} {p : PortId} (hst : (x.port p).state = .dialling) (hs : x.inService = true)
    (hcall : x.isCaller p = false) :
    x.heardOf p = (((x.port p).lastTone.map Prod.fst).map heardTone).getD .silence := by
  unfold Part.heardOf
  dsimp only
  rw [hst, hcall, hs]
  cases (x.port p).lastTone <;> rfl

/-- A local ring that runs out with its caller in DIALLING (R96, R107, R130). -/
theorem Part.rungOut_caller {p : Part} {x : PortId} {g : Ring} (hg : (p.port x).ring = some g) (ho : g.origin = .loc) (hpartner : g.partner = some (other x))
    (hdial : (p.port (other x)).state = .dialling) :
    let y := other x
    let tone := (p.port y).lastTone
    let q := (p.endRing x false .idle).refreshHeard
    (q.port y).state = .dialling ∧ (q.port y).dialTimer = some 30000 ∧ q.sched = p.sched ∧
      (p.inService = true →
        (q.port y).heard = (match tone with
          | some k => heardTone k.1
          | none => .silence) ∧
        (∀ k, tone = some (k, true) → (q.gen y).pos = 0) ∧
        (q.port y).announced = true ∧
        (p.svc.outQ = [] → q.svc.outQ = if (p.port y).announced then [] else [.signal y .offHook])) ∧
      (p.inService = false →
        (q.port y).heard = .tone .noService ∧ (q.port y).announced = (p.port y).announced ∧ q.svc = p.svc) := by
  intro y tone q
  have hport : (p.endRing x false .idle).port x = { p.port x with ring := none, state := .idle } :=
    Part.endRing_port _ _ _ (by decide) (by rw [hg]; rfl)
  have hother : (p.endRing x false .idle).port y =
      { Port.toneReleased { p.port y with dialTimer := some 30000 } with
        announced := p.inService || (p.port y).announced } := by
    show (p.endRing x false .idle).port (other x) = _
    rw [Part.endRing_port_other p x false .idle hg, if_pos ⟨ho, hpartner⟩]
    exact if_pos hdial
  have hmail : (p.endRing x false .idle).mail =
      if p.inService = true ∧ (p.port y).announced = false then offer (.signal y .offHook) p.mail else p.mail := by
    rw [p.endRing_mail_caller x false .idle hg ho hpartner, Part.callerBack_mail]
    exact if_congr (and_iff_right hdial) rfl rfl
  have hserv : (p.endRing x false .idle).inService = p.inService :=
    Part.inService_of_ground (p.endRing_ground x false .idle)
  have hgen : ∀ k, tone = some (k, true) → (p.endRing x false .idle).gen y = .silent := by
    intro k hk
    unfold Part.endRing
    rw [hg]
    dsimp only
    rw [ho, hpartner]
    exact Part.callerBack_gen (by rw [Part.enterState_port_other, Part.port_modPort_other]; exact hdial)
      (by rw [Part.enterState_port_other, Part.port_modPort_other]; exact hk)
  have hsched : (p.endRing x false .idle).sched = p.sched := Part.sched_of_wiring (p.endRing_wiring x false .idle)
  have hq : q = (p.endRing x false .idle).refreshHeard := rfl
  clear_value q
  generalize p.endRing x false .idle = z at hport hother hmail hserv hgen hsched hq
  subst hq
  have hstate : (z.port y).state = .dialling := by
    rw [hother, Port.toneReleased_frame]
    exact hdial
  have hcall : z.isCaller y = false := by
    refine Part.isCaller_false ?_
    show (z.port (other (other x))).state ≠ _
    rw [other_other, hport]
    nofun
  have htone : (z.port y).lastTone.map Prod.fst = tone.map Prod.fst := by
    rw [hother]
    exact Port.toneReleased_tone { p.port y with dialTimer := some 30000 }
  rw [Part.refreshHeard_port, Part.refreshHeard_gen, Part.refreshHeard_sched, Part.refreshHeard_svc]
  refine ⟨hstate, ?_, hsched, fun hs => ⟨?_, fun k hk => ?_, ?_, fun hq => ?_⟩, fun hs => ⟨?_, ?_, ?_⟩⟩
  · show (z.port y).dialTimer = _
    rw [hother, Port.toneReleased_frame]
  · show z.heardOf y = _
    rw [Part.heardOf_dialling_in hstate (hserv.trans hs) hcall, htone]
    cases tone <;> rfl
  · rw [hgen k hk, Generator.silent_select_pos]
  · show (z.port y).announced = true
    rw [hother, hs]
    rfl
  · have hsent := congrArg (fun l => l.1.outQ) hmail
    refine Eq.trans hsent ?_
    cases hann : (p.port y).announced with
    | true =>
      rw [if_neg (fun h => nomatch h.2)]
      exact hq
    | false =>
      rw [if_pos ⟨hs, rfl⟩]
      exact offer_empty (l := p.mail) hq
  · exact Part.heardOf_dialling_out hstate hcall (hserv.trans hs)
  · show (z.port y).announced = _
    rw [hother, hs]
    rfl
  · rw [hs, if_neg (fun h => nomatch h.1)] at hmail
    exact Part.svc_of_mail hmail

/-! ### The ring trip -/

/-- The port as the trip of its ring finds it off-hook (R106). -/
def Part.answers (p : PortId) (s : Part) : Part :=
  (s.declareHook p .offHook).modPort p fun r => { r with ring := none, dialTimer := none, digit := none, lastTone := none }

section
variable (s : Part) (p : PortId)

theorem Part.answers_port :
    (s.answers p).port p = { s.port p with
      hook := .offHook, ring := none, dialTimer := none, digit := none, lastTone := none } := by
  simp [Part.answers, Part.declareHook]

@[simp] theorem Part.answers_port_other : (s.answers p).port (other p) = s.port (other p) := by
  simp [Part.answers, Part.declareHook]

@[simp] theorem Part.answers_ground : (s.answers p).ground = s.ground := by simp [Part.answers]
@[simp] theorem Part.answers_wiring : (s.answers p).wiring = s.wiring := by simp [Part.answers, Part.declareHook]
@[simp] theorem Part.answers_mail : (s.answers p).mail = s.mail := by simp [Part.answers, Part.declareHook]

theorem Part.answers_watches : s.Watches (s.answers p) := by
  have hdeclared : s.Watches (s.declareHook p .offHook) :=
    ((Part.Watches_refl s).modPort p fun r => { r with hook := .offHook }).same rfl
  exact hdeclared.modPort p _

end

section
variable {p : Part} {x : PortId} {g : Ring} (hg : (p.port x).ring = some g)
include hg

theorem Part.ringTrip_line (ho : g.origin = .line) (hs : p.inService = true) :
    p.ringTrip x = ((p.answers x).sayOffHook x).askChannel x fun q =>
      (q.enterState x .dialling none).signal x .capacityHold := by
  have hserv : (p.answers x).inService = true := (Part.inService_of_ground (p.answers_ground x)).trans hs
  unfold Part.ringTrip
  dsimp only
  rw [hg]
  dsimp only
  rw [ho]
  exact if_pos hserv

theorem Part.ringTrip_alone (ho : g.origin = .loc) (hpartner : g.partner = none) :
    p.ringTrip x = (p.answers x).toDialling x := by
  unfold Part.ringTrip
  dsimp only
  rw [hg]
  dsimp only
  rw [ho, hpartner]
  rfl

theorem Part.ringTrip_called (ho : g.origin = .loc) (hpartner : g.partner = some (other x))
    (hdial : (p.port (other x)).state = .dialling) :
    p.ringTrip x = (((((p.answers x).enterState x .intercom none).withdraw x).modPort (other x) fun r =>
      { r with dialTimer := none }).enterState (other x) .intercom none).withdraw (other x) := by
  have hst : ((p.answers x).port (other x)).state = .dialling := (congrArg Port.state (p.answers_port_other x)).trans hdial
  unfold Part.ringTrip
  dsimp only
  rw [hg]
  dsimp only
  rw [ho, hpartner]
  exact if_pos hst

end

/-- A ring trip with no test running and the relay at PART settles no more than what is heard. -/
theorem ringTrip_completes {s : State} {x : PortId} {q : Part} (hrun : s.part.running = true)
    (hst : (s.part.port x).state = .ringing) (hdiag : s.part.diag.running = none)
    (hpending : s.part.line.startPending = false) (hrelay : s.part.supply.relay = true)
    (hreq : s.part.line.request = .part) (hshut : s.part.supply.state ≠ .shutdown) (hq : s.part.ringTrip x = q)
    (hw : s.part.Watches q) (hground : q.ground = s.part.ground) : Completes (.ringTrip x) s q.refreshHeard := by
  have hnone : ∀ y, s.part.underTest y = false := fun y => by rw [Part.underTest, hdiag]
  have hqdiag : q.diag.running = none := by rw [hw.diag_eq hnone, hdiag]
  have haborts : q.offHookAborts x = q := by
    unfold Part.offHookAborts
    rw [Part.underTest, Part.loopTesting_of_none hqdiag, hqdiag]
    rfl
  refine completes_of (o := execRingTrip x s) rfl rfl hrun ?_
  rw [if_pos hst, hq, haborts, Part.settle_atPart hground hpending hreq hrelay hshut]

section
variable {p : Part} {x : PortId}

/-- A line ring tripped in service: announced, and admission asked for (R106, R137). -/
theorem Part.tripped_announced (p : Part) (x : PortId) :
    let y := (p.answers x).sayOffHook x
    (y.port x) = { p.port x with
      hook := .offHook, ring := none, dialTimer := none, digit := none, lastTone := none, announced := true } ∧
      y.ground = p.ground ∧ y.wiring = p.wiring ∧ y.mail = offer (.signal x .offHook) p.mail ∧ p.Watches y := by
  intro y
  refine ⟨?_, by simp [y], by simp [y], by simp [y], (p.answers_watches x).sayOffHook x⟩
  show ((p.answers x).sayOffHook x).port x = _
  rw [Part.sayOffHook_port, Part.answers_port]

/-- A withdrawal with room in the queue leaves the log, and the queue longer by at most one message (R21). -/
theorem Part.withdraw_room (s : Part) (p : PortId) (h : s.svc.outQ.length < 16) :
    (s.withdraw p).log = s.log ∧ (s.withdraw p).svc.outQ.length ≤ s.svc.outQ.length + 1 := by
  have hmail := s.withdraw_mail p
  split at hmail
  · rw [offer_room (l := s.mail) h] at hmail
    have hsvc : (s.withdraw p).svc = { s.svc with outQ := insertMsg (.signal p .onHook) s.svc.outQ } :=
      congrArg Prod.fst hmail
    have hlog : (s.withdraw p).log = s.log := congrArg Prod.snd hmail
    rw [hsvc, insertMsg_length]
    exact ⟨hlog, Nat.le_refl _⟩
  · rw [Part.svc_of_mail hmail, Part.log_of_mail hmail]
    exact ⟨rfl, Nat.le_succ _⟩

/-- Two ports in the same local call hear each other (R112). -/
theorem Part.heardOf_intercom {y : Part} {z : PortId} (h : (y.port z).state = .intercom) : y.heardOf z = .otherPort := by
  unfold Part.heardOf
  dsimp only
  rw [h]

/-- The trip of a local ring whose caller still dials (R112). -/
theorem Part.intercom_fields (p : Part) (x : PortId) :
    let q := (((((p.answers x).enterState x .intercom none).withdraw x).modPort (other x) fun r =>
      { r with dialTimer := none }).enterState (other x) .intercom none).withdraw (other x)
    q.port x = { p.port x with
        hook := .offHook, ring := none, dialTimer := none, digit := none, lastTone := none, state := .intercom
        announced := (p.port x).announced && !p.inService } ∧
      q.port (other x) = { p.port (other x) with
        dialTimer := none, state := .intercom, announced := (p.port (other x)).announced && !p.inService } ∧
      q.ground = p.ground ∧ q.wiring = p.wiring ∧ p.Watches q ∧ (p.svc.outQ.length < 15 → q.log = p.log) := by
  intro q
  generalize hu : ((p.answers x).enterState x .intercom none).withdraw x = u
  have huport : u.port x = { p.port x with
      hook := .offHook, ring := none, dialTimer := none, digit := none, lastTone := none, state := .intercom
      announced := (p.port x).announced && !p.inService } := by
    have hserv : (p.answers x).inService = p.inService := Part.inService_of_ground (p.answers_ground x)
    subst hu
    rw [Part.withdraw_port, Part.enterState_port, Part.answers_port, Part.inService_enterState, hserv]
  have huother : u.port (other x) = p.port (other x) := by subst hu; simp
  have huground : u.ground = p.ground := by subst hu; simp
  have huwiring : u.wiring = p.wiring := by subst hu; simp
  have huwatch : p.Watches u := by
    subst hu
    exact ((p.answers_watches x).enterState x _ _).withdraw x
  have huroom : p.svc.outQ.length < 16 → u.log = p.log ∧ u.svc.outQ.length ≤ p.svc.outQ.length + 1 := by
    intro hroom
    have hmail : ((p.answers x).enterState x .intercom none).mail = p.mail := by simp
    have hsvc := Part.svc_of_mail hmail
    obtain ⟨hlog, hlength⟩ := ((p.answers x).enterState x .intercom none).withdraw_room x (by rw [hsvc]; exact hroom)
    rw [hu, hsvc] at hlength
    rw [hu, Part.log_of_mail hmail] at hlog
    exact ⟨hlog, hlength⟩
  generalize hv : (u.modPort (other x) fun r => { r with dialTimer := none }).enterState (other x) .intercom none = v
  have hvx : v.port x = u.port x := by subst hv; simp
  have hvo : v.port (other x) = { p.port (other x) with dialTimer := none, state := .intercom } := by
    subst hv
    simp [huother]
  have hvserv : v.inService = p.inService := by
    subst hv
    rw [Part.inService_enterState, Part.inService_modPort, Part.inService_of_ground huground]
  have hvmail : v.mail = u.mail := by subst hv; simp
  have hvwatch : p.Watches v := by subst hv; exact (huwatch.modPort _ _).enterState _ _ _
  have hvground : v.ground = p.ground := by subst hv; simp [huground]
  have hvwiring : v.wiring = p.wiring := by subst hv; simp [huwiring]
  have hq : q = v.withdraw (other x) := by subst hv hu; rfl
  clear_value q
  subst hq
  refine ⟨?_, ?_, (v.withdraw_ground _).trans hvground, (v.withdraw_wiring _).trans hvwiring, hvwatch.withdraw _,
    fun hroom => ?_⟩
  · rw [Part.withdraw_port_by_other, hvx, huport]
  · rw [Part.withdraw_port, hvo, hvserv]
  · obtain ⟨hulog, hulength⟩ := huroom (by omega)
    obtain ⟨hlog, -⟩ := v.withdraw_room (other x) (by rw [Part.svc_of_mail hvmail]; omega)
    rw [hlog, Part.log_of_mail hvmail, hulog]

/-! ### Overcurrent -/

theorem Port.driving_of {r : Port} {g : Ring} (hst : r.state = .ringing) (hg : r.ring = some g) (hphase : g.phase % 2 = 0) :
    r.driving = true := by
  unfold Port.driving
  rw [hst, hg]
  show (PortState.ringing == .ringing && (g.phase % 2 == 0)) = true
  rw [hphase]
  rfl

/-- Overcurrent in an on phase: the port is tripped and disabled, with one record (R108, R148). -/
theorem overcurrent_completes {s : State} (hrun : s.part.running = true) {g : Ring} (hst : (s.part.port x).state = .ringing)
    (hg : (s.part.port x).ring = some g) (hphase : g.phase % 2 = 0) :
    let p := s.part
    ∃ q : Part, Completes (.ringOvercurrent x) s q ∧ (q.port x).state = .tripped ∧ (q.port x).enable = false ∧
      (q.port x).ring = none ∧ q.log.next = p.log.next + 1 ∧ (q.port x).heat = (p.port x).heat ∧ q.line = p.line ∧
      p.recorded q 0 1 .ringOvercurrent .major (sourceOf x) p.line.state
        [((p.port x).ringLoad : Int), (g.cadence : Int), ((p.port x).heat : Int), if g.origin = .line then 0 else 1] := by
  intro p
  generalize hy : (p.endRing x true .tripped).modPort x (fun r => { r with enable := false }) = y
  have hover : p.overcurrent x = y.makeRecord .ringOvercurrent (sourceOf x)
      [((p.port x).ringLoad : Int), (g.cadence : Int), ((p.port x).heat : Int), if g.origin = .line then 0 else 1] := by
    unfold Part.overcurrent
    dsimp only
    rw [show (p.port x).ring = some g from hg]
    dsimp only
    rw [hy, portSource_eq, originCode_eq]
  have hport : y.port x = { p.port x with ring := none, state := .tripped, enable := false } := by
    subst hy
    rw [Part.port_modPort, Part.endRing_port p x true (by decide) (by rw [show (p.port x).ring = some g from hg]; rfl)]
  have hground : y.ground = p.ground := by
    subst hy
    rw [Part.modPort_ground, Part.endRing_ground]
  obtain ⟨hnext, hrecorded⟩ := Part.recorded_after (q := (p.overcurrent x).refreshHeard) hground .ringOvercurrent
    (sourceOf x) [((p.port x).ringLoad : Int), (g.cadence : Int), ((p.port x).heat : Int), if g.origin = .line then 0 else 1]
    (by rw [Part.refreshHeard_log, hover]) (by rw [Part.refreshHeard_log, hover])
  refine ⟨_, completes_of (o := execRingOvercurrent x s) rfl rfl hrun (if_pos (Port.driving_of hst hg hphase)), ?_⟩
  rw [Part.refreshHeard_port, hover, Part.port_makeRecord, hport, Part.refreshHeard_line, Part.makeRecord_line, ← hover]
  exact ⟨rfl, rfl, rfl, hnext, rfl, Part.line_of_ground hground, hrecorded⟩

end

/-- The trip of a line ring in service, by what admission gives (R106, R137). -/
theorem ringTrip_line_completes {s : State} {x : PortId} {g : Ring} (hrun : s.part.running = true)
    (hst : (s.part.port x).state = .ringing) (hg : (s.part.port x).ring = some g) (hdiag : s.part.diag.running = none)
    (hpending : s.part.line.startPending = false) (hrelay : s.part.supply.relay = true)
    (hreq : s.part.line.request = .part) (hshut : s.part.supply.state ≠ .shutdown) (ho : g.origin = .line)
    (hs : s.part.inService = true) :
    let p := s.part
    let switchAt := p.line.symbol + 2000
    ∃ q : Part, Completes (.ringTrip x) s q ∧ (q.port x).hook = .offHook ∧ (q.port x).ring = none ∧
      (q.port x).announced = true ∧ (q.port x).dialTimer = none ∧ q.line = p.line ∧
      (∀ m : Mode, (m = .full ∧ p.channelDemand + 3 ≤ p.capC ∨ m = .half ∧ p.channelDemand + 2 = p.capC) →
        (q.port x).state = .connected ∧ q.chan x = some ⟨m, true, (0, 0), 0⟩ ∧ (q.port x).heard = .line ∧
        q.sched.switches = p.sched.switches ++ [⟨x, switchAt, .begin⟩] ∧
        (p.svc.outQ = [] → q.svc.outQ = [.signal x .offHook, .signal x (.channel (some m) switchAt)])) ∧
      (p.capC < p.channelDemand + 2 →
        (q.port x).state = .dialling ∧ q.chan x = p.chan x ∧ q.sched = p.sched ∧
        (p.svc.outQ = [] → q.svc.outQ = [.signal x .offHook, .signal x .capacityHold])) := by
  intro p switchAt
  obtain ⟨hyport, hyground, hywiring, hymail, hywatch⟩ := Part.tripped_announced p x
  have htrip := Part.ringTrip_line hg ho hs
  generalize (p.answers x).sayOffHook x = y at hyport hyground hywiring hymail hywatch htrip
  have hadmission : y.admission = p.admission := Part.admission_congr hyground hywiring
  have hyline : y.line = p.line := Part.line_of_ground hyground
  have hysched : y.sched = p.sched := Part.sched_of_wiring hywiring
  have hyout : p.svc.outQ = [] → y.mail.1.outQ = [.signal x .offHook] := fun hq => by
    rw [hymail]
    exact offer_empty (l := p.mail) hq
  cases hadm : p.admission with
  | some m =>
    have hq := htrip.trans (y.askChannel_admitted x _ (hadmission.trans hadm))
    obtain ⟨hstate, hchan, htimer, hsw, hheard, hline, -⟩ := y.admitted_heard x m
    have hport := y.admitted_port x m
    have hmail := y.admitted_mail x m
    rw [hyport] at hport hmail
    rw [if_pos rfl, hyline] at hmail
    refine ⟨_, ringTrip_completes hrun hst hdiag hpending hrelay hreq hshut hq (hywatch.admitted x m)
      ((y.admitted_ground x m).trans hyground), ?_, ?_, ?_, htimer, hline.trans hyline, fun k hk => ?_, fun hC => ?_⟩
    · rw [Part.refreshHeard_port, hport]
    · rw [Part.refreshHeard_port, hport]
    · rw [Part.refreshHeard_port, hport]
    · have hkm : k = m := by
        rcases hk with ⟨rfl, hC⟩ | ⟨rfl, hC⟩
        · exact Option.some.inj ((Part.admission_full hC).symm.trans hadm)
        · exact Option.some.inj ((Part.admission_half hC).symm.trans hadm)
      subst hkm
      refine ⟨hstate, hchan, hheard, by rw [hsw, hysched, hyline], fun hq => ?_⟩
      exact (congrArg (fun l => l.1.outQ) ((Part.refreshHeard_mail _).trans hmail)).trans (offer_signal_one (hyout hq))
    · rw [Part.admission_none hC] at hadm
      cases hadm
  | none =>
    have hq := htrip.trans (y.askChannel_refused x _ (hadmission.trans hadm))
    generalize hz : (y.enterState x .dialling none).signal x .capacityHold = z at hq
    have hzport : z.port x = { y.port x with state := .dialling } := by subst hz; simp
    have hzground : z.ground = p.ground := by subst hz; simp [hyground]
    have hzwiring : z.wiring = p.wiring := by subst hz; simp [hywiring]
    have hzwatch : p.Watches z := by subst hz; exact (hywatch.enterState x _ _).signal x _
    have hzmail : z.mail = offer (.signal x .capacityHold) y.mail := by subst hz; simp
    refine ⟨_, ringTrip_completes hrun hst hdiag hpending hrelay hreq hshut hq hzwatch hzground, ?_⟩
    rw [Part.refreshHeard_port, hzport, hyport, Part.refreshHeard_line, Part.refreshHeard_chan, Part.refreshHeard_sched]
    refine ⟨rfl, rfl, rfl, rfl, Part.line_of_ground hzground, fun k hk => ?_, fun _ =>
      ⟨rfl, Part.chan_of_wiring hzwiring x, Part.sched_of_wiring hzwiring, fun hq => ?_⟩⟩
    · rcases hk with ⟨-, hC⟩ | ⟨-, hC⟩
      · rw [Part.admission_full hC] at hadm
        cases hadm
      · rw [Part.admission_half hC] at hadm
        cases hadm
    · exact (congrArg (fun l => l.1.outQ) ((Part.refreshHeard_mail _).trans hzmail)).trans (offer_signal_one (hyout hq))

/-- Settles O49: each ring by its origin and its partner. -/
theorem ringsStartStopAndTrip : Obligations.RingsStartStopAndTrip := by
  refine ⟨⟨rfl, rfl, rfl, rfl, fun n hn => cadencePhases_other hn⟩, fun s x c hrun => ?_⟩
  intro p
  refine ⟨fun hs hst ht => ?_, fun hs hst _ => ring_answered c hrun hs hst, fun g hst hg => ⟨fun hs ho => ?_, ?_,
    fun ho hpartner => ?_, fun ho hpartner hdial => ?_, fun hdiag hpending hrelay hreq hshut =>
      ⟨fun ho hs => ringTrip_line_completes hrun hst hg hdiag hpending hrelay hreq hshut ho hs,
        fun ho hpartner hdial => ?_, fun ho hpartner => ?_⟩,
    fun hphase _ => overcurrent_completes hrun hst hg hphase⟩⟩
  · intro y load
    have hringing : (p.port x).state ≠ .ringing := by rw [hst]; decide
    have htakes := Part.takeRing_idle hs c hst ht
    rw [Part.budgetAllows_iff hringing] at htakes
    refine ⟨fun hload => ?_, fun hload => ?_⟩
    · rw [if_pos (decide_eq_true (show p.loadWith x ≤ p.supply.budget from hload))] at htakes
      exact ⟨_, ring_completes hrun htakes, p.startRing_line x c⟩
    · rw [if_neg (by rw [decide_eq_false (Nat.not_le.2 (show p.supply.budget < p.loadWith x from hload))]; decide)] at htakes
      refine ⟨_, ring_completes hrun htakes, ?_⟩
      rw [Part.refreshHeard_port, Part.refreshHeard_port, Part.port_signal, Part.port_signal, Part.postRingLimited,
        Part.port_post, Part.port_post, Part.refreshHeard_line, Part.refreshHeard_link, Part.signal_line, Part.signal_link]
      refine ⟨hst, rfl, fun hq => ?_, rfl, rfl, rfl, rfl⟩
      generalize hz : p.post (.ringLimited x (p.port x).ringLoad p.supply.budget) = z
      have hzq : z.mail.1.outQ = [] := by subst hz; exact hq
      exact (congrArg (fun l => l.1.outQ) ((Part.refreshHeard_mail _).trans (z.signal_mail x _))).trans (offer_empty hzq)
  · have hstops : (p.inService && (p.port x).ringsFrom .line) = true := by
      rw [hs, Port.ringsFrom_of hst hg ho]
      rfl
    obtain ⟨hstate, hring, hline⟩ := Part.rungOut hg
    refine ⟨_, completes_of (o := execRingStop x s) rfl rfl hrun (if_pos hstops), hstate, hring, ?_, hline⟩
    rw [Part.refreshHeard_svc]
    exact Part.svc_of_mail ((p.endRing_mail_line x false .idle hg ho).trans (if_neg Bool.false_ne_true))
  · refine completes_of (o := execRingCadencePhase x s) rfl rfl hrun ((if_pos hst).trans (Part.modPort_congr p x ?_))
    rw [hg]
    rfl
  · obtain ⟨hstate, hring, hline⟩ := Part.rungOut hg
    refine ⟨_, completes_of (o := execLocalRingTimeout x s) rfl rfl hrun (if_pos (Port.ringsFrom_of hst hg ho)), hstate,
      hring, ?_, hline⟩
    rw [Part.refreshHeard_svc]
    exact Part.svc_of_mail (p.endRing_mail_alone x false .idle hg ho hpartner)
  · intro y tone
    obtain ⟨hstate, hring, hline⟩ := Part.rungOut hg
    obtain ⟨hyst, hytimer, hsched, hin, hout⟩ := Part.rungOut_caller hg ho hpartner hdial
    exact ⟨_, completes_of (o := execLocalRingTimeout x s) rfl rfl hrun (if_pos (Port.ringsFrom_of hst hg ho)), hstate,
      hring, hyst, hytimer, hline, hsched, hin, hout⟩
  · have htrip := Part.ringTrip_called hg ho hpartner hdial
    obtain ⟨hport, hother, hground, hwiring, hwatch, hlog⟩ := p.intercom_fields x
    refine ⟨_, ringTrip_completes hrun hst hdiag hpending hrelay hreq hshut htrip hwatch hground, ?_⟩
    generalize (((((p.answers x).enterState x .intercom none).withdraw x).modPort (other x) fun r =>
      { r with dialTimer := none }).enterState (other x) .intercom none).withdraw (other x) = q
      at hport hother hground hwiring hwatch hlog
    rw [Part.refreshHeard_line, Part.refreshHeard_sched, Part.refreshHeard_log, Part.refreshHeard_chan]
    refine ⟨Part.line_of_ground hground, Part.sched_of_wiring hwiring, hlog, ?_, ?_, Part.chan_of_wiring hwiring x,
      fun y => ?_⟩
    · rw [Part.refreshHeard_port, hport]
    · rw [Part.refreshHeard_port, hport]
    · have hy : (q.port y).state = .intercom ∧ (q.port y).dialTimer = none ∧
          (p.inService = true → (q.port y).announced = false) := by
        rcases eq_or_other x y with rfl | rfl
        · rw [hport]
          refine ⟨rfl, rfl, fun hs => ?_⟩
          show ((p.port y).announced && !p.inService) = false
          rw [hs, Bool.not_true, Bool.and_false]
        · rw [hother]
          refine ⟨rfl, rfl, fun hs => ?_⟩
          show ((p.port (other x)).announced && !p.inService) = false
          rw [hs, Bool.not_true, Bool.and_false]
      obtain ⟨hstate, htimer, hann⟩ := hy
      rw [Part.refreshHeard_port, Part.heardOf_intercom hstate]
      exact ⟨hstate, htimer, rfl, hann⟩
  · have htrip := Part.ringTrip_alone hg ho hpartner
    have hport := (p.answers x).toDialling_port x
    have hserv : (p.answers x).inService = p.inService := Part.inService_of_ground (p.answers_ground x)
    have hmail := (p.answers x).toDialling_mail x
    rw [Part.answers_port, hserv] at hport
    rw [hserv, Part.answers_mail] at hmail
    refine ⟨_, ringTrip_completes hrun hst hdiag hpending hrelay hreq hshut htrip ((p.answers_watches x).toDialling x)
      (by simp; rfl), ?_⟩
    rw [Part.refreshHeard_port, hport, Part.refreshHeard_line, Part.refreshHeard_sched]
    refine ⟨rfl, rfl, rfl, rfl, Part.line_of_ground (by simp), Part.sched_of_wiring (by simp), fun hs => ?_, fun hs hq => ?_⟩
    · rw [hs]
      rfl
    · rw [hs, if_pos rfl] at hmail
      exact (congrArg (fun l => l.1.outQ) ((Part.refreshHeard_mail _).trans hmail)).trans (offer_empty (l := p.mail) hq)

end Sys2Proof.Machine
end

section
/-! SUPPORT. What follows the end of a test (R24, R167, R171): a start that waited for it alone enters SOUNDING, and else the
relay goes back to the line's request. Both RUN_DIAG's abort and the tests' own events end so. -/

namespace Sys2Proof.Machine

/-! ### Room in the notice queue -/

theorem Link.post_length (l : Link) (n : Notice) : (l.post n).notices.length ≤ l.notices.length + 1 := by
  unfold Link.post
  split
  · simp
  · rename_i hfull
    dsimp only
    split
    · have herase := List.length_eraseP_le (p := fun k : Notice => k.isStats) (l := l.notices)
      rw [List.length_append, List.length_singleton]
      omega
    · exact Nat.le_succ _

theorem Part.post_notices_length (s : Part) (n : Notice) :
    (s.post n).link.notices.length ≤ s.link.notices.length + 1 := s.link.post_length n

theorem Part.makeRecord_notices_length (s : Part) (k : FaultKind) (src : FaultSource) (ds : List Int) :
    (s.makeRecord k src ds).link.notices.length ≤ s.link.notices.length + 1 := by
  rw [Part.makeRecord, Part.makeRecordAt_link]
  exact Link.post_length { s.link with
    logLost := s.link.logLost || (s.log.makeRoom (s.newRecord k src s.line.state ds)).2.2 } _

theorem Part.endTest_notices_length (s : Part) (o : DiagOutcome) (d : Nat) :
    (s.endTest o d).link.notices.length ≤ s.link.notices.length + 1 := by
  unfold Part.endTest
  split
  · exact Nat.le_succ _
  · exact Part.post_notices_length { s with diag := s.diag.finish o d } _

/-- With no test running a port's change of state posts at most its PORT_EVENT. -/
theorem Part.enterState_notices_length {s : Part} (h : s.diag.running = none) (p : PortId) (n : PortState) (m : Option Mode) :
    (s.enterState p n m).link.notices.length ≤ s.link.notices.length + 1 := by
  unfold Part.enterState
  dsimp only
  split
  · exact Nat.le_succ _
  · have hnone : ((s.modPort p fun r => { r with state := n }).portEvent p (.state (s.port p).state n) m).underTest p =
        false := Part.underTest_of_none (by rw [Part.portEvent, Part.post_diag, Part.modPort_diag]; exact h) p
    rw [hnone, Bool.false_and, if_neg Bool.false_ne_true]
    refine (Part.post_notices_length (s.modPort p fun r => { r with state := n }) _).trans ?_
    rw [Part.modPort_link]

/-! ### The start that waited -/

/-- A start that waits for nothing more enters SOUNDING, and is told of where the queue has room (R24, R167). -/
theorem Part.settle_sounds {s b : Part} (hmay : s.mayStart = true) (hrelay : s.supply.relay = true ∨ s.portA.hook = .onHook)
    (hline : s.line = b.line) (hroom : b.link.notices.length < 12 → s.link.notices.length < 15) :
    s.settle.soundingFrom b := by
  have hshut : s.supply.state ≠ .shutdown := by
    intro h
    rw [Part.mayStart, h] at hmay
    simp at hmay
  have hdiag : s.diag.running = none := by
    cases hd : s.diag.running with
    | none => rfl
    | some t => rw [Part.mayStart, hd] at hmay; simp at hmay
  have htarget : s.asking.relayTarget = true := by
    rw [Part.relayTarget_part (s := s.asking) hshut (Part.loopTesting_of_none (s := s.asking) hdiag) rfl]
    rcases hrelay with h | h
    · rw [show s.asking.supply.relay = true from h, Bool.true_or]
    · rw [show s.asking.portA.hook = .onHook from h]
      simp
  obtain ⟨-, hd, -, -⟩ := Part.settleRelay_part_same htarget hdiag
  have hagain : s.enterSounding.relayTarget = true := by
    rw [Part.relayTarget_part (by rw [Part.enterSounding_supply]; exact hshut)
      (Part.loopTesting_of_none (show s.enterSounding.diag.running = none from hd ▸ hdiag))
      (by rw [Part.enterSounding_line]; rfl), Part.enterSounding_supply, htarget]
    rfl
  have hsettled : s.settle.line = s.calling := Part.settle_line_starts hmay
  unfold Part.soundingFrom
  rw [hsettled]
  refine ⟨rfl, rfl, rfl, ?_, rfl, rfl, rfl, rfl, rfl, rfl, rfl, ?_, fun hfew => ?_⟩
  · rw [← hline]
    rfl
  · rw [Part.settle_starts hmay, Part.refreshHeard_supply, Part.settleRelay_supply, hagain]
  · have hlength : s.asking.settleRelay.link.notices.length < 16 := by
      have hfew' := hroom hfew
      rw [Part.settleRelay_part htarget]
      split
      · exact Nat.lt_succ_of_lt hfew'
      · have hposted := Part.enterState_notices_length
          (s := { s.asking with supply := { s.asking.supply with relay := true } }) hdiag .a
          (if s.portA.enable then .idle else .disabled) none
        exact Nat.lt_of_le_of_lt hposted (Nat.succ_lt_succ hfew')
    have hposted : Notice.lineState .sounding s.line.state s.calling.attempts none [] ∈ s.enterSounding.link.notices := by
      have hlink : s.enterSounding.link = s.asking.settleRelay.link.post (.lineState s.asking.settleRelay.line.state
        s.line.state s.asking.settleRelay.line.attempts none []) := rfl
      rw [Part.settleRelay_line] at hlink
      rw [hlink]
      exact Link.mem_post _ hlength
    rw [Part.settle_starts hmay, ← hline]
    exact ((Part.Notices_refl _).settleRelay.refreshHeard) _ rfl hposted

/-! ### The relay's return -/

/-- Port A follows the relay to THROUGH (R90). -/
theorem Part.settleRelay_through {s : Part} (ht : s.relayTarget = false) (hr : s.supply.relay = true) :
    s.settleRelay.portA.state = .through := by
  have hmove := congrArg Outline.through (s.settleRelay_outline rfl)
  have hthrough : (s.settleRelay.portA.state == .through) = true := by
    refine Eq.trans hmove ?_
    rw [ht]
    unfold Outline.move
    rw [if_neg (show ¬ false = s.outline.relay from fun h => Bool.false_ne_true (h.trans hr)), if_neg Bool.false_ne_true]
    rfl
  exact eq_of_beq hthrough

theorem Part.settle_rests {s : Part} (hmay : s.mayStart = false) (hdiag : s.diag.running = none) :
    s.settle.line = s.line ∧ (s.line.request = .through → s.settle.supply.relay = false ∧
      (s.supply.relay = true → s.settle.portA.state = .through)) := by
  refine ⟨?_, fun hreq => ?_⟩
  · have he := congrArg Part.line (Part.settle_ground_waiting hmay)
    exact he
  · have htarget := Part.relayTarget_through (Part.loopTesting_of_none hdiag) hreq
    refine ⟨?_, fun hrelay => ?_⟩
    · rw [Part.settle_waiting hmay, Part.refreshHeard_supply, Part.settleRelay_supply, htarget]
    · rw [Part.settle_waiting hmay]
      have hheard : s.settleRelay.refreshHeard.portA.state = s.settleRelay.portA.state :=
        (s.settleRelay.refreshHeard_ports .a).1
      rw [hheard, Part.settleRelay_through htarget hrelay]

/-- An event settles without a word to the diagnostics, but for a PORT_TEST that the telephones abort (R165). -/
theorem Part.Watches.settle {s x : Part} (h : s.Watches x) : s.Watches x.settle := by
  unfold Part.settle Part.soundingIfReady
  refine Part.Watches.refreshHeard (Part.Watches.settleRelay ?_)
  split
  · have hasking : s.Watches x.asking := h.same rfl
    exact hasking.settleRelay.same rfl
  · exact h

theorem Part.settle_diag_of_none {s : Part} (h : s.diag.running = none) : s.settle.diag = s.diag :=
  (Part.Watches_refl s).settle.diag_eq (Part.underTest_of_none h)

/-! ### Both together -/

/-- What follows the end of a test, on the line of before (R24, R167, R171). -/
theorem Part.testEnded {p x : Part} (hdiag : x.diag.running = none) (hline : x.line = p.line) (hsupply : x.supply = p.supply)
    (hhook : x.portA.hook = p.portA.hook) (hroom : p.link.notices.length < 12 → x.link.notices.length < 15) :
    (p.line.startPending = true → p.supply.state ≠ .cutoff → p.supply.state ≠ .shutdown →
      (p.line.state = .dropped ∧ p.supply.relay = true ∨
        (p.line.state = .quiet ∨ p.line.state = .fallback) ∧ p.portA.hook = .onHook) → x.settle.soundingFrom p) ∧
    (p.line.startPending = false ∨ p.supply.state = .cutoff ∨ p.supply.state = .shutdown ∨
        p.line.state ≠ .dropped ∧ p.portA.hook = .offHook → x.settle.line = p.line ∧
      (p.line.request = .through →
        x.settle.supply.relay = false ∧ (p.supply.relay = true → x.settle.portA.state = .through))) := by
  rw [← hline, ← hsupply, ← hhook]
  refine ⟨fun hpending hcut hshut hstate => ?_, fun hwait => ?_⟩
  · have hmay : x.mayStart = true := by
      rcases hstate with ⟨hdropped, -⟩ | ⟨hresting, hon⟩
      · rw [Part.mayStart_dropped hdropped hcut hshut hpending, hdiag]
        rfl
      · exact (Part.mayStart_resting hresting hcut hshut hpending).1 hon hdiag
    exact Part.settle_sounds hmay (hstate.imp And.right And.right) hline hroom
  · have hmay : x.mayStart = false := by
      rcases hwait with h | h | h | ⟨hstate, hoff⟩
      · exact Part.mayStart_of_notPending h
      · simp [Part.mayStart, h]
      · simp [Part.mayStart, h]
      · simp [Part.mayStart, hstate, hoff]
    exact Part.settle_rests hmay hdiag

end Sys2Proof.Machine
end

section
/-! PROOFS. RUN_DIAG and ABORT_DIAG (O31). -/

namespace Sys2Proof.Machine

/-- The test that RUN_DIAG starts (R164). -/
def Part.newTest (s : Part) (k : TestKind) (x : Option PortId) (src : Source) : RunningTest :=
  { test := k, port := x, source := src, start := s.time, elapsed := 0, extended := false, working := []
    impulses := 0, history := [], impulse := none, events := 0, lock := none }

/-- The part with a test running. -/
def Part.testing (s : Part) (t : RunningTest) : Part := { s with diag := { s.diag with running := some t } }

theorem Part.startTest_eq (s : Part) (k : TestKind) (x : Option PortId) (src : Source) :
    s.startTest k x src = ((s.testing (s.newTest k x src)).settle, .started, .none) := rfl

theorem LineState.isDown_iff (l : LineState) : l.isDown = true ↔ l = .quiet ∨ l = .dropped ∨ l = .fallback := by
  cases l <;> decide

section
variable {p : Part}

theorem Part.mayTest_busy (f : Part → Answer) {t : RunningTest} (h : p.diag.running = some t) :
    p.mayTest f = (p, .busy, .none) := by
  unfold Part.mayTest
  rw [h]
  rfl

theorem Part.mayTest_down (f : Part → Answer) (h : p.diag.running = none)
    (hsupply : p.supply.state = .cutoff ∨ p.supply.state = .shutdown) : p.mayTest f = (p, .wrongState, .none) := by
  unfold Part.mayTest
  rw [h]
  exact if_pos hsupply

theorem Part.mayTest_own (f : Part → Answer) (h : p.diag.running = none) (hcut : p.supply.state ≠ .cutoff)
    (hshut : p.supply.state ≠ .shutdown) : p.mayTest f = f p := by
  unfold Part.mayTest
  rw [h]
  exact if_neg (not_or.2 ⟨hcut, hshut⟩)

/-- A test that starts holds a waiting start back, and on a free line the test that watches no port ends of nothing the
relay does (R24, R165). -/
theorem Part.testing_settled {k : TestKind} (hk : k ≠ .portTest) (x : Option PortId) (src : Source) :
    let q := (p.testing (p.newTest k x src)).settle
    q.diag = { p.diag with running := some (p.newTest k x src) } ∧ q.line = p.line := by
  intro q
  have hmay : (p.testing (p.newTest k x src)).mayStart = false := by
    simp [Part.mayStart, Part.testing]
  have hnone : ∀ y, (p.testing (p.newTest k x src)).underTest y = false := by
    intro y
    show (k == .portTest && x == some y) = false
    rw [beq_eq_false_iff_ne.2 hk, Bool.false_and]
  refine ⟨?_, ?_⟩
  · exact (Part.Watches_refl _).settle.diag_eq hnone
  · have he := congrArg Part.line (Part.settle_ground_waiting hmay)
    exact he

/-- A LOOP_TEST takes the relay to PART, and port A with it (R90, R168). -/
theorem Part.loopTest_settled (hshut : p.supply.state ≠ .shutdown) (x : Option PortId) (src : Source) :
    let q := (p.testing (p.newTest .loopTest x src)).settle
    q.supply.relay = true ∧
      (p.supply.relay = false → q.portA.state = if p.portA.enable then .idle else .disabled) := by
  intro q
  have hmay : (p.testing (p.newTest .loopTest x src)).mayStart = false := by
    simp [Part.mayStart, Part.testing]
  have htarget : (p.testing (p.newTest .loopTest x src)).relayTarget = true := by
    unfold Part.relayTarget
    rw [if_neg (show (p.testing (p.newTest .loopTest x src)).supply.state ≠ .shutdown from hshut)]
    rfl
  have hq : q = (p.testing (p.newTest .loopTest x src)).settleRelay.refreshHeard := Part.settle_waiting hmay
  rw [hq]
  refine ⟨?_, fun hrelay => ?_⟩
  · rw [Part.refreshHeard_supply, Part.settleRelay_supply, htarget]
  · have hheard := ((p.testing (p.newTest .loopTest x src)).settleRelay.refreshHeard_ports .a).1
    refine Eq.trans hheard ?_
    have hthrough : ¬ (p.testing (p.newTest .loopTest x src)).supply.relay = true := fun h =>
      Bool.false_ne_true (hrelay.symm.trans h)
    rw [Part.settleRelay_part htarget, if_neg hthrough]
    unfold Part.leaveThrough
    rw [Part.enterState_port]
    rfl

/-- A PORT_TEST leaves the relay where it is driven already. -/
theorem Part.portTest_settled (hdiag : p.diag.running = none) (hrelay : p.relayTarget = p.supply.relay)
    (x : Option PortId) (src : Source) :
    (p.testing (p.newTest .portTest x src)).settle = (p.testing (p.newTest .portTest x src)).refreshHeard := by
  have hmay : (p.testing (p.newTest .portTest x src)).mayStart = false := by
    simp [Part.mayStart, Part.testing]
  have hloop : p.loopTesting = false := Part.loopTesting_of_none hdiag
  have htarget : (p.testing (p.newTest .portTest x src)).relayTarget = p.relayTarget := by
    unfold Part.relayTarget
    rw [hloop]
    rfl
  rw [Part.settle_waiting hmay, Part.settleRelay_same (htarget.trans hrelay)]

theorem ownRunDiag_noise (src : Source) (f : Option PortArg) :
    ownRunDiag src (some .noiseScan) f p =
      p.mayTest fun s => if s.line.state.isDown then s.startTest .noiseScan none src else (s, .wrongState, .none) := by
  cases f <;> rfl

theorem ownRunDiag_loop (src : Source) (f : Option PortArg) :
    ownRunDiag src (some .loopTest) f p =
      p.mayTest fun s =>
        if s.line.state.isDown && s.portA.hook == .onHook then s.startTest .loopTest none src
        else (s, .wrongState, .none) := by
  cases f <;> rfl

section
variable (src : Source) (f : Option PortArg) (hd : p.diag.running = none) (hcut : p.supply.state ≠ .cutoff)
  (hshut : p.supply.state ≠ .shutdown)
include hd hcut hshut

theorem ownRunDiag_noise_free :
    ownRunDiag src (some .noiseScan) f p =
      if p.line.state.isDown then p.startTest .noiseScan none src else (p, .wrongState, .none) :=
  (ownRunDiag_noise src f).trans (Part.mayTest_own _ hd hcut hshut)

theorem ownRunDiag_loop_free :
    ownRunDiag src (some .loopTest) f p =
      if p.line.state.isDown && p.portA.hook == .onHook then p.startTest .loopTest none src
      else (p, .wrongState, .none) :=
  (ownRunDiag_loop src f).trans (Part.mayTest_own _ hd hcut hshut)

end

theorem ownRunDiag_port (src : Source) (x : PortId) :
    ownRunDiag src (some .portTest) (some (argOf x)) p =
      p.mayTest fun s =>
        if (s.port x).state = .shed then (s, .shed, .none)
        else if (s.port x).state = .idle ∨ (s.port x).state = .disabled then s.startTest .portTest (some x) src
        else (s, .wrongState, .none) := by
  cases x <;> rfl

end

/-! ### ABORT_DIAG -/

/-- A running test stored in its slot, field by field (R163, R166). -/
theorem Diag.finish_eq {d : Diag} {t : RunningTest} (h : d.running = some t) (o : DiagOutcome) (n : Nat) :
    d.finish o n = { d with
      running := none
      loop := if t.test = .loopTest then some (t.result o n) else d.loop
      noise := if t.test = .noiseScan then some (t.result o n) else d.noise
      portA := if t.test = .portTest ∧ t.port ≠ some .b then some (t.result o n) else d.portA
      portB := if t.test = .portTest ∧ t.port = some .b then some (t.result o n) else d.portB } := by
  have hstore : d.finish o n = { d.store (t.result o n) with running := none } := by
    unfold Diag.finish
    rw [h]
  rw [hstore]
  unfold Diag.store
  show { (match t.test with
    | .loopTest => { d with loop := some (t.result o n) }
    | .noiseScan => { d with noise := some (t.result o n) }
    | .portTest => if t.port = some .b then { d with portB := some (t.result o n) }
      else { d with portA := some (t.result o n) } : Diag) with running := none } = _
  cases t.test with
  | loopTest => rfl
  | noiseScan => rfl
  | portTest =>
    by_cases hb : t.port = some .b
    · simp [hb]
    · simp [hb]

theorem Diag.elapsed_of {d : Diag} {t : RunningTest} (h : d.running = some t) : d.elapsed = t.elapsed := by
  rw [Diag.elapsed, h]
  rfl

/-- Settles O31: each test by the checks of R164, and the abort by what waits for it. -/
theorem diagnosticsStartAndAbort : Obligations.DiagnosticsStartAndAbort := by
  intro s e h hp p arg down answers starts
  have harg : arg = argOf := by
    funext x
    cases x <;> rfl
  have runs {k : Option TestKind} {f : Option PortArg} {q : Part} {st : Status}
      (ho : ownRunDiag e.src k f p = (q, st, .none)) : Completes (.runDiag e k f) s (q.answeredTo e 18 st .none) :=
    h.answered (c := .runDiag k f) rfl nofun hp.refuses ho
  have aborts {q : Part} {st : Status} (ho : ownAbortDiag p = (q, st, .none)) :
      Completes (.abortDiag e) s (q.answeredTo e 19 st .none) :=
    h.answered (c := .abortDiag) rfl nofun hp.refuses ho
  have portRuns {x : PortId} {q : Part} {st : Status} (ho : ownRunDiag e.src (some .portTest) (some (argOf x)) p = (q, st, .none)) :
      Completes (.runDiag e (some .portTest) (some (arg x))) s (q.answeredTo e 18 st .none) := by
    rw [harg]
    exact runs ho
  refine ⟨fun hd hcut hshut => ⟨fun f hdown => ?_, fun f hdown hhook => ?_, fun f hup => ⟨runs ?_, runs ?_⟩,
      fun f hhook => runs ?_, fun x => ⟨fun hst hrelay => ?_, fun hst => portRuns ?_, fun hi hdis hst => portRuns ?_⟩⟩,
    fun hd hsupply => ⟨fun f => ⟨runs ((ownRunDiag_noise e.src f).trans (Part.mayTest_down _ hd hsupply)),
        runs ((ownRunDiag_loop e.src f).trans (Part.mayTest_down _ hd hsupply))⟩,
      fun x => portRuns ((ownRunDiag_port e.src x).trans (Part.mayTest_down _ hd hsupply))⟩,
    fun t ht => ⟨fun f => ⟨runs ((ownRunDiag_noise e.src f).trans (Part.mayTest_busy _ ht)),
        runs ((ownRunDiag_loop e.src f).trans (Part.mayTest_busy _ ht))⟩,
      fun x => portRuns ((ownRunDiag_port e.src x).trans (Part.mayTest_busy _ ht)), ?_⟩,
    fun hd => aborts (if_neg (by rw [hd]; decide)), fun f => runs rfl, runs rfl, runs rfl⟩
  · obtain ⟨hdiag, hline⟩ := Part.testing_settled (p := p) (k := .noiseScan) nofun none e.src
    exact ⟨_, _, runs ((ownRunDiag_noise_free e.src f hd hcut hshut).trans (if_pos ((LineState.isDown_iff _).2 hdown))), hdiag,
      rfl, rfl, rfl, rfl, rfl, rfl, rfl, hline, trivial⟩
  · obtain ⟨hdiag, hline⟩ := Part.testing_settled (p := p) (k := .loopTest) nofun none e.src
    obtain ⟨hrelay, hportA⟩ := Part.loopTest_settled hshut none e.src
    have hready : (p.line.state.isDown && p.portA.hook == .onHook) = true := by
      rw [(LineState.isDown_iff _).2 hdown, hhook]
      rfl
    exact ⟨_, _, runs ((ownRunDiag_loop_free e.src f hd hcut hshut).trans (if_pos hready)), hdiag,
      rfl, rfl, rfl, rfl, rfl, rfl, rfl, hline, hrelay, hportA⟩
  · exact (ownRunDiag_noise_free e.src f hd hcut hshut).trans (if_neg fun h => hup ((LineState.isDown_iff _).1 h))
  · refine (ownRunDiag_loop_free e.src f hd hcut hshut).trans (if_neg fun h => hup ((LineState.isDown_iff _).1 ?_))
    exact (Bool.and_eq_true_iff.1 h).1
  · refine (ownRunDiag_loop_free e.src f hd hcut hshut).trans (if_neg fun h => ?_)
    rw [hhook] at h
    cases (Bool.and_eq_true_iff.1 h).2
  · have hport := ownRunDiag_port (p := p) e.src x
    rw [Part.mayTest_own _ hd hcut hshut, if_neg (by rcases hst with h | h <;> rw [h] <;> decide), if_pos hst,
      Part.startTest_eq, Part.portTest_settled hd hrelay] at hport
    refine ⟨_, _, portRuns hport, by rw [Part.refreshHeard_diag]; rfl, rfl, rfl, rfl, rfl, rfl, rfl, rfl,
      by rw [Part.refreshHeard_line]; rfl, ?_⟩
    show (Part.refreshHeard _ |>.port x).state = _
    rw [Part.refreshHeard_port]
    cases x <;> rfl
  · exact ((ownRunDiag_port e.src x).trans (Part.mayTest_own _ hd hcut hshut)).trans (if_pos hst)
  · refine ((ownRunDiag_port e.src x).trans (Part.mayTest_own _ hd hcut hshut)).trans ?_
    rw [if_neg hst, if_neg (not_or.2 ⟨hi, hdis⟩)]
  · intro r
    have haborts : ownAbortDiag p = ((p.abortTest .command).settle, .ok, .none) := if_pos (by rw [ht]; rfl)
    have hended : (p.abortTest .command).diag = p.diag.finish (.aborted .command) p.diag.elapsed := p.endTest_diag _ _
    have hnone : (p.abortTest .command).diag.running = none := by rw [hended, Diag.finish_running]
    have hr : t.result (.aborted .command) p.diag.elapsed = r := by rw [Diag.elapsed_of ht]; rfl
    have hground : (p.abortTest .command).ground = p.ground := p.endTest_ground _ _
    have hfixed : (p.abortTest .command).settle.fixed = p.fixed := (Part.settle_fixed _).trans (p.endTest_fixed _ _)
    obtain ⟨hsounds, hrests⟩ := Part.testEnded (p := p) (x := p.abortTest .command) hnone (Part.line_of_ground hground)
      (Part.supply_of_ground hground) (Part.hook_of_fixed (p.endTest_fixed _ _) .a)
      (fun hfew => Nat.lt_of_le_of_lt (p.endTest_notices_length _ _) (by omega))
    refine ⟨_, aborts haborts, ?_, fun hroom => ?_, Part.ringLoad_of_fixed hfixed .a, Part.ringLoad_of_fixed hfixed .b,
      hsounds, fun hwait => ⟨(hrests hwait).1, fun hrelay hreq => ?_⟩⟩
    · rw [Part.settle_diag_of_none hnone, hended, Diag.finish_eq ht, hr]
    · have htold := Part.abortTest_told ht .command hroom
      rw [hr] at htold
      exact (Part.Notices_refl _).settle _ rfl htold
    · obtain ⟨hoff, hthrough⟩ := (hrests hwait).2 hreq
      exact ⟨hoff, hthrough hrelay⟩

end Sys2Proof.Machine
end

section
/-! PROOFS. The diagnostic tests' own events (O54). -/

namespace Sys2Proof.Machine

/-! ### Rounding -/

theorem roundNearest_close (x : Int) : (64 * roundNearest x - x).natAbs ≤ 32 := by
  unfold roundNearest
  dsimp only
  split
  · omega
  · split
    · omega
    · split <;> omega

/-- A quotient rounded to the nearest lies within half the divisor. -/
theorem mul_ediv_near {a d : Int} (hd : 0 < d) : -d ≤ d - (2 * a + d - 2 * d * ((2 * a + d) / (2 * d))) ∧
    d - (2 * a + d - 2 * d * ((2 * a + d) / (2 * d))) ≤ d := by
  have hmod := Int.emod_def (2 * a + d) (2 * d)
  have hlow := Int.emod_nonneg (2 * a + d) (show 2 * d ≠ 0 by omega)
  have hhigh := Int.emod_lt_of_pos (2 * a + d) (show 0 < 2 * d by omega)
  rw [hmod] at hlow hhigh
  omega

theorem meanQdb_close (sum : Int) {n : Nat} (hn : 0 < n) :
    2 * (64 * (n : Int) * meanQdb sum n - sum).natAbs ≤ 64 * n := by
  have hmax : (max 1 n : Nat) = n := Nat.max_eq_right hn
  unfold meanQdb
  dsimp only
  rw [hmax]
  generalize hd : 64 * (n : Int) = d
  have hpos : 0 < d := by omega
  split
  · have hnear := mul_ediv_near (a := sum) hpos
    rw [Int.mul_assoc] at hnear
    omega
  · have hnear := mul_ediv_near (a := -sum) hpos
    rw [Int.mul_assoc] at hnear
    rw [Int.mul_neg]
    omega

/-! ### The end of a test -/

/-- What follows the end of a test (R166, R167, R171): no test runs, and the start that waited enters SOUNDING, or the relay
is back at the line's request. -/
def Part.afterTest (p q : Part) : Prop :=
  q.diag.running = none ∧
    (p.line.startPending = true → p.supply.state ≠ .cutoff → p.supply.state ≠ .shutdown →
      (p.line.state = .dropped ∧ p.supply.relay = true ∨
        (p.line.state = .quiet ∨ p.line.state = .fallback) ∧ p.portA.hook = .onHook) → q.soundingFrom p) ∧
    (p.line.startPending = false ∨ p.supply.state = .cutoff ∨ p.supply.state = .shutdown ∨
        p.line.state ≠ .dropped ∧ p.portA.hook = .offHook → q.line = p.line ∧
      (p.line.request = .through → q.supply.relay = false ∧ (p.supply.relay = true → q.portA.state = .through)))

/-- What settling leaves of the log, the load and the band. -/
theorem Part.settle_keeps (s : Part) :
    s.settle.log.next = s.log.next ∧ s.settle.log.said = s.log.said ∧ s.settle.load = s.load ∧ s.settle.band = s.band := by
  cases hmay : s.mayStart with
  | true =>
    have hg := Part.settle_ground_starts hmay
    have hnext := congrArg (fun x : Part => x.log.next) hg
    have hsaid := congrArg (fun x : Part => x.log.records) hg
    have hload := congrArg (fun x : Part => x.load) hg
    have hband := congrArg (fun x : Part => x.band) hg
    exact ⟨hnext, hsaid, hload, hband⟩
  | false =>
    have hg := Part.settle_ground_waiting hmay
    have hnext := congrArg (fun x : Part => x.log.next) hg
    have hsaid := congrArg (fun x : Part => x.log.records) hg
    have hload := congrArg (fun x : Part => x.load) hg
    have hband := congrArg (fun x : Part => x.band) hg
    exact ⟨hnext, hsaid, hload, hband⟩

/-- A test that ends with the line, the supply and the hook of before, and at most one notice posted since. -/
theorem Part.endTest_after {p y : Part} (hline : y.line = p.line) (hsupply : y.supply = p.supply) (hhook : y.portA.hook = p.portA.hook)
    (hroom : y.link.notices.length ≤ p.link.notices.length + 1) (o : DiagOutcome) (d : Nat) :
    p.afterTest (y.endTest o d).settle ∧ (y.endTest o d).settle.diag = y.diag.finish o d := by
  have hended : (y.endTest o d).diag = y.diag.finish o d := y.endTest_diag o d
  have hnone : (y.endTest o d).diag.running = none := by rw [hended, Diag.finish_running]
  have hground : (y.endTest o d).ground = y.ground := y.endTest_ground o d
  have hhooked : (y.endTest o d).portA.hook = p.portA.hook := (Part.hook_of_fixed (y.endTest_fixed o d) .a).trans hhook
  obtain ⟨hsounds, hrests⟩ := Part.testEnded hnone ((Part.line_of_ground hground).trans hline)
    ((Part.supply_of_ground hground).trans hsupply) hhooked
    (fun hfew => Nat.lt_of_le_of_lt (y.endTest_notices_length o d) (by omega))
  have hdiag := Part.settle_diag_of_none hnone
  exact ⟨⟨by rw [hdiag, hnone], hsounds, hrests⟩, hdiag.trans hended⟩

theorem Part.endTest_keeps (s : Part) (o : DiagOutcome) (d : Nat) :
    (s.endTest o d).log = s.log ∧ (s.endTest o d).load = s.load ∧ (s.endTest o d).band = s.band := by
  unfold Part.endTest
  split <;> exact ⟨rfl, rfl, rfl⟩

/-! ### LOOP_TEST -/

/-- A record made where the figures call for it, and what it leaves alone. -/
def Part.recordIf (c : Bool) (k : FaultKind) (src : FaultSource) (ds : List Int) (s : Part) : Part :=
  if c then s.makeRecord k src ds else s

theorem Part.recordIf_fields (c : Bool) (k : FaultKind) (src : FaultSource) (ds : List Int) (s : Part) :
    let y := s.recordIf c k src ds
    y.line = s.line ∧ y.supply = s.supply ∧ y.diag = s.diag ∧ y.load = s.load ∧ y.band = s.band ∧ y.fixed = s.fixed ∧
      y.link.notices.length ≤ s.link.notices.length + 1 ∧ y.log.next = s.log.next + (if c then 1 else 0) := by
  unfold Part.recordIf
  cases c with
  | true =>
    exact ⟨by simp, by simp, by simp, by simp, by simp, s.makeRecordAt_fixed _ _ _ _, s.makeRecord_notices_length k src ds,
      s.makeRecordAt_next _ _ _ _⟩
  | false => exact ⟨rfl, rfl, rfl, rfl, rfl, rfl, Nat.le_succ _, (BitVec.add_zero _).symm⟩

/-- The log behind a record and the test's end, once all has settled. -/
theorem Part.recordIf_recorded {p s : Part} (hg : s.ground = p.ground) {c : Bool} (hc : c = true) (k : FaultKind)
    (src : FaultSource) (ds : List Int) (o : DiagOutcome) (d : Nat) :
    p.recorded ((s.recordIf c k src ds).endTest o d).settle 0 1 k k.severity src p.line.state ds := by
  subst hc
  obtain ⟨hnext, hsaid, -, -⟩ := ((s.recordIf true k src ds).endTest o d).settle_keeps
  rw [(Part.endTest_keeps _ o d).1] at hnext hsaid
  exact (Part.recorded_after hg k src ds hnext hsaid).2

section
variable {s : State} {t : RunningTest} (hrun : s.part.running = true) (ht : s.part.diag.running = some t)
include hrun ht

theorem loopTest_done (htest : t.test = .loopTest) (xs : List Int) :
    let p := s.part
    let table := (List.range 448).map fun k => if k ≤ 5 then 0 else max 0 (min 400 (roundNearest (xs.getD k 0)))
    let a64 := table.getD 64 0
    let a256 := table.getD 256 0
    let loss := p.load.setProfile.loss
    let len := if a256 ≤ a64 then 0 else (max 0 (min 12000 ((a256 - a64) * 1000 / loss))).toNat
    let clamped := ((List.range 448).filter fun k => decide (6 ≤ k ∧ 400 < roundNearest (xs.getD k 0))).length
    ∃ q : Part, Completes (.loopTestDone xs) s q ∧ p.afterTest q ∧
      q.diag.loop = some ⟨.loopTest, t.port, t.source, .done (.loop len a64 a256 loss clamped), t.start, 3000⟩ ∧
      q.diag.attenuation = some (table, t.start) ∧ q.log.next = p.log.next + (if 5000 < len then 1 else 0) ∧
      (5000 < len → p.recorded q 0 1 .longLoop .info .line p.line.state [(len : Int), loss]) ∧
      q.diag.noise = p.diag.noise ∧ q.diag.noiseTable = p.diag.noiseTable ∧ q.load = p.load ∧ q.band = p.band := by
  intro p table a64 a256 loss len clamped
  have hclamped : clampedTones xs = clamped := by
    show (tones.filter _).length = ((List.range 448).filter _).length
    congr 1
    refine List.filter_congr fun k _ => ?_
    rw [Bool.decide_and]
  have hloop : p.loopTesting = true := by
    unfold Part.loopTesting
    rw [show p.diag.running = some t from ht]
    exact beq_iff_eq.2 htest
  generalize hx : ({ p with diag := { p.diag with attenuation := some (table, t.start) } } : Part) = x
  generalize ho : DiagOutcome.done (.loop len a64 a256 loss clamped) = o
  have hdone : p.loopDone xs = (x.recordIf (decide (5000 < len)) .longLoop .line [(len : Int), loss]).endTest o 3000 := by
    have hstart : (p.diag.running.map (·.start)).getD 0 = t.start := by rw [show p.diag.running = some t from ht]; rfl
    unfold Part.loopDone
    dsimp only
    rw [hstart, hclamped]
    subst hx ho
    unfold Part.recordIf
    by_cases hlen : 5000 < len
    · rw [if_pos (decide_eq_true hlen)]
      exact congrArg (fun y : Part => y.endTest _ _) (if_pos hlen)
    · rw [if_neg (show ¬ decide (5000 < len) = true from fun h => hlen (of_decide_eq_true h))]
      exact congrArg (fun y : Part => y.endTest _ _) (if_neg hlen)
  have hxg : x.ground = p.ground := by subst hx; rfl
  have hxdiag : x.diag = { p.diag with attenuation := some (table, t.start) } := by subst hx; rfl
  have hxline : x.line = p.line ∧ x.supply = p.supply ∧ x.load = p.load ∧ x.band = p.band ∧ x.portA = p.portA ∧
      x.link = p.link ∧ x.log = p.log := by subst hx; exact ⟨rfl, rfl, rfl, rfl, rfl, rfl, rfl⟩
  obtain ⟨hxl, hxs, hxload, hxband, hxA, hxlink, hxlog⟩ := hxline
  obtain ⟨hyl, hys, hyd, hyload, hyband, hyfixed, hyroom, hynext⟩ :=
    x.recordIf_fields (decide (5000 < len)) .longLoop .line [(len : Int), loss]
  have hrecorded : 5000 < len → p.recorded
      ((x.recordIf (decide (5000 < len)) .longLoop .line [(len : Int), loss]).endTest o 3000).settle 0 1 .longLoop .info
      .line p.line.state [(len : Int), loss] :=
    fun hlen => Part.recordIf_recorded hxg (decide_eq_true hlen) _ _ _ _ _
  generalize x.recordIf (decide (5000 < len)) .longLoop .line [(len : Int), loss] = y
    at hdone hyl hys hyd hyload hyband hyfixed hyroom hynext hrecorded
  obtain ⟨hafter, hdiag⟩ := Part.endTest_after (p := p) (hyl.trans hxl) (hys.trans hxs)
    ((Part.hook_of_fixed hyfixed .a).trans (congrArg Port.hook hxA)) (by rw [← hxlink]; exact hyroom) o 3000
  obtain ⟨hnext, -, hload, hband⟩ := (y.endTest o 3000).settle_keeps
  obtain ⟨helog, heload, heband⟩ := y.endTest_keeps o 3000
  have hrunning : y.diag.running = some t := by rw [hyd, hxdiag]; exact ht
  rw [Diag.finish_eq hrunning, hyd, hxdiag, if_pos htest, if_neg (by rw [htest]; nofun)] at hdiag
  refine ⟨(y.endTest o 3000).settle, completes_of (o := execLoopTestDone xs s) rfl rfl hrun ?_, hafter, ?_, ?_, ?_, hrecorded,
    ?_, ?_, ?_, ?_⟩
  · rw [if_pos (show s.part.loopTesting = true from hloop), show s.part.loopDone xs = _ from hdone]
  · rw [hdiag]
    subst ho
    rw [RunningTest.result, htest]
  · rw [hdiag]
  · rw [hnext, helog, hynext, hxlog]
    simp only [decide_eq_true_eq]
  · rw [hdiag]
  · rw [hdiag]
  · rw [hload, heload, hyload, hxload]
  · rw [hband, heband, hyband, hxband]

/-! ### NOISE_SCAN -/

end

theorem Part.scanning_of {p : Part} {t : RunningTest} (ht : p.diag.running = some t) (htest : t.test = .noiseScan) :
    p.scanning = true ∧ p.scanExtended = t.extended := by
  have hscan : p.scanning = true := by
    unfold Part.scanning
    rw [ht]
    exact beq_iff_eq.2 htest
  refine ⟨hscan, ?_⟩
  unfold Part.scanExtended
  rw [hscan, ht]
  rfl

theorem Part.testing_self {p : Part} {t : RunningTest} (ht : p.diag.running = some t) : p.testing t = p := by
  unfold Part.testing
  rw [← ht]

/-- The end of a scan (R166, R172, R173). -/
theorem Part.scanDone_after (p : Part) {u : RunningTest} (htest : u.test = .noiseScan) (d : Nat) :
    let q := ((p.testing u).scanDone d).settle
    p.afterTest q ∧ q.diag.noise = some (u.result (.done u.noiseValues) d) ∧
      q.diag.noiseTable = some (u.working, u.start) ∧ q.diag.attenuation = p.diag.attenuation := by
  intro q
  generalize hy : ({ p with diag := { p.diag with running := some u, noiseTable := some (u.working, u.start) } } : Part) = y
  have hdone : (p.testing u).scanDone d = y.endTest (.done u.noiseValues) d := by
    subst hy
    rfl
  have hyd : y.diag = { p.diag with running := some u, noiseTable := some (u.working, u.start) } := by subst hy; rfl
  have hrest : y.line = p.line ∧ y.supply = p.supply ∧ y.portA = p.portA ∧ y.link = p.link := by
    subst hy
    exact ⟨rfl, rfl, rfl, rfl⟩
  obtain ⟨hyl, hys, hyA, hylink⟩ := hrest
  obtain ⟨hafter, hdiag⟩ := Part.endTest_after hyl hys (congrArg Port.hook hyA) (by rw [hylink]; exact Nat.le_succ _)
    (.done u.noiseValues) d
  rw [Diag.finish_eq (t := u) (by rw [hyd]), hyd, if_neg (by rw [htest]; nofun), if_pos htest] at hdiag
  have hq : q = (y.endTest (.done u.noiseValues) d).settle := congrArg Part.settle hdone
  rw [hq, hdiag]
  exact ⟨hafter, rfl, rfl, rfl⟩

/-- The scan symbols that count for the noise: those that are no impulse symbols, or all where every one is (R172). -/
theorem noiseTableOf_eq (xs : List ScanSymbol) :
    noiseTableOf xs = (List.range 448).map fun k =>
      if k ≤ 5 then -40
      else max (-40) (min 240 (meanQdb
        (sumInt ((if xs.all scanImpulse then xs else xs.filter fun z => !scanImpulse z).map fun z => z.noise.getD k 0))
        (if xs.all scanImpulse then xs else xs.filter fun z => !scanImpulse z).length)) := by
  have hused : (if (xs.filter fun z => !scanImpulse z).isEmpty then xs else xs.filter fun z => !scanImpulse z) =
      if xs.all scanImpulse then xs else xs.filter fun z => !scanImpulse z := by
    have hempty : (xs.filter fun z => !scanImpulse z).isEmpty = xs.all scanImpulse := by
      rw [Bool.eq_iff_iff, List.isEmpty_iff, List.filter_eq_nil_iff, List.all_eq_true]
      simp only [Bool.not_eq_true', Bool.not_eq_false]
    rw [hempty]
  unfold noiseTableOf
  dsimp only
  rw [hused]
  rfl

section
variable {s : State} {t : RunningTest} (hrun : s.part.running = true) (ht : s.part.diag.running = some t)
  (htest : t.test = .noiseScan)
include hrun ht htest

/-- The end of a noise phase (R172, R173). -/
theorem noisePhase_ended (hphase : t.extended = false) (xs : List ScanSymbol) :
    (t.events < 2 → Completes (.noisePhaseEnd xs) s
      (((s.part.testing { t with
        working := noiseTableOf xs, impulses := (xs.filter scanImpulse).length, extended := false }).scanDone 1000).settle)) ∧
    (2 ≤ t.events → Completes (.noisePhaseEnd xs) s
      (s.part.testing { t with
        working := noiseTableOf xs, impulses := (xs.filter scanImpulse).length, extended := true }).settle) := by
  obtain ⟨hscan, hext⟩ := Part.scanning_of ht htest
  have hready : (s.part.scanning && !s.part.scanExtended) = true := by rw [hscan, hext, hphase]; rfl
  have hend : s.part.noisePhaseEnd xs =
      if t.events < 2 then (s.part.testing { t with
        working := noiseTableOf xs, impulses := (xs.filter scanImpulse).length
        extended := decide (2 ≤ t.events) }).scanDone 1000
      else s.part.testing { t with
        working := noiseTableOf xs, impulses := (xs.filter scanImpulse).length, extended := decide (2 ≤ t.events) } := by
    unfold Part.noisePhaseEnd
    rw [ht]
    rfl
  refine ⟨fun hfew => ?_, fun hmany => ?_⟩
  · rw [if_pos hfew, decide_eq_false (Nat.not_le.2 hfew)] at hend
    exact completes_of (o := execNoisePhaseEnd xs s) rfl rfl hrun (by rw [if_pos hready, hend])
  · rw [if_neg (Nat.not_lt.2 hmany), decide_eq_true hmany] at hend
    exact completes_of (o := execNoisePhaseEnd xs s) rfl rfl hrun (by rw [if_pos hready, hend])

theorem noiseScan_done (hphase : t.extended = true) :
    Completes .noiseScanDone s ((s.part.testing t).scanDone 17000).settle := by
  obtain ⟨-, hext⟩ := Part.scanning_of ht htest
  refine completes_of (o := execNoiseScanDone s) rfl rfl hrun ?_
  rw [if_pos (hext.trans hphase), Part.testing_self ht]

/-- An impulse symbol of the scan (R81, R173). -/
theorem scanImpulse_taken (y : Symbol) :
    Completes (.scanImpulseEvent y) s (s.part.testing (t.impulseSymbol y)) := by
  refine completes_of (o := execScanImpulseEvent y s) rfl rfl hrun ?_
  rw [if_pos (Part.scanning_of ht htest).1, ht]
  rfl

end

theorem RunningTest.impulseSymbol_eq (t : RunningTest) (y : Symbol) :
    t.impulseSymbol y =
      if (match t.impulse with
        | some last => decide ((y - last).toNat ≤ 5)
        | none => false) then { t with impulse := some y }
      else { t with
        impulse := some y, events := t.events + 1, history := (t.history ++ [y]).drop (t.history.length + 1 - 8)
        lock := if (lockTest ((t.history ++ [y]).drop (t.history.length + 1 - 8))).isSome then
            lockTest ((t.history ++ [y]).drop (t.history.length + 1 - 8))
          else t.lock } := by
  unfold RunningTest.impulseSymbol RunningTest.continues RunningTest.takeEvent
  rw [enterHistory_eq]
  dsimp only
  cases lockTest ((t.history ++ [y]).drop (t.history.length + 1 - 8)) <;> rfl

/-! ### PORT_TEST -/

section
variable {s : State} {t : RunningTest} (hrun : s.part.running = true) (ht : s.part.diag.running = some t)
  (htest : t.test = .portTest) {x : PortId} (hport : t.port = some x)
include hrun ht htest hport

theorem portTest_done (load leakage : Int) :
    let p := s.part
    let rl := (max 0 (min 10 (roundNearest load))).toNat
    let lk := (max 0 (min 1000 (roundNearest leakage))).toNat
    ∃ q : Part, Completes (.portTestDone load leakage) s q ∧ p.afterTest q ∧
      (q.port x).ringLoad = rl ∧ (q.port (other x)).ringLoad = (p.port (other x)).ringLoad ∧
      (match x with | .a => q.diag.portA | .b => q.diag.portB) =
        some ⟨.portTest, some x, t.source, .done (.port rl lk (p.port x).ringLoad), t.start, 2000⟩ ∧
      q.log.next = p.log.next + (if lk < 20 then 1 else 0) ∧
      (lk < 20 → p.recorded q 0 1 .wetWiring .major (sourceOf x) p.line.state [(lk : Int), (rl : Int)]) ∧
      q.diag.loop = p.diag.loop := by
  intro p rl lk
  generalize hz : p.modPort x (fun r => { r with ringLoad := rl }) = z
  generalize ho : DiagOutcome.done (.port rl lk (p.port x).ringLoad) = o
  have hdone : p.portTestDone x load leakage =
      (z.recordIf (decide (lk < 20)) .wetWiring (sourceOf x) [(lk : Int), (rl : Int)]).endTest o 2000 := by
    unfold Part.portTestDone
    dsimp only
    subst hz ho
    unfold Part.recordIf
    rw [portSource_eq]
    by_cases hlk : lk < 20
    · rw [if_pos (decide_eq_true hlk)]
      exact congrArg (fun y : Part => y.endTest _ _) (if_pos hlk)
    · rw [if_neg (show ¬ decide (lk < 20) = true from fun h => hlk (of_decide_eq_true h))]
      exact congrArg (fun y : Part => y.endTest _ _) (if_neg hlk)
  have hzg : z.ground = p.ground := by subst hz; simp
  have hzport : (z.port x).ringLoad = rl := by subst hz; rw [Part.port_modPort]
  have hzother : z.port (other x) = p.port (other x) := by subst hz; simp
  have hzA : z.portA.hook = p.portA.hook := by subst hz; cases x <;> rfl
  have hzrest : z.line = p.line ∧ z.supply = p.supply ∧ z.link = p.link ∧ z.log = p.log ∧ z.diag = p.diag := by
    subst hz
    exact ⟨by simp, by simp, by simp, by simp, by simp⟩
  obtain ⟨hzl, hzs, hzlink, hzlog, hzdiag⟩ := hzrest
  obtain ⟨hyl, hys, hyd, -, -, hyfixed, hyroom, hynext⟩ :=
    z.recordIf_fields (decide (lk < 20)) .wetWiring (sourceOf x) [(lk : Int), (rl : Int)]
  have hrecorded : lk < 20 → p.recorded
      ((z.recordIf (decide (lk < 20)) .wetWiring (sourceOf x) [(lk : Int), (rl : Int)]).endTest o 2000).settle 0 1
      .wetWiring .major (sourceOf x) p.line.state [(lk : Int), (rl : Int)] :=
    fun hlk => Part.recordIf_recorded hzg (decide_eq_true hlk) _ _ _ _ _
  generalize z.recordIf (decide (lk < 20)) .wetWiring (sourceOf x) [(lk : Int), (rl : Int)] = y
    at hdone hyl hys hyd hyfixed hyroom hynext hrecorded
  obtain ⟨hafter, hdiag⟩ := Part.endTest_after (p := p) (hyl.trans hzl) (hys.trans hzs)
    ((Part.hook_of_fixed hyfixed .a).trans hzA) (by rw [← hzlink]; exact hyroom) o 2000
  obtain ⟨hnext, -, -, -⟩ := (y.endTest o 2000).settle_keeps
  have hfixed : (y.endTest o 2000).settle.fixed = z.fixed :=
    (Part.settle_fixed _).trans ((y.endTest_fixed o 2000).trans hyfixed)
  have hrunning : y.diag.running = some t := by rw [hyd, hzdiag]; exact ht
  rw [Diag.finish_eq hrunning, hyd, hzdiag, if_neg (by rw [htest]; nofun), if_neg (by rw [htest]; nofun)] at hdiag
  refine ⟨(y.endTest o 2000).settle, completes_of (o := execPortTestDone load leakage s) rfl rfl hrun ?_, hafter,
    (Part.ringLoad_of_fixed hfixed x).trans hzport, (Part.ringLoad_of_fixed hfixed (other x)).trans (by rw [hzother]), ?_,
    ?_, hrecorded, ?_⟩
  · rw [ht]
    dsimp only
    rw [htest, hport]
    exact congrArg Part.settle hdone
  · have hresult : t.result o 2000 = ⟨.portTest, some x, t.source, o, t.start, 2000⟩ := by
      rw [RunningTest.result, htest, hport]
    rw [hdiag]
    cases x with
    | a =>
      show (if t.test = .portTest ∧ t.port ≠ some .b then some (t.result o 2000) else p.diag.portA) = _
      rw [if_pos ⟨htest, by rw [hport]; nofun⟩, hresult]
    | b =>
      show (if t.test = .portTest ∧ t.port = some .b then some (t.result o 2000) else p.diag.portB) = _
      rw [if_pos ⟨htest, hport⟩, hresult]
  · rw [hnext, (y.endTest_keeps o 2000).1, hynext, hzlog]
    simp only [decide_eq_true_eq]
  · rw [hdiag]

end

/-- Settles O54: the values of each test, and what follows its end. -/
theorem testsMeasureAndEnd : Obligations.TestsMeasureAndEnd := by
  refine ⟨fun s t hrun ht => ?_, roundNearest_close, fun sum n hn => meanQdb_close sum hn⟩
  intro p ends figures
  refine ⟨fun htest xs => loopTest_done hrun ht htest xs, fun htest hphase xs => ?_, fun htest hphase => ?_,
    fun htest y => ?_, fun htest x hport load leakage => portTest_done hrun ht htest hport load leakage⟩
  · intro impulse used table impulses
    obtain ⟨hfew, hmany⟩ := noisePhase_ended hrun ht htest hphase xs
    have htable : noiseTableOf xs = table := noiseTableOf_eq xs
    rw [htable] at hfew hmany
    refine ⟨fun h => ?_, fun h => ⟨_, hmany h, ?_⟩⟩
    · obtain ⟨hafter, hnoise, hnoiseTable, hatt⟩ := p.scanDone_after
        (u := { t with working := table, impulses := impulses, extended := false }) htest 1000
      refine ⟨_, hfew h, hafter, hnoise.trans ?_, hnoiseTable, hatt⟩
      rw [RunningTest.result, htest]
      rfl
    · refine ((Part.Watches_refl _).settle.diag_eq fun y => ?_).trans rfl
      show (t.test == .portTest && t.port == some y) = false
      rw [htest]
      rfl
  · obtain ⟨hafter, hnoise, hnoiseTable, -⟩ := p.scanDone_after (u := t) htest 17000
    refine ⟨_, noiseScan_done hrun ht htest hphase, hafter, hnoise.trans ?_, hnoiseTable⟩
    rw [RunningTest.result, htest]
    rfl
  · intro history continues
    have htaken := scanImpulse_taken hrun ht htest y
    rw [RunningTest.impulseSymbol_eq] at htaken
    exact htaken

end Sys2Proof.Machine
end

section
/-! SUPPORT and PROOFS. Entry to CARRYING (O36): the choice of a report (R152), the ports taken as just off-hook (R96), and the
records lined up again (R156). -/

namespace Sys2Proof.Machine

/-! ### The choice of a report -/

theorem chooseReport_cons_none {r : FaultRecord} {rs : List FaultRecord} (h : chooseReport rs = none) :
    chooseReport (r :: rs) = if r.delivery = .toSend then some r else none := by
  rw [chooseReport, h]

theorem chooseReport_cons_some {r x : FaultRecord} {rs : List FaultRecord} (h : chooseReport rs = some x) :
    chooseReport (r :: rs) =
      if r.delivery = .toSend ∧ severityCode x.severity ≤ severityCode r.severity then some r else some x := by
  rw [chooseReport, h]

theorem chooseReport_none_iff (log : List FaultRecord) :
    chooseReport log = none ↔ ∀ z ∈ log, z.delivery ≠ .toSend := by
  induction log with
  | nil => simp [chooseReport]
  | cons r rs ih =>
    rw [List.forall_mem_cons, ← ih]
    cases hrest : chooseReport rs with
    | none =>
      rw [chooseReport_cons_none hrest]
      split
      · rename_i hr
        simp [hr]
      · rename_i hr
        simp [hr]
    | some x =>
      rw [chooseReport_cons_some hrest]
      split <;> simp

/-- R152 chooses the highest severity, and the first among equals. -/
theorem chooseReport_split {log : List FaultRecord} {r : FaultRecord} (h : chooseReport log = some r) :
    ∃ older newer : List FaultRecord, log = older ++ r :: newer ∧ r.delivery = .toSend ∧
      (∀ z ∈ older, z.delivery = .toSend → severityCode z.severity < severityCode r.severity) ∧
      ∀ z ∈ newer, z.delivery = .toSend → severityCode z.severity ≤ severityCode r.severity := by
  induction log generalizing r with
  | nil => cases h
  | cons y ys ih =>
    cases hrest : chooseReport ys with
    | none =>
      rw [chooseReport_cons_none hrest] at h
      split at h
      · rename_i hy
        obtain rfl := Option.some.inj h
        exact ⟨[], ys, rfl, hy, fun z hz => absurd hz List.not_mem_nil, fun z hz hsend => absurd hsend ((chooseReport_none_iff ys).1 hrest z hz)⟩
      · cases h
    | some x =>
      rw [chooseReport_cons_some hrest] at h
      obtain ⟨older, newer, hys, hx, hold, hnew⟩ := ih hrest
      split at h
      · rename_i hy
        obtain rfl := Option.some.inj h
        refine ⟨[], ys, rfl, hy.1, fun z hz => absurd hz List.not_mem_nil, fun z hz hsend => Nat.le_trans ?_ hy.2⟩
        rw [hys] at hz
        rcases List.mem_append.1 hz with hz | hz
        · exact Nat.le_of_lt (hold z hz hsend)
        · rcases List.mem_cons.1 hz with rfl | hz
          · exact Nat.le_refl _
          · exact hnew z hz hsend
      · rename_i hy
        obtain rfl := Option.some.inj h
        refine ⟨y :: older, newer, by rw [hys]; rfl, hx, fun z hz hsend => ?_, hnew⟩
        rcases List.mem_cons.1 hz with rfl | hz
        · exact Nat.lt_of_not_le fun hle => hy ⟨hsend, hle⟩
        · exact hold z hz hsend

/-! ### Messages offered -/

theorem mem_insertMsg {m k : Msg} {ms : List Msg} : k ∈ insertMsg m ms ↔ k = m ∨ k ∈ ms := by
  unfold insertMsg
  split
  · have hsplit : k ∈ ms ↔ k ∈ ms.takeWhile (·.isSignal) ∨ k ∈ ms.dropWhile (·.isSignal) := by
      rw [← List.mem_append, List.takeWhile_append_dropWhile]
    rw [List.mem_append, List.mem_cons, hsplit]
    exact or_left_comm
  · rw [List.mem_append, List.mem_singleton, or_comm]

/-- A SIGNAL leaves the log alone where no report is in flight, for none of it can be displaced (R155). -/
theorem offer_log_idle {m : Msg} {l : Service × Log} (h : l.2.inFlight = none) : (offer m l).2 = l.2 := by
  unfold offer
  split
  · rfl
  · cases m with
    | signal p x =>
      dsimp only
      split
      · rfl
      · rename_i k _
        show l.2.displaced k = l.2
        unfold Log.displaced
        split
        · rw [h, if_neg nofun]
        · rfl
    | _ => rfl

/-- The queue never shrinks by an offer (R21). -/
theorem offer_length {m : Msg} {l : Service × Log} : l.1.outQ.length ≤ (offer m l).1.outQ.length := by
  unfold offer
  split
  · rw [insertMsg_length]
    exact Nat.le_succ _
  · cases m with
    | signal p x =>
      dsimp only
      cases hnewest : newestOther l.1.outQ with
      | none => exact Nat.le_refl _
      | some k =>
        show l.1.outQ.length ≤ (insertMsg (.signal p x) (dropNewest l.1.outQ)).length
        have hfound := List.find?_some hnewest
        have hmem := List.mem_of_find?_eq_some hnewest
        have herase := List.length_eraseP_of_mem (p := fun m : Msg => !m.isSignal) hmem hfound
        rw [insertMsg_length, dropNewest, List.length_reverse, herase, List.length_reverse]
        omega
    | _ => exact Nat.le_refl _

theorem offer_room_length {m : Msg} {l : Service × Log} (h : l.1.outQ.length < 16) :
    (offer m l).1.outQ.length = l.1.outQ.length + 1 ∧ (offer m l).2 = l.2 ∧
      ∀ k, k ∈ (offer m l).1.outQ ↔ k = m ∨ k ∈ l.1.outQ := by
  rw [offer_room h]
  exact ⟨insertMsg_length m l.1.outQ, rfl, fun k => mem_insertMsg⟩

/-- A message offered where the condition holds. -/
def offerIf (c : Bool) (m : Msg) (l : Service × Log) : Service × Log := if c then offer m l else l

theorem offerIf_idle {c : Bool} {m : Msg} {l : Service × Log} (h : l.2.inFlight = none) :
    (offerIf c m l).2 = l.2 ∧ l.1.outQ.length ≤ (offerIf c m l).1.outQ.length := by
  cases c
  · exact ⟨rfl, Nat.le_refl _⟩
  · exact ⟨offer_log_idle h, offer_length⟩

theorem offerIf_room {c : Bool} {m : Msg} {l : Service × Log} (h : l.1.outQ.length < 16) :
    (offerIf c m l).1.outQ.length ≤ l.1.outQ.length + 1 ∧ (offerIf c m l).2 = l.2 ∧
      (∀ k ∈ l.1.outQ, k ∈ (offerIf c m l).1.outQ) ∧ (c = true → m ∈ (offerIf c m l).1.outQ) := by
  cases c
  · exact ⟨Nat.le_succ _, rfl, fun k hk => hk, nofun⟩
  · obtain ⟨hlength, hlog, hmem⟩ := offer_room_length (m := m) h
    exact ⟨Nat.le_of_eq hlength, hlog, fun k hk => (hmem k).2 (.inr hk), fun _ => (hmem m).2 (.inl rfl)⟩

/-! ### Ports taken as just off-hook -/

theorem Part.isCaller_of_rings {s x : Part} {p : PortId} (hst : (x.port (other p)).state = (s.port (other p)).state)
    (hr : (x.port (other p)).ring = (s.port (other p)).ring) : x.isCaller p = s.isCaller p := by
  unfold Part.isCaller
  dsimp only
  rw [hst, hr]

/-- R96 takes the port as just off-hook: it dials, unannounced, and is no caller. -/
def Part.awaits (s : Part) (p : PortId) : Bool :=
  decide ((s.port p).state = .dialling ∧ (s.port p).announced = false ∧ s.isCaller p = false)

/-- The port taken so: announced, its dial timer at 30 s, and no TONE of before. -/
def Port.dialledAnew (r : Port) : Port :=
  { r with announced := true, dialTimer := some 30000, lastTone := none }

section
variable (s : Part) (p : PortId)

theorem Part.dialsAnew_eq :
    s.dialsAnew p = if s.awaits p then
      (s.sayOffHook p).modPort p fun r => { r with dialTimer := some 30000, lastTone := none } else s := by
  unfold Part.dialsAnew Part.awaits
  simp only [decide_eq_true_eq]

theorem Part.dialsAnew_port :
    (s.dialsAnew p).port p = if s.awaits p then (s.port p).dialledAnew else s.port p := by
  rw [Part.dialsAnew_eq]
  split
  · rw [Part.port_modPort, Part.sayOffHook_port]
    rfl
  · rfl

@[simp] theorem Part.dialsAnew_port_other : (s.dialsAnew p).port (other p) = s.port (other p) := by
  rw [Part.dialsAnew_eq]
  split <;> simp

@[simp] theorem Part.dialsAnew_ground : (s.dialsAnew p).ground = s.ground := by
  rw [Part.dialsAnew_eq]
  split <;> simp

@[simp] theorem Part.dialsAnew_wiring : (s.dialsAnew p).wiring = s.wiring := by
  rw [Part.dialsAnew_eq]
  split <;> simp

@[simp] theorem Part.dialsAnew_diag : (s.dialsAnew p).diag = s.diag := by
  rw [Part.dialsAnew_eq]
  split <;> simp [Part.sayOffHook]

@[simp] theorem Part.dialsAnew_link : (s.dialsAnew p).link = s.link := by
  rw [Part.dialsAnew_eq]
  split <;> simp [Part.sayOffHook]

theorem Part.dialsAnew_mail :
    (s.dialsAnew p).mail = offerIf (s.awaits p) (.signal p .offHook) s.mail := by
  rw [Part.dialsAnew_eq]
  cases s.awaits p <;> simp [offerIf]

end

/-- A port taken as just off-hook keeps its state and its ring, so that the other awaits as before. -/
theorem Part.dialsAnew_awaits_other (s : Part) (p : PortId) : (s.dialsAnew p).awaits (other p) = s.awaits (other p) := by
  have hself : ((s.dialsAnew p).port p).state = (s.port p).state ∧ ((s.dialsAnew p).port p).ring = (s.port p).ring := by
    rw [Part.dialsAnew_port]
    split <;> exact ⟨rfl, rfl⟩
  have hcaller : (s.dialsAnew p).isCaller (other p) = s.isCaller (other p) :=
    Part.isCaller_of_rings (by rw [other_other]; exact hself.1) (by rw [other_other]; exact hself.2)
  unfold Part.awaits
  rw [hcaller, Part.dialsAnew_port_other]

/-- Both ports as the line enters service (R30, R96). -/
def Part.dialBoth (s : Part) : Part := (s.dialsAnew .a).dialsAnew .b

theorem Part.dialBoth_port (s : Part) (x : PortId) :
    s.dialBoth.port x = if s.awaits x then (s.port x).dialledAnew else s.port x := by
  cases x with
  | a =>
    have hother := (s.dialsAnew .a).dialsAnew_port_other .b
    exact hother.trans (s.dialsAnew_port .a)
  | b =>
    have hport := (s.dialsAnew .a).dialsAnew_port .b
    rw [show (s.dialsAnew .a).awaits .b = s.awaits .b from s.dialsAnew_awaits_other .a,
      show (s.dialsAnew .a).port .b = s.port .b from s.dialsAnew_port_other .a] at hport
    exact hport

theorem Part.dialBoth_rest (s : Part) :
    s.dialBoth.ground = s.ground ∧ s.dialBoth.wiring = s.wiring ∧ s.dialBoth.diag = s.diag ∧ s.dialBoth.link = s.link := by
  unfold Part.dialBoth
  exact ⟨by simp, by simp, by simp, by simp⟩

/-- The SIGNALs of both (R96): each by the room of the queue. -/
theorem Part.dialBoth_mail (s : Part) :
    s.dialBoth.mail = offerIf (s.awaits .b) (.signal .b .offHook) (offerIf (s.awaits .a) (.signal .a .offHook) s.mail) := by
  have hb := (s.dialsAnew .a).dialsAnew_mail .b
  rw [show (s.dialsAnew .a).awaits .b = s.awaits .b from s.dialsAnew_awaits_other .a, s.dialsAnew_mail .a] at hb
  exact hb

/-- With room for one SIGNAL of each the log stays, and the SIGNALs are queued. -/
theorem Part.dialBoth_room (s : Part) (h : s.svc.outQ.length < 15) :
    s.dialBoth.log = s.log ∧ s.dialBoth.svc.outQ.length ≤ s.svc.outQ.length + 2 ∧
      ∀ x, s.awaits x = true → .signal x .offHook ∈ s.dialBoth.svc.outQ := by
  have hmail := s.dialBoth_mail
  have hslen : s.mail.1.outQ.length < 15 := h
  obtain ⟨halen, halog, -, hamem⟩ :=
    offerIf_room (c := s.awaits .a) (m := .signal .a .offHook) (l := s.mail) (by omega)
  generalize offerIf (s.awaits .a) (.signal .a .offHook) s.mail = l at halen halog hamem hmail
  obtain ⟨hblen, hblog, hbkeep, hbmem⟩ :=
    offerIf_room (c := s.awaits .b) (m := .signal .b .offHook) (l := l) (by omega)
  have hlogOf : s.dialBoth.log = s.dialBoth.mail.2 := rfl
  have hsvcOf : s.dialBoth.svc.outQ = s.dialBoth.mail.1.outQ := rfl
  rw [hlogOf, hsvcOf, hmail]
  refine ⟨hblog.trans halog, by
    show _ ≤ s.mail.1.outQ.length + 2
    omega, fun x hx => ?_⟩
  cases x
  · exact hbkeep _ (hamem hx)
  · exact hbmem hx

/-- With no report in flight the SIGNALs leave the log, and a full queue full. -/
theorem Part.dialBoth_idle (s : Part) (h : s.log.inFlight = none) :
    s.dialBoth.log = s.log ∧ s.svc.outQ.length ≤ s.dialBoth.svc.outQ.length := by
  have hmail := s.dialBoth_mail
  obtain ⟨halog, halen⟩ := offerIf_idle (c := s.awaits .a) (m := .signal .a .offHook) (l := s.mail) h
  generalize offerIf (s.awaits .a) (.signal .a .offHook) s.mail = l at halen halog hmail
  obtain ⟨hblog, hblen⟩ := offerIf_idle (c := s.awaits .b) (m := .signal .b .offHook) (l := l) (by rw [halog]; exact h)
  have hlogOf : s.dialBoth.log = s.dialBoth.mail.2 := rfl
  have hsvcOf : s.dialBoth.svc.outQ = s.dialBoth.mail.1.outQ := rfl
  rw [hlogOf, hsvcOf, hmail]
  exact ⟨hblog.trans halog, Nat.le_trans halen hblen⟩

/-! ### The records lined up again -/

theorem Log.lineUp_records (l : Log) :
    l.lineUp.records = l.records.map fun r =>
      if r.delivery = .undelivered ∧ (r.severity = .major ∨ r.severity = .critical) then
        { r with delivery := .toSend, sends := 0 }
      else r := by
  refine List.map_congr_left fun r _ => ?_
  have hsev : 2 ≤ severityCode r.severity ↔ r.severity = .major ∨ r.severity = .critical := by
    cases r.severity <;> decide
  exact if_congr (and_congr_right fun _ => hsev) rfl rfl

theorem Part.tryOffer_keeps_outQ (s : Part) : ∀ k ∈ s.svc.outQ, k ∈ s.tryOffer.svc.outQ := by
  intro k hk
  unfold Part.tryOffer
  split
  · rename_i h
    split
    · exact hk
    · rename_i r _
      have hroom : s.svc.outQ.length < 16 := of_decide_eq_true (Bool.and_eq_true_iff.1 h).2
      have hqueued := Part.enqueue_room (.faultReport r.offered)
        { s with log := { s.log.modify r.seq FaultRecord.offered with inFlight := some r.seq, ackTimer := none } } hroom
      rw [hqueued]
      exact List.mem_append_left _ hk
  · exact hk

theorem Part.tryOffer_inFlight {s : Part} {k : Seq} (h : s.log.inFlight = some k) : s.tryOffer = s := by
  unfold Part.tryOffer
  rw [if_neg]
  simp [h]

/-! ### Entry to CARRYING -/

/-- The part as the tables and the map come into force (R10, R30, R40). -/
def Part.taking (s : Part) : Part :=
  { s with
    line := { s.line.clearPhase with
      state := .carrying, attempts := 0, holdoff := none, session := some ⟨0, 0, 0⟩, transmitter := .service
      symbol := 0, downInForce := s.line.clearPhase.downOffered, upInForce := s.line.clearPhase.upOffered
      downOffered := none, upOffered := none, move := none, reasons := [], reshape := none, abandoned := 0 }
    band := { s.band with mapInForce := s.band.offeredMap, offeredMap := none }
    load := { s.load with periodSums := [], periodCount := 0 }
    monitor := .initial
    tracker := { Tracker.initial with state := .searching } }

/-- The same, told (R30, R38, R142). -/
def Part.taken (s : Part) : Part := (s.taking.postLine .loading none []).postRates

theorem Part.enterCarrying_eq (s : Part) :
    s.enterCarrying = Part.tryOffer { s.taken.dialBoth with log := s.taken.dialBoth.log.lineUp } := rfl

/-- What comes into force, and what stays, as the line enters service. -/
theorem Part.enterCarrying_rest (s : Part) :
    s.enterCarrying.line = s.taking.line ∧ s.enterCarrying.band = s.taking.band ∧ s.enterCarrying.load = s.taking.load ∧
      s.enterCarrying.monitor = .initial ∧ s.enterCarrying.tracker = { Tracker.initial with state := .searching } ∧
      s.enterCarrying.supply = s.supply ∧ s.enterCarrying.access = s.access ∧ s.enterCarrying.log.next = s.log.next ∧
      s.enterCarrying.diag = s.diag ∧ s.enterCarrying.link = s.taken.link := by
  obtain ⟨hground, -, hdiag, hlink⟩ := s.taken.dialBoth_rest
  have hline := Part.line_of_ground hground
  have hband := Part.band_of_ground hground
  have hload := Part.load_of_ground hground
  have hmonitor := Part.monitor_of_ground hground
  have htracker := Part.tracker_of_ground hground
  have hsupply := Part.supply_of_ground hground
  have haccess := Part.access_of_ground hground
  have hnext := Part.logNext_of_ground hground
  have he := s.enterCarrying_eq
  generalize s.taken.dialBoth = y at hdiag hlink hline hband hload hmonitor htracker hsupply haccess hnext he
  rw [he, Part.tryOffer_line, Part.tryOffer_band, Part.tryOffer_load, Part.tryOffer_monitor, Part.tryOffer_tracker,
    Part.tryOffer_supply, Part.tryOffer_access, Part.tryOffer_next, Part.tryOffer_diag, Part.tryOffer_link]
  exact ⟨hline, hband, hload, hmonitor, htracker, hsupply, haccess, hnext, hdiag, hlink⟩

theorem Part.taken_notices (s : Part) (h : s.link.notices.length < 15) :
    s.taken.link.notices = s.link.notices ++
      [.lineState .carrying .loading 0 none [],
       .rateChange (32 * payload (s.line.downOffered.getD [])) (32 * payload (s.line.upOffered.getD [])) (s.mode .a)
         (s.mode .b)] := by
  have hP : s.taking.capP.getD 0 = payload (s.line.downOffered.getD []) := by
    show (s.line.downOffered.map payload).getD 0 = _
    cases s.line.downOffered <;> rfl
  have hU : s.taking.capU.getD 0 = payload (s.line.upOffered.getD []) := by
    show (s.line.upOffered.map payload).getD 0 = _
    cases s.line.upOffered <;> rfl
  have hfirst : s.taking.postLine .loading none [] =
      { s.taking with link := { s.link with notices := s.link.notices ++ [.lineState .carrying .loading 0 none []] } } :=
    Part.post_room _ (show s.link.notices.length < 16 by omega)
  unfold Part.taken Part.postRates
  rw [hfirst, Part.post_room _ (by
    show (s.link.notices ++ [_]).length < 16
    rw [List.length_append, List.length_singleton]
    omega)]
  show (s.link.notices ++ [_]) ++ [_] = _
  rw [List.append_assoc]
  show s.link.notices ++ [_, Notice.rateChange (rateOf (s.taking.capP.getD 0)) (rateOf (s.taking.capU.getD 0)) _ _] = _
  rw [hP, hU, rateOf, rateOf, Nat.mul_comm, Nat.mul_comm (payload (s.line.upOffered.getD []))]
  rfl

/-- What a port is as it enters service (R96, R97). -/
theorem Part.carrying_port {s : Part} (x : PortId) :
    let q := s.enterCarrying.refreshHeard
    (s.awaits x = true → (q.port x).state = .dialling ∧ (q.port x).announced = true ∧ (q.port x).dialTimer = some 30000 ∧
      (q.port x).heard = .silence ∧ (q.gen x).kind = .silent) ∧
    (s.awaits x = false → q.port x = { s.port x with heard := (q.port x).heard }) ∧
    ((s.port x).state = .dialling → s.isCaller x = true → (q.port x).heard = .tone .ringback) := by
  have hports (y : PortId) : s.enterCarrying.port y = if s.awaits y then (s.port y).dialledAnew else s.port y := by
    have hboth := s.taken.dialBoth_port y
    rw [Part.enterCarrying_eq, Part.port_tryOffer]
    exact hboth
  have hcaller : s.enterCarrying.isCaller x = s.isCaller x := by
    refine Part.isCaller_of_rings ?_ ?_
    · rw [hports]
      split <;> rfl
    · rw [hports]
      split <;> rfl
  have hserv : s.enterCarrying.inService = true := by
    have hline := s.enterCarrying_rest.1
    rw [Part.inService, hline]
    rfl
  generalize s.enterCarrying = y at hports hcaller hserv
  intro q
  have hport := hports x
  have hq : q = y.refreshHeard := rfl
  clear_value q
  subst hq
  rw [Part.refreshHeard_gen_kind, Part.refreshHeard_port]
  refine ⟨fun haw => ?_, fun haw => ?_, fun hst hc => ?_⟩
  · obtain ⟨hst, -, hcall⟩ : (s.port x).state = .dialling ∧ (s.port x).announced = false ∧ s.isCaller x = false :=
      of_decide_eq_true haw
    rw [if_pos haw] at hport
    have hheard : y.heardOf x = .silence := by
      rw [Part.heardOf_dialling_in (by rw [hport]; exact hst) hserv (hcaller.trans hcall), hport]
      rfl
    rw [hheard, hport]
    exact ⟨hst, rfl, rfl, rfl, rfl⟩
  · rw [if_neg (by rw [haw]; decide)] at hport
    rw [hport]
  · refine Part.heardOf_dialling_caller ?_ (hcaller.trans hc)
    rw [hport]
    split
    · exact hst
    · exact hst

/-- What the log and the queue are as the line enters service (R96, R152, R156). -/
theorem Part.carrying_log {s : Part} :
    let q := s.enterCarrying.refreshHeard
    let again := s.log.lineUp.records
    (s.svc.outQ.length < 15 → ∀ x, s.awaits x = true → .signal x .offHook ∈ q.svc.outQ) ∧
    (∀ k, s.log.inFlight = some k → s.svc.outQ.length < 15 → q.log.records = again ∧ q.log.inFlight = some k) ∧
    (s.log.inFlight = none → s.sched.lastReport = none →
      ((16 ≤ s.svc.outQ.length ∨ ∀ r ∈ again, r.delivery ≠ .toSend) → q.log.records = again ∧ q.log.inFlight = none) ∧
      ∀ r, s.svc.outQ.length < 14 → chooseReport again = some r →
        q.log.inFlight = some r.seq ∧ .faultReport r.offered ∈ q.svc.outQ ∧
          q.log.records = again.map fun z => if z.seq = r.seq then z.offered else z) := by
  have hroom := s.taken.dialBoth_room
  have hidle := s.taken.dialBoth_idle
  have hground := s.taken.dialBoth_rest.1
  have hline : s.taken.dialBoth.line = s.taking.line := Eq.trans (Part.line_of_ground hground) rfl
  have hlast : s.taken.dialBoth.sched.lastReport = s.sched.lastReport := Eq.trans (Part.lastReport_of_ground hground) rfl
  have hq : s.enterCarrying.refreshHeard =
      (Part.tryOffer { s.taken.dialBoth with log := s.taken.dialBoth.log.lineUp }).refreshHeard := rfl
  generalize s.taken.dialBoth = y at hroom hidle hground hline hlast hq
  have hserv : y.inService = true := by
    rw [Part.inService, hline]
    rfl
  generalize hz : ({ y with log := y.log.lineUp } : Part) = z at hq
  have hzlog : z.log = y.log.lineUp := by subst hz; rfl
  have hzsvc : z.svc = y.svc := by subst hz; rfl
  have hzserv : z.inService = true := by subst hz; exact hserv
  have hzlast : z.sched.lastReport = s.sched.lastReport := by subst hz; exact hlast
  rw [hq]
  intro q again
  have hqlog : q.log = z.tryOffer.log := z.tryOffer.refreshHeard_log
  have hqsvc : q.svc = z.tryOffer.svc := z.tryOffer.refreshHeard_svc
  rw [hqlog, hqsvc]
  refine ⟨fun hfew x haw => ?_, fun k hk hfew => ?_, fun hnone hlast0 => ⟨fun hcase => ?_, fun r hfew hr => ?_⟩⟩
  · exact z.tryOffer_keeps_outQ _ (by rw [hzsvc]; exact (hroom hfew).2.2 x haw)
  · have hylog : y.log = s.log := (hroom hfew).1
    have hzflight : z.log.inFlight = some k := by rw [hzlog, hylog]; exact hk
    rw [Part.tryOffer_inFlight hzflight, hzlog, hylog]
    exact ⟨rfl, hk⟩
  · obtain ⟨hylog, hlength⟩ := hidle hnone
    have hylog' : y.log = s.log := hylog
    have hsame : z.tryOffer = z := by
      rcases hcase with hfull | hnosend
      · exact Part.tryOffer_of_full (by rw [hzsvc]; exact Nat.le_trans hfull hlength)
      · refine Part.tryOffer_of_none ((chooseReport_none_iff _).2 ?_)
        rw [hzlog, hylog']
        exact hnosend
    rw [hsame, hzlog, hylog']
    exact ⟨rfl, hnone⟩
  · obtain ⟨hylog, hlength, -⟩ := hroom (show s.svc.outQ.length < 15 by omega)
    have hylog' : y.log = s.log := hylog
    have hlength' : y.svc.outQ.length ≤ s.svc.outQ.length + 2 := hlength
    have hoffer := Part.tryOffer_offers (s := z) (r := r) hzserv (by rw [hzlog, hylog']; exact hnone)
      (hzlast.trans hlast0) (by rw [hzsvc]; omega) (by rw [hzlog, hylog']; exact hr)
    rw [hoffer, hzlog, hylog']
    exact ⟨rfl, List.mem_append_right _ (List.mem_singleton_self _), rfl⟩

theorem Part.awaits_false {s : Part} {x : PortId}
    (h : (s.port x).state ≠ .dialling ∨ (s.port x).announced = true ∨ s.isCaller x = true) : s.awaits x = false := by
  refine decide_eq_false fun ⟨hst, hann, hcall⟩ => ?_
  rcases h with h | h | h
  · exact h hst
  · exact Bool.false_ne_true (hann.symm.trans h)
  · exact Bool.false_ne_true (hcall.symm.trans h)

/-- Settles O36: what comes into force, the ports taken as just off-hook, and the report offered. -/
theorem enterCarryingPutsTheTablesInForce : Obligations.EnterCarryingPutsTheTablesInForce := by
  refine ⟨fun s hrun hstate hconfirmed => ?_, fun log => ⟨chooseReport_none_iff log, fun r hr => chooseReport_split hr⟩⟩
  intro p
  have hdone : Completes .enterCarrying s p.enterCarrying.refreshHeard :=
    completes_of (o := execEnterCarrying s) rfl rfl hrun (if_pos ⟨hstate, hconfirmed⟩)
  obtain ⟨hline, hband, hload, hmonitor, htracker, hsupply, haccess, hnext, hdiag, hlink⟩ := p.enterCarrying_rest
  rw [← Part.refreshHeard_line] at hline
  rw [← Part.refreshHeard_band] at hband
  rw [← Part.refreshHeard_load] at hload
  rw [← Part.refreshHeard_monitor] at hmonitor
  rw [← Part.refreshHeard_tracker] at htracker
  rw [← Part.refreshHeard_supply] at hsupply
  rw [← Part.refreshHeard_access] at haccess
  rw [← Part.refreshHeard_log] at hnext
  rw [← Part.refreshHeard_diag] at hdiag
  rw [← Part.refreshHeard_link] at hlink
  have hports := fun x => Part.carrying_port (s := p) x
  have hlogs := Part.carrying_log (s := p)
  refine ⟨p.enterCarrying.refreshHeard, hdone, ?_⟩
  generalize p.enterCarrying.refreshHeard = q
    at hline hband hload hmonitor htracker hsupply haccess hnext hdiag hlink hports hlogs
  rw [hline, hband, hload, hmonitor, htracker, hsupply, haccess, hnext, hdiag, hlink]
  refine ⟨rfl, rfl, rfl, rfl, rfl, rfl, rfl, rfl, rfl, rfl, rfl, rfl, rfl, rfl, rfl, rfl, rfl, rfl, rfl, rfl, rfl, rfl, rfl,
    rfl, fun hfew => p.taken_notices hfew, fun x => ⟨fun hst hann hcall => ?_, fun h => (hports x).2.1 (Part.awaits_false h),
      (hports x).2.2⟩, ?_⟩
  · have haw : p.awaits x = true := decide_eq_true ⟨hst, hann, hcall⟩
    obtain ⟨hstate', hann', htimer, hheard, hgen⟩ := (hports x).1 haw
    exact ⟨hstate', hann', htimer, hheard, hgen, fun hfew => hlogs.1 hfew x haw⟩
  · intro again
    have hagain : p.log.lineUp.records = again := p.log.lineUp_records
    obtain ⟨-, hflight, hfree⟩ := hlogs
    rw [hagain] at hflight hfree
    refine ⟨hflight, fun hnone hlast => ⟨(hfree hnone hlast).1, fun r hfew hr => ?_⟩⟩
    obtain ⟨older, newer, hsplit, hsend, hold, hnew⟩ := chooseReport_split hr
    obtain ⟨hinFlight, hoffered, hrecords⟩ := (hfree hnone hlast).2 r hfew hr
    refine ⟨by rw [hsplit]; exact List.mem_append_right _ List.mem_cons_self, hsend, fun z hz hzsend => ?_, hinFlight,
      hoffered, hrecords⟩
    rw [hsplit] at hz
    rcases List.mem_append.1 hz with hz | hz
    · exact Nat.le_of_lt (hold z hz hzsend)
    · rcases List.mem_cons.1 hz with rfl | hz
      · exact Nat.le_refl _
      · exact hnew z hz hzsend

end Sys2Proof.Machine
end

section
/-! PROOFS. The upstream symbol (R133 to R135, R144), the slow framing (R20) and the bytes of a service message (O44). The
burst queue and the outbound queue behind it are one stream of bytes, and so are the frames behind the bytes placed; a symbol
takes bytes off the front of each. -/

namespace Sys2Proof.Machine

/-! ### The service stream -/

/-- The bytes the management and burst slots have still to send: the rest of the message begun, and those that wait (R134). -/
def Part.stream (s : Part) : List Byte := s.sched.burst.bytes ++ (s.svc.outQ.map Msg.bytes).flatten

/-- No report joins the stream: one is in flight, no record waits, or the line is out of service (R152). -/
def Part.offersNone (s : Part) : Prop :=
  s.log.inFlight.isSome = true ∨ (∀ r ∈ s.log.records, r.delivery ≠ .toSend) ∨ s.inService = false

theorem Part.tryOffer_of_offersNone {s : Part} (h : s.offersNone) : s.tryOffer = s := by
  rcases h with hflight | hnone | hout
  · obtain ⟨k, hk⟩ := Option.isSome_iff_exists.1 hflight
    exact Part.tryOffer_inFlight hk
  · exact Part.tryOffer_of_none ((chooseReport_none_iff _).2 hnone)
  · exact Part.tryOffer_outOfService hout

theorem Part.offersNone_congr {s x : Part} (h : s.offersNone) (hl : x.line = s.line)
    (hflight : x.log.inFlight = s.log.inFlight) (hrecords : x.log.records = s.log.records) : x.offersNone := by
  unfold Part.offersNone Part.inService
  rw [hl, hflight, hrecords]
  exact h

theorem Msg.bytes_ne_nil (m : Msg) : m.bytes ≠ [] := List.cons_ne_nil _ _

/-- The service stream's bytes change the service channel, the burst queue and the log alone. -/
def Part.sentFrom (x s : Part) : Prop :=
  x = { s with svc := x.svc, sched := { s.sched with burst := x.sched.burst }, log := x.log }

theorem Part.burstReady_frame (s : Part) : s.burstReady.sentFrom s := by
  unfold Part.sentFrom Part.burstReady
  split
  · split
    · rw [Part.tryOffer_frame]
    · rfl
  · rfl

theorem Part.burstTaken_frame (s : Part) : s.burstTaken.2.sentFrom s := by
  unfold Part.sentFrom Part.burstTaken
  split
  · rfl
  · split <;> rfl

theorem Part.sentFrom.trans {s x y : Part} (h : y.sentFrom x) (h' : x.sentFrom s) : y.sentFrom s := by
  unfold Part.sentFrom at *
  rw [h, h']

theorem Part.streamByte_frame (s : Part) : s.streamByte.2.sentFrom s :=
  s.burstReady.burstTaken_frame.trans s.burstReady_frame

theorem Part.burstBytes_frame (n : Nat) (s : Part) : (Part.burstBytes n s).2.sentFrom s := by
  induction n generalizing s with
  | zero => exact rfl
  | succ n ih =>
    have hframe := s.streamByte_frame
    unfold Part.burstBytes
    split
    · rename_i s' heq
      rwa [heq] at hframe
    · rename_i b s' heq
      rw [heq] at hframe
      exact (ih s').trans hframe

theorem Part.burstBytes_length (n : Nat) (s : Part) : (Part.burstBytes n s).1.length ≤ n := by
  induction n generalizing s with
  | zero => exact le_rfl
  | succ n ih =>
    unfold Part.burstBytes
    split
    · exact Nat.zero_le _
    · rename_i b s' _
      exact Nat.succ_le_succ (ih s')

/-- The message at the head leaves for the burst queue, and the stream is as it was. -/
theorem Part.burstReady_stream {s : Part} (h : s.offersNone) :
    s.burstReady.stream = s.stream ∧ s.burstReady.offersNone ∧
      (s.burstReady.sched.burst.bytes = [] → s.burstReady.svc.outQ = []) := by
  unfold Part.burstReady
  split
  · rename_i hempty
    split
    · rename_i m q hq
      have hoff : ∀ x : Part, x.line = s.line → x.log = s.log → x.tryOffer = x := fun x hl hlog =>
        Part.tryOffer_of_offersNone (Part.offersNone_congr h hl (congrArg _ hlog) (congrArg _ hlog))
      rw [hoff _ ?_ ?_]
      rotate_left
      · rfl
      · rfl
      refine ⟨?_, Part.offersNone_congr h rfl rfl rfl, fun hb => absurd hb m.bytes_ne_nil⟩
      unfold Part.stream
      rw [hq, List.isEmpty_iff.1 hempty]
      rfl
    · rename_i hq
      exact ⟨rfl, h, fun _ => hq⟩
  · rename_i hempty
    exact ⟨rfl, h, fun hb => absurd (List.isEmpty_iff.2 hb) hempty⟩

/-- A byte taken is the stream's first, and the rest goes on. -/
theorem Part.burstTaken_stream {s : Part} (h : s.offersNone) (hready : s.sched.burst.bytes = [] → s.svc.outQ = []) :
    s.burstTaken.1 = s.stream.head? ∧ s.burstTaken.2.stream = s.stream.drop 1 ∧ s.burstTaken.2.offersNone := by
  unfold Part.burstTaken
  split
  · rename_i hb
    have hempty : s.stream = [] := by rw [Part.stream, hb, hready hb]; rfl
    rw [hempty]
    exact ⟨rfl, rfl, h⟩
  · rename_i b rest hb
    have hstream : s.stream = b :: (rest ++ (s.svc.outQ.map Msg.bytes).flatten) := by rw [Part.stream, hb]; rfl
    rw [hstream]
    split
    · rename_i hrest
      refine ⟨rfl, ?_, ?_⟩
      · rw [List.isEmpty_iff.1 hrest]
        rfl
      · refine Part.offersNone_congr h rfl ?_ ?_
        all_goals
          dsimp only
          split <;> rfl
    · exact ⟨rfl, rfl, Part.offersNone_congr h rfl rfl rfl⟩

theorem Part.streamByte_stream {s : Part} (h : s.offersNone) :
    s.streamByte.1 = s.stream.head? ∧ s.streamByte.2.stream = s.stream.drop 1 ∧ s.streamByte.2.offersNone := by
  obtain ⟨hstream, hready, hnext⟩ := Part.burstReady_stream h
  rw [Part.streamByte_eq, ← hstream]
  exact Part.burstTaken_stream hready hnext

/-- The burst slots take the stream's next bytes (R133, R134). -/
theorem Part.burstBytes_stream (n : Nat) {s : Part} (h : s.offersNone) :
    (Part.burstBytes n s).1 = s.stream.take n ∧ (Part.burstBytes n s).2.stream = s.stream.drop n := by
  induction n generalizing s with
  | zero => exact ⟨rfl, rfl⟩
  | succ n ih =>
    obtain ⟨hbyte, hrest, hnext⟩ := Part.streamByte_stream h
    unfold Part.burstBytes
    split
    · rename_i s' heq
      rw [heq] at hbyte hrest
      have hempty : s.stream = [] := List.head?_eq_none_iff.1 hbyte.symm
      rw [hempty] at hrest ⊢
      exact ⟨rfl, hrest⟩
    · rename_i b s' heq
      rw [heq] at hbyte hrest hnext
      obtain ⟨hbytes, hleft⟩ := ih hnext
      obtain ⟨ys, hys⟩ := List.head?_eq_some_iff.1 hbyte.symm
      rw [hys] at hrest ⊢
      refine ⟨?_, ?_⟩
      · dsimp only
        rw [hbytes, hrest]
        rfl
      · dsimp only
        rw [hleft, hrest]
        rfl

/-! ### The data slots -/

/-- The bytes of the frame records that wait, behind those of the head that are placed (R144). -/
def Sched.framesLeft (d : Sched) : List Byte := (d.upQueue.map frameRecord).flatten.drop d.headPlaced

/-- Fewer bytes of the head are placed than it has (R144). -/
def Sched.headOpen (d : Sched) : Prop := ∀ f fs, d.upQueue = f :: fs → d.headPlaced < f.length + 2

theorem frameRecord_length (f : List Byte) : (frameRecord f).length = f.length + 2 := by
  rw [frameRecord, List.length_append, Nat.add_comm]
  rfl

theorem Sched.dataSlot_frames {d : Sched} (h : d.headOpen) :
    d.dataSlot.1 = d.framesLeft.headD 255 ∧ d.dataSlot.2.framesLeft = d.framesLeft.drop 1 ∧ d.dataSlot.2.headOpen := by
  unfold Sched.dataSlot
  split
  · rename_i hq
    have hempty : d.framesLeft = [] := by
      rw [Sched.framesLeft, hq]
      exact List.drop_nil
    rw [hempty]
    exact ⟨rfl, rfl, h⟩
  · rename_i f fs hq
    have hplaced := h f fs hq
    have hlen := frameRecord_length f
    have hin : d.headPlaced < (frameRecord f).length := by omega
    have hsplit : d.framesLeft =
        (frameRecord f)[d.headPlaced] :: ((frameRecord f).drop (d.headPlaced + 1) ++ (fs.map frameRecord).flatten) := by
      rw [Sched.framesLeft, hq, List.map_cons, List.flatten_cons, List.drop_append_of_le_length hin.le,
        List.drop_eq_getElem_cons hin, List.cons_append]
    rw [hsplit]
    dsimp only
    split
    · refine ⟨List.getD_eq_getElem _ _ hin, ?_, fun f' fs' _ => Nat.succ_pos _⟩
      rw [List.drop_one, List.tail_cons, List.drop_of_length_le (by omega)]
      rfl
    · refine ⟨List.getD_eq_getElem _ _ hin, ?_, fun f' fs' hq' => ?_⟩
      · rw [List.drop_one, List.tail_cons]
        show (d.upQueue.map frameRecord).flatten.drop (d.headPlaced + 1) = _
        rw [hq, List.map_cons, List.flatten_cons, List.drop_append_of_le_length (by omega)]
      · obtain ⟨rfl, -⟩ := List.cons.inj (hq.symm.trans hq')
        show d.headPlaced + 1 < f.length + 2
        omega

/-- A byte off the front of a stream that idle values pad out. -/
theorem take_padded {α : Type} (x : α) (xs : List α) (n : Nat) :
    (xs ++ List.replicate (n + 1) x).take (n + 1) = xs.headD x :: (xs.drop 1 ++ List.replicate n x).take n := by
  cases xs with
  | nil => simp [List.replicate_succ]
  | cons y ys =>
    rw [List.cons_append, List.take_succ_cons, List.drop_one, List.tail_cons, List.take_append, List.take_append]
    simp
    omega

/-- The data slots take the frame records' next bytes, and the fill value 255 behind them (R144). -/
theorem Sched.dataSlots_frames (n : Nat) {d : Sched} (h : d.headOpen) :
    (d.dataSlots n).1 = (d.framesLeft ++ List.replicate n 255).take n ∧ (d.dataSlots n).2.framesLeft = d.framesLeft.drop n := by
  induction n generalizing d with
  | zero => exact ⟨rfl, rfl⟩
  | succ n ih =>
    obtain ⟨hbyte, hrest, hopen⟩ := Sched.dataSlot_frames h
    obtain ⟨hbytes, hleft⟩ := ih hopen
    refine ⟨?_, ?_⟩
    · rw [take_padded, ← hbyte, ← hrest, ← hbytes]
      rfl
    · refine hleft.trans ?_
      rw [hrest, List.drop_drop, Nat.add_comm]

theorem Sched.dataSlots_length (n : Nat) (d : Sched) : (d.dataSlots n).1.length = n := by
  induction n generalizing d with
  | zero => rfl
  | succ n ih => exact congrArg (· + 1) (ih _)

theorem Sched.dataSlot_frame (d : Sched) :
    d.dataSlot.2 = { d with upQueue := d.dataSlot.2.upQueue, headPlaced := d.dataSlot.2.headPlaced } := by
  unfold Sched.dataSlot
  split
  · rfl
  · dsimp only
    split <;> rfl

theorem Sched.dataSlots_burst (n : Nat) (d : Sched) : (d.dataSlots n).2.burst = d.burst := by
  induction n generalizing d with
  | zero => rfl
  | succ n ih =>
    refine (ih d.dataSlot.2).trans ?_
    rw [d.dataSlot_frame]

/-! ### The voice bytes -/

theorem compress_step_le (x : Int) : (compress x).step ≤ 15 := by
  obtain ⟨-, hhigh⟩ := step_bounds (Nat.min_le_right x.natAbs 4079)
  show (min x.natAbs 4079 + 16) / 2 ^ segmentOf (min x.natAbs 4079) - 16 ≤ 15
  omega

theorem compress_segment_le (x : Int) : (compress x).segment ≤ 7 := segmentOf_le _

theorem compress_toByte (x : Int) :
    (compress x).toByte =
      BitVec.ofNat 8 (16 * ((if (compress x).negative = true then 8 else 0) + (compress x).segment) + (compress x).step) := by
  have hs := compress_segment_le x
  have hk := compress_step_le x
  apply BitVec.eq_of_toNat_eq
  rw [Code.toNat_toByte hs hk, BitVec.toNat_ofNat]
  split <;> omega

theorem compress_halves (x y : Int) :
    (compress x).half ++ (compress y).half =
      BitVec.ofNat 8 (16 * ((if (compress x).negative = true then 8 else 0) + (compress x).segment) +
        ((if (compress y).negative = true then 8 else 0) + (compress y).segment)) := by
  have hx := compress_segment_le x
  have hy := compress_segment_le y
  apply BitVec.eq_of_toNat_eq
  rw [toNat_append_eq_add, Code.toNat_half hx, Code.toNat_half hy, BitVec.toNat_ofNat]
  split_ifs <;> omega

/-! ### The symbol in service -/

/-- The tones that carry a symbol in service (R15, R59). -/
theorem Part.driven_service {s : Part} (hrun : s.running = true) (ht : s.line.transmitter = .service)
    (hloop : s.loopTesting = false) :
    s.driven = .tones (((List.range 448).filter fun t =>
        isUp (s.band.mapInForce.getD []) t && decide (((s.line.upInForce.getD []).getD t ⟨0, 0⟩).b ≠ 0)).map fun t =>
      let e := (s.line.upInForce.getD []).getD t ⟨0, 0⟩
      ⟨t, e.b, some (e.g - (s.supply.cutback : Int))⟩) := by
  unfold Part.driven
  rw [hrun, hloop, ht]
  show Drive.tones (((List.range 448).filter _).map _) = _
  congr 2
  refine List.filter_congr fun t _ => ?_
  simp [bne, Bool.beq_eq_decide_eq, entryOff]

/-- What a symbol in the order of R133 leaves of the part. -/
theorem Part.fillSymbol_rest (u : Nat) (s : Part) :
    (s.fillSymbol u).line = s.line ∧ (s.fillSymbol u).load = s.load ∧ (s.fillSymbol u).band = s.band ∧
      (s.fillSymbol u).voice = s.voice ∧ (s.fillSymbol u).portA = s.portA ∧ (s.fillSymbol u).portB = s.portB ∧
      (s.fillSymbol u).supply = s.supply := by
  have hframe := (Part.burstBytes_frame (min 4 (u - (1 + (s.upVoice .a).length + (s.upVoice .b).length)))
    s.streamByte.2).trans s.streamByte_frame
  unfold Part.fillSymbol
  dsimp only
  rw [hframe]
  exact ⟨rfl, rfl, rfl, rfl, rfl, rfl, rfl⟩

theorem Part.fillSymbol_bytes (u : Nat) (s : Part) :
    ∃ burst : List Byte, burst.length ≤ min 4 (u - (1 + (s.upVoice .a).length + (s.upVoice .b).length)) ∧
      (s.fillSymbol u).sched.upSymbol = s.streamByte.1.getD 0 :: s.upVoice .a ++ s.upVoice .b ++ burst ++
        ((Part.burstBytes (min 4 (u - (1 + (s.upVoice .a).length + (s.upVoice .b).length))) s.streamByte.2).2.sched.dataSlots
          (u - (1 + (s.upVoice .a).length + (s.upVoice .b).length) - burst.length)).1 :=
  ⟨(Part.burstBytes _ s.streamByte.2).1, Part.burstBytes_length _ _, rfl⟩

/-- The symbol's bytes and the streams behind it, where no report joins (R133, R134, R144). -/
theorem Part.fillSymbol_streams {u : Nat} {s : Part} (h : s.offersNone) (hopen : s.sched.headOpen) :
    let used := 1 + (s.upVoice .a).length + (s.upVoice .b).length
    let burst := (s.stream.drop 1).take (min 4 (u - used))
    let room := u - used - burst.length
    (s.fillSymbol u).sched.upSymbol = s.stream.headD 0 :: s.upVoice .a ++ s.upVoice .b ++ burst ++
        (s.sched.framesLeft ++ List.replicate room 255).take room ∧
      (s.fillSymbol u).stream = s.stream.drop (1 + burst.length) ∧
      (s.fillSymbol u).sched.framesLeft = s.sched.framesLeft.drop room := by
  intro used burst room
  obtain ⟨hbyte, hrest, hnext⟩ := Part.streamByte_stream h
  obtain ⟨hbytes, hleft⟩ := Part.burstBytes_stream (min 4 (u - used)) hnext
  have hframe := (Part.burstBytes_frame (min 4 (u - used)) s.streamByte.2).trans s.streamByte_frame
  have hburst : (Part.burstBytes (min 4 (u - used)) s.streamByte.2).1 = burst := by rw [hbytes, hrest]
  have hsched : ∃ b, (Part.burstBytes (min 4 (u - used)) s.streamByte.2).2.sched = { s.sched with burst := b } := by
    rw [hframe]
    exact ⟨_, rfl⟩
  obtain ⟨b, hsched⟩ := hsched
  have hdata := Sched.dataSlots_frames room (d := { s.sched with burst := b }) hopen
  have hdef : s.fillSymbol u =
      { (Part.burstBytes (min 4 (u - used)) s.streamByte.2).2 with
        sched := { (Sched.dataSlots room { s.sched with burst := b }).2 with
          upSymbol := (s.streamByte.1.getD 0 :: s.upVoice .a) ++ s.upVoice .b ++ burst ++
            (Sched.dataSlots room { s.sched with burst := b }).1
          upDrive := s.driven } } := by
    show Part.fillSymbol u s = _
    unfold Part.fillSymbol
    dsimp only
    rw [hburst, hsched]
  refine ⟨?_, ?_, ?_⟩
  · rw [hdef]
    dsimp only
    rw [hdata.1, hbyte, List.headD_eq_head?_getD]
    rfl
  · have hstream : (s.fillSymbol u).stream = (Part.burstBytes (min 4 (u - used)) s.streamByte.2).2.stream := by
      rw [hdef]
      show ((Sched.dataSlots room { s.sched with burst := b }).2.burst.bytes) ++ _ = _
      rw [Sched.dataSlots_burst]
      unfold Part.stream
      rw [hsched]
    rw [hstream, hleft, hrest, List.drop_drop]
    show _ = s.stream.drop (1 + ((s.stream.drop 1).take (min 4 (u - used))).length)
    by_cases hn : min 4 (u - used) ≤ (s.stream.drop 1).length
    · rw [List.length_take_of_le hn]
    · have hlen : (s.stream.drop 1).length = s.stream.length - 1 := List.length_drop
      rw [List.length_take, min_eq_right (Nat.le_of_not_le hn), List.drop_of_length_le (by omega),
        List.drop_of_length_le (by omega)]
  · rw [hdef]
    exact hdata.2

/-- The symbol of the last report: what was begun, the report, and idle values (R135). -/
theorem Part.fillReport_bytes (r : List Byte) (u : Nat) (s : Part) :
    (s.fillReport r u).sched.upSymbol = (s.sched.burst.bytes ++ r ++ List.replicate u 0).take u ∧
      (s.fillReport r u).sched.lastReport = some (r.drop (u - s.sched.burst.bytes.length)) := by
  have hplaced : u - (s.sched.burst.bytes.take u).length = u - s.sched.burst.bytes.length := by
    rw [List.length_take]
    omega
  unfold Part.fillReport
  dsimp only
  rw [hplaced]
  refine ⟨?_, rfl⟩
  rw [List.append_assoc, List.append_assoc, List.take_append, List.take_append, List.take_replicate, List.length_take]
  congr 3
  omega

/-! ### The slow framing -/

theorem addSums_clamped (xs snr : List Int) {t : Nat} (ht : t < 448) (hlen : t < snr.length) :
    (addSums xs (snr.map (clamp (-2560) 15360))).getD t 0 =
      xs.getD t 0 + max (-2560) (min 15360 (snr.getD t 0)) := by
  have hread : (snr.map (clamp (-2560) 15360)).getD t 0 = clamp (-2560) 15360 (snr.getD t 0) := by
    rw [List.getD_eq_getElem _ _ (by rwa [List.length_map]), List.getElem_map, List.getD_eq_getElem _ _ hlen]
  rw [addSums, perTone_getD _ _ ht, hread, clamp_eq]

/-- A symbol of the slow framing from the bytes it sends on (R26, R46). -/
def Part.slowSent (snr : List Int) (drive : Drive) (sent : List Byte) (x : Part) : Part :=
  let s2 : Part := { x with sched := { x.sched with upSymbol := sent, upDrive := drive } }
  let s3 : Part :=
    if s2.line.state = .measuring then
      { s2 with
        load := { s2.load with
          measureSums := addSums s2.load.measureSums (snr.map (clamp (-2560) 15360))
          measureCount := s2.load.measureCount + 1 } }
    else s2
  if s3.line.state = .sounding then s3 else { s3 with line := { s3.line with symbol := s3.line.symbol + 1 } }

/-- A byte of the service channel taken (R20). -/
def Part.byteTaken (b : Byte) (s : Part) : Part := { s with svc := s.svc.receiveByte b false }

theorem Part.slowSymbol_eq {s : Part} (b : Byte) (snr : List Int) (h : s.line.state ≠ .sounding) :
    s.slowSymbol b snr =
      (s.byteTaken b).streamByte.2.slowSent snr s.driven [(s.byteTaken b).streamByte.1.getD 0] := by
  unfold Part.slowSymbol
  dsimp only
  rw [if_neg h]
  rfl

theorem Part.byteTaken_stream (b : Byte) (s : Part) : (s.byteTaken b).stream = s.stream := by
  unfold Part.byteTaken Part.stream
  dsimp only
  rw [Service.receiveByte_outQ]

theorem Part.slowSent_fields {x : Part} (snr : List Int) (drive : Drive) (sent : List Byte) (h : x.line.state ≠ .sounding) :
    (x.slowSent snr drive sent).line = { x.line with symbol := x.line.symbol + 1 } ∧
      (x.slowSent snr drive sent).sched.upSymbol = sent ∧ (x.slowSent snr drive sent).band = x.band ∧
      (x.slowSent snr drive sent).stream = x.stream ∧
      (x.slowSent snr drive sent).load =
        if x.line.state = .measuring then
          { x.load with
            measureSums := addSums x.load.measureSums (snr.map (clamp (-2560) 15360))
            measureCount := x.load.measureCount + 1 }
        else x.load := by
  unfold Part.slowSent
  dsimp only
  by_cases hm : x.line.state = .measuring
  · rw [if_pos hm, if_neg h, if_pos hm]
    exact ⟨rfl, rfl, rfl, rfl, rfl⟩
  · rw [if_neg hm, if_neg h, if_neg hm]
    exact ⟨rfl, rfl, rfl, rfl, rfl⟩

/-- A symbol of the slow framing in which messages travel: one byte of the stream goes out (R20, R46). -/
theorem Part.slowSymbol_sends {s : Part} (b : Byte) (snr : List Int)
    (hstate : s.line.state = .measuring ∨ s.line.state = .loading) :
    (s.slowSymbol b snr).line = { s.line with symbol := s.line.symbol + 1 } ∧
      (s.slowSymbol b snr).sched.upSymbol = [s.stream.headD 0] ∧ (s.slowSymbol b snr).band = s.band ∧
      (s.slowSymbol b snr).stream = s.stream.drop 1 ∧
      (s.slowSymbol b snr).load =
        if s.line.state = .measuring then
          { s.load with
            measureSums := addSums s.load.measureSums (snr.map (clamp (-2560) 15360))
            measureCount := s.load.measureCount + 1 }
        else s.load := by
  have hsounding : s.line.state ≠ .sounding := by rcases hstate with h | h <;> rw [h] <;> decide
  have hout : s.inService = false := by
    show s.line.state.inService = false
    rcases hstate with h | h <;> rw [h] <;> rfl
  obtain ⟨hbyte, hrest, -⟩ := Part.streamByte_stream (s := s.byteTaken b) (Or.inr (Or.inr hout))
  have hframe := (s.byteTaken b).streamByte_frame
  have hline : (s.byteTaken b).streamByte.2.line = s.line := by rw [hframe]; rfl
  have hload : (s.byteTaken b).streamByte.2.load = s.load := by rw [hframe]; rfl
  have hband : (s.byteTaken b).streamByte.2.band = s.band := by rw [hframe]; rfl
  have hfields := Part.slowSent_fields snr s.driven [(s.byteTaken b).streamByte.1.getD 0]
    (x := (s.byteTaken b).streamByte.2) (by rw [hline]; exact hsounding)
  rw [hline, hload, hband, hbyte, hrest, Part.byteTaken_stream, ← List.headD_eq_head?_getD] at hfields
  rw [Part.slowSymbol_eq b snr hsounding, hbyte, Part.byteTaken_stream, ← List.headD_eq_head?_getD]
  exact hfields

/-! ### The bytes of a message -/

theorem sumBytes_from (bs : List Byte) (c : Byte) : bs.foldr (· + ·) c = bs.foldr (· + ·) 0 + c := by
  induction bs with
  | nil => exact (BitVec.zero_add c).symm
  | cons x xs ih => rw [List.foldr_cons, List.foldr_cons, ih, BitVec.add_assoc]

/-- The check byte brings the sum of a message's bytes to 0 (R20). -/
theorem sumBytes_checkByte (bs : List Byte) : (bs ++ [checkByte bs]).foldr (· + ·) 0 = 0 := by
  rw [List.foldr_append, sumBytes_from, List.foldr_cons, List.foldr_nil]
  show bs.foldr (· + ·) 0 + (-(bs.foldr (· + ·) 0) + 0#8) = 0#8
  rw [BitVec.add_zero, ← BitVec.sub_eq_add_neg, BitVec.sub_self]

/-- A message's body is at most 250 bytes, for a table segment and a reply piece of their sizes (R20, R199). -/
theorem Msg.body_length {m : Msg} (htable : ∀ n seg es, m = .downTable n seg es → es.length = 224)
    (hreply : ∀ t n f bs, m = .operatorReply t n f bs → bs.length ≤ 247) : m.body.length ≤ 250 := by
  cases m with
  | confirm => exact Nat.zero_le _
  | downTable n seg es =>
    have := htable n seg es rfl
    show es.length + 2 ≤ 250
    omega
  | operatorReply t n f bs =>
    have := hreply t n f bs rfl
    show bs.length + 3 ≤ 250
    omega
  | faultReport r =>
    show 29 ≤ 250
    decide
  | _ => exact List.length_take_le _ _

/-- Settles O44: the streams for the symbol in service, the slow framing as one of their bytes, and the check byte. -/
theorem upstreamBytesFillEachSymbol : Obligations.UpstreamBytesFillEachSymbol := by
  refine ⟨fun s hrun hs => ?_, fun s b snr hrun => ?_, fun x => ?_⟩
  · intro p u half full voice va vb stream frames burst room
    have hvoice : ∀ x : PortId, p.upVoice x = voice x := by
      intro x
      show _ = (match p.slot x, p.chan x with
        | .live, some c =>
          if c.active then
            match c.mode with
            | .full => [BitVec.ofNat 8 (full _), BitVec.ofNat 8 (full _)]
            | .half => [BitVec.ofNat 8 (16 * half _ + half _)]
          else []
        | .ended m true, _ => List.replicate (match m with | .full => 2 | .half => 1) 0
        | _, _ => [])
      unfold Part.upVoice
      cases p.slot x with
      | empty => rfl
      | live =>
        cases p.chan x with
        | none => rfl
        | some c =>
          dsimp only
          cases c.mode with
          | full =>
            simp only [voiceBytes, compress_toByte]
            cases x <;> rfl
          | half =>
            simp only [voiceBytes, compress_halves]
            cases x <;> rfl
      | ended m a => cases a <;> cases m <;> rfl
    have hva : p.upVoice .a = va := hvoice .a
    have hvb : p.upVoice .b = vb := hvoice .b
    refine ⟨fun hlast hroom => ?_, fun r hlast => ?_⟩
    · have hdone : Completes .upstreamSymbolFill s (p.fillSymbol u) := by
        refine completes_of (o := execUpstreamSymbolFill s) rfl rfl hrun ((if_pos hs).trans ?_)
        show (match p.sched.lastReport with | some r => p.fillReport r u | none => p.fillSymbol u) = _
        rw [hlast]
      obtain ⟨hline, hload, hband, hvoices, hportA, hportB, hsupply⟩ := p.fillSymbol_rest u
      obtain ⟨sent, hsent, hbytes⟩ := p.fillSymbol_bytes u
      rw [hva, hvb] at hsent
      refine ⟨_, hdone, ?_, hline, hload, hband, hvoices, hportA, hportB, hsupply, ?_, fun ht hloop => ?_,
        fun hoff hopen => ?_⟩
      · rw [hbytes, hva, hvb]
        simp only [List.length_append, List.length_cons, Sched.dataSlots_length]
        omega
      · rw [hbytes, hva, hvb]
        simp
      · exact Part.driven_service hrun ht hloop
      · have hnone : p.offersNone := hoff.imp_right Or.inl
        have hstreams := Part.fillSymbol_streams (u := u) hnone hopen
        rw [hva, hvb] at hstreams
        exact hstreams
    · have hdone : Completes .upstreamSymbolFill s (p.fillReport r u) := by
        refine completes_of (o := execUpstreamSymbolFill s) rfl rfl hrun ((if_pos hs).trans ?_)
        show (match p.sched.lastReport with | some r => p.fillReport r u | none => p.fillSymbol u) = _
        rw [hlast]
      obtain ⟨hbytes, hleft⟩ := Part.fillReport_bytes r u p
      refine ⟨_, hdone, ?_, hbytes, hleft, rfl, rfl, rfl, rfl⟩
      rw [hbytes, List.length_take_of_le]
      simp only [List.length_append, List.length_replicate]
      omega
  · intro p stream
    have hslow (h : p.line.state = .sounding ∨ p.line.state = .measuring ∨ p.line.state = .loading) :
        Completes (.slowFramingSymbol b snr) s (p.slowSymbol b snr) :=
      completes_of (o := execSlowFramingSymbol b snr s) rfl rfl hrun (if_pos h)
    refine ⟨fun hstate => ⟨_, hslow (Or.inl hstate), ?_⟩, fun hstate => ⟨_, hslow (Or.inr hstate), ?_⟩⟩
    · unfold Part.slowSymbol
      dsimp only
      rw [if_pos hstate]
      dsimp only
      have hm : p.line.state ≠ .measuring := by rw [hstate]; decide
      rw [if_neg hm, if_pos hstate]
      exact ⟨rfl, Service.receiveByte_outQ _ _ _, rfl, rfl⟩
    · obtain ⟨hline, hbytes, hband, hstream, hload⟩ := Part.slowSymbol_sends b snr hstate
      refine ⟨hline, hbytes, hband, ?_, hstream, fun h => ?_, fun h => ?_⟩
      · rw [hload]
        split <;> rfl
      · rw [hload, if_neg (by rw [h]; decide)]
      · rw [hload, if_pos h]
        exact ⟨rfl, fun t ht hlen => addSums_clamped _ _ ht hlen⟩
  · refine ⟨_, _, x.body, rfl, sumBytes_checkByte _, ?_, fun h => Msg.body_length ?_ ?_, ?_, ?_, ?_⟩
    · cases x <;> rfl
    · rintro n seg es rfl
      exact of_decide_eq_true h
    · rintro t n f bs rfl
      exact of_decide_eq_true h
    · rintro rfl
      rfl
    · rintro n seg es rfl
      rfl
    · rintro r rfl
      rfl

end Sys2Proof.Machine
end

section
/-! SUPPORT. What a port that hangs up leaves of the other port, of the channels, of the join link and of the outbound queue
(R101, R107, R112, R114, R138). -/

namespace Sys2Proof.Machine

variable (s : Part) (p : PortId)

/-! ### Leaving a call -/

/-- The other port as a port leaves its call (R101, R107, R112, R114). -/
def Part.leftBy (p : PortId) (old : PortState) (s : Part) : Port :=
  let r := s.port (other p)
  if old = .intercom ∧ r.state = .intercom ∨ p = .a ∧ s.portB.state = .joined then r.parked
  else if s.isCaller p then { r with ring := none, state := .idle }
  else r

theorem Part.dropRungBy_port_parked {x : Part} {p : PortId} {r : Port} (h : x.port (other p) = r.parked) :
    (x.dropRungBy p).port (other p) = r.parked := by
  rw [Part.dropRungBy_port_other, if_neg, h]
  rw [Part.isCaller_false (by rw [h]; exact fun k => nomatch k)]
  exact Bool.false_ne_true

theorem Part.leaveCall_port_other (old : PortState) : (s.leaveCall p old).port (other p) = s.leftBy p old := by
  have hunlink (x : Part) : x.unlink.isCaller p = x.isCaller p := Part.isCaller_congr (x.port_unlink (other p))
  unfold Part.leaveCall Part.leftBy
  dsimp only
  by_cases hcall : old = .intercom ∧ (s.port (other p)).state = .intercom
  · rw [if_pos hcall, if_pos (Or.inl hcall)]
    refine Part.dropRungBy_port_parked ?_
    have hparked := s.park_port (other p)
    cases p with
    | a =>
      rw [if_pos rfl, Part.parkJoined_eq, if_neg]
      · exact hparked
      · have hstate := congrArg Port.state hparked
        intro h
        cases hstate.symm.trans h
    | b =>
      rw [if_neg (by decide), if_neg (by rw [hcall.1]; decide)]
      exact hparked
  · rw [if_neg hcall]
    cases p with
    | a =>
      rw [if_pos rfl, Part.parkJoined_eq]
      by_cases hjoined : s.portB.state = .joined
      · rw [if_pos hjoined, if_pos (Or.inr ⟨rfl, hjoined⟩)]
        refine Part.dropRungBy_port_parked ?_
        exact (s.unlink.park_port .b).trans (congrArg Port.parked (s.port_unlink .b))
      · rw [if_neg hjoined, if_neg (not_or.2 ⟨hcall, fun h => hjoined h.2⟩)]
        exact s.dropRungBy_port_other .a
    | b =>
      rw [if_neg (by decide), if_neg (not_or.2 ⟨hcall, fun h => nomatch h.1⟩)]
      split
      · rw [Part.dropRungBy_port_other, hunlink, Part.port_unlink]
      · exact s.dropRungBy_port_other .b

theorem Part.leaveCall_joinLink (old : PortState) :
    (s.leaveCall p old).voice.joinLink =
      (s.voice.joinLink && !(if p = .a then s.portB.state == .joined else old == .joined)) := by
  have hpark (x : Part) (y : PortId) : (x.park y).voice.joinLink = x.voice.joinLink :=
    Part.joinLink_of_wiring (x.park_wiring y)
  unfold Part.leaveCall
  dsimp only
  rw [Part.joinLink_of_wiring (Part.dropRungBy_wiring _ p)]
  generalize hx : (if old = .intercom ∧ (s.port (other p)).state = .intercom then s.park (other p) else s) = x
  have hlink : x.voice.joinLink = s.voice.joinLink := by
    subst hx
    split <;> simp [hpark]
  cases p with
  | a =>
    have hjoined : (x.portB.state = .joined) = (s.portB.state = .joined) := by
      subst hx
      split
      · rename_i hcall
        have hcalled : s.portB.state = .intercom := hcall.2
        have hparked : (s.park .b).portB.state = .parked := congrArg Port.state (s.park_port .b)
        rw [show other PortId.a = .b from rfl, hparked, hcalled]
        simp
      · rfl
    rw [if_pos rfl, if_pos rfl, Part.parkJoined_eq]
    by_cases h : s.portB.state = .joined
    · rw [if_pos (hjoined ▸ h), hpark, h]
      simp [Part.unlink]
    · rw [if_neg (hjoined ▸ h), hlink]
      simp [h]
  | b =>
    have hb : PortId.b ≠ .a := by decide
    rw [if_neg hb, if_neg hb]
    by_cases h : old = .joined
    · rw [if_pos h, h]
      simp [Part.unlink]
    · rw [if_neg h, hlink, beq_eq_false_iff_ne.2 h]
      simp

/-! ### Hanging up -/

/-- The port hung up, ahead of what the other port does (R101). -/
def Part.hung (p : PortId) (n : PortState) (s : Part) : Part :=
  (((s.withdraw p).endChannel p).modPort p fun r =>
    { r with dialTimer := none, howler := none, digit := none, lastTone := none }).enterState p n none

theorem Part.hangUp_eq (n : PortState) : s.hangUp p n = (s.hung p n).leaveCall p (s.port p).state := rfl

theorem Part.hung_port_other (n : PortState) : (s.hung p n).port (other p) = s.port (other p) := by simp [Part.hung]

theorem Part.hung_wiring (n : PortState) : (s.hung p n).wiring = (s.endChannel p).wiring := by
  have hwithdrawn : (s.withdraw p).wiring = s.wiring := by simp
  have hvoice : (s.withdraw p).voice = s.voice ∧ (s.withdraw p).sched = s.sched ∧ (s.withdraw p).line = s.line := by
    unfold Part.withdraw
    split <;> simp [Part.sayOnHook, Part.signal_voice, Part.signal_sched, Part.signal_line]
  obtain ⟨hv, hs, hl⟩ := hvoice
  have hchan : (s.withdraw p).chan p = s.chan p := Part.chan_of_wiring hwithdrawn p
  refine (Part.enterState_wiring _ p n none).trans ((Part.modPort_wiring _ p _).trans ?_)
  unfold Part.endChannel
  rw [hchan]
  cases s.chan p with
  | none => cases p <;> simp [Part.wiring, Part.setHold, hv, hs]
  | some c => cases p <;>
      simp [Part.wiring, Part.setHold, Part.setChan, Part.setSlot, Part.slot, Part.signal_voice, Part.signal_sched, hv, hs]

theorem Part.hangUp_port_other (n : PortState) :
    (s.hangUp p n).port (other p) = (s.hung p n).leftBy p (s.port p).state := by
  rw [Part.hangUp_eq, Part.leaveCall_port_other]

theorem Part.hangUp_sched (n : PortState) : (s.hangUp p n).sched = (s.endChannel p).sched := by
  rw [Part.hangUp_eq, Part.leaveCall_sched, Part.sched_of_wiring (s.hung_wiring p n)]

theorem Part.hangUp_chan_other (n : PortState) : (s.hangUp p n).chan (other p) = s.chan (other p) := by
  rw [Part.hangUp_eq, Part.leaveCall_chan, Part.chan_of_wiring (s.hung_wiring p n), Part.endChannel_chan_other]

theorem Part.hung_port (n : PortState) :
    (s.hung p n).port p = { s.port p with
      dialTimer := none, howler := none, digit := none, lastTone := none, state := n
      announced := (s.port p).announced && !s.inService } := by
  simp [Part.hung, Part.withdraw_port]

theorem Part.hangUp_joinLink (n : PortState) :
    (s.hangUp p n).voice.joinLink = (s.voice.joinLink && s.portB.state != .joined) := by
  have hlink : (s.hung p n).voice.joinLink = s.voice.joinLink :=
    (Part.joinLink_of_wiring (s.hung_wiring p n)).trans (s.endChannel_joinLink p)
  rw [Part.hangUp_eq, Part.leaveCall_joinLink, hlink]
  cases p with
  | a =>
    have hB : (s.hung .a n).portB = s.portB := s.hung_port_other .a n
    rw [if_pos rfl, hB]
    rfl
  | b => rfl

/-- The SIGNALs of a port that hangs up: its ON_HOOK, ahead of the end of its channel (R101, R138). -/
theorem Part.hangUp_mail {n : PortState} (hr : n ≠ .ringing) (hd : n ≠ .dialling) :
    (s.hangUp p n).mail = ((s.withdraw p).endChannel p).mail := by
  rw [Part.hangUp_eq, Part.leaveCall_mail _ _ _ (by rw [Part.hung_port]; exact hr) (by rw [Part.hung_port]; exact hd)]
  simp [Part.hung]

theorem Part.hangUp_outQ {n : PortState} (hr : n ≠ .ringing) (hd : n ≠ .dialling) (hq : s.svc.outQ = []) :
    (s.hangUp p n).svc.outQ =
      (if (s.port p).announced = true ∧ s.inService = true then [.signal p .onHook] else []) ++
        (match s.chan p with
          | some _ => [.signal p (.channel none (s.line.symbol + 2000))]
          | none => []) := by
  have hmail := s.hangUp_mail p hr hd
  have hsvc : (s.hangUp p n).svc = ((s.withdraw p).endChannel p).mail.1 := congrArg Prod.fst hmail
  have hchan : (s.withdraw p).chan p = s.chan p := Part.chan_of_wiring (by simp) p
  have hline : (s.withdraw p).line = s.line := Part.line_of_ground (by simp)
  have hwithdrawn : (s.withdraw p).mail.1.outQ =
      if (s.port p).announced = true ∧ s.inService = true then [.signal p .onHook] else [] := by
    rw [Part.withdraw_mail]
    cases (s.port p).announced <;> cases s.inService <;> simp [offer_empty, Part.mail, hq]
  rw [hsvc, Part.endChannel_mail, hchan, hline]
  cases s.chan p with
  | none => rw [hwithdrawn, List.append_nil]
  | some c =>
    dsimp only
    split at hwithdrawn
    · rename_i h
      rw [offer_signal_one hwithdrawn, if_pos h]
      rfl
    · rename_i h
      rw [offer_empty hwithdrawn, if_neg h]
      rfl

end Sys2Proof.Machine
end

section
/-! SUPPORT. Hook declarations on a port that no test watches (R91, R95, R96, R101), and what settles behind a port whose
off-hook has been declared (R24, R187). -/

namespace Sys2Proof.Machine

section
variable (s : Part) (p q : PortId)

/-! ### A declared hook -/

@[simp] theorem Part.declareHook_port (h : Hook) : (s.declareHook p h).port p = { s.port p with hook := h } := by
  simp [Part.declareHook]

@[simp] theorem Part.declareHook_port_other (h : Hook) : (s.declareHook p h).port (other p) = s.port (other p) := by
  simp [Part.declareHook]

@[simp] theorem Part.declareHook_mail (h : Hook) : (s.declareHook p h).mail = s.mail := by simp [Part.declareHook]

@[simp] theorem Part.declareHook_wiring (h : Hook) : (s.declareHook p h).wiring = s.wiring := by simp [Part.declareHook]

@[simp] theorem Part.declareHook_diag (h : Hook) : (s.declareHook p h).diag = s.diag := by cases p <;> rfl

/-- The port as an on-hook is declared in a state with no call (R91, R92). -/
def Part.hooksOn (p : PortId) (s : Part) : Part :=
  (s.declareHook p .onHook).modPort p fun r => { r with digit := none }

theorem Part.declareHook_frame (h : Hook) :
    s.declareHook p h = { s with
      portA := (s.declareHook p h).portA, portB := (s.declareHook p h).portB, link := (s.declareHook p h).link } := by
  cases p <;> rfl

theorem Part.hooksOn_frame :
    s.hooksOn p = { s with
      portA := (s.hooksOn p).portA, portB := (s.hooksOn p).portB, link := (s.hooksOn p).link } := by
  cases p <;> rfl

theorem Part.hooksOn_port : (s.hooksOn p).port p = { s.port p with hook := .onHook, digit := none } := by
  simp [Part.hooksOn]

theorem Part.hooksOn_port_other : (s.hooksOn p).port (other p) = s.port (other p) := by simp [Part.hooksOn]

/-- A declaration is told where the notice queue has room (R91, R115). -/
theorem Part.declareHook_told (h : Hook) (hroom : s.link.notices.length < 16) :
    .portEvent p (if h = .offHook then .offHook else .onHook) s.line.state none ∈ (s.declareHook p h).link.notices := by
  have hlink : (s.declareHook p h).link =
      s.link.post (.portEvent p (if h = .offHook then .offHook else .onHook) s.line.state none) := by cases p <;> rfl
  rw [hlink]
  exact Link.mem_post _ hroom

theorem Part.declareHook_notices_length (h : Hook) :
    (s.declareHook p h).link.notices.length ≤ s.link.notices.length + 1 := by
  have hlink : (s.declareHook p h).link =
      s.link.post (.portEvent p (if h = .offHook then .offHook else .onHook) s.line.state none) := by cases p <;> rfl
  rw [hlink]
  exact Link.post_length _ _

/-- What a port hears is not told by the hooks (R97). -/
theorem Part.declareHook_heardOf (h : Hook) : (s.declareHook p h).heardOf q = s.heardOf q := by
  cases p <;> cases q <;> rfl

theorem Part.hooksOn_heardOf : (s.hooksOn p).heardOf q = s.heardOf q := by cases p <;> cases q <;> rfl

/-- The other port hangs up by nothing that this port's hook changes. -/
theorem Part.enterState_diag_unwatched {n : PortState} (m : Option Mode) (h : s.underTest p = false) :
    (s.enterState p n m).diag = s.diag := by
  have hnone : ((s.modPort p fun r => { r with state := n }).portEvent p (.state (s.port p).state n) m).underTest p =
      false := by
    unfold Part.underTest at h ⊢
    simpa [Part.portEvent] using h
  unfold Part.enterState
  dsimp only
  split
  · rfl
  · rw [hnone]
    simp [Part.portEvent]

theorem Part.toDialling_diag (h : s.underTest p = false) : (s.toDialling p).diag = s.diag := by
  have hentered (f : Port → Port) : ((s.modPort p f).enterState p .dialling none).diag = s.diag := by
    rw [Part.enterState_diag_unwatched _ _ _ (by unfold Part.underTest at h ⊢; simpa using h), Part.modPort_diag]
  unfold Part.toDialling
  dsimp only
  split
  · rw [Part.sayOffHook, Part.modPort_diag, Part.signal_diag]
    exact hentered _
  · exact hentered _

end

/-! ### What settles -/

section
variable {p y : Part} {x : PortId}

/-- Ports that hear what R97 gives them go on so where what they hear is not told by what changed. -/
theorem Part.refreshHeard_unheard (h : p.refreshHeard = p) (ha : y.portA.heard = p.portA.heard)
    (hb : y.portB.heard = p.portB.heard) (hv : y.voice = p.voice) (hheard : ∀ z, y.heardOf z = p.heardOf z) :
    y.refreshHeard = y := by
  have hA := congrArg (fun z : Part => z.portA.heard) h
  have hB := congrArg (fun z : Part => z.portB.heard) h
  have hV := congrArg Part.voice h
  rw [Part.refreshHeard_eq] at hA hB hV ⊢
  simp only at hA hB hV
  rw [hA, hB] at hV
  rw [hheard, hheard, hA, hB, hv, hV, ← ha, ← hb, ← hv]

/-- Port A's off-hook takes no relay to PART and none to THROUGH, where the relay stood settled (R187). -/
theorem Part.relayTarget_offHook (hrelay : p.relayTarget = p.supply.relay) (hsupply : y.supply = p.supply)
    (hreq : y.line.request = p.line.request) (hloop : y.loopTesting = p.loopTesting)
    (hhook : y.portA.hook = p.portA.hook ∨ y.portA.hook = .offHook) : y.relayTarget = y.supply.relay := by
  unfold Part.relayTarget at hrelay ⊢
  rw [hsupply, hreq, hloop]
  rcases hhook with hhook | hhook
  · rw [hhook]
    exact hrelay
  · rw [hhook]
    split_ifs at hrelay ⊢
    · exact hrelay
    · exact hrelay
    · exact hrelay
    · simp

/-- A settled part in which the telephones act, with no hook but to OFF_HOOK and the test as it was, has nothing to settle
but what the ports hear. -/
theorem Part.settle_offHook (hset : p.settled) (hg : y.ground = p.ground) (hdiag : y.diag = p.diag)
    (hhook : y.portA.hook = p.portA.hook ∨ y.portA.hook = .offHook) : y.settle = y.refreshHeard := by
  obtain ⟨hmay, hrelay, -⟩ := hset
  have hline := Part.line_of_ground hg
  have hsupply := Part.supply_of_ground hg
  have hstays : y.mayStart = false := by
    rcases hhook with hhook | hhook
    · unfold Part.mayStart at hmay ⊢
      rw [hline, hdiag, hsupply, hhook]
      exact hmay
    · unfold Part.mayStart at hmay ⊢
      rw [hline, hdiag, hsupply, hhook]
      refine eq_false_of_ne_true fun h => Bool.false_ne_true (hmay.symm.trans ?_)
      obtain ⟨hpre, hstate⟩ := Bool.and_eq_true_iff.1 h
      have hdropped : (p.line.state == .dropped) = true := by
        simpa [show (Hook.offHook == Hook.onHook) = false from rfl] using hstate
      rw [hpre, hdropped]
      rfl
  rw [Part.settle_waiting hstays, Part.settleRelay_same]
  exact Part.relayTarget_offHook hrelay hsupply (by rw [hline]) (by unfold Part.loopTesting; rw [hdiag]) hhook

/-! ### The declarations -/

/-- A port that no test watches (R171, R175). -/
theorem Part.offHookAborts_unwatched (h : ¬ (p.underTest x = true ∨ p.loopTesting = true ∧ x = .a)) :
    p.offHookAborts x = p := by
  refine if_neg fun hw => h ?_
  rcases Bool.or_eq_true_iff.1 hw with ht | ht
  · exact .inl ht
  · obtain ⟨hl, hx⟩ := Bool.and_eq_true_iff.1 ht
    exact .inr ⟨hl, eq_of_beq hx⟩

theorem Part.offHook_ignored
    (h : p.supply.state = .shutdown ∨ (p.port x).state = .shed ∨
      (p.port x).hook = .offHook ∧ ¬ ((p.port x).state = .disabled ∧ p.underTest x = true) ∨
      (p.port x).state = .disabled ∧ p.underTest x = false ∧ ¬ (p.loopTesting = true ∧ x = .a)) : p.offHook x = p := by
  unfold Part.offHook
  dsimp only
  by_cases hshut : p.supply.state = .shutdown
  · rw [if_pos hshut]
  · rw [if_neg hshut]
    rcases h with h | h | ⟨hoff, hnot⟩ | ⟨hst, ht, hloop⟩
    · exact absurd h hshut
    · rw [if_neg (by rw [h]; exact fun k => nomatch k.1), if_pos (Or.inr h)]
    · rw [if_neg hnot, if_pos (Or.inl hoff)]
    · rw [if_neg (fun k => Bool.false_ne_true (ht.symm.trans k.2))]
      split
      · rfl
      · rw [hst, if_neg (by decide), if_neg]
        intro k
        obtain ⟨hl, hx⟩ := Bool.and_eq_true_iff.1 k
        exact hloop ⟨hl, eq_of_beq hx⟩

/-- An off-hook in a state that watches the hook, on a port that no test watches (R91, R96). -/
theorem Part.offHook_declares (hshut : p.supply.state ≠ .shutdown) (hhook : (p.port x).hook = .onHook)
    (hst : (p.port x).state ∈ [PortState.idle, .through, .tripped, .cooldown, .lockedOut])
    (hw : ¬ (p.underTest x = true ∨ p.loopTesting = true ∧ x = .a)) :
    p.offHook x =
      if (p.port x).state = .idle then (p.declareHook x .offHook).toDialling x else p.declareHook x .offHook := by
  have haborts : (p.declareHook x .offHook).offHookAborts x = p.declareHook x .offHook := by
    refine Part.offHookAborts_unwatched ?_
    unfold Part.underTest Part.loopTesting
    rw [Part.declareHook_diag]
    exact hw
  unfold Part.offHook
  dsimp only
  rw [haborts, Part.declareHook_port, hhook, if_neg hshut]
  generalize (p.port x).state = n at hst
  cases n
  any_goals rfl
  all_goals exact absurd hst (by decide)

/-- An on-hook that ends no call (R91, R92). -/
theorem Part.onHook_declares (hshut : p.supply.state ≠ .shutdown) (hhook : (p.port x).hook = .offHook)
    (hst : (p.port x).state ∈ [PortState.through, .tripped, .cooldown, .lockedOut] ∨
      (p.port x).state = .disabled ∧ p.underTest x = true) : p.onHook x = p.hooksOn x := by
  have hwatched : p.watched x = true := by
    unfold Part.watched
    dsimp only
    rcases hst with hst | ⟨hst, ht⟩
    · generalize (p.port x).state = n at hst
      cases n
      all_goals simp [hshut] at hst ⊢
    · simp [hshut, hst, ht]
  have hcall : (p.port x).state.offHook = false := by
    rcases hst with hst | ⟨hst, -⟩
    · generalize (p.port x).state = n at hst
      cases n
      any_goals rfl
      all_goals exact absurd hst (by decide)
    · rw [hst]
      rfl
  unfold Part.onHook
  dsimp only
  rw [if_neg (not_or.2 ⟨by rw [hhook]; decide, by rw [hwatched]; decide⟩), hcall]
  rfl

theorem Part.onHook_ignored
    (h : p.supply.state = .shutdown ∨ (p.port x).state = .shed ∨ (p.port x).hook = .onHook ∨
      (p.port x).state = .disabled ∧ p.underTest x = false) : p.onHook x = p := by
  refine if_pos ?_
  unfold Part.watched
  dsimp only
  rcases h with h | h | h | ⟨hst, ht⟩
  · exact .inr (by simp [h])
  · exact .inr (by simp [h])
  · exact .inl h
  · exact .inr (by simp [hst, ht])

/-- The state a port hangs up to: port B with shed pending goes to SHED (R101, R183). -/
def Part.hangsTo (s : Part) (p : PortId) : PortState := if p = .b ∧ s.portB.shedPending = true then .shed else .idle

theorem Part.hangsTo_eq (s : Part) (p : PortId) : s.hangsTo p = .shed ∨ s.hangsTo p = .idle := by
  unfold Part.hangsTo
  split
  · exact .inl rfl
  · exact .inr rfl

/-- An on-hook in a call (R101); the shed that was pending has been done (R183). -/
theorem Part.onHook_hangsUp (hshut : p.supply.state ≠ .shutdown) (hhook : (p.port x).hook = .offHook)
    (hst : (p.port x).state.offHook = true) :
    ∃ b : Bool, p.onHook x =
      ((p.declareHook x .onHook).hangUp x (p.hangsTo x)).modPort x fun r => { r with shedPending := b } := by
  have hwatched : p.watched x = true := by
    unfold Part.watched
    dsimp only
    generalize (p.port x).state = n at hst
    cases n
    any_goals cases hst
    all_goals simp [hshut]
  have hsame (s : Part) (z : PortId) : s.modPort z (fun r => { r with shedPending := (s.port z).shedPending }) = s := by
    cases z <;> rfl
  unfold Part.onHook Part.hangsTo
  dsimp only
  rw [if_neg (not_or.2 ⟨by rw [hhook]; decide, by rw [hwatched]; decide⟩), if_pos hst]
  by_cases hshed : x = .b ∧ p.portB.shedPending = true
  · rw [if_pos hshed, if_pos hshed]
    obtain ⟨rfl, -⟩ := hshed
    exact ⟨false, rfl⟩
  · rw [if_neg hshed, if_neg hshed]
    exact ⟨_, (hsame _ x).symm⟩

/-! ### An off-hook in IDLE, and an on-hook in a call -/

/-- The off-hook that enters DIALLING (R91, R95, R96). -/
theorem Part.dialled_fields (p : Part) (x : PortId) :
    let y := (p.declareHook x .offHook).toDialling x
    y.ground = p.ground ∧ y.port x = { p.port x with
        hook := .offHook, dialTimer := some 30000, digit := none, lastTone := none, howler := none, state := .dialling
        announced := p.inService || (p.port x).announced } ∧
      y.port (other x) = p.port (other x) ∧ y.wiring = p.wiring ∧
      y.mail = if p.inService then offer (.signal x .offHook) p.mail else p.mail := by
  intro y
  have hserv : (p.declareHook x .offHook).inService = p.inService := Part.inService_of_ground (by simp)
  refine ⟨by simp [y], ?_, by simp [y], by simp [y], ?_⟩
  · show ((p.declareHook x .offHook).toDialling x).port x = _
    rw [Part.toDialling_port, Part.declareHook_port, hserv]
  · show ((p.declareHook x .offHook).toDialling x).mail = _
    rw [Part.toDialling_mail, hserv, Part.declareHook_mail]

/-- What the other port does at an on-hook in a call, as the port of before (R101, R107, R112, R114). -/
theorem Part.hungUp_other (p : Part) (x : PortId) (n : PortState) :
    ((p.declareHook x .onHook).hangUp x n).port (other x) = p.leftBy x (p.port x).state := by
  have hother : ((p.declareHook x .onHook).hung x n).port (other x) = p.port (other x) := by
    rw [Part.hung_port_other, Part.declareHook_port_other]
  have hjoined : (x = .a ∧ ((p.declareHook x .onHook).hung x n).portB.state = .joined) =
      (x = .a ∧ p.portB.state = .joined) := by
    cases x with
    | a => rw [show ((p.declareHook .a .onHook).hung .a n).portB = p.portB from hother]
    | b => simp
  have hcaller := Part.isCaller_congr hother
  rw [Part.hangUp_port_other, Part.declareHook_port]
  generalize (p.declareHook x .onHook).hung x n = y at hother hjoined hcaller
  unfold Part.leftBy
  dsimp only
  simp only [hother, hjoined, hcaller]

theorem Part.leftBy_state (p : Part) (x : PortId) (old : PortState) :
    (p.leftBy x old).state =
      (if old = .intercom ∧ (p.port (other x)).state = .intercom ∨ x = .a ∧ p.portB.state = .joined then .parked
        else if p.isCaller x then .idle else (p.port (other x)).state) ∧
    ((p.leftBy x old).state ≠ (p.port (other x)).state → (p.leftBy x old).state = .parked →
      (p.leftBy x old).howler = some 60000) ∧
    (p.isCaller x = true → (p.leftBy x old).ring = none) := by
  unfold Part.leftBy
  dsimp only
  by_cases hparks : old = .intercom ∧ (p.port (other x)).state = .intercom ∨ x = .a ∧ p.portB.state = .joined
  · rw [if_pos hparks, if_pos hparks]
    refine ⟨rfl, fun _ _ => rfl, fun hcall => ?_⟩
    have hringing := (Part.isCaller_iff.1 hcall).1
    rcases hparks with ⟨-, h⟩ | ⟨rfl, h⟩
    · cases hringing.symm.trans h
    · cases (show p.portB.state = .ringing from hringing).symm.trans h
  · rw [if_neg hparks, if_neg hparks]
    by_cases hcall : p.isCaller x = true
    · rw [if_pos hcall, if_pos hcall]
      refine ⟨rfl, fun _ h => ?_, fun _ => rfl⟩
      cases h
    · rw [if_neg hcall, if_neg hcall]
      exact ⟨rfl, fun h => absurd rfl h, fun h => absurd h hcall⟩

end

end Sys2Proof.Machine
end

section
/-! PROOF. Hook declarations (O46): on ports that no test watches, in and out of calls; and an off-hook that ends a test, with
what waited for it (R91 to R101, R165, R167, R171, R175). -/

namespace Sys2Proof.Machine

/-! ### A start that settles behind a hook -/

section
variable {s : Part} {x : PortId}

theorem Part.enterSounding_port (s : Part) (x : PortId) : s.enterSounding.port x = s.asking.settleRelay.port x := by
  cases x <;> rfl

theorem Part.mayStart_inv (h : s.mayStart = true) :
    s.line.startPending = true ∧ s.diag.running = none ∧ s.supply.state ≠ .cutoff ∧ s.supply.state ≠ .shutdown ∧
      (s.line.state = .dropped ∨ (s.line.state = .quiet ∨ s.line.state = .fallback) ∧ s.portA.hook = .onHook) := by
  unfold Part.mayStart at h
  simp only [Bool.and_eq_true, Bool.or_eq_true, beq_iff_eq, bne_iff_ne, Option.isNone_iff_eq_none] at h
  obtain ⟨⟨⟨⟨hpending, hdiag⟩, hcut⟩, hshut⟩, hstate⟩ := h
  exact ⟨hpending, hdiag, hcut, hshut, hstate⟩

theorem Part.asking_target (h : s.mayStart = true) :
    s.asking.relayTarget = (s.supply.relay || s.portA.hook == .onHook) := by
  obtain ⟨-, hdiag, -, hshut, -⟩ := Part.mayStart_inv h
  exact Part.relayTarget_part (s := s.asking) hshut (Part.loopTesting_of_none (s := s.asking) hdiag) rfl

theorem Part.enterSounding_diag (h : s.mayStart = true) : s.enterSounding.diag = s.diag := by
  obtain ⟨-, hdiag, -, -, -⟩ := Part.mayStart_inv h
  have hwatch := (Part.Watches_refl s.asking).settleRelay.diag_eq (Part.underTest_of_none (s := s.asking) hdiag)
  exact hwatch

/-- The relay is where the entry to SOUNDING has taken it (R24, R187). -/
theorem Part.settle_starts_once (h : s.mayStart = true) : s.settle = s.enterSounding.refreshHeard := by
  obtain ⟨-, hdiag, -, hshut, -⟩ := Part.mayStart_inv h
  have hhook : s.enterSounding.portA.hook = s.portA.hook := Part.hook_of_fixed s.enterSounding_fixed .a
  rw [Part.settle_starts h, Part.settleRelay_same]
  rw [Part.relayTarget_part (by rw [Part.enterSounding_supply]; exact hshut)
    (Part.loopTesting_of_none (by rw [Part.enterSounding_diag h]; exact hdiag)) (by rw [Part.enterSounding_line]; rfl),
    Part.enterSounding_supply, hhook]
  dsimp only
  rw [Part.asking_target h, Bool.or_assoc, Bool.or_self]

/-- What the start that a hook let begin leaves alone, and where it takes port A (R24, R90). -/
theorem Part.settle_start_rest (h : s.mayStart = true) (hhook : s.portA.hook = .onHook) :
    s.settle.svc = s.svc ∧ s.settle.log = s.log ∧ s.settle.diag = s.diag ∧ s.settle.supply.relay = true ∧
      s.settle.portB = { s.portB with heard := s.settle.portB.heard } ∧
      s.settle.portA = { s.portA with
        state := if s.supply.relay = true then s.portA.state else if s.portA.enable then .idle else .disabled
        heard := s.settle.portA.heard } := by
  obtain ⟨-, hdiag, -, -, -⟩ := Part.mayStart_inv h
  have htarget : s.asking.relayTarget = true := by rw [Part.asking_target h, hhook]; simp
  obtain ⟨-, -, hlog, hsvc⟩ := Part.settleRelay_part_same htarget hdiag
  have hports : s.asking.settleRelay.portB = s.portB ∧ s.asking.settleRelay.portA = { s.portA with
      state := if s.supply.relay = true then s.portA.state else if s.portA.enable then .idle else .disabled } := by
    rw [Part.settleRelay_part htarget]
    by_cases hr : s.supply.relay = true
    · rw [if_pos hr, if_pos (show s.asking.supply.relay = true from hr)]
      exact ⟨rfl, rfl⟩
    · rw [if_neg hr, if_neg (show ¬ s.asking.supply.relay = true from hr)]
      exact ⟨Part.enterState_port_other _ .a _ none, Part.enterState_port _ .a _ none⟩
  obtain ⟨hB, hA⟩ := hports
  have hsettled := Part.settle_starts_once h
  have hheard (y : PortId) : s.settle.port y = { s.asking.settleRelay.port y with heard := (s.settle.port y).heard } := by
    rw [hsettled, Part.refreshHeard_port, Part.enterSounding_port]
  refine ⟨?_, ?_, ?_, ?_, ?_, ?_⟩
  · rw [hsettled, Part.refreshHeard_svc]
    exact hsvc
  · rw [hsettled, Part.refreshHeard_log]
    exact hlog
  · rw [hsettled, Part.refreshHeard_diag, Part.enterSounding_diag h]
  · rw [hsettled, Part.refreshHeard_supply, Part.enterSounding_supply, htarget]
  · exact (hheard .b).trans (congrArg (fun r : Port => { r with heard := s.settle.portB.heard }) hB)
  · exact (hheard .a).trans (congrArg (fun r : Port => { r with heard := s.settle.portA.heard }) hA)

/-- With no test running and the relay where R187 drives it, port B, or port A off-hook or off the through position, stays
through whatever settles. -/
theorem Part.settle_keeps_port (hrelay : s.relayTarget = s.supply.relay)
    (hx : x = .b ∨ s.portA.hook = .offHook ∨ s.supply.relay = true) :
    s.settle.port x = { s.port x with heard := s.settle.heardOf x } := by
  have hheard (y : Part) : y.refreshHeard.heardOf x = y.heardOf x := by
    cases x <;> rfl
  cases h : s.mayStart with
  | false => rw [Part.settle_waiting h, Part.settleRelay_same hrelay, Part.refreshHeard_port, hheard]
  | true =>
    have hport : s.asking.settleRelay.port x = s.port x := by
      cases ht : s.asking.relayTarget with
      | true =>
        rw [Part.settleRelay_part ht]
        split
        · rfl
        · rename_i hr
          have hoff : ¬ s.supply.relay = true := hr
          have hon : s.portA.hook = .onHook := by
            rw [Part.asking_target h] at ht
            simpa [hoff] using ht
          rcases hx with rfl | hx | hx
          · exact Part.enterState_port_other _ .a _ none
          · cases hon.symm.trans hx
          · exact absurd hx hoff
      | false =>
        rw [Part.asking_target h] at ht
        rw [Part.settleRelay_same]
        · rfl
        · rw [Part.asking_target h, ht]
          exact (Bool.or_eq_false_iff.1 ht).1.symm
    rw [Part.settle_starts_once h, Part.refreshHeard_port, Part.enterSounding_port, hport, hheard]

/-- Whatever settles, the supply stays where port A keeps the relay (R187). -/
theorem Part.settle_keeps_supply (hrelay : s.relayTarget = s.supply.relay)
    (hx : s.portA.hook = .offHook ∨ s.supply.relay = true) : s.settle.supply = s.supply := by
  cases h : s.mayStart with
  | false => rw [Part.settle_waiting h, Part.settleRelay_same hrelay, Part.refreshHeard_supply]
  | true =>
    have htarget : s.asking.relayTarget = s.supply.relay := by
      rw [Part.asking_target h]
      rcases hx with hx | hx
      · rw [hx]
        simp
      · rw [hx]
        rfl
    rw [Part.settle_starts_once h, Part.refreshHeard_supply, Part.enterSounding_supply, htarget]

end

/-! ### Ports that no test watches -/

section
variable {s : State} {x : PortId} (hrun : s.part.running = true)
include hrun

theorem offHook_completes {q : Part} (hq : (s.part.offHook x).settle = q) : Completes (.offHook x) s q :=
  completes_of (o := execOffHook x s) rfl rfl hrun hq

theorem onHook_completes {q : Part} (hq : (s.part.onHook x).settle = q) : Completes (.onHook x) s q :=
  completes_of (o := execOnHook x s) rfl rfl hrun hq

theorem offHook_rings_trip (hshut : s.part.supply.state ≠ .shutdown) (hst : (s.part.port x).state = .ringing)
    (hhook : (s.part.port x).hook = .onHook) : exec (.offHook x) s = exec (.ringTrip x) s := by
  have htrip : s.part.offHook x = (s.part.ringTrip x).offHookAborts x := by
    unfold Part.offHook
    dsimp only
    rw [if_neg hshut, hst, hhook]
    rfl
  have hcompletes : Completes (.ringTrip x) s ((s.part.ringTrip x).offHookAborts x).settle :=
    completes_of (o := execRingTrip x s) rfl rfl hrun (if_pos hst)
  exact (offHook_completes hrun (congrArg Part.settle htrip)).trans hcompletes.symm

/-- The off-hook that enters DIALLING with the relay at PART (R91, R95, R96). -/
theorem offHook_dials (hdiag : s.part.diag.running = none) (hpending : s.part.line.startPending = false)
    (hreq : s.part.line.request = .part) (hrelay : s.part.supply.relay = true) (hshut : s.part.supply.state ≠ .shutdown)
    (hst : (s.part.port x).state = .idle) (hhook : (s.part.port x).hook = .onHook) :
    let p := s.part
    ∃ q : Part, Completes (.offHook x) s q ∧ (q.port x).state = .dialling ∧ (q.port x).hook = .offHook ∧
      (q.port x).dialTimer = some 30000 ∧ (q.port x).digit = none ∧
      (p.inService = true → (q.port x).announced = true) ∧
      (p.inService = false → (q.port x).announced = (p.port x).announced ∧ q.svc = p.svc) ∧
      (q.port (other x)).state = (p.port (other x)).state ∧ q.line = p.line ∧ q.chan x = p.chan x ∧
      q.log.next = p.log.next := by
  intro p
  have hfree : ¬ (p.underTest x = true ∨ p.loopTesting = true ∧ x = .a) := by
    rw [Part.underTest_of_none hdiag, Part.loopTesting_of_none hdiag]
    simp
  have hdials : p.offHook x = (p.declareHook x .offHook).toDialling x := by
    rw [Part.offHook_declares hshut hhook (by rw [hst]; decide) hfree, if_pos hst]
  obtain ⟨hground, hport, hother, hwiring, hmail⟩ := p.dialled_fields x
  generalize (p.declareHook x .offHook).toDialling x = y at hdials hground hport hother hwiring hmail
  refine ⟨_, offHook_completes hrun ((congrArg Part.settle hdials).trans
    (Part.settle_atPart hground hpending hreq hrelay hshut)), ?_⟩
  rw [Part.refreshHeard_port, Part.refreshHeard_port, Part.refreshHeard_line, Part.refreshHeard_svc,
    Part.refreshHeard_chan, Part.refreshHeard_log, hport, hother]
  refine ⟨rfl, rfl, rfl, rfl, fun hs => ?_, fun hs => ⟨?_, ?_⟩, rfl, Part.line_of_ground hground,
    Part.chan_of_wiring hwiring x, Part.logNext_of_ground hground⟩
  · rw [hs]
    rfl
  · rw [hs]
    rfl
  · rw [hs] at hmail
    exact Part.svc_of_mail hmail

/-- The on-hook in a call, with the relay at PART (R101, R107, R112, R114, R138, R183). -/
theorem onHook_leaves (hpending : s.part.line.startPending = false)
    (hreq : s.part.line.request = .part) (hrelay : s.part.supply.relay = true) (hshut : s.part.supply.state ≠ .shutdown)
    (hhook : (s.part.port x).hook = .offHook)
    (hst : (s.part.port x).state ∈ [PortState.dialling, .connected, .held, .intercom, .joined, .parked]) :
    let p := s.part
    let y := other x
    let at_ := p.line.symbol + 2000
    ∃ q : Part, Completes (.onHook x) s q ∧
      (q.port x).state = (if x = .b ∧ p.portB.shedPending = true then .shed else .idle) ∧
      (q.port x).hook = .onHook ∧ (q.port x).dialTimer = none ∧ (q.port x).howler = none ∧
      (q.port x).digit = none ∧ (q.port x).heard = .silence ∧ q.chan x = none ∧ q.hold x = none ∧
      (p.inService = true → (q.port x).announced = false) ∧ q.line = p.line ∧ q.log.next = p.log.next ∧
      q.band = p.band ∧ q.load = p.load ∧ q.supply = p.supply ∧ q.chan y = p.chan y ∧
      (∀ c : Channel, p.chan x = some c →
        q.sched.switches =
          (p.sched.switches.map fun w =>
            if w.port = x ∧ w.what = .begin then { w with what := .beginEnded c.mode c.active } else w) ++
            [⟨x, at_, .finish⟩] ∧
        q.slot x = (match p.slot x with
          | .live => .ended c.mode c.active
          | z => z)) ∧
      (p.svc.outQ = [] → q.svc.outQ =
        (if (p.port x).announced = true ∧ p.inService = true then [.signal x .onHook] else []) ++
          (match p.chan x with
            | some _ => [.signal x (.channel none at_)]
            | none => [])) ∧
      (q.port y).state =
        (if (p.port x).state = .intercom ∧ (p.port y).state = .intercom ∨ x = .a ∧ p.portB.state = .joined then .parked
         else if p.isCaller x then .idle else (p.port y).state) ∧
      ((q.port y).state ≠ (p.port y).state → (q.port y).state = .parked → (q.port y).howler = some 60000) ∧
      (p.isCaller x = true → (q.port y).ring = none) ∧
      q.voice.joinLink = (p.voice.joinLink && p.portB.state != .joined) := by
  intro p y at_
  have hcall : (p.port x).state.offHook = true := by
    generalize (p.port x).state = n at hst
    cases n
    any_goals rfl
    all_goals exact absurd hst (by decide)
  obtain ⟨b, hhangs⟩ := Part.onHook_hangsUp hshut hhook hcall
  have hto := Part.hangsTo_eq p x
  have hring : p.hangsTo x ≠ .ringing := by rcases hto with h | h <;> rw [h] <;> decide
  have hdial : p.hangsTo x ≠ .dialling := by rcases hto with h | h <;> rw [h] <;> decide
  have hdeclared : (p.declareHook x .onHook).ground = p.ground := by simp
  have hline := Part.line_of_ground hdeclared
  have hsched : (p.declareHook x .onHook).sched = p.sched := Part.sched_of_wiring (p.declareHook_wiring x .onHook)
  have hchans (z : PortId) : (p.declareHook x .onHook).chan z = p.chan z :=
    Part.chan_of_wiring (p.declareHook_wiring x .onHook) z
  have hB : (p.declareHook x .onHook).portB.state = p.portB.state := by cases x <;> rfl
  have hport := (p.declareHook x .onHook).hangUp_port x hring hdial
  have hother := p.hungUp_other x (p.hangsTo x)
  have hground := (p.declareHook x .onHook).hangUp_ground x (p.hangsTo x)
  have hchan := (p.declareHook x .onHook).hangUp_chan x (p.hangsTo x)
  have hhold := (p.declareHook x .onHook).hangUp_hold x (p.hangsTo x)
  have hchan' := (p.declareHook x .onHook).hangUp_chan_other x (p.hangsTo x)
  have hsched' := (p.declareHook x .onHook).hangUp_sched x (p.hangsTo x)
  have hlink := (p.declareHook x .onHook).hangUp_joinLink x (p.hangsTo x)
  have houtQ := (p.declareHook x .onHook).hangUp_outQ x hring hdial
  have hswitches (c : Channel) (hc : p.chan x = some c) :=
    (p.declareHook x .onHook).endChannel_switches x ((hchans x).trans hc)
  have hslot (c : Channel) (hc : p.chan x = some c) :=
    (p.declareHook x .onHook).endChannel_slot x ((hchans x).trans hc)
  generalize (p.declareHook x .onHook).hangUp x (p.hangsTo x) = z at *
  have hzground := hground.trans hdeclared
  have hcleared : (z.modPort x fun r => { r with shedPending := b }).ground = p.ground := by simp [hzground]
  refine ⟨_, onHook_completes hrun ((congrArg Part.settle hhangs).trans
    (Part.settle_atPart hcleared hpending hreq hrelay hshut)), ?_⟩
  obtain ⟨hstate, hhowler, hrung⟩ := Part.leftBy_state p x (p.port x).state
  have hserv : (p.declareHook x .onHook).inService = p.inService := Part.inService_of_ground hdeclared
  have hsilent : (z.modPort x fun r => { r with shedPending := b }).heardOf x = .silence := by
    have hquiet : p.hangsTo x ∉ [PortState.dialling, .connected, .joined, .held, .intercom, .parked] := by
      rcases hto with h | h <;> rw [h] <;> decide
    refine Part.heardOf_silent ?_
    rw [Part.port_modPort, hport]
    exact hquiet
  have hportY : ((z.modPort x fun r => { r with shedPending := b }).port y) = p.leftBy x (p.port x).state :=
    (Part.port_modPort_other z x _).trans hother
  rw [Part.refreshHeard_port, Part.refreshHeard_port, Part.refreshHeard_chan, Part.refreshHeard_chan,
    Part.refreshHeard_hold, Part.refreshHeard_line, Part.refreshHeard_log, Part.refreshHeard_band, Part.refreshHeard_load,
    Part.refreshHeard_supply, Part.refreshHeard_sched, Part.refreshHeard_svc, Part.refreshHeard_joinLink, hsilent, hportY,
    Part.port_modPort, hport, Part.chan_of_wiring (z.modPort_wiring x _), Part.chan_of_wiring (z.modPort_wiring x _),
    Part.hold_of_wiring (z.modPort_wiring x _), Part.modPort_svc, Part.sched_of_wiring (z.modPort_wiring x _),
    Part.joinLink_of_wiring (z.modPort_wiring x _), Part.declareHook_port, hserv]
  have hslots : (z.modPort x fun r => { r with shedPending := b }).refreshHeard.slot x =
      ((p.declareHook x .onHook).endChannel x).slot x := by
    unfold Part.slot
    rw [Part.refreshHeard_sched, Part.sched_of_wiring (z.modPort_wiring x _), hsched']
  refine ⟨rfl, rfl, rfl, rfl, rfl, rfl, hchan, hhold, fun hs => ?_, Part.line_of_ground hcleared,
    Part.logNext_of_ground hcleared, Part.band_of_ground hcleared, Part.load_of_ground hcleared,
    Part.supply_of_ground hcleared, hchan'.trans (hchans y), fun c hc => ⟨?_, ?_⟩, fun hq => ?_, hstate, hhowler, hrung, ?_⟩
  · rw [hs]
    exact Bool.and_false _
  · rw [hsched', hswitches c hc, hsched, hline]
    rfl
  · rw [hslots, hslot c hc]
    have hslotEq : (p.declareHook x .onHook).slot x = p.slot x := Part.slot_of_wiring (p.declareHook_wiring x .onHook) x
    rw [hslotEq]
    cases p.slot x <;> rfl
  · have hqd : (p.declareHook x .onHook).svc.outQ = [] := by
      rw [Part.svc_of_mail (p.declareHook_mail x .onHook)]
      exact hq
    have hsent := houtQ hqd
    rw [Part.declareHook_port, hserv, hchans x, hline] at hsent
    exact hsent
  · rw [hlink, Part.joinLink_of_wiring (p.declareHook_wiring x .onHook), hB]

end

end Sys2Proof.Machine
end

section
/-! PROOF. Hook declarations outside a call, and those that end a test, with what waited for its end; the settled statement
about hooks (O46). -/

namespace Sys2Proof.Machine

/-! ### Declarations that only tell -/

section
variable {s : State} {x : PortId} (hrun : s.part.running = true) (hshut : s.part.supply.state ≠ .shutdown)
  (hset : s.part.settled)
include hrun hshut hset

/-- An off-hook in THROUGH, TRIPPED, COOLDOWN and LOCKED_OUT (R90, R91). -/
theorem offHook_told (hhook : (s.part.port x).hook = .onHook)
    (hst : (s.part.port x).state ∈ [PortState.through, .tripped, .cooldown, .lockedOut])
    (hw : ¬ (s.part.underTest x = true ∨ s.part.loopTesting = true ∧ x = .a)) :
    let q := s.part.declareHook x .offHook
    Completes (.offHook x) s q := by
  intro q
  have hin : (s.part.port x).state ∈ [PortState.idle, .through, .tripped, .cooldown, .lockedOut] := List.mem_cons_of_mem _ hst
  have hidle : (s.part.port x).state ≠ .idle := by
    intro h
    rw [h] at hst
    exact absurd hst (by decide)
  have hdeclares : s.part.offHook x = q := by rw [Part.offHook_declares hshut hhook hin hw, if_neg hidle]
  have hhookA : q.portA.hook = s.part.portA.hook ∨ q.portA.hook = .offHook := by
    cases x with
    | a => exact .inr rfl
    | b => exact .inl rfl
  have hsettles := Part.settle_offHook hset (y := q) (by simp [q]) (by simp [q]) hhookA
  have hheard : q.refreshHeard = q :=
    Part.refreshHeard_unheard hset.2.2 (by cases x <;> rfl) (by cases x <;> rfl) (by cases x <;> rfl)
      (fun z => s.part.declareHook_heardOf x z .offHook)
  exact offHook_completes hrun ((congrArg Part.settle hdeclares).trans (hsettles.trans hheard))

/-- An off-hook in IDLE on a port that no test watches (R96). -/
theorem offHook_dials_settled (hhook : (s.part.port x).hook = .onHook) (hst : (s.part.port x).state = .idle)
    (hw : ¬ (s.part.underTest x = true ∨ s.part.loopTesting = true ∧ x = .a)) :
    let p := s.part
    ∃ q : Part, Completes (.offHook x) s q ∧ (q.port x).state = .dialling ∧ (q.port x).hook = .offHook ∧
      (q.port x).dialTimer = some 30000 ∧ q.line = p.line ∧ q.diag = p.diag ∧ q.supply = p.supply ∧
      (p.link.notices.length < 10 → Notice.portEvent x .offHook p.line.state none ∈ q.link.notices) := by
  intro p
  have hdials : p.offHook x = (p.declareHook x .offHook).toDialling x := by
    rw [Part.offHook_declares hshut hhook (by rw [hst]; decide) hw, if_pos hst]
  have hfree : (p.declareHook x .offHook).underTest x = false := by
    unfold Part.underTest
    rw [Part.declareHook_diag]
    exact eq_false_of_ne_true fun h => hw (.inl h)
  have hdiag : ((p.declareHook x .offHook).toDialling x).diag = p.diag := by
    rw [Part.toDialling_diag _ _ hfree, Part.declareHook_diag]
  have hkeeps : (p.declareHook x .offHook).Notices ((p.declareHook x .offHook).toDialling x) :=
    (Part.Notices_refl _).toDialling x
  have htold := fun h : p.link.notices.length < 10 => hkeeps _ rfl (p.declareHook_told x .offHook (by omega))
  obtain ⟨hground, hport, hother, -, -⟩ := p.dialled_fields x
  generalize (p.declareHook x .offHook).toDialling x = y at hdials hground hport hother hdiag htold
  have hhookA : y.portA.hook = p.portA.hook ∨ y.portA.hook = .offHook := by
    cases x with
    | a => exact .inr (congrArg Port.hook hport)
    | b => exact .inl (congrArg Port.hook hother)
  refine ⟨_, offHook_completes hrun ((congrArg Part.settle hdials).trans
    (Part.settle_offHook hset hground hdiag hhookA)), ?_⟩
  rw [Part.refreshHeard_port, hport, Part.refreshHeard_line, Part.refreshHeard_diag, Part.refreshHeard_supply,
    Part.refreshHeard_link]
  exact ⟨rfl, rfl, rfl, Part.line_of_ground hground, hdiag, Part.supply_of_ground hground, htold⟩

end

/-- The on-hook of port A that was all a start waited for (R24). -/
def Part.entersBy (x : PortId) (p : Part) : Prop :=
  x = .a ∧ p.line.startPending = true ∧ p.diag.running = none ∧ p.supply.state ≠ .cutoff ∧
    (p.line.state = .quiet ∨ p.line.state = .fallback)

/-- The on-hook of port A that lets the relay go to PART (R187). -/
def Part.movesBy (x : PortId) (p : Part) : Prop := x = .a ∧ p.supply.relay = false ∧ p.line.request = .part

section
variable {p : Part} {x : PortId} (hshut : p.supply.state ≠ .shutdown) (hset : p.settled)
include hshut hset

theorem Part.hooksOn_mayStart : (p.hooksOn x).mayStart = true ↔ p.entersBy x := by
  have hframe := p.hooksOn_frame x
  have hline : (p.hooksOn x).line = p.line := by rw [hframe]
  have hdiag : (p.hooksOn x).diag = p.diag := by rw [hframe]
  have hsupply : (p.hooksOn x).supply = p.supply := by rw [hframe]
  constructor
  · intro h
    obtain ⟨hpending, hnone, hcut, -, hstate⟩ := Part.mayStart_inv h
    rw [hline] at hpending hstate
    rw [hdiag] at hnone
    rw [hsupply] at hcut
    have hwaits (hold : p.line.state = .dropped ∨
        (p.line.state = .quiet ∨ p.line.state = .fallback) ∧ p.portA.hook = .onHook) : False := by
      refine Bool.false_ne_true (hset.1.symm.trans ?_)
      rcases hold with hd | ⟨hq, hh⟩
      · rw [Part.mayStart_dropped hd hcut hshut hpending, hnone]
        rfl
      · exact (Part.mayStart_resting hq hcut hshut hpending).1 hh hnone
    rcases hstate with hd | ⟨hq, hh⟩
    · exact (hwaits (.inl hd)).elim
    · cases x with
      | a => exact ⟨rfl, hpending, hnone, hcut, hq⟩
      | b => exact (hwaits (.inr ⟨hq, hh⟩)).elim
  · rintro ⟨rfl, hpending, hnone, hcut, hq⟩
    have hready := Part.mayStart_resting (s := p.hooksOn .a) (hline ▸ hq) (hsupply ▸ hcut) (hsupply ▸ hshut) (hline ▸ hpending)
    exact hready.1 rfl (hdiag ▸ hnone)

/-- Where the relay goes once the hook is on (R187). -/
theorem Part.hooksOn_target (hhook : (p.port x).hook = .offHook) :
    (p.movesBy x → (p.hooksOn x).relayTarget = true) ∧ (¬ p.movesBy x → (p.hooksOn x).relayTarget = p.supply.relay) := by
  obtain ⟨-, hrelay, -⟩ := hset
  have htarget : (p.hooksOn x).relayTarget =
      if p.loopTesting = true then true else if p.line.request = .through then false
        else p.supply.relay || (p.hooksOn x).portA.hook == .onHook := by
    have hframe := p.hooksOn_frame x
    unfold Part.relayTarget
    rw [show (p.hooksOn x).supply = p.supply by rw [hframe], show (p.hooksOn x).line = p.line by rw [hframe],
      show (p.hooksOn x).loopTesting = p.loopTesting by rw [hframe]; rfl, if_neg hshut]
  have hold : p.supply.relay =
      if p.loopTesting = true then true else if p.line.request = .through then false
        else p.supply.relay || p.portA.hook == .onHook := by
    unfold Part.relayTarget at hrelay
    rw [if_neg hshut] at hrelay
    exact hrelay.symm
  rw [htarget]
  refine ⟨?_, fun hstays => ?_⟩
  · rintro ⟨rfl, hr, hreq⟩
    split
    · rfl
    · rw [if_neg (by rw [hreq]; decide)]
      exact Bool.or_true _
  · cases x with
    | b => exact hold.symm
    | a =>
      cases hr : p.supply.relay with
      | true =>
        rw [hr] at hold
        split_ifs at hold ⊢
        · rfl
        · rfl
      | false =>
        have hreq : p.line.request = .through := by
          cases hreq : p.line.request with
          | through => rfl
          | part => exact absurd ⟨rfl, hr, hreq⟩ hstays
        rw [hr] at hold
        rw [if_pos hreq]
        split_ifs at hold ⊢
        rfl

/-- The on-hook in a state with no call, settled (R90, R91, R92). -/
theorem Part.hooksOn_settles (hhook : (p.port x).hook = .offHook)
    (hst : (p.port x).state ∈ [PortState.through, .tripped, .cooldown, .lockedOut] ∨
      (p.port x).state = .disabled ∧ p.underTest x = true) {q : Part} (hq : (p.hooksOn x).settle = q) :
    (q.port x).hook = .onHook ∧ (q.port x).digit = none ∧
      (p.link.notices.length < 10 → Notice.portEvent x .onHook p.line.state none ∈ q.link.notices) ∧
      (q.port (other x)).state = (p.port (other x)).state ∧ q.svc = p.svc ∧ q.log = p.log ∧ q.diag = p.diag ∧
      (p.entersBy x → q.soundingFrom p) ∧ (¬ p.entersBy x → q.line = p.line) ∧
      (p.entersBy x ∨ p.movesBy x → p.supply.relay = false →
        q.supply.relay = true ∧ q.portA.state = if (p.port x).enable then .idle else .disabled) ∧
      (¬ p.entersBy x → ¬ p.movesBy x →
        (q.port (other x) = p.port (other x) ∧ q = { p with portA := q.portA, portB := q.portB, link := q.link }) ∧
          q.port x = { p.port x with hook := .onHook, digit := none }) := by
  have hport := p.hooksOn_port x
  have hother := p.hooksOn_port_other x
  have hotherState := congrArg Port.state hother
  have hframe := p.hooksOn_frame x
  have hmay := Part.hooksOn_mayStart (x := x) hshut hset
  obtain ⟨hmoves, hstays⟩ := Part.hooksOn_target hshut hset hhook
  have htold (h : p.link.notices.length < 10) :
      Notice.portEvent x .onHook p.line.state none ∈ (p.hooksOn x).link.notices := by
    have hlink : (p.hooksOn x).link = (p.declareHook x .onHook).link := Part.modPort_link _ _ _
    rw [hlink]
    exact p.declareHook_told x .onHook (by omega)
  have hlength : (p.hooksOn x).link.notices.length ≤ p.link.notices.length + 1 := by
    have hlink : (p.hooksOn x).link = (p.declareHook x .onHook).link := Part.modPort_link _ _ _
    rw [hlink]
    exact p.declareHook_notices_length x .onHook
  have hheardBefore (z : PortId) : (p.hooksOn x).heardOf z = p.heardOf z := p.hooksOn_heardOf x z
  have hhooked : (p.hooksOn x).portA.heard = p.portA.heard ∧ (p.hooksOn x).portB.heard = p.portB.heard ∧
      (p.hooksOn x).voice = p.voice := by cases x <;> exact ⟨rfl, rfl, rfl⟩
  have henable (h : x = .a) : (p.hooksOn x).portA.enable = (p.port x).enable := by
    subst h
    have he := congrArg Port.enable hport
    exact he
  have hhookA (h : x = .a) : (p.hooksOn x).portA.hook = .onHook := by
    subst h
    have he := congrArg Port.hook hport
    exact he
  generalize p.hooksOn x = y at *
  subst hq
  have hkept (h : p.link.notices.length < 10) : Notice.portEvent x .onHook p.line.state none ∈ y.settle.link.notices :=
    (Part.Notices_refl _).settle _ rfl (htold h)
  have hline : y.line = p.line := by rw [hframe]
  have hsupply : y.supply = p.supply := by rw [hframe]
  have hsvc : y.svc = p.svc := by rw [hframe]
  have hlog : y.log = p.log := by rw [hframe]
  have hdiag : y.diag = p.diag := by rw [hframe]
  by_cases henters : p.entersBy x
  · have hstarts := hmay.2 henters
    have hx := henters.1
    obtain ⟨ksvc, klog, kdiag, krelay, kB, kA⟩ := Part.settle_start_rest hstarts (hhookA hx)
    have hsounds : y.settle.soundingFrom p :=
      Part.settle_sounds hstarts (.inr (hhookA hx)) hline (fun h => by omega)
    subst hx
    refine ⟨(congrArg Port.hook kA).trans (congrArg Port.hook hport),
      (congrArg Port.digit kA).trans (congrArg Port.digit hport), hkept, ?_, ksvc.trans hsvc, klog.trans hlog, kdiag.trans hdiag,
      fun _ => hsounds, fun h => absurd henters h, fun _ hr => ⟨krelay, ?_⟩, fun h => absurd henters h⟩
    · exact (congrArg Port.state kB).trans hotherState
    · refine (congrArg Port.state kA).trans ?_
      dsimp only
      rw [if_neg (by rw [hsupply, hr]; decide), henable rfl]
  · have hwaits : y.mayStart = false := eq_false_of_ne_true fun h => henters (hmay.1 h)
    have hq : y.settle = y.settleRelay.refreshHeard := Part.settle_waiting hwaits
    by_cases hmove : p.movesBy x
    · have hx := hmove.1
      have hr := hmove.2.1
      have htarget := hmoves hmove
      have hled : y.settleRelay = Part.leaveThrough { y with supply := { y.supply with relay := true } } := by
        rw [Part.settleRelay_part htarget, if_neg (by rw [hsupply, hr]; decide)]
      generalize hz : ({ y with supply := { y.supply with relay := true } } : Part) = z at hled
      have hzport : z.portA = y.portA ∧ z.portB = y.portB ∧ z.line = y.line ∧ z.svc = y.svc ∧ z.log = y.log ∧
          z.diag = y.diag ∧ z.supply.relay = true := by
        subst hz
        exact ⟨rfl, rfl, rfl, rfl, rfl, rfl, rfl⟩
      obtain ⟨zA, zB, zline, zsvc, zlog, zdiag, zrelay⟩ := hzport
      subst hx
      have hrest : (if z.portA.enable then PortState.idle else .disabled) = .idle ∨
          (if z.portA.enable then PortState.idle else .disabled) = .disabled := by
        split
        · exact .inl rfl
        · exact .inr rfl
      have hqA : y.settle.portA = { z.portA with
          state := if z.portA.enable then .idle else .disabled, heard := y.settleRelay.heardOf .a } := by
        rw [hq]
        refine (y.settleRelay.refreshHeard_port .a).trans ?_
        rw [hled]
        exact congrArg (fun r : Port => { r with heard := z.leaveThrough.heardOf .a }) (Part.enterState_port z .a _ none)
      have hqB : y.settle.portB = { z.portB with heard := y.settleRelay.heardOf .b } := by
        rw [hq]
        refine (y.settleRelay.refreshHeard_port .b).trans ?_
        rw [hled]
        exact congrArg (fun r : Port => { r with heard := z.leaveThrough.heardOf .b }) (Part.enterState_port_other z .a _ none)
      rw [zA] at hqA
      refine ⟨(congrArg Port.hook hqA).trans (congrArg Port.hook hport),
        (congrArg Port.digit hqA).trans (congrArg Port.digit hport), hkept, ?_, ?_, ?_, ?_, fun h => absurd h henters, fun _ => ?_,
        fun _ _ => ⟨?_, ?_⟩, fun _ h => absurd hmove h⟩
      · refine (congrArg Port.state hqB).trans ?_
        rw [zB]
        exact hotherState
      · rw [hq, Part.refreshHeard_svc, hled, Part.leaveThrough, Part.enterState_svc, zsvc, hsvc]
      · rw [hq, Part.refreshHeard_log, hled, Part.leaveThrough, Part.enterState_log, zlog, hlog]
      · rw [hq, Part.refreshHeard_diag, hled, Part.leaveThrough, Part.enterState_diag_rest z .a hrest, zdiag, hdiag]
      · rw [hq, Part.refreshHeard_line, Part.settleRelay_line, hline]
      · rw [hq, Part.refreshHeard_supply, Part.settleRelay_supply, htarget]
      · refine (congrArg Port.state hqA).trans ?_
        dsimp only
        rw [henable rfl]
    · have hsame : y.settle = y := by
        refine Part.settle_idle hwaits ((hstays hmove).trans (by rw [hsupply])) ?_
        exact Part.refreshHeard_unheard hset.2.2 hhooked.1 hhooked.2.1 hhooked.2.2 hheardBefore
      rw [hsame] at hkept ⊢
      refine ⟨?_, ?_, hkept, congrArg Port.state hother, hsvc, hlog, hdiag, fun h => absurd h henters, fun _ => hline,
        fun h => absurd h (not_or.2 ⟨henters, hmove⟩), fun _ _ => ⟨⟨hother, hframe⟩, hport⟩⟩
      · rw [hport]
      · rw [hport]

end

end Sys2Proof.Machine
end

section
/-! PROOF. An off-hook that ends a test (R165, R171, R175), and the settled statement about hooks (O46). -/

namespace Sys2Proof.Machine

/-! ### A test aborted by an off-hook -/

section
variable {p y : Part} {x : PortId} {t : RunningTest} (ht : p.diag.running = some t)

/-- The result of a test that an off-hook has ended. -/
def RunningTest.cutShort (t : RunningTest) : DiagResult :=
  ⟨t.test, t.port, t.source, .aborted .offHook, t.start, t.elapsed⟩

include ht

/-- The abort on a part with the same test: its result stored and told, and no more (R165, R166). -/
theorem Part.abortTest_offHook (hd : y.diag = p.diag) :
    let z := y.abortTest .offHook
    z = { y with diag := z.diag, link := z.link } ∧ z.diag = p.diag.finish (.aborted .offHook) t.elapsed ∧
      z.link.notices.length ≤ y.link.notices.length + 1 ∧ y.Notices z ∧
      (y.link.notices.length < 16 → .diagDone t.cutShort ∈ z.link.notices) := by
  intro z
  have helapsed : y.diag.elapsed = t.elapsed := by rw [hd, Diag.elapsed_of ht]
  refine ⟨y.endTest_frame _ _, ?_, y.endTest_notices_length _ _, (Part.Notices_refl y).endTest _ _, fun hroom => ?_⟩
  · show (y.endTest (.aborted .offHook) y.diag.elapsed).diag = _
    rw [Part.endTest_diag, helapsed, hd]
  · have htold := Part.abortTest_told (hd ▸ ht : y.diag.running = some t) .offHook hroom
    rw [helapsed] at htold
    exact htold

/-- What stays of an abort through whatever settles behind it. -/
theorem Part.settle_aborted (hdiag : y.diag = p.diag.finish (.aborted .offHook) t.elapsed)
    (hload : ∀ z, (y.port z).ringLoad = (p.port z).ringLoad)
    (htold : p.link.notices.length < 12 → .diagDone t.cutShort ∈ y.link.notices) : y.settle.abortedByOffHook p t := by
  have hnone : y.diag.running = none := by rw [hdiag, Diag.finish_running]
  have hkept : y.settle.diag = p.diag.finish (.aborted .offHook) t.elapsed := (Part.settle_diag_of_none hnone).trans hdiag
  have hringLoad (z : PortId) : (y.settle.port z).ringLoad = (p.port z).ringLoad :=
    (Part.ringLoad_of_fixed y.settle_fixed z).trans (hload z)
  refine ⟨?_, ?_, ?_, ?_, hringLoad .a, hringLoad .b, fun hroom => (Part.Notices_refl y).settle _ rfl (htold hroom)⟩
  · rw [hkept, Diag.finish_running]
  · rw [hkept]
    exact Diag.finish_slot ht _ _
  · rw [hkept, Diag.finish_eq ht]
  · rw [hkept, Diag.finish_eq ht]

end

/-- What waited for a test follows its end: a start that has nothing more to wait for, and else the line as it was. -/
theorem Part.settle_follows {p y : Part} (hshut : p.supply.state ≠ .shutdown) (hdiag : y.diag.running = none)
    (hline : y.line = p.line) (hsupply : y.supply = p.supply)
    (hroom : p.link.notices.length < 12 → y.link.notices.length < 15) :
    (p.line.startPending = true → p.supply.state ≠ .cutoff →
      (p.line.state = .dropped ∧ p.supply.relay = true ∨
        (p.line.state = .quiet ∨ p.line.state = .fallback) ∧ y.settle.portA.hook = .onHook) → y.settle.soundingFrom p) ∧
    (p.line.startPending = false ∨ p.supply.state = .cutoff ∨ p.line.state ≠ .dropped ∧ y.settle.portA.hook = .offHook →
      y.settle.line = p.line) := by
  have hhook : y.settle.portA.hook = y.portA.hook := Part.hook_of_fixed y.settle_fixed .a
  rw [hhook]
  obtain ⟨hsounds, hrests⟩ :=
    Part.testEnded (p := { p with portA := y.portA }) (x := y) hdiag hline hsupply rfl hroom
  refine ⟨fun hpending hcut hstate => hsounds hpending hcut hshut hstate, fun hwait => (hrests ?_).1⟩
  rcases hwait with h | h | h
  · exact .inl h
  · exact .inr (.inl h)
  · exact .inr (.inr (.inr h))

/-! ### The port that has ended the test -/

/-- The port that ended a test goes to DIALLING from IDLE (R96). -/
def Part.dialsIfIdle (x : PortId) (s : Part) : Part := if (s.port x).state = .idle then s.toDialling x else s

theorem Part.toDialling_notices_length {s : Part} (h : s.diag.running = none) (x : PortId) :
    (s.toDialling x).link.notices.length ≤ s.link.notices.length + 1 := by
  have hentered (f : Port → Port) : ((s.modPort x f).enterState x .dialling none).link.notices.length ≤
      s.link.notices.length + 1 := by
    have hposted := Part.enterState_notices_length (s := s.modPort x f) (by rw [Part.modPort_diag]; exact h) x .dialling none
    rwa [Part.modPort_link] at hposted
  unfold Part.toDialling
  dsimp only
  split
  · rw [Part.sayOffHook, Part.modPort_link, Part.signal_link]
    exact hentered _
  · exact hentered _

theorem Part.dialsIfIdle_facts {s : Part} (h : s.diag.running = none) (x : PortId) :
    (s.dialsIfIdle x).ground = s.ground ∧ (s.dialsIfIdle x).diag = s.diag ∧
      (s.dialsIfIdle x).fixed = s.fixed ∧ s.Notices (s.dialsIfIdle x) ∧
      (s.dialsIfIdle x).link.notices.length ≤ s.link.notices.length + 1 ∧
      ((s.dialsIfIdle x).port x).state = (if (s.port x).state = .idle then .dialling else (s.port x).state) ∧
      ((s.port x).state = .idle → ((s.dialsIfIdle x).port x).dialTimer = some 30000) ∧
      ((s.port x).state ≠ .idle → s.dialsIfIdle x = s) := by
  unfold Part.dialsIfIdle
  by_cases hi : (s.port x).state = .idle
  · rw [if_pos hi, if_pos hi]
    exact ⟨s.toDialling_ground x, s.toDialling_diag x (Part.underTest_of_none h x), s.toDialling_fixed x,
      (Part.Notices_refl s).toDialling x, Part.toDialling_notices_length h x,
      congrArg Port.state (s.toDialling_port x), fun _ => congrArg Port.dialTimer (s.toDialling_port x),
      fun hn => absurd hi hn⟩
  · rw [if_neg hi, if_neg hi]
    exact ⟨rfl, rfl, rfl, Part.Notices_refl s, Nat.le_succ _, rfl, fun hn => absurd hn hi, fun _ => rfl⟩

section
variable {p w : Part} {x : PortId} {t : RunningTest} (ht : p.diag.running = some t)
include ht

/-- The off-hook declared, and the test ended behind it (R91, R165). -/
theorem Part.declared_aborted (x : PortId) :
    let w := (p.declareHook x .offHook).abortTest .offHook
    w.port x = { p.port x with hook := .offHook } ∧ w.port (other x) = p.port (other x) ∧ w.line = p.line ∧
      w.supply = p.supply ∧ w.diag = p.diag.finish (.aborted .offHook) t.elapsed ∧
      w.link.notices.length ≤ p.link.notices.length + 2 ∧
      (p.link.notices.length < 10 → .portEvent x .offHook p.line.state none ∈ w.link.notices) ∧
      (p.link.notices.length < 12 → .diagDone t.cutShort ∈ w.link.notices) := by
  intro w
  have hport := p.declareHook_port x .offHook
  have hother := p.declareHook_port_other x .offHook
  have hframe := p.declareHook_frame x .offHook
  have htold (h : p.link.notices.length < 10) := p.declareHook_told x .offHook (by omega)
  have hlength := p.declareHook_notices_length x .offHook
  obtain ⟨haborted, hdiag, hlength', hkeeps, hdone⟩ :=
    Part.abortTest_offHook ht (y := p.declareHook x .offHook) (p.declareHook_diag x .offHook)
  have hports (z : PortId) : w.port z = (p.declareHook x .offHook).port z := by
    show ((p.declareHook x .offHook).abortTest .offHook).port z = _
    rw [haborted]
    cases z <;> rfl
  have hrest : w.line = (p.declareHook x .offHook).line ∧ w.supply = (p.declareHook x .offHook).supply := by
    show ((p.declareHook x .offHook).abortTest .offHook).line = _ ∧ ((p.declareHook x .offHook).abortTest .offHook).supply = _
    rw [haborted]
    exact ⟨rfl, rfl⟩
  refine ⟨(hports x).trans hport, (hports _).trans hother, hrest.1.trans (by rw [hframe]), hrest.2.trans (by rw [hframe]),
    hdiag, hlength'.trans (by omega), fun h => hkeeps _ rfl (htold h), fun h => hdone (by omega)⟩

/-- The part that an off-hook has ended a test on, settled (R24, R96, R167, R171, R175). -/
theorem Part.ended_settles (hshut : p.supply.state ≠ .shutdown) (hhook : (w.port x).hook = .offHook)
    (hline : w.line = p.line) (hsupply : w.supply = p.supply)
    (hdiag : w.diag = p.diag.finish (.aborted .offHook) t.elapsed) (hload : ∀ z, (w.port z).ringLoad = (p.port z).ringLoad)
    (hlength : w.link.notices.length ≤ p.link.notices.length + 2)
    (hdone : p.link.notices.length < 12 → .diagDone t.cutShort ∈ w.link.notices) (hrelay : w.relayTarget = w.supply.relay)
    (hx : x = .b ∨ w.portA.hook = .offHook ∨ w.supply.relay = true) {q : Part} (hq : (w.dialsIfIdle x).settle = q) :
    q.abortedByOffHook p t ∧ (q.port x).hook = .offHook ∧ w.Notices q ∧
      (q.port x).state = (if (w.port x).state = .idle then .dialling else (w.port x).state) ∧
      ((w.port x).state = .idle → (q.port x).dialTimer = some 30000) ∧
      ((p.line.startPending = true → p.supply.state ≠ .cutoff →
        (p.line.state = .dropped ∧ p.supply.relay = true ∨
          (p.line.state = .quiet ∨ p.line.state = .fallback) ∧ q.portA.hook = .onHook) → q.soundingFrom p) ∧
      (p.line.startPending = false ∨ p.supply.state = .cutoff ∨ p.line.state ≠ .dropped ∧ q.portA.hook = .offHook →
        q.line = p.line)) := by
  have hnone : w.diag.running = none := by rw [hdiag, Diag.finish_running]
  obtain ⟨yground, ydiag, yfixed, ykeeps, ylength, ystate, ydial, -⟩ := Part.dialsIfIdle_facts hnone x
  generalize w.dialsIfIdle x = y at hq yground ydiag yfixed ykeeps ylength ystate ydial
  subst hq
  have yline : y.line = w.line := Part.line_of_ground yground
  have ysupply : y.supply = w.supply := Part.supply_of_ground yground
  have yhook : y.portA.hook = w.portA.hook := Part.hook_of_fixed yfixed .a
  have yrelay : y.relayTarget = y.supply.relay :=
    Part.relayTarget_offHook hrelay ysupply (by rw [yline]) (by unfold Part.loopTesting; rw [ydiag]) (.inl yhook)
  have hport := Part.settle_keeps_port (s := y) (x := x) yrelay (by rw [yhook, ysupply]; exact hx)
  refine ⟨Part.settle_aborted ht (ydiag.trans hdiag) (fun z => (Part.ringLoad_of_fixed yfixed z).trans (hload z))
      (fun h => ykeeps _ rfl (hdone h)), ?_, ykeeps.settle, ?_, fun h => ?_,
    Part.settle_follows hshut (by rw [ydiag]; exact hnone) (yline.trans hline) (ysupply.trans hsupply) (fun h => by omega)⟩
  · rw [Part.hook_of_fixed y.settle_fixed, Part.hook_of_fixed yfixed, hhook]
  · rw [hport]
    exact ystate
  · rw [hport]
    exact ydial h

end

section
variable {s : State} {x : PortId} {t : RunningTest} (hrun : s.part.running = true)
  (hshut : s.part.supply.state ≠ .shutdown) (hset : s.part.settled) (ht : s.part.diag.running = some t)
include hrun hshut hset ht

/-- The off-hook that ends the PORT_TEST of its port (R175). -/
theorem offHook_endsPortTest (htest : t.test = .portTest) (hport : t.port = some x)
    (hst : (s.part.port x).state = .idle ∧ (s.part.port x).hook = .onHook ∨ (s.part.port x).state = .disabled) :
    let p := s.part
    ∃ q : Part, Completes (.offHook x) s q ∧ q.abortedByOffHook p t ∧ (q.port x).hook = .offHook ∧
      (p.link.notices.length < 10 → Notice.portEvent x .offHook p.line.state none ∈ q.link.notices) ∧
      ((p.port x).state = .idle → (q.port x).state = .dialling ∧ (q.port x).dialTimer = some 30000) ∧
      ((p.port x).state = .disabled → (q.port x).state = .disabled) ∧
      ((p.line.startPending = true → p.supply.state ≠ .cutoff →
        (p.line.state = .dropped ∧ p.supply.relay = true ∨
          (p.line.state = .quiet ∨ p.line.state = .fallback) ∧ q.portA.hook = .onHook) → q.soundingFrom p) ∧
      (p.line.startPending = false ∨ p.supply.state = .cutoff ∨ p.line.state ≠ .dropped ∧ q.portA.hook = .offHook →
        q.line = p.line)) := by
  intro p
  have hunder : (p.declareHook x .offHook).underTest x = true := by
    unfold Part.underTest
    rw [Part.declareHook_diag, ht]
    simp [htest, hport]
  have hloop : p.loopTesting = false := by
    unfold Part.loopTesting
    rw [ht]
    simp [htest]
  have haborts : (p.declareHook x .offHook).offHookAborts x = ((p.declareHook x .offHook).abortTest .offHook).settleRelay :=
    if_pos (by rw [hunder]; rfl)
  obtain ⟨wport, wother, wline, wsupply, wdiag, wlength, wtold, wdone⟩ := Part.declared_aborted ht x
  generalize (p.declareHook x .offHook).abortTest .offHook = w at haborts wport wother wline wsupply wdiag wlength wtold wdone
  have wnone : w.diag.running = none := by rw [wdiag, Diag.finish_running]
  have whook : w.portA.hook = p.portA.hook ∨ w.portA.hook = .offHook := by
    cases x with
    | a => exact .inr (congrArg Port.hook wport)
    | b => exact .inl (congrArg Port.hook wother)
  have wrelay : w.relayTarget = w.supply.relay :=
    Part.relayTarget_offHook hset.2.1 wsupply (by rw [wline]) (by rw [Part.loopTesting_of_none wnone, hloop]) whook
  rw [Part.settleRelay_same wrelay] at haborts
  have hruns : p.offHook x = w.dialsIfIdle x := by
    unfold Part.offHook Part.dialsIfIdle
    dsimp only
    rw [haborts, if_neg hshut, wport]
    dsimp only
    rcases hst with ⟨hi, hh⟩ | hd
    · rw [show (p.port x).state = .idle from hi, show (p.port x).hook = .onHook from hh]
      rfl
    · have hunder' : p.underTest x = true := by
        unfold Part.underTest at hunder ⊢
        rwa [Part.declareHook_diag] at hunder
      rw [show (p.port x).state = .disabled from hd, hunder']
      rfl
  have hx : x = .b ∨ w.portA.hook = .offHook ∨ w.supply.relay = true := by
    cases x with
    | a => exact .inr (.inl (congrArg Port.hook wport))
    | b => exact .inl rfl
  have hload (z : PortId) : (w.port z).ringLoad = (p.port z).ringLoad := by
    rcases eq_or_other x z with rfl | rfl
    · rw [wport]
    · rw [wother]
  obtain ⟨qaborted, qhook, qkeeps, qstate, qdial, qfollows⟩ := Part.ended_settles ht hshut (by rw [wport]) wline wsupply wdiag
    hload wlength wdone wrelay hx rfl
  refine ⟨_, offHook_completes hrun (congrArg Part.settle hruns), qaborted, qhook, fun h => qkeeps _ rfl (wtold h),
    fun hi => ⟨?_, qdial (by rw [wport]; exact hi)⟩, fun hd => ?_, qfollows⟩
  · rw [qstate, wport, if_pos hi]
  · rw [qstate, wport]
    dsimp only
    rw [hd]
    rfl

end

/-! ### The notices of a port that goes to THROUGH -/

section
variable {s : Part} (h : s.diag.running = none)

theorem Part.callerBack_link (s : Part) (p : PortId) : (s.callerBack p).link = s.link := by
  have hreleased (x : Part) : (x.releaseTone p).link = x.link := by
    unfold Part.releaseTone
    split
    · cases p <;> exact Part.modPort_link _ _ _
    · rfl
  unfold Part.callerBack
  split
  · dsimp only
    split
    · rw [Part.sayOffHook, Part.modPort_link, Part.signal_link, hreleased, Part.modPort_link]
    · rw [hreleased, Part.modPort_link]
  · rfl

include h

theorem Part.endRing_notices_length (p : PortId) (n : PortState) :
    (s.endRing p false n).link.notices.length ≤ s.link.notices.length + 1 := by
  have hentered : ((s.modPort p fun r => { r with ring := none }).enterState p n none).link.notices.length ≤
      s.link.notices.length + 1 := by
    have hposted := Part.enterState_notices_length (s := s.modPort p fun r => { r with ring := none })
      (by rw [Part.modPort_diag]; exact h) p n none
    rwa [Part.modPort_link] at hposted
  unfold Part.endRing
  split
  · exact Nat.le_succ _
  · dsimp only
    split
    · exact hentered
    · split
      · rw [Part.callerBack_link]
        exact hentered
      · exact hentered

theorem Part.dropRungBy_notices_length (p : PortId) :
    (s.dropRungBy p).link.notices.length ≤ s.link.notices.length + 1 := by
  unfold Part.dropRungBy
  split
  · exact Part.endRing_notices_length h _ _
  · exact Nat.le_succ _

theorem Part.parkJoined_notices_length : s.parkJoined.link.notices.length ≤ s.link.notices.length + 2 := by
  unfold Part.parkJoined
  split
  · have hparked (f : Port → Port) : ((s.unlink.modPort .b f).enterState .b .parked none).link.notices.length ≤
        s.link.notices.length + 1 := by
      have hposted := Part.enterState_notices_length (s := s.unlink.modPort .b f)
        (by rw [Part.modPort_diag]; exact h) .b .parked none
      rwa [Part.modPort_link] at hposted
    have hnone (f : Port → Port) : ((s.unlink.modPort .b f).enterState .b .parked none).diag.running = none := by
      rw [Part.enterState_diag_of_none (by rw [Part.modPort_diag]; exact h), Part.modPort_diag]
      exact h
    exact (Part.dropRungBy_notices_length (hnone _) .b).trans (Nat.succ_le_succ (hparked _))
  · exact Nat.le_add_right _ _

/-- A port A out of any call enters THROUGH with few notices (R90). -/
theorem Part.enterThrough_notices_length (hcall : s.portA.state ≠ .intercom) :
    s.enterThrough.link.notices.length ≤ s.link.notices.length + 5 := by
  have hnone : ∀ q, s.underTest q = false := Part.underTest_of_none h
  have hring := Part.endRing_notices_length h .a .through
  have hcleared : s.Watches (((s.endRing .a false .through).setChan .a none).setHold .a none) :=
    ((Part.Watches_refl s).endRing .a false .through).same rfl
  obtain ⟨z, hz⟩ : ∃ z, z = ((((s.endRing .a false .through).setChan .a none).setHold .a none).modPort .a fun r =>
    { r with announced := false, digit := none, dialTimer := none, cooldown := none, howler := none, lastTone := none }) :=
    ⟨_, rfl⟩
  have hzdiag : z.diag.running = none := by
    rw [hz, Part.modPort_diag, hcleared.diag_eq hnone]
    exact h
  have hzlength : z.link.notices.length ≤ s.link.notices.length + 1 := by
    rw [hz, Part.modPort_link]
    exact hring
  obtain ⟨y, hy⟩ : ∃ y, y = z.enterState .a .through none := ⟨_, rfl⟩
  have hydiag : y.diag.running = none := by rw [hy, Part.enterState_diag_of_none hzdiag]; exact hzdiag
  have hylength : y.link.notices.length ≤ s.link.notices.length + 2 := by
    have hposted := Part.enterState_notices_length hzdiag .a .through none
    rw [hy]
    omega
  have hthrough : s.enterThrough = y.parkJoined.dropRungBy .a := by
    have hleaves : s.enterThrough = y.leaveCall .a s.portA.state := by
      rw [hy, hz]
      rfl
    rw [hleaves]
    unfold Part.leaveCall
    dsimp only
    have hapart : ¬ (s.portA.state = .intercom ∧ (y.port (other .a)).state = .intercom) := fun k => hcall k.1
    rw [if_neg hapart, if_pos rfl]
  have hjdiag : y.parkJoined.diag.running = none := by
    rw [((Part.Watches_refl y).parkJoined).diag_eq (Part.underTest_of_none hydiag)]
    exact hydiag
  have hjlength := Part.parkJoined_notices_length hydiag
  have hdropped := Part.dropRungBy_notices_length hjdiag .a
  rw [hthrough]
  omega

end

/-! ### The off-hook that ends a LOOP_TEST -/

section
variable {p w : Part} {t : RunningTest} (ht : p.diag.running = some t)
include ht

/-- Port A with the relay back at THROUGH (R90, R171), settled. -/
theorem Part.through_settles (hreq : p.line.request = .through) (hline : w.line = p.line)
    (hrelay : w.supply.relay = false) (hdiag : w.diag = p.diag.finish (.aborted .offHook) t.elapsed)
    (hload : ∀ z, (w.port z).ringLoad = (p.port z).ringLoad)
    (hdone : p.link.notices.length < 12 → .diagDone t.cutShort ∈ w.link.notices) (hhook : w.portA.hook = .offHook)
    (hstate : w.portA.state = .through) {q : Part} (hq : w.settle = q) :
    q.abortedByOffHook p t ∧ q.supply.relay = false ∧ q.portA.state = .through ∧ q.portA.hook = .offHook ∧
      (p.line.state ≠ .dropped → q.line = p.line) ∧ w.Notices q := by
  have hnone : w.diag.running = none := by rw [hdiag, Diag.finish_running]
  have htarget : w.relayTarget = w.supply.relay := by
    rw [hrelay]
    exact Part.relayTarget_through (Part.loopTesting_of_none hnone) (by rw [hline]; exact hreq)
  have hport : w.settle.portA = { w.portA with heard := w.settle.heardOf .a } :=
    Part.settle_keeps_port (x := .a) htarget (.inr (.inl hhook))
  subst hq
  refine ⟨Part.settle_aborted ht hdiag hload hdone, ?_, ?_, ?_, fun hdropped => ?_, (Part.Notices_refl w).settle⟩
  · rw [Part.settle_keeps_supply htarget (.inl hhook), hrelay]
  · rw [hport]
    exact hstate
  · rw [hport]
    exact hhook
  · refine (Part.settle_rests (eq_false_of_ne_true fun h => ?_) hnone).1.trans hline
    obtain ⟨-, -, -, -, hst⟩ := Part.mayStart_inv h
    rw [hline, hhook] at hst
    rcases hst with hst | ⟨-, hst⟩
    · exact hdropped hst
    · cases hst

omit ht in
/-- The relay back at THROUGH takes port A with it, and keeps the rest (R90, R171, R187). -/
theorem Part.settleRelay_gone (hnone : w.diag.running = none) (hreq : w.line.request = .through)
    (hrelay : w.supply.relay = true) :
    w.settleRelay.line = w.line ∧ w.settleRelay.supply.relay = false ∧ w.settleRelay.diag = w.diag ∧
      w.settleRelay.fixed = w.fixed ∧ w.Notices w.settleRelay ∧ w.settleRelay.portA.state = .through ∧
      (w.portA.state ≠ .intercom → w.settleRelay.link.notices.length ≤ w.link.notices.length + 5) := by
  have htarget := Part.relayTarget_through (Part.loopTesting_of_none hnone) hreq
  refine ⟨w.settleRelay_line, ?_, (Part.Watches_refl w).settleRelay.diag_eq (Part.underTest_of_none hnone),
    w.settleRelay_fixed, (Part.Notices_refl w).settleRelay, Part.settleRelay_through htarget hrelay, fun hcall => ?_⟩
  · rw [Part.settleRelay_supply, htarget]
  · unfold Part.settleRelay
    dsimp only
    rw [htarget, if_neg (by rw [hrelay]; decide), if_neg (by decide)]
    exact Part.enterThrough_notices_length (s := { w with supply := { w.supply with relay := false } }) hnone hcall

end

section
variable {s : State} {t : RunningTest} (hrun : s.part.running = true)
  (hshut : s.part.supply.state ≠ .shutdown) (hset : s.part.settled) (ht : s.part.diag.running = some t)
  (htest : t.test = .loopTest) (hhook : s.part.portA.hook = .onHook)
include hrun hshut hset ht htest hhook

omit hrun hhook in
/-- A LOOP_TEST holds the relay at PART (R168, R187). -/
theorem loopTest_relay : s.part.loopTesting = true ∧ s.part.supply.relay = true := by
  have hloop : s.part.loopTesting = true := by
    unfold Part.loopTesting
    rw [ht]
    simp [htest]
  refine ⟨hloop, hset.2.1.symm.trans ?_⟩
  unfold Part.relayTarget
  rw [if_neg hshut, if_pos hloop]

/-- On a port A that keeps its hook (R91, R96, R171). -/
theorem offHook_endsLoopTest (hst : s.part.portA.state ∈ [PortState.idle, .tripped, .cooldown, .lockedOut]) :
    let p := s.part
    ∃ q : Part, Completes (.offHook .a) s q ∧ q.abortedByOffHook p t ∧ q.portA.hook = .offHook ∧
      (p.link.notices.length < 10 → Notice.portEvent .a .offHook p.line.state none ∈ q.link.notices) ∧
      (p.line.request = .through → q.supply.relay = false ∧ q.portA.state = .through ∧
        (p.line.state ≠ .dropped → q.line = p.line)) ∧
      (p.line.request = .part → q.supply = p.supply ∧
        q.portA.state = (if p.portA.state = .idle then .dialling else p.portA.state) ∧
        (p.portA.state = .idle → q.portA.dialTimer = some 30000) ∧
        (p.line.startPending = true → p.supply.state ≠ .cutoff →
          (p.line.state = .dropped ∧ p.supply.relay = true ∨
            (p.line.state = .quiet ∨ p.line.state = .fallback) ∧ q.portA.hook = .onHook) → q.soundingFrom p) ∧
        (p.line.startPending = false ∨ p.supply.state = .cutoff ∨ p.line.state ≠ .dropped ∧ q.portA.hook = .offHook →
          q.line = p.line)) := by
  intro p
  obtain ⟨hloop, hrelay⟩ := loopTest_relay hshut hset ht htest
  have hunder : (p.declareHook .a .offHook).loopTesting = true := by
    unfold Part.loopTesting at hloop ⊢
    rwa [Part.declareHook_diag]
  have haborts : (p.declareHook .a .offHook).offHookAborts .a = ((p.declareHook .a .offHook).abortTest .offHook).settleRelay :=
    if_pos (by rw [hunder]; exact Bool.or_true _)
  obtain ⟨wport, wother, wline, wsupply, wdiag, wlength, wtold, wdone⟩ := Part.declared_aborted ht .a
  generalize (p.declareHook .a .offHook).abortTest .offHook = w at haborts wport wother wline wsupply wdiag wlength wtold wdone
  have wnone : w.diag.running = none := by rw [wdiag, Diag.finish_running]
  have whook : w.portA.hook = .offHook := congrArg Port.hook wport
  have wstate := congrArg Port.state wport
  have wrelay : w.supply.relay = true := by rw [wsupply]; exact hrelay
  have hruns : p.offHook .a = w.settleRelay.dialsIfIdle .a := by
    unfold Part.offHook Part.dialsIfIdle
    dsimp only
    rw [haborts, if_neg hshut, show (p.port .a).hook = .onHook from hhook]
    have hst' : (p.port .a).state ∈ [PortState.idle, .tripped, .cooldown, .lockedOut] := hst
    generalize (p.port .a).state = n at hst'
    cases n
    any_goals rfl
    all_goals exact absurd hst' (by decide)
  have hload (z : PortId) : (w.port z).ringLoad = (p.port z).ringLoad := by
    cases z
    · rw [wport]
    · exact congrArg Port.ringLoad wother
  cases hreq : p.line.request with
  | through =>
    obtain ⟨gline, grelay, gdiag, gfixed, gkeeps, gstate, -⟩ :=
      Part.settleRelay_gone wnone (by rw [wline]; exact hreq) wrelay
    have hidle : w.settleRelay.dialsIfIdle .a = w.settleRelay :=
      if_neg (by rw [show (w.settleRelay.port .a).state = .through from gstate]; decide)
    obtain ⟨qaborted, qrelay, qstate, qhook, qline, qkeeps⟩ := Part.through_settles ht hreq (gline.trans wline) grelay
      (gdiag.trans wdiag) (fun z => (Part.ringLoad_of_fixed gfixed z).trans (hload z)) (fun h => gkeeps _ rfl (wdone h))
      ((Part.hook_of_fixed gfixed .a).trans whook) gstate rfl
    refine ⟨_, offHook_completes hrun (congrArg Part.settle (hruns.trans hidle)), qaborted, qhook,
      fun h => qkeeps _ rfl (gkeeps _ rfl (wtold h)), fun _ => ⟨qrelay, qstate, qline⟩, fun h => nomatch h⟩
  | part =>
    have htarget : w.relayTarget = w.supply.relay := by
      rw [Part.relayTarget_part (by rw [wsupply]; exact hshut) (Part.loopTesting_of_none wnone) (by rw [wline]; exact hreq),
        wrelay]
      rfl
    rw [Part.settleRelay_same htarget] at hruns
    obtain ⟨qaborted, qhook, qkeeps, qstate, qdial, qfollows⟩ := Part.ended_settles ht hshut (by rw [wport]) wline wsupply
      wdiag hload wlength wdone htarget (.inr (.inr wrelay)) (x := .a) rfl
    obtain ⟨yground, ydiag, yfixed, -, -, -, -, -⟩ := Part.dialsIfIdle_facts wnone .a
    have ysupply : (w.settleRelay.dialsIfIdle .a).supply = w.supply := by
      rw [Part.settleRelay_same htarget]
      exact Part.supply_of_ground yground
    have yline := Part.line_of_ground yground
    refine ⟨_, offHook_completes hrun (congrArg Part.settle hruns), qaborted, qhook, fun h => qkeeps _ rfl (wtold h),
      (fun h => nomatch h), fun _ => ⟨?_, ?_, fun hi => qdial (Eq.trans wstate hi), qfollows⟩⟩
    · rw [Part.settle_keeps_supply, Part.supply_of_ground yground, wsupply]
      · exact Part.relayTarget_offHook htarget (Part.supply_of_ground yground) (by rw [yline])
          (by unfold Part.loopTesting; rw [ydiag]) (.inl (Part.hook_of_fixed yfixed .a))
      · exact .inl ((Part.hook_of_fixed yfixed .a).trans whook)
    · refine Eq.trans qstate ?_
      rw [wstate]
      rfl

/-- On a DISABLED port A, which keeps no hook but in THROUGH (R90, R171). -/
theorem offHook_endsLoopTest_disabled (hst : s.part.portA.state = .disabled) :
    let p := s.part
    ∃ q : Part, Completes (.offHook .a) s q ∧ q.abortedByOffHook p t ∧
      (p.line.request = .through → q.supply.relay = false ∧ q.portA.state = .through ∧ q.portA.hook = .offHook ∧
        (p.link.notices.length < 10 → Notice.portEvent .a .offHook p.line.state none ∈ q.link.notices) ∧
        (p.line.state ≠ .dropped → q.line = p.line)) ∧
      (p.line.request = .part → q.supply = p.supply ∧ q.portA = p.portA ∧
        (p.line.startPending = true → p.supply.state ≠ .cutoff →
          (p.line.state = .dropped ∧ p.supply.relay = true ∨
            (p.line.state = .quiet ∨ p.line.state = .fallback) ∧ q.portA.hook = .onHook) → q.soundingFrom p) ∧
        (p.line.startPending = false ∨ p.supply.state = .cutoff ∨ p.line.state ≠ .dropped ∧ q.portA.hook = .offHook →
          q.line = p.line)) := by
  intro p
  obtain ⟨hloop, hrelay⟩ := loopTest_relay hshut hset ht htest
  obtain ⟨waborted, wdiag, wlength, -, wdone⟩ := Part.abortTest_offHook ht (y := p) rfl
  have haborts : p.offHookAborts .a = (p.abortTest .offHook).settleRelay := if_pos (by rw [hloop]; exact Bool.or_true _)
  have hfree : p.underTest .a = false := by
    unfold Part.underTest
    rw [ht]
    simp [htest]
  have hruns : p.offHook .a =
      if (p.abortTest .offHook).settleRelay.portA.state = .through then
        (p.abortTest .offHook).settleRelay.declareHook .a .offHook
      else (p.abortTest .offHook).settleRelay := by
    unfold Part.offHook
    dsimp only
    rw [haborts, if_neg hshut, show (p.port .a).hook = .onHook from hhook, show (p.port .a).state = .disabled from hst,
      hfree, hloop]
    rfl
  generalize p.abortTest .offHook = w at haborts hruns waborted wdiag wlength wdone
  have wline : w.line = p.line := by rw [waborted]
  have wsupply : w.supply = p.supply := by rw [waborted]
  have wA : w.portA = p.portA := by rw [waborted]
  have wload (z : PortId) : (w.port z).ringLoad = (p.port z).ringLoad := by
    rw [waborted]
    cases z <;> rfl
  have wnone : w.diag.running = none := by rw [wdiag, Diag.finish_running]
  have wrelay : w.supply.relay = true := by rw [wsupply]; exact hrelay
  cases hreq : p.line.request with
  | through =>
    obtain ⟨gline, grelay, gdiag, gfixed, gkeeps, gstate, glength⟩ :=
      Part.settleRelay_gone wnone (by rw [wline]; exact hreq) wrelay
    rw [if_pos gstate] at hruns
    have hroom (h : p.link.notices.length < 10) : w.settleRelay.link.notices.length < 16 := by
      have hlength := glength (by rw [wA, hst]; decide)
      omega
    have htold := fun h => w.settleRelay.declareHook_told .a .offHook (hroom h)
    have hkeeps : w.settleRelay.Notices (w.settleRelay.declareHook .a .offHook) :=
      Part.Notices.post _ ((Part.Notices_refl _).modPort .a _)
    have dframe := w.settleRelay.declareHook_frame .a .offHook
    have dload (z : PortId) : ((w.settleRelay.declareHook .a .offHook).port z).ringLoad = (p.port z).ringLoad := by
      have hsame : ((w.settleRelay.declareHook .a .offHook).port z).ringLoad = (w.settleRelay.port z).ringLoad := by
        cases z <;> rfl
      exact (hsame.trans (Part.ringLoad_of_fixed gfixed z)).trans (wload z)
    obtain ⟨qaborted, qrelay, qstate, qhook, qline, qkeeps⟩ := Part.through_settles (p := p) ht hreq
      (w := w.settleRelay.declareHook .a .offHook) (by rw [dframe]; exact gline.trans wline) (by rw [dframe]; exact grelay)
      (by rw [dframe]; exact gdiag.trans wdiag) dload (fun h => hkeeps _ rfl (gkeeps _ rfl (wdone (by omega)))) rfl gstate rfl
    refine ⟨_, offHook_completes hrun (congrArg Part.settle hruns), qaborted,
      fun _ => ⟨qrelay, qstate, qhook, fun h => qkeeps _ rfl ?_, qline⟩, fun h => nomatch h⟩
    have hposted := htold h
    rwa [gline, wline] at hposted
  | part =>
    have htarget : w.relayTarget = w.supply.relay := by
      rw [Part.relayTarget_part (by rw [wsupply]; exact hshut) (Part.loopTesting_of_none wnone) (by rw [wline]; exact hreq),
        wrelay]
      rfl
    rw [Part.settleRelay_same htarget, if_neg (by rw [wA, hst]; decide)] at hruns
    have hport : w.settle.portA = { w.portA with heard := w.settle.heardOf .a } :=
      Part.settle_keeps_port (x := .a) htarget (.inr (.inr wrelay))
    have hsilent : w.settle.heardOf .a = .silence := by
      refine Part.heardOf_silent ?_
      have hstill : (w.settle.port .a).state = .disabled := by
        rw [show w.settle.port .a = _ from hport]
        exact (congrArg Port.state wA).trans hst
      rw [hstill]
      decide
    have hheard : p.portA.heard = .silence := by
      have hbefore := congrArg (fun z : Part => z.portA.heard) hset.2.2
      refine hbefore.symm.trans (Part.heardOf_silent ?_)
      rw [show (s.part.port .a).state = .disabled from hst]
      decide
    obtain ⟨qsounds, qrests⟩ := Part.settle_follows (p := p) hshut wnone wline wsupply (fun h => by omega)
    refine ⟨_, offHook_completes hrun (congrArg Part.settle hruns),
      Part.settle_aborted (p := p) ht wdiag wload (fun h => wdone (by omega)), (fun h => nomatch h),
      fun _ => ⟨(Part.settle_keeps_supply htarget (.inr wrelay)).trans wsupply, ?_, qsounds, qrests⟩⟩
    rw [hport, hsilent, wA, ← hheard]

end

/-- Settles O46: the hook by the port's state, by the call it is in, and by the test that watches it. -/
theorem hookDeclarationsMoveThePort : Obligations.HookDeclarationsMoveThePort := by
  refine ⟨fun s x hrun hdiag hpending hreq hrelay hshut => ?_, fun s x hrun hset => ?_, fun s x hrun hshut hset => ?_⟩
  · exact ⟨offHook_dials hrun hdiag hpending hreq hrelay hshut, onHook_leaves hrun hpending hreq hrelay hshut⟩
  · refine ⟨fun h => offHook_completes hrun ?_, fun h => onHook_completes hrun ?_⟩
    · rw [Part.offHook_ignored h]
      exact Part.settle_idle hset.1 hset.2.1 hset.2.2
    · rw [Part.onHook_ignored h]
      exact Part.settle_idle hset.1 hset.2.1 hset.2.2
  · intro p r watched told alone follows
    refine ⟨fun hst hhook hw => ?_, fun hst hhook => ?_, fun hst hhook => offHook_rings_trip hrun hshut hst hhook,
      fun hst hhook hw => offHook_dials_settled hrun hshut hset hhook hst hw, fun t ht htest hport hst =>
        offHook_endsPortTest hrun hshut hset ht htest hport hst, fun t hx ht htest hhook hst => ?_⟩
    · exact ⟨_, offHook_told hrun hshut hset hhook hst hw, p.declareHook_port x .offHook,
        ⟨p.declareHook_port_other x .offHook, p.declareHook_frame x .offHook⟩,
        fun h => p.declareHook_told x .offHook (by omega)⟩
    · exact ⟨_, onHook_completes hrun (congrArg Part.settle (Part.onHook_declares hshut hhook hst)),
        Part.hooksOn_settles hshut hset hhook hst rfl⟩
    · subst hx
      by_cases hd : p.portA.state = .disabled
      · obtain ⟨q, hdone, haborted, hthrough, hpart⟩ := offHook_endsLoopTest_disabled hrun hshut hset ht htest hhook hd
        refine ⟨q, hdone, haborted, hthrough, fun hreq => ?_⟩
        obtain ⟨hsupply, hA, hsounds, hrests⟩ := hpart hreq
        have hstate : r.state = .disabled := hd
        refine ⟨hsupply, ⟨hsounds, hrests⟩, ?_, (fun h => nomatch hstate.symm.trans h), fun _ => hA, fun h => absurd hd h⟩
        rw [hA, hstate]
        exact hd
      · have hst' : p.portA.state ∈ [PortState.idle, .tripped, .cooldown, .lockedOut] := by
          have hmem : p.portA.state ∈ [PortState.idle, .disabled, .tripped, .cooldown, .lockedOut] := hst
          simp only [List.mem_cons, List.not_mem_nil, or_false] at hmem ⊢
          tauto
        obtain ⟨q, hdone, haborted, hoff, htold, hthrough, hpart⟩ :=
          offHook_endsLoopTest hrun hshut hset ht htest hhook hst'
        refine ⟨q, hdone, haborted, fun hreq => ?_, fun hreq => ?_⟩
        · obtain ⟨hrelay, hstate, hline⟩ := hthrough hreq
          exact ⟨hrelay, hstate, hoff, htold, hline⟩
        · obtain ⟨hsupply, hstate, hdial, hsounds, hrests⟩ := hpart hreq
          exact ⟨hsupply, ⟨hsounds, hrests⟩, hstate, hdial, fun h => absurd h hd, fun _ => ⟨hoff, htold⟩⟩

end Sys2Proof.Machine
end

section
/-! SUPPORT. What the capacity rule leaves alone, and what it can post: no RATE_CHANGE of its own (R139, R142). -/

namespace Sys2Proof.Machine

/-! ### The part behind the voice arrangement -/

/-- The part behind the channels, the states of the telephones, and the messages and notices. -/
def Part.backdrop (s : Part) : Part × (Port × Port) × Bool × List ChanSwitch :=
  (s.ground, s.fixed, s.loopTesting, s.sched.switches)

section
variable (s : Part) (p : PortId)

@[simp] theorem Part.setChan_backdrop (c : Option Channel) : (s.setChan p c).backdrop = s.backdrop := by cases p <;> rfl
@[simp] theorem Part.setSlot_backdrop (x : Slot) : (s.setSlot p x).backdrop = s.backdrop := by cases p <;> rfl
@[simp] theorem Part.setHold_backdrop (t : Option Nat) : (s.setHold p t).backdrop = s.backdrop := by cases p <;> rfl
@[simp] theorem Part.signal_backdrop (x : Signal) : (s.signal p x).backdrop = s.backdrop := by
  simp [Part.backdrop, Part.loopTesting]

/-- The change of a port's state ends no LOOP_TEST (R165, R174). -/
theorem Part.enterState_loopTesting (n : PortState) (m : Option Mode) :
    (s.enterState p n m).loopTesting = s.loopTesting := by
  have hdiag (e : PortEvent) : ((s.modPort p fun r => { r with state := n }).portEvent p e m).diag = s.diag := by
    rw [Part.portEvent, Part.post_diag, Part.modPort_diag]
  unfold Part.enterState
  dsimp only
  split
  · rfl
  · generalize hx : ((s.modPort p fun r => { r with state := n }).portEvent p (.state (s.port p).state n) m) = x
    have hxdiag : x.diag = s.diag := by rw [← hx, hdiag]
    split
    · rename_i habort
      have hunder := (Bool.and_eq_true _ _ ▸ habort).1
      unfold Part.underTest at hunder
      unfold Part.abortTest Part.endTest
      cases hr : x.diag.running with
      | none => simp [hr] at hunder
      | some t =>
        rw [hr] at hunder
        have htest : t.test = .portTest := eq_of_beq (Bool.and_eq_true _ _ ▸ hunder).1
        have hloop : s.loopTesting = false := by
          unfold Part.loopTesting
          rw [← hxdiag, hr]
          simp [htest]
        rw [hloop]
        show Part.loopTesting (Part.post _ { x with diag := x.diag.finish (.aborted .portState) x.diag.elapsed }) = false
        unfold Diag.finish Part.loopTesting
        rw [hr]
        rfl
    · unfold Part.loopTesting
      rw [hxdiag]

@[simp] theorem Part.enterState_backdrop (n : PortState) (m : Option Mode) : (s.enterState p n m).backdrop = s.backdrop := by
  simp [Part.backdrop, Part.enterState_loopTesting]

end

/-! ### The notices -/

/-- A RATE_CHANGE notice (R142). -/
def Notice.isRate : Notice → Bool
  | .rateChange .. => true
  | _ => false

/-- From `s` to `t` at most `n` notices are posted, none of them a RATE_CHANGE. -/
def Part.posts (n : Nat) (s t : Part) : Prop :=
  t.link.notices.length ≤ s.link.notices.length + n ∧
    ∀ x : Notice, x.isRate = true → x ∈ t.link.notices → x ∈ s.link.notices

theorem Part.posts_same {s t : Part} (h : t.link = s.link) : s.posts 0 t := by
  unfold Part.posts
  rw [h]
  exact ⟨Nat.le_refl _, fun x _ hx => hx⟩

theorem Part.posts.trans {s t u : Part} {n k : Nat} (h : s.posts n t) (j : t.posts k u) : s.posts (n + k) u :=
  ⟨by have := h.1; have := j.1; omega, fun x hr hx => h.2 x hr (j.2 x hr hx)⟩

theorem Part.posts.le {s t : Part} {n k : Nat} (h : s.posts n t) (hk : n ≤ k) : s.posts k t :=
  ⟨h.1.trans (by omega), h.2⟩

/-- A RATE_CHANGE in the queue behind another notice was there before it. -/
theorem Link.rate_of_post {l : Link} {n x : Notice} (hn : n.isRate = false) (hx : x.isRate = true)
    (h : x ∈ (l.post n).notices) : x ∈ l.notices := by
  have hne : x ≠ n := by
    rintro rfl
    rw [hn] at hx
    cases hx
  unfold Link.post at h
  split at h
  · exact (List.mem_append.1 h).elim id fun hl => absurd (List.mem_singleton.1 hl) hne
  · dsimp only at h
    split at h
    · exact (List.mem_append.1 h).elim List.mem_of_mem_eraseP fun hl => absurd (List.mem_singleton.1 hl) hne
    · exact h

theorem Part.posts_post (s : Part) {n : Notice} (hn : n.isRate = false) : s.posts 1 (s.post n) :=
  ⟨s.post_notices_length n, fun _ hx h => Link.rate_of_post hn hx h⟩

theorem Part.posts_endTest (s : Part) (o : DiagOutcome) (d : Nat) : s.posts 1 (s.endTest o d) := by
  unfold Part.endTest
  split
  · exact (Part.posts_same rfl).le (by decide)
  · exact Part.posts_post { s with diag := s.diag.finish o d } rfl

theorem Part.posts_enterState (s : Part) (p : PortId) (n : PortState) (m : Option Mode) : s.posts 2 (s.enterState p n m) := by
  have hset : s.posts 0 (s.modPort p fun r => { r with state := n }) := Part.posts_same (s.modPort_link p _)
  have hevent := hset.trans ((s.modPort p fun r => { r with state := n }).posts_post
    (n := .portEvent p (.state (s.port p).state n) (s.modPort p fun r => { r with state := n }).line.state m) rfl)
  unfold Part.enterState
  dsimp only
  split
  · exact (Part.posts_same rfl).le (by decide)
  · split
    · exact hevent.trans (Part.posts_endTest _ _ _)
    · exact hevent.le (by decide)

theorem Part.posts_makeRecordAt (s : Part) (k : FaultKind) (src : FaultSource) (ls : LineState) (ds : List Int) :
    s.posts 1 (s.makeRecordAt k src ls ds) := by
  unfold Part.posts
  rw [Part.makeRecordAt_link]
  have hposted (b : Bool) (n : Notice) (hn : n.isRate = false) :
      (Link.post { s.link with logLost := b } n).notices.length ≤ s.link.notices.length + 1 ∧
        ∀ x : Notice, x.isRate = true → x ∈ (Link.post { s.link with logLost := b } n).notices → x ∈ s.link.notices :=
    ⟨Link.post_length { s.link with logLost := b } n,
      fun x hx h => Link.rate_of_post (l := { s.link with logLost := b }) hn hx h⟩
  exact hposted _ _ rfl

end Sys2Proof.Machine
end

section
/-! SUPPORT. The capacity rule (R136, R139, R140): its steps on a port's berth in the arrangement, the places that the shrink
and the growth come to, and what they do to the telephones, the outbound queue and the log. -/

namespace Sys2Proof.Machine

/-! ### Places -/

theorem demandOf_eq (v : Place) : demandOf v = Place.bytes v := by
  rcases v with _ | ⟨m, a⟩
  · rfl
  · cases m <;> cases a <;> rfl

theorem Place.bytes_le (v : Place) : Place.bytes v ≤ 2 := by
  unfold Place.bytes
  split <;> decide

theorem Place.bytes_ne_zero (v : Place) : Place.bytes v ≠ 0 ↔ v = some (.full, true) ∨ v = some (.half, true) := by
  rcases v with _ | ⟨m, a⟩
  · decide
  · cases m <;> cases a <;> decide

/-- A capacity that the demand is above is one of few (R136). -/
theorem capacity_lt_of_overdrawn {c : Nat} {a b : Place} (h : c < Place.bytes a + Place.bytes b + 1) : c < 5 := by
  have := Place.bytes_le a
  have := Place.bytes_le b
  omega

/-- The places of R139 leave no byte to grow by, where the demand was too high. -/
theorem shrunkPlaces_noFit {c : Nat} {a b : Place} (h : c < Place.bytes a + Place.bytes b + 1) :
    c < Place.bytes (shrunkPlaces c a b).1 + Place.bytes (shrunkPlaces c a b).2 + 2 := by
  have hc := capacity_lt_of_overdrawn h
  revert h
  rcases a with _ | ⟨_ | _, _ | _⟩ <;> rcases b with _ | ⟨_ | _, _ | _⟩
  all_goals
    interval_cases c <;> decide

theorem shrunkPlaces_same {c : Nat} {a b : Place} (h : ¬ c < Place.bytes a + Place.bytes b + 1) :
    shrunkPlaces c a b = (a, b) := by
  unfold shrunkPlaces
  simp [h]

theorem grownPlaces_same {c : Nat} {a b : Place} (h : c < Place.bytes a + Place.bytes b + 2) : grownPlaces c a b = (a, b) := by
  unfold grownPlaces
  simp [Nat.not_le.2 h]

/-! ### Berths -/

/-- A port's berth: its slot, its channel and its hold timer. -/
abbrev Berth := Slot × Option Channel × Option Nat

def Part.berth (s : Part) (p : PortId) : Berth := (s.slot p, s.chan p, s.hold p)

/-- The place a berth gives its port (R138). -/
def Berth.place : Berth → Place
  | (.empty, _, _) => none
  | (.live, c, _) => c.map fun c => (c.mode, c.active)
  | (.ended m a, _, _) => some (m, a)

theorem Part.view_eq (s : Part) (p : PortId) : s.view p = (s.berth p).place := by
  unfold Part.view Part.berth
  cases s.slot p <;> rfl

/-- A mode taken in a berth (R138 to R140). -/
def Berth.mode (m : Mode) : Berth → Berth
  | (.live, c, h) => (.live, c.map fun c => { c with mode := m }, h)
  | (.ended _ a, c, h) => (.ended m a, c, h)
  | b => b

/-- A berth that goes to HELD (R139). -/
def Berth.held : Berth → Berth
  | (.live, c, _) => (.live, c.map fun c => { c with active := false }, some 30000)
  | (.ended m _, c, h) => (.ended m false, c, h)
  | b => b

/-- A berth that comes back from HELD (R140). -/
def Berth.resumed : Berth → Berth
  | (.live, c, _) => (.live, c.map fun c => { c with mode := .half, active := true }, none)
  | (.ended _ _, c, h) => (.ended .half true, c, h)
  | b => b

theorem Berth.place_mode (m : Mode) (b : Berth) : (b.mode m).place = b.place.map fun v => (m, v.2) := by
  obtain ⟨x, c, h⟩ := b
  cases x with
  | live => cases c <;> rfl
  | empty => rfl
  | ended => rfl

theorem Berth.place_held (b : Berth) : b.held.place = b.place.map fun v => (v.1, false) := by
  obtain ⟨x, c, h⟩ := b
  cases x with
  | live => cases c <;> rfl
  | empty => rfl
  | ended => rfl

theorem Berth.place_resumed (b : Berth) : b.resumed.place = b.place.map fun _ => (.half, true) := by
  obtain ⟨x, c, h⟩ := b
  cases x with
  | live => cases c <;> rfl
  | empty => rfl
  | ended => rfl

/-- A channel less its mode and active flag. -/
def Channel.bare (c : Channel) : Channel := { c with mode := .full, active := false }

/-- From one berth to the next a live channel changes its mode and flag alone, and an ended or absent one nothing. -/
def Berth.regraded (b b' : Berth) : Prop :=
  (b'.1 = .live ↔ b.1 = .live) ∧ (b.1 = .live → b'.2.1.map Channel.bare = b.2.1.map Channel.bare) ∧
    (b.1 ≠ .live → b'.2.1 = b.2.1)

theorem Berth.regraded_refl (b : Berth) : b.regraded b := ⟨Iff.rfl, fun _ => rfl, fun _ => rfl⟩

theorem Berth.regraded.trans {a b c : Berth} (h : a.regraded b) (k : b.regraded c) : a.regraded c :=
  ⟨k.1.trans h.1, fun hl => (k.2.1 (h.1.2 hl)).trans (h.2.1 hl),
    fun hl => (k.2.2 fun hb => hl (h.1.1 hb)).trans (h.2.2 hl)⟩

theorem Berth.regraded_mode (m : Mode) (b : Berth) : b.regraded (b.mode m) := by
  obtain ⟨x, c, h⟩ := b
  cases x with
  | live => exact ⟨Iff.rfl, fun _ => by cases c <;> rfl, fun hl => absurd rfl hl⟩
  | empty => exact Berth.regraded_refl _
  | ended => exact ⟨⟨(fun h => nomatch h), (fun h => nomatch h)⟩, (fun h => nomatch h), fun _ => rfl⟩

theorem Berth.regraded_held (b : Berth) : b.regraded b.held := by
  obtain ⟨x, c, h⟩ := b
  cases x with
  | live => exact ⟨Iff.rfl, fun _ => by cases c <;> rfl, fun hl => absurd rfl hl⟩
  | empty => exact Berth.regraded_refl _
  | ended => exact ⟨⟨(fun h => nomatch h), (fun h => nomatch h)⟩, (fun h => nomatch h), fun _ => rfl⟩

theorem Berth.regraded_resumed (b : Berth) : b.regraded b.resumed := by
  obtain ⟨x, c, h⟩ := b
  cases x with
  | live => exact ⟨Iff.rfl, fun _ => by cases c <;> rfl, fun hl => absurd rfl hl⟩
  | empty => exact Berth.regraded_refl _
  | ended => exact ⟨⟨(fun h => nomatch h), (fun h => nomatch h)⟩, (fun h => nomatch h), fun _ => rfl⟩

/-- The channel of a regraded berth, told by the place it comes to. -/
theorem Berth.regraded.chan {b b' : Berth} (h : b.regraded b') :
    b'.2.1 = if b'.1 = .live then b.2.1.bind fun c => b'.place.map fun n => { c with mode := n.1, active := n.2 }
      else b.2.1 := by
  obtain ⟨x, c, t⟩ := b
  obtain ⟨x', c', t'⟩ := b'
  obtain ⟨hlive, hbare, hsame⟩ := h
  by_cases hl : x' = .live
  · subst hl
    have hc := hbare (hlive.1 rfl)
    rw [if_pos rfl]
    cases c with
    | none =>
      cases c' with
      | none => rfl
      | some _ => cases hc
    | some c =>
      cases c' with
      | none => cases hc
      | some c' =>
        have hcc := Option.some.inj hc
        obtain ⟨m, a, l, r⟩ := c
        obtain ⟨m', a', l', r'⟩ := c'
        simp only [Channel.bare, Channel.mk.injEq, true_and] at hcc
        obtain ⟨rfl, rfl⟩ := hcc
        rfl
  · rw [if_neg hl]
    exact hsame fun hx => hl (hlive.2 hx)

/-! ### The steps -/

section
variable (s : Part) (p : PortId)

theorem Part.berth_of_wiring {s x : Part} (h : x.wiring = s.wiring) (p : PortId) : x.berth p = s.berth p := by
  rw [Part.berth, Part.slot_of_wiring h, Part.chan_of_wiring h, Part.hold_of_wiring h]
  rfl

theorem Part.demand_eq : s.demand = Place.bytes (s.view .a) + Place.bytes (s.view .b) := by
  rw [Part.demand, Part.alloc, Part.alloc, demandOf_eq, demandOf_eq]

theorem Part.capC_of_line {s x : Part} (h : x.line = s.line) : x.capC = s.capC := by
  rw [Part.capC, Part.capU, Part.capP, h]
  rfl

theorem Part.setMode_berth (m : Mode) : (s.setMode p m).berth p = (s.berth p).mode m := by
  unfold Part.setMode Part.berth
  cases h : s.slot p with
  | live => cases p <;> simp [Part.setChan, Part.slot, Part.chan, Part.hold, Berth.mode] at h ⊢ <;> exact h
  | ended _ a => cases p <;> simp [Part.setSlot, Part.slot, Part.chan, Part.hold, Berth.mode] at h ⊢
  | empty => simp [h, Berth.mode]

theorem Part.setMode_berth_other (m : Mode) : (s.setMode p m).berth (other p) = s.berth (other p) := by
  unfold Part.setMode
  cases s.slot p <;> cases p <;> rfl

theorem Part.setMode_rest (m : Mode) :
    (s.setMode p m).backdrop = s.backdrop ∧ (∀ y, (s.setMode p m).port y = s.port y) ∧ (s.setMode p m).mail = s.mail ∧
      s.posts 0 (s.setMode p m) := by
  unfold Part.setMode
  cases s.slot p <;> cases p <;> exact ⟨rfl, fun y => by cases y <;> rfl, rfl, Part.posts_same rfl⟩

/-- The port itself, as it goes to HELD. -/
theorem Part.holdPort_berth : (s.holdPort p).berth p = (s.berth p).held := by
  have hentered (x : Part) : ((x.enterState p .held none).signal p .capacityHold).wiring = x.wiring := by simp
  unfold Part.holdPort
  cases h : s.slot p with
  | live =>
    dsimp only
    have hw := hentered (s.setChan p ((s.chan p).map fun c => { c with active := false }))
    have hslot := Part.slot_of_wiring hw p
    have hchan := Part.chan_of_wiring hw p
    unfold Part.berth
    rw [h]
    cases p <;> simp only [Part.slot, Part.chan, Part.hold, Part.setHold, Part.setChan, Berth.held] at h hslot hchan ⊢ <;>
      rw [hslot, hchan, h]
  | ended m a =>
    unfold Part.berth
    rw [h]
    cases p <;> rfl
  | empty =>
    unfold Part.berth
    rw [h]
    rfl

theorem Part.holdPort_berth_other : (s.holdPort p).berth (other p) = s.berth (other p) := by
  have hentered (x : Part) : ((x.enterState p .held none).signal p .capacityHold).wiring = x.wiring := by simp
  unfold Part.holdPort
  cases s.slot p with
  | live =>
    dsimp only
    have hw := Part.berth_of_wiring (hentered (s.setChan p ((s.chan p).map fun c => { c with active := false }))) (other p)
    have hset (x : Part) (t : Option Nat) : (x.setHold p t).berth (other p) = x.berth (other p) := by cases p <;> rfl
    rw [hset, hw]
    cases p <;> rfl
  | ended m a => cases p <;> rfl
  | empty => rfl

theorem Part.holdPort_port :
    (s.holdPort p).port p = (if s.slot p = .live then { s.port p with state := .held } else s.port p) ∧
      (s.holdPort p).port (other p) = s.port (other p) := by
  unfold Part.holdPort
  cases s.slot p with
  | live => simp
  | ended m a => simp
  | empty => simp

theorem Part.holdPort_backdrop : (s.holdPort p).backdrop = s.backdrop := by
  unfold Part.holdPort
  cases s.slot p <;> simp

theorem Part.holdPort_posts : s.posts (if s.slot p = .live then 2 else 0) (s.holdPort p) := by
  unfold Part.holdPort
  cases h : s.slot p with
  | live =>
    let x := s.setChan p ((s.chan p).map fun c => { c with active := false })
    have hx : s.posts 0 x := Part.posts_same (by cases p <;> rfl)
    have hy : s.posts 2 ((x.enterState p .held none).signal p .capacityHold) :=
      (hx.trans (x.posts_enterState p .held none)).trans (Part.posts_same (Part.signal_link p _ _))
    exact hy.trans (Part.posts_same (by cases p <;> rfl))
  | ended m a => exact Part.posts_same (by cases p <;> rfl)
  | empty => exact Part.posts_same rfl

theorem Part.holdPort_mail :
    (s.holdPort p).mail = if s.slot p = .live then offer (.signal p .capacityHold) s.mail else s.mail := by
  unfold Part.holdPort
  cases s.slot p <;> simp

theorem Part.resumePort_berth : (s.resumePort p).berth p = (s.berth p).resumed := by
  have hentered (x : Part) (m : Option Mode) : (x.enterState p .connected m).wiring = x.wiring := by simp
  unfold Part.resumePort
  cases h : s.slot p with
  | live =>
    dsimp only
    have hw := hentered (s.setChan p ((s.chan p).map fun c => { c with mode := .half, active := true })) (some .half)
    have hslot := Part.slot_of_wiring hw p
    have hchan := Part.chan_of_wiring hw p
    rw [Part.berth_of_wiring (Part.signal_wiring _ p _) p]
    unfold Part.berth
    rw [h]
    cases p <;> simp only [Part.slot, Part.chan, Part.hold, Part.setHold, Part.setChan, Berth.resumed] at h hslot hchan ⊢ <;>
      rw [hslot, hchan, h]
  | ended m a =>
    unfold Part.berth
    rw [h]
    cases p <;> rfl
  | empty =>
    unfold Part.berth
    rw [h]
    rfl

theorem Part.resumePort_berth_other : (s.resumePort p).berth (other p) = s.berth (other p) := by
  unfold Part.resumePort
  cases s.slot p with
  | live =>
    dsimp only
    have hset (x : Part) (t : Option Nat) : (x.setHold p t).berth (other p) = x.berth (other p) := by cases p <;> rfl
    rw [Part.berth_of_wiring (Part.signal_wiring _ p _), hset, Part.berth_of_wiring (Part.enterState_wiring _ p _ _)]
    cases p <;> rfl
  | ended m a => cases p <;> rfl
  | empty => rfl

theorem Part.resumePort_port :
    (s.resumePort p).port p = (if s.slot p = .live then { s.port p with state := .connected } else s.port p) ∧
      (s.resumePort p).port (other p) = s.port (other p) := by
  unfold Part.resumePort
  cases s.slot p with
  | live => simp
  | ended m a => simp
  | empty => simp

theorem Part.resumePort_backdrop : (s.resumePort p).backdrop = s.backdrop := by
  unfold Part.resumePort
  cases s.slot p <;> simp

theorem Part.resumePort_posts : s.posts (if s.slot p = .live then 2 else 0) (s.resumePort p) := by
  unfold Part.resumePort
  cases h : s.slot p with
  | live =>
    let x := s.setChan p ((s.chan p).map fun c => { c with mode := .half, active := true })
    have hx : s.posts 0 x := Part.posts_same (by cases p <;> rfl)
    have hy : s.posts 2 ((x.enterState p .connected (some .half)).setHold p none) :=
      (hx.trans (x.posts_enterState p .connected (some .half))).trans (Part.posts_same (by cases p <;> rfl))
    exact hy.trans (Part.posts_same (Part.signal_link p _ _))
  | ended m a => exact Part.posts_same (by cases p <;> rfl)
  | empty => exact Part.posts_same rfl

theorem Part.resumePort_mail :
    (s.resumePort p).mail = if s.slot p = .live then offer (.signal p .capacityResume) s.mail else s.mail := by
  unfold Part.resumePort
  cases s.slot p <;> simp

end

end Sys2Proof.Machine
end

section
/-! SUPPORT. The shrink and the growth as their tables have them (R139, R140). -/

namespace Sys2Proof.Machine

/-! ### The order of the steps, on places -/

/-- The four steps of the shrink, and which of them takes a place out of the voice bytes (R139). -/
theorem shrunkPlaces_steps {c : Nat} {a b b1 a1 b2 a2 : Place}
    (hb1 : b1 = if c < Place.bytes a + Place.bytes b + 1 ∧ b = some (.full, true) then b.map fun v => (.half, v.2) else b)
    (ha1 : a1 = if c < Place.bytes a + Place.bytes b1 + 1 ∧ a = some (.full, true) then a.map fun v => (.half, v.2) else a)
    (hb2 : b2 = if c < Place.bytes a1 + Place.bytes b1 + 1 ∧ Place.bytes b1 ≠ 0 then b1.map fun v => (v.1, false) else b1)
    (ha2 : a2 = if c < Place.bytes a1 + Place.bytes b2 + 1 ∧ Place.bytes a1 ≠ 0 then a1.map fun v => (v.1, false) else a1) :
    shrunkPlaces c a b = (a2, b2) ∧
      (Place.bytes b ≠ 0 ∧ Place.bytes b2 = 0 ↔ c < Place.bytes a1 + Place.bytes b1 + 1 ∧ Place.bytes b1 ≠ 0) ∧
      (Place.bytes a ≠ 0 ∧ Place.bytes a2 = 0 ↔ c < Place.bytes a1 + Place.bytes b2 + 1 ∧ Place.bytes a1 ≠ 0) := by
  by_cases hc : c < Place.bytes a + Place.bytes b + 1
  · have hfew := capacity_lt_of_overdrawn hc
    clear hc
    subst ha2 hb2 ha1 hb1
    rcases a with _ | ⟨_ | _, _ | _⟩ <;> rcases b with _ | ⟨_ | _, _ | _⟩
    all_goals
      interval_cases c <;> decide
  · rw [if_neg fun h => hc h.1] at hb1
    subst hb1
    rw [if_neg fun h => hc h.1] at ha1
    subst ha1
    rw [if_neg fun h => hc h.1] at hb2
    subst hb2
    rw [if_neg fun h => hc h.1] at ha2
    subst ha2
    exact ⟨shrunkPlaces_same hc, ⟨fun h => absurd h.2 h.1, fun h => absurd h.1 hc⟩,
      ⟨fun h => absurd h.2 h.1, fun h => absurd h.1 hc⟩⟩

/-- The four steps of the growth, and which of them brings a place back among the voice bytes (R140). -/
theorem grownPlaces_steps {c : Nat} {a b a1 b1 a2 b2 : Place}
    (ha1 : a1 = if a.any (fun v => !v.2) = true ∧ Place.bytes a + Place.bytes b + 2 ≤ c then a.map fun _ => (.half, true) else a)
    (hb1 : b1 = if b.any (fun v => !v.2) = true ∧ Place.bytes a1 + Place.bytes b + 2 ≤ c then b.map fun _ => (.half, true) else b)
    (ha2 : a2 = if a1 = some (.half, true) ∧ Place.bytes a1 + Place.bytes b1 + 2 ≤ c then a1.map fun v => (.full, v.2) else a1)
    (hb2 : b2 = if b1 = some (.half, true) ∧ Place.bytes a2 + Place.bytes b1 + 2 ≤ c then b1.map fun v => (.full, v.2) else b1) :
    grownPlaces c a b = (a2, b2) ∧
      (Place.bytes a = 0 ∧ Place.bytes a2 ≠ 0 ↔ a.any (fun v => !v.2) = true ∧ Place.bytes a + Place.bytes b + 2 ≤ c) ∧
      (Place.bytes b = 0 ∧ Place.bytes b2 ≠ 0 ↔ b.any (fun v => !v.2) = true ∧ Place.bytes a1 + Place.bytes b + 2 ≤ c) := by
  subst hb2 ha2 hb1 ha1
  by_cases hfew : c < 6
  · rcases a with _ | ⟨_ | _, _ | _⟩ <;> rcases b with _ | ⟨_ | _, _ | _⟩
    all_goals
      interval_cases c <;> decide
  · obtain ⟨k, rfl⟩ : ∃ k, c = k + 6 := ⟨c - 6, by omega⟩
    clear hfew
    rcases a with _ | ⟨_ | _, _ | _⟩ <;> rcases b with _ | ⟨_ | _, _ | _⟩
    all_goals
      simp [grownPlaces, Place.bytes]

/-! ### The steps, on the part -/

theorem Berth.hold_mode (m : Mode) (b : Berth) : (b.mode m).2.2 = b.2.2 := by
  obtain ⟨x, c, h⟩ := b
  cases x <;> rfl

/-- What every step of the rule keeps: the channels but for mode and flag, and what stands behind the arrangement. -/
def Part.regraded (s t : Part) : Prop := t.backdrop = s.backdrop ∧ ∀ y, (s.berth y).regraded (t.berth y)

theorem Part.regraded.ground {s t : Part} (h : s.regraded t) : t.ground = s.ground := congrArg Prod.fst h.1
theorem Part.regraded.line {s t : Part} (h : s.regraded t) : t.line = s.line := Part.line_of_ground h.ground

theorem Part.regraded_refl (s : Part) : s.regraded s := ⟨rfl, fun _ => Berth.regraded_refl _⟩

theorem Part.regraded.trans {s t u : Part} (h : s.regraded t) (k : t.regraded u) : s.regraded u :=
  ⟨k.1.trans h.1, fun y => (h.2 y).trans (k.2 y)⟩

/-- The telephones, the hold timers and the outbound queue are as they were, and nothing is posted. -/
def Part.quietly (s t : Part) : Prop :=
  (∀ y, t.hold y = s.hold y ∧ t.port y = s.port y) ∧ t.mail = s.mail ∧ s.posts 0 t

/-- The notices of a port that is told: its PORT_EVENT, and the DIAG_DONE of a test that ends. -/
def noticesOf (b : Bool) : Nat := if b then 2 else 0

section
variable (s : Part) (x : PortId) (b : Bool)

theorem Part.modeIf (m : Mode) :
    let t := if b then s.setMode x m else s
    t.view x = (if b then (s.view x).map fun v => (m, v.2) else s.view x) ∧ t.view (other x) = s.view (other x) ∧
      s.regraded t ∧ s.quietly t := by
  intro t
  obtain ⟨hback, hports, hmail, hposts⟩ := s.setMode_rest x m
  have hx := s.setMode_berth x m
  have hy := s.setMode_berth_other x m
  cases b with
  | false => exact ⟨rfl, rfl, s.regraded_refl, fun _ => ⟨rfl, rfl⟩, rfl, Part.posts_same rfl⟩
  | true =>
    refine ⟨?_, ?_, ⟨hback, fun y => ?_⟩, fun y => ⟨?_, hports y⟩, hmail, hposts⟩
    · exact ((s.setMode x m).view_eq x).trans (by rw [hx, Berth.place_mode, Part.view_eq]; rfl)
    · exact ((s.setMode x m).view_eq (other x)).trans (by rw [hy, Part.view_eq])
    · rcases eq_or_other x y with rfl | rfl
      · exact (s.berth y).regraded_mode m |> (congrArg ((s.berth y).regraded ·) hx).mpr
      · exact (congrArg ((s.berth _).regraded ·) hy).mpr (Berth.regraded_refl _)
    · rcases eq_or_other x y with rfl | rfl
      · exact (congrArg (fun z : Berth => z.2.2) hx).trans (Berth.hold_mode m _)
      · exact congrArg (fun z : Berth => z.2.2) hy

variable {s x} in
/-- A step that takes a live channel's port to another state and tells it, and an ended channel's slots alone. -/
theorem Part.toldIf {f : Part → Part} {g : Berth → Berth} {h : Place → Place} {st : PortState} {timer : Option Nat} {v : Signal}
    (hback : (f s).backdrop = s.backdrop) (hx : (f s).berth x = g (s.berth x))
    (hy : (f s).berth (other x) = s.berth (other x)) (hplace : ∀ z : Berth, (g z).place = h z.place)
    (hgrade : ∀ z : Berth, z.regraded (g z)) (hlive : ∀ c y, (g (.live, c, y)).2.2 = timer)
    (hended : ∀ z : Berth, z.1 ≠ .live → (g z).2.2 = z.2.2)
    (hport : (f s).port x = (if s.slot x = .live then { s.port x with state := st } else s.port x) ∧
      (f s).port (other x) = s.port (other x))
    (hmail : (f s).mail = if s.slot x = .live then offer (.signal x v) s.mail else s.mail)
    (hposts : s.posts (if s.slot x = .live then 2 else 0) (f s)) :
    let t := if b then f s else s
    t.view x = (if b then h (s.view x) else s.view x) ∧ t.view (other x) = s.view (other x) ∧
      s.regraded t ∧ (t.hold (other x) = s.hold (other x) ∧ t.port (other x) = s.port (other x)) ∧
      (b = true → s.slot x = .live → (t.port x).state = st ∧ t.hold x = timer ∧ t.mail = offer (.signal x v) s.mail) ∧
      (¬ (b = true ∧ s.slot x = .live) → t.port x = s.port x ∧ t.hold x = s.hold x ∧ t.mail = s.mail) ∧
      s.posts (noticesOf (b && decide (s.slot x = .live))) t := by
  intro t
  obtain ⟨hown, hother⟩ := hport
  cases b with
  | false => exact ⟨rfl, rfl, s.regraded_refl, ⟨rfl, rfl⟩, (fun h => nomatch h), fun _ => ⟨rfl, rfl, rfl⟩,
      Part.posts_same rfl⟩
  | true =>
    refine ⟨?_, ?_, ⟨hback, fun y => ?_⟩, ⟨congrArg (fun z : Berth => z.2.2) hy, hother⟩,
      fun _ hl => ⟨?_, ?_, ?_⟩, fun hl => ⟨?_, ?_, ?_⟩, ?_⟩
    · exact ((f s).view_eq x).trans (by rw [hx, hplace, Part.view_eq]; rfl)
    · exact ((f s).view_eq (other x)).trans (by rw [hy, Part.view_eq])
    · rcases eq_or_other x y with rfl | rfl
      · exact (congrArg ((s.berth y).regraded ·) hx).mpr (hgrade _)
      · exact (congrArg ((s.berth _).regraded ·) hy).mpr (Berth.regraded_refl _)
    · exact congrArg Port.state (hown.trans (if_pos hl))
    · refine (congrArg (fun z : Berth => z.2.2) hx).trans ?_
      unfold Part.berth
      rw [hl]
      exact hlive _ _
    · exact hmail.trans (if_pos hl)
    · exact hown.trans (if_neg fun h => hl ⟨rfl, h⟩)
    · exact (congrArg (fun z : Berth => z.2.2) hx).trans (hended (s.berth x) fun h => hl ⟨rfl, h⟩)
    · exact hmail.trans (if_neg fun h => hl ⟨rfl, h⟩)
    · rw [Bool.true_and, noticesOf]
      show s.posts _ (f s)
      simpa only [decide_eq_true_iff] using hposts

/-- The port that a step takes to HELD (R139). -/
theorem Part.heldIf :
    let t := if b then s.holdPort x else s
    t.view x = (if b then (s.view x).map fun v => (v.1, false) else s.view x) ∧ t.view (other x) = s.view (other x) ∧
      s.regraded t ∧ (t.hold (other x) = s.hold (other x) ∧ t.port (other x) = s.port (other x)) ∧
      (b = true → s.slot x = .live → (t.port x).state = .held ∧ t.hold x = some 30000 ∧
        t.mail = offer (.signal x .capacityHold) s.mail) ∧
      (¬ (b = true ∧ s.slot x = .live) → t.port x = s.port x ∧ t.hold x = s.hold x ∧ t.mail = s.mail) ∧
      s.posts (noticesOf (b && decide (s.slot x = .live))) t := by
  refine Part.toldIf b (g := Berth.held) (h := fun w => w.map fun v => (v.1, false)) (s.holdPort_backdrop x)
    (s.holdPort_berth x) (s.holdPort_berth_other x) Berth.place_held Berth.regraded_held (fun _ _ => rfl) (fun z hz => ?_)
    (s.holdPort_port x) (s.holdPort_mail x) (s.holdPort_posts x)
  obtain ⟨w, c, t⟩ := z
  cases w with
  | live => exact absurd rfl hz
  | empty => rfl
  | ended => rfl

/-- The port that a step brings back from HELD (R140). -/
theorem Part.resumedIf :
    let t := if b then s.resumePort x else s
    t.view x = (if b then (s.view x).map fun _ => (.half, true) else s.view x) ∧ t.view (other x) = s.view (other x) ∧
      s.regraded t ∧ (t.hold (other x) = s.hold (other x) ∧ t.port (other x) = s.port (other x)) ∧
      (b = true → s.slot x = .live → (t.port x).state = .connected ∧ t.hold x = none ∧
        t.mail = offer (.signal x .capacityResume) s.mail) ∧
      (¬ (b = true ∧ s.slot x = .live) → t.port x = s.port x ∧ t.hold x = s.hold x ∧ t.mail = s.mail) ∧
      s.posts (noticesOf (b && decide (s.slot x = .live))) t := by
  refine Part.toldIf b (g := Berth.resumed) (h := fun w => w.map fun _ => (.half, true)) (s.resumePort_backdrop x)
    (s.resumePort_berth x) (s.resumePort_berth_other x) Berth.place_resumed Berth.regraded_resumed (fun _ _ => rfl)
    (fun z hz => ?_) (s.resumePort_port x) (s.resumePort_mail x) (s.resumePort_posts x)
  obtain ⟨w, c, t⟩ := z
  cases w with
  | live => exact absurd rfl hz
  | empty => rfl
  | ended => rfl

end

/-! ### What the model asks at each step, on places -/

theorem other_a : other PortId.a = .b := rfl
theorem other_b : other PortId.b = .a := rfl

section
variable (s : Part) (x : PortId)

theorem Part.overdrawn_iff : s.overdrawn = true ↔ s.capC < Place.bytes (s.view .a) + Place.bytes (s.view .b) + 1 := by
  rw [Part.overdrawn, Part.demand_eq, decide_eq_true_iff]

theorem Part.byteFits_iff : s.byteFits = true ↔ Place.bytes (s.view .a) + Place.bytes (s.view .b) + 2 ≤ s.capC := by
  rw [Part.byteFits, Part.demand_eq, decide_eq_true_iff]

theorem Part.isFull_iff : s.isFull x = true ↔ s.view x = some (.full, true) := beq_iff_eq

theorem Part.isHalf_iff : s.isHalf x = true ↔ s.view x = some (.half, true) := beq_iff_eq

theorem Part.isActive_iff : s.isActive x = true ↔ Place.bytes (s.view x) ≠ 0 := by
  rw [Part.isActive, Bool.or_eq_true, Part.isFull_iff, Part.isHalf_iff, Place.bytes_ne_zero]

theorem Part.isInactive_eq : s.isInactive x = (s.view x).any fun v => !v.2 := by
  unfold Part.isInactive
  rcases s.view x with _ | ⟨m, a⟩
  · rfl
  · cases a <;> rfl

/-- A step of the shrink, where it applies (R139). -/
theorem Part.shrinkStep_eq (applies : Bool) (f : Part → Part) :
    s.shrinkStep applies f = if s.overdrawn && applies then f s else s := rfl

theorem Part.growStep_eq (applies : Bool) (f : Part → Part) :
    s.growStep applies f = if applies && s.byteFits then f s else s := rfl

end

/-- The port goes out of the voice bytes, its channel in the arrangement (R139). -/
def Part.goes (s t : Part) (y : PortId) : Bool :=
  decide (Place.bytes (s.view y) ≠ 0) && decide (Place.bytes (t.view y) = 0) && decide (s.slot y = .live)

theorem Part.goes_iff {s t : Part} {y : PortId} :
    s.goes t y = true ↔ (Place.bytes (s.view y) ≠ 0 ∧ Place.bytes (t.view y) = 0) ∧ s.slot y = .live := by
  simp [Part.goes, Bool.and_eq_true]



/-- The shrink (R139): the places of its table, port B's SIGNAL ahead of port A's. -/
theorem Part.shrink_spec (s : Part) :
    let t := s.shrink
    (t.view .a, t.view .b) = ((shrunkPlaces s.capC (s.view .a) (s.view .b)).1, (shrunkPlaces s.capC (s.view .a) (s.view .b)).2) ∧
      s.regraded t ∧
      (∀ y, if s.goes t y then (t.port y).state = .held ∧ t.hold y = some 30000
        else (t.port y).state = (s.port y).state ∧ t.hold y = s.hold y) ∧
      t.mail = offerIf (s.goes t .a) (.signal .a .capacityHold) (offerIf (s.goes t .b) (.signal .b .capacityHold) s.mail) ∧
      s.posts (noticesOf (s.goes t .b) + noticesOf (s.goes t .a)) t := by
  intro t
  obtain ⟨v1b, v1a, r1, q1⟩ := s.modeIf .b (s.overdrawn && s.isFull .b) .half
  generalize hs1 : (if s.overdrawn && s.isFull .b then s.setMode .b .half else s) = s1 at v1b v1a r1 q1
  obtain ⟨v2a, v2b, r2, q2⟩ := s1.modeIf .a (s1.overdrawn && s1.isFull .a) .half
  generalize hs2 : (if s1.overdrawn && s1.isFull .a then s1.setMode .a .half else s1) = s2 at v2b v2a r2 q2
  obtain ⟨v3b, v3a, r3, o3, g3, n3, p3⟩ := s2.heldIf .b (s2.overdrawn && s2.isActive .b)
  generalize hs3 : (if s2.overdrawn && s2.isActive .b then s2.holdPort .b else s2) = s3 at v3b v3a r3 o3 g3 n3 p3
  obtain ⟨v4a, v4b, r4, o4, g4, n4, p4⟩ := s3.heldIf .a (s3.overdrawn && s3.isActive .a)
  generalize hs4 : (if s3.overdrawn && s3.isActive .a then s3.holdPort .a else s3) = s4 at v4b v4a r4 o4 g4 n4 p4
  have ht : t = s4 := by
    show s.shrink = s4
    rw [← hs4, ← hs3, ← hs2, ← hs1]
    rfl
  rw [ht]
  rw [other_b] at v1a v3a o3
  rw [other_a] at v2b v4b o4
  have c1 : s1.capC = s.capC := Part.capC_of_line r1.line
  have c2 : s2.capC = s.capC := (Part.capC_of_line r2.line).trans c1
  have c3 : s3.capC = s.capC := (Part.capC_of_line r3.line).trans c2
  have hb : (s2.overdrawn && s2.isActive .b) = true ↔
      s.capC < Place.bytes (s2.view .a) + Place.bytes (s1.view .b) + 1 ∧ Place.bytes (s1.view .b) ≠ 0 := by
    rw [Bool.and_eq_true, Part.overdrawn_iff, Part.isActive_iff, c2, v2b]
  have ha : (s3.overdrawn && s3.isActive .a) = true ↔
      s.capC < Place.bytes (s2.view .a) + Place.bytes (s3.view .b) + 1 ∧ Place.bytes (s2.view .a) ≠ 0 := by
    rw [Bool.and_eq_true, Part.overdrawn_iff, Part.isActive_iff, c3, v3a]
  obtain ⟨hplaces, hgoesB, hgoesA⟩ := shrunkPlaces_steps (c := s.capC) (a := s.view .a) (b := s.view .b) (b1 := s1.view .b)
    (a1 := s2.view .a) (b2 := s3.view .b) (a2 := s4.view .a)
    (by rw [v1b]; exact if_congr (by rw [Bool.and_eq_true, Part.overdrawn_iff, Part.isFull_iff]) rfl rfl)
    (by
      rw [v2a, v1a]
      refine if_congr ?_ rfl rfl
      rw [Bool.and_eq_true, Part.overdrawn_iff, Part.isFull_iff, c1, v1a])
    (by rw [v3b, v2b]; exact if_congr hb rfl rfl)
    (by rw [v4a, v3a]; exact if_congr ha rfl rfl)
  have hslot (y : PortId) : s2.slot y = .live ↔ s.slot y = .live := ((r1.trans r2).2 y).1
  have hslot3 (y : PortId) : s3.slot y = .live ↔ s.slot y = .live := (((r1.trans r2).trans r3).2 y).1
  have goesB : s.goes s4 .b = true ↔ (s2.overdrawn && s2.isActive .b) = true ∧ s2.slot .b = .live := by
    rw [Part.goes_iff, v4b, hgoesB, hb, hslot]
  have goesA : s.goes s4 .a = true ↔ (s3.overdrawn && s3.isActive .a) = true ∧ s3.slot .a = .live := by
    rw [Part.goes_iff, hgoesA, ha, hslot3]
  refine ⟨by rw [hplaces, v4b], ((r1.trans r2).trans r3).trans r4, fun y => ?_, ?_, ?_⟩
  · have hsame (y : PortId) : (s2.port y).state = (s.port y).state ∧ s2.hold y = s.hold y :=
      ⟨congrArg Port.state ((q2.1 y).2.trans (q1.1 y).2), (q2.1 y).1.trans (q1.1 y).1⟩
    cases y with
    | a =>
      cases hg : s.goes s4 .a with
      | true =>
        obtain ⟨hstep, hl⟩ := goesA.1 hg
        exact ⟨(g4 hstep hl).1, (g4 hstep hl).2.1⟩
      | false =>
        obtain ⟨hport, hhold, -⟩ := n4 fun h => Bool.false_ne_true (hg.symm.trans (goesA.2 h))
        exact ⟨(congrArg Port.state (hport.trans o3.2)).trans (hsame .a).1, (hhold.trans o3.1).trans (hsame .a).2⟩
    | b =>
      cases hg : s.goes s4 .b with
      | true =>
        obtain ⟨hstep, hl⟩ := goesB.1 hg
        exact ⟨(congrArg Port.state o4.2).trans (g3 hstep hl).1, o4.1.trans (g3 hstep hl).2.1⟩
      | false =>
        obtain ⟨hport, hhold, -⟩ := n3 fun h => Bool.false_ne_true (hg.symm.trans (goesB.2 h))
        exact ⟨(congrArg Port.state (o4.2.trans hport)).trans (hsame .b).1, (o4.1.trans hhold).trans (hsame .b).2⟩
  · have hmail3 : s3.mail = offerIf (s.goes s4 .b) (.signal .b .capacityHold) s.mail := by
      cases hg : s.goes s4 .b with
      | true =>
        obtain ⟨hstep, hl⟩ := goesB.1 hg
        rw [(g3 hstep hl).2.2, q2.2.1, q1.2.1]
        rfl
      | false =>
        rw [(n3 fun h => Bool.false_ne_true (hg.symm.trans (goesB.2 h))).2.2, q2.2.1, q1.2.1]
        rfl
    cases hg : s.goes s4 .a with
    | true =>
      obtain ⟨hstep, hl⟩ := goesA.1 hg
      rw [(g4 hstep hl).2.2, hmail3]
      rfl
    | false =>
      rw [(n4 fun h => Bool.false_ne_true (hg.symm.trans (goesA.2 h))).2.2, hmail3]
      rfl
  · rw [show s.goes s4 .b = (s2.overdrawn && s2.isActive .b && decide (s2.slot .b = .live)) from
        Bool.eq_iff_iff.2 (by rw [goesB, Bool.and_eq_true _ (decide _), decide_eq_true_iff]),
      show s.goes s4 .a = (s3.overdrawn && s3.isActive .a && decide (s3.slot .a = .live)) from
        Bool.eq_iff_iff.2 (by rw [goesA, Bool.and_eq_true _ (decide _), decide_eq_true_iff])]
    exact (((q1.2.2.trans q2.2.2).trans p3).trans p4).le (by omega)

/-- The port comes back among the voice bytes, its channel in the arrangement (R140). -/
def Part.comes (s t : Part) (y : PortId) : Bool :=
  decide (Place.bytes (s.view y) = 0) && decide (Place.bytes (t.view y) ≠ 0) && decide (s.slot y = .live)

theorem Part.comes_iff {s t : Part} {y : PortId} :
    s.comes t y = true ↔ (Place.bytes (s.view y) = 0 ∧ Place.bytes (t.view y) ≠ 0) ∧ s.slot y = .live := by
  simp [Part.comes, Bool.and_eq_true]

/-- The growth (R140): the places of its table, port A's SIGNAL ahead of port B's. -/
theorem Part.growth_spec (s : Part) :
    let t := s.growth
    (t.view .a, t.view .b) = ((grownPlaces s.capC (s.view .a) (s.view .b)).1, (grownPlaces s.capC (s.view .a) (s.view .b)).2) ∧
      s.regraded t ∧
      (∀ y, if s.comes t y then (t.port y).state = .connected ∧ t.hold y = none
        else (t.port y).state = (s.port y).state ∧ t.hold y = s.hold y) ∧
      t.mail = offerIf (s.comes t .b) (.signal .b .capacityResume) (offerIf (s.comes t .a) (.signal .a .capacityResume) s.mail) ∧
      s.posts (noticesOf (s.comes t .a) + noticesOf (s.comes t .b)) t := by
  intro t
  obtain ⟨v1a, v1b, r1, o1, g1, n1, p1⟩ := s.resumedIf .a (s.isInactive .a && s.byteFits)
  generalize hs1 : (if s.isInactive .a && s.byteFits then s.resumePort .a else s) = s1 at v1b v1a r1 o1 g1 n1 p1
  obtain ⟨v2b, v2a, r2, o2, g2, n2, p2⟩ := s1.resumedIf .b (s1.isInactive .b && s1.byteFits)
  generalize hs2 : (if s1.isInactive .b && s1.byteFits then s1.resumePort .b else s1) = s2 at v2b v2a r2 o2 g2 n2 p2
  obtain ⟨v3a, v3b, r3, q3⟩ := s2.modeIf .a (s2.isHalf .a && s2.byteFits) .full
  generalize hs3 : (if s2.isHalf .a && s2.byteFits then s2.setMode .a .full else s2) = s3 at v3b v3a r3 q3
  obtain ⟨v4b, v4a, r4, q4⟩ := s3.modeIf .b (s3.isHalf .b && s3.byteFits) .full
  generalize hs4 : (if s3.isHalf .b && s3.byteFits then s3.setMode .b .full else s3) = s4 at v4b v4a r4 q4
  have ht : t = s4 := by
    show s.growth = s4
    rw [← hs4, ← hs3, ← hs2, ← hs1]
    rfl
  rw [ht]
  rw [other_a] at v1b o1 v3b
  rw [other_b] at v2a o2 v4a
  have c1 : s1.capC = s.capC := Part.capC_of_line r1.line
  have c2 : s2.capC = s.capC := (Part.capC_of_line r2.line).trans c1
  have c3 : s3.capC = s.capC := (Part.capC_of_line r3.line).trans c2
  have ha : (s.isInactive .a && s.byteFits) = true ↔ (s.view .a).any (fun v => !v.2) = true ∧
      Place.bytes (s.view .a) + Place.bytes (s.view .b) + 2 ≤ s.capC := by
    rw [Bool.and_eq_true, Part.isInactive_eq, Part.byteFits_iff]
  have hb : (s1.isInactive .b && s1.byteFits) = true ↔ (s.view .b).any (fun v => !v.2) = true ∧
      Place.bytes (s1.view .a) + Place.bytes (s.view .b) + 2 ≤ s.capC := by
    rw [Bool.and_eq_true, Part.isInactive_eq, Part.byteFits_iff, c1, v1b]
  obtain ⟨hplaces, hcomesA, hcomesB⟩ := grownPlaces_steps (c := s.capC) (a := s.view .a) (b := s.view .b) (a1 := s1.view .a)
    (b1 := s2.view .b) (a2 := s3.view .a) (b2 := s4.view .b)
    (by rw [v1a]; exact if_congr ha rfl rfl)
    (by rw [v2b, v1b]; exact if_congr hb rfl rfl)
    (by
      rw [v3a, v2a]
      refine if_congr ?_ rfl rfl
      rw [Bool.and_eq_true, Part.isHalf_iff, Part.byteFits_iff, c2, v2a])
    (by
      rw [v4b, v3b]
      refine if_congr ?_ rfl rfl
      rw [Bool.and_eq_true, Part.isHalf_iff, Part.byteFits_iff, c3, v3b])
  have hslot1 (y : PortId) : s1.slot y = .live ↔ s.slot y = .live := (r1.2 y).1
  have comesA : s.comes s4 .a = true ↔ (s.isInactive .a && s.byteFits) = true ∧ s.slot .a = .live := by
    rw [Part.comes_iff, v4a, hcomesA, ha]
  have comesB : s.comes s4 .b = true ↔ (s1.isInactive .b && s1.byteFits) = true ∧ s1.slot .b = .live := by
    rw [Part.comes_iff, hcomesB, hb, hslot1]
  have hsame (y : PortId) : (s4.port y).state = (s2.port y).state ∧ s4.hold y = s2.hold y :=
    ⟨congrArg Port.state ((q4.1 y).2.trans (q3.1 y).2), (q4.1 y).1.trans (q3.1 y).1⟩
  refine ⟨by rw [hplaces, v4a], ((r1.trans r2).trans r3).trans r4, fun y => ?_, ?_, ?_⟩
  · rw [(hsame y).1, (hsame y).2]
    cases y with
    | a =>
      cases hg : s.comes s4 .a with
      | true =>
        obtain ⟨hstep, hl⟩ := comesA.1 hg
        exact ⟨(congrArg Port.state o2.2).trans (g1 hstep hl).1, o2.1.trans (g1 hstep hl).2.1⟩
      | false =>
        obtain ⟨hport, hhold, -⟩ := n1 fun h => Bool.false_ne_true (hg.symm.trans (comesA.2 h))
        exact ⟨congrArg Port.state (o2.2.trans hport), o2.1.trans hhold⟩
    | b =>
      cases hg : s.comes s4 .b with
      | true =>
        obtain ⟨hstep, hl⟩ := comesB.1 hg
        exact ⟨(g2 hstep hl).1, (g2 hstep hl).2.1⟩
      | false =>
        obtain ⟨hport, hhold, -⟩ := n2 fun h => Bool.false_ne_true (hg.symm.trans (comesB.2 h))
        exact ⟨congrArg Port.state (hport.trans o1.2), hhold.trans o1.1⟩
  · have hmail1 : s1.mail = offerIf (s.comes s4 .a) (.signal .a .capacityResume) s.mail := by
      cases hg : s.comes s4 .a with
      | true =>
        obtain ⟨hstep, hl⟩ := comesA.1 hg
        rw [(g1 hstep hl).2.2]
        rfl
      | false =>
        rw [(n1 fun h => Bool.false_ne_true (hg.symm.trans (comesA.2 h))).2.2]
        rfl
    rw [q4.2.1, q3.2.1]
    cases hg : s.comes s4 .b with
    | true =>
      obtain ⟨hstep, hl⟩ := comesB.1 hg
      rw [(g2 hstep hl).2.2, hmail1]
      rfl
    | false =>
      rw [(n2 fun h => Bool.false_ne_true (hg.symm.trans (comesB.2 h))).2.2, hmail1]
      rfl
  · rw [show s.comes s4 .a = (s.isInactive .a && s.byteFits && decide (s.slot .a = .live)) from
        Bool.eq_iff_iff.2 (by rw [comesA, Bool.and_eq_true _ (decide _), decide_eq_true_iff]),
      show s.comes s4 .b = (s1.isInactive .b && s1.byteFits && decide (s1.slot .b = .live)) from
        Bool.eq_iff_iff.2 (by rw [comesB, Bool.and_eq_true _ (decide _), decide_eq_true_iff])]
    exact (((p1.trans p2).trans q3.2.2).trans q4.2.2).le (by omega)

end Sys2Proof.Machine
end

section
/-! SUPPORT. The capacity rule as one (R136, R139, R140): the shrink and the records of the ports held where the demand is too
high, and else the growth alone; and what of it stands behind the rule's later effects. -/

namespace Sys2Proof.Machine

/-! ### The two halves -/

section
variable (s : Part)

theorem Part.shrink_of_fits (h : s.overdrawn = false) : s.shrink = s := by
  have hstep (b : Bool) (f : Part → Part) : s.shrinkStep b f = s := by rw [Part.shrinkStep_eq, h]; rfl
  unfold Part.shrink
  simp only [hstep]

theorem Part.growth_of_noFit (h : s.byteFits = false) : s.growth = s := by
  have hstep (b : Bool) (f : Part → Part) : s.growStep b f = s := by rw [Part.growStep_eq, h, Bool.and_false]; rfl
  unfold Part.growth
  simp only [hstep]

/-- A live berth keeps its channel. -/
theorem Berth.regraded.held {b b' : Berth} (h : b.regraded b') (hl : b.1 = .live) : b'.place.isSome = b.place.isSome := by
  obtain ⟨x, c, t⟩ := b
  obtain ⟨x', c', t'⟩ := b'
  have hl' : x' = .live := h.1.2 hl
  cases hl
  subst hl'
  have hc := congrArg Option.isSome (h.2.1 rfl)
  rw [Option.isSome_map, Option.isSome_map] at hc
  exact (Option.isSome_map ..).trans (hc.trans (Option.isSome_map ..).symm)

variable {s} in
/-- The record of a held port (R139), as made at a part `u` with the places of `t`. -/
theorem Part.recordHold_eq {t u : Part} (x : PortId) (h : s.regraded t) (hview : ∀ y, u.view y = t.view y)
    (hline : u.line = s.line) :
    Part.recordHold s x u = u.recordIf (s.goes t x) .capacityHold (sourceOf x)
      [((s.capU.getD 0 : Nat) : Int), ((s.capP.getD 0 : Nat) : Int),
       ((Place.bytes (t.view .a) + Place.bytes (t.view .b) : Nat) : Int), ((Place.bytes (s.view x) : Nat) : Int)] := by
  have hU : u.capU = s.capU := by rw [Part.capU, hline]; rfl
  have hP : u.capP = s.capP := by rw [Part.capP, hline]; rfl
  unfold Part.recordHold Part.recordIf
  by_cases hl : s.slot x = .live
  · have hsome : (t.view x).isSome = (s.view x).isSome := by
      rw [Part.view_eq, Part.view_eq]
      exact (h.2 x).held hl
    rw [hl]
    rcases hv : s.view x with _ | ⟨m, b⟩
    · have hgoes : s.goes t x = false := by simp [Part.goes, hv, Place.bytes]
      rw [hgoes]
      rfl
    · cases b with
      | false =>
        have hgoes : s.goes t x = false := by cases m <;> simp [Part.goes, hv, Place.bytes]
        rw [hgoes]
        rfl
      | true =>
        obtain ⟨n, hn⟩ := Option.isSome_iff_exists.1 (hsome.trans (by rw [hv]; rfl))
        have hgoes : s.goes t x = u.isInactive x := by
          rw [Part.isInactive_eq, hview, hn]
          obtain ⟨k, b⟩ := n
          cases m <;> cases k <;> cases b <;> simp [Part.goes, hv, hn, hl, Place.bytes]
        rw [hgoes]
        dsimp only
        rw [Part.demand_eq, hview, hview, hU, hP, portSource_eq]
        cases m <;> rfl
  · have hgoes : s.goes t x = false := by simp [Part.goes, hl]
    rw [hgoes]
    cases hx : s.slot x with
    | live => exact absurd hx hl
    | empty => rfl
    | ended => rfl

/-! ### What stands behind the rule -/

/-- The part behind the voice arrangement, its records and its messages left out too. -/
def Part.setting : Part × (Port × Port) × Bool × List ChanSwitch :=
  ({ s.ground with svc := .initial, log := .initial, link := .initial }, s.backdrop.2)

variable {s} in
theorem Part.setting_of_backdrop {t : Part} (h : t.backdrop = s.backdrop) : t.setting = s.setting := by
  have hground : t.ground = s.ground := congrArg Prod.fst h
  unfold Part.setting
  rw [h, hground]

@[simp] theorem Part.makeRecordAt_setting (k : FaultKind) (src : FaultSource) (ls : LineState) (ds : List Int) :
    (s.makeRecordAt k src ls ds).setting = s.setting := by
  rw [Part.makeRecordAt_frame]
  rfl

theorem Part.recordIf_setting (c : Bool) (k : FaultKind) (src : FaultSource) (ds : List Int) :
    (s.recordIf c k src ds).setting = s.setting := by
  cases c
  · rfl
  · exact s.makeRecordAt_setting k src _ ds

/-- A record disturbs neither the arrangement nor the telephones. -/
theorem Part.recordIf_berth (c : Bool) (k : FaultKind) (src : FaultSource) (ds : List Int) (y : PortId) :
    (s.recordIf c k src ds).berth y = s.berth y ∧ (s.recordIf c k src ds).port y = s.port y := by
  cases c
  · exact ⟨rfl, rfl⟩
  · refine ⟨Part.berth_of_wiring (s.makeRecordAt_wiring k src _ ds) y, ?_⟩
    cases y
    · exact Part.makeRecord_portA k src ds s
    · exact Part.makeRecord_portB k src ds s

/-- A message that joins a queue with room takes nothing out of it (R21). -/
theorem Part.enqueue_mem {m k : Msg} (hroom : s.svc.outQ.length < 16) (h : m ∈ s.svc.outQ) : m ∈ (s.enqueue k).svc.outQ := by
  have hsvc : (s.enqueue k).svc = (offer k s.mail).1 := congrArg Prod.fst (s.enqueue_mail k)
  rw [hsvc, offer_room hroom]
  exact mem_insertMsg.2 (.inr h)

/-- A report tried takes nothing out of the outbound queue (R152). -/
theorem Part.tryOffer_mem {m : Msg} (h : m ∈ s.svc.outQ) : m ∈ s.tryOffer.svc.outQ := by
  unfold Part.tryOffer
  split
  · rename_i htry
    have hroom : s.svc.outQ.length < 16 := by simp only [Bool.and_eq_true, decide_eq_true_eq] at htry; exact htry.2
    split
    · exact h
    · exact Part.enqueue_mem _ hroom h
  · exact h

/-- A record takes nothing out of the outbound queue. -/
theorem Part.makeRecord_mem {m : Msg} (k : FaultKind) (src : FaultSource) (ds : List Int) (h : m ∈ s.svc.outQ) :
    m ∈ (s.makeRecord k src ds).svc.outQ := by
  unfold Part.makeRecord Part.makeRecordAt
  dsimp only
  split
  · exact Part.tryOffer_mem _ h
  · exact h

theorem Part.recordIf_mem {m : Msg} (c : Bool) (k : FaultKind) (src : FaultSource) (ds : List Int) (h : m ∈ s.svc.outQ) :
    m ∈ (s.recordIf c k src ds).svc.outQ := by
  cases c
  · exact h
  · exact s.makeRecord_mem k src ds h

/-- What a log with room says behind a record. -/
theorem Part.recordIf_said (c : Bool) (k : FaultKind) (src : FaultSource) (ds : List Int) (h : s.log.records.length < 32) :
    (s.recordIf c k src ds).log.said =
      s.log.said ++ if c then [(s.newRecord k src s.line.state ds).said] else [] := by
  cases c
  · exact (List.append_nil _).symm
  · exact Part.makeRecordAt_said k src _ ds h

theorem Part.recordIf_posts (c : Bool) (k : FaultKind) (src : FaultSource) (ds : List Int) :
    s.posts 1 (s.recordIf c k src ds) := by
  cases c
  · exact (Part.posts_same rfl).le (by decide)
  · exact s.posts_makeRecordAt k src _ ds

/-! ### The rule -/

/-- What a CAPACITY_HOLD record says: U, P, V after the shrink, and the port's bytes before it (R148). -/
def Part.holdDetails (x : PortId) : List Int :=
  [((s.capU.getD 0 : Nat) : Int), ((s.capP.getD 0 : Nat) : Int),
   ((Place.bytes (s.shrink.view .a) + Place.bytes (s.shrink.view .b) : Nat) : Int), ((Place.bytes (s.view x) : Nat) : Int)]

/-- The part with the record of a port, where the shrink has held it. -/
def Part.noted (x : PortId) (u : Part) : Part :=
  u.recordIf (s.goes s.shrink x) .capacityHold (sourceOf x) (s.holdDetails x)

/-- Where the demand is too high, the records stand behind the shrink, and nothing grows. -/
theorem Part.capacityRule_overdrawn (h : s.overdrawn = true) : s.capacityRule = s.noted .a (s.noted .b s.shrink) := by
  obtain ⟨hplaces, hgrade, -⟩ := s.shrink_spec
  have hline : s.shrink.line = s.line := hgrade.line
  have hviews (u : Part) (x y : PortId) : (s.noted x u).view y = u.view y := by
    rw [Part.view_eq, Part.view_eq, Part.noted, (u.recordIf_berth _ _ _ _ y).1]
  have hb : Part.recordHold s .b s.shrink = s.noted .b s.shrink :=
    Part.recordHold_eq .b hgrade (fun _ => rfl) hline
  have hbline : (s.noted .b s.shrink).line = s.line := (Part.recordIf_fields _ _ _ _ _).1.trans hline
  have ha : Part.recordHold s .a (s.noted .b s.shrink) = s.noted .a (s.noted .b s.shrink) :=
    Part.recordHold_eq .a hgrade (fun y => hviews _ .b y) hbline
  have haline : (s.noted .a (s.noted .b s.shrink)).line = s.line := (Part.recordIf_fields _ _ _ _ _).1.trans hbline
  have hfull : (s.noted .a (s.noted .b s.shrink)).byteFits = false := by
    have hA : s.shrink.view .a = (shrunkPlaces s.capC (s.view .a) (s.view .b)).1 := congrArg Prod.fst hplaces
    have hB : s.shrink.view .b = (shrunkPlaces s.capC (s.view .a) (s.view .b)).2 := congrArg Prod.snd hplaces
    rw [Bool.eq_false_iff, ne_eq, Part.byteFits_iff, hviews, hviews, hviews, hviews, Part.capC_of_line haline, hA, hB]
    exact Nat.not_le.2 (shrunkPlaces_noFit (s.overdrawn_iff.1 h))
  calc s.capacityRule = (Part.recordHold s .a (Part.recordHold s .b s.shrink)).growth := rfl
    _ = s.noted .a (s.noted .b s.shrink) := by rw [hb, ha, Part.growth_of_noFit _ hfull]

/-- Where the demand fits, nothing shrinks. -/
theorem Part.capacityRule_fits (h : s.overdrawn = false) : s.capacityRule = s.growth := by
  have hsame : s.shrink = s := s.shrink_of_fits h
  have hnone (x : PortId) : Part.recordHold s x s = s := by
    rw [Part.recordHold_eq x s.regraded_refl (fun _ => rfl) rfl]
    have hgoes : s.goes s x = false := by simp [Part.goes]
    rw [hgoes]
    rfl
  calc s.capacityRule = (Part.recordHold s .a (Part.recordHold s .b s.shrink)).growth := rfl
    _ = s.growth := by rw [hsame, hnone, hnone]

/-- What the rule does to the arrangement and the telephones, and what it leaves (R136, R139, R140). -/
theorem Part.capacityRule_spec :
    let t := s.shrink
    let v := s.capacityRule
    let small := shrunkPlaces s.capC (s.view .a) (s.view .b)
    let big := grownPlaces s.capC small.1 small.2
    (t.view .a = small.1 ∧ t.view .b = small.2) ∧ (v.view .a = big.1 ∧ v.view .b = big.2) ∧ v.setting = s.setting ∧
      (∀ y, (s.berth y).regraded (v.berth y) ∧ (t.slot y = .live ↔ s.slot y = .live)) ∧
      ∀ y, if s.goes t y then (v.port y).state = .held ∧ v.hold y = some 30000 ∧ t.comes v y = false
        else if t.comes v y then (v.port y).state = .connected ∧ v.hold y = none
        else (v.port y).state = (s.port y).state ∧ v.hold y = s.hold y := by
  intro t v small big
  obtain ⟨hplaces, hgrade, hports, -⟩ := s.shrink_spec
  have hsmall : t.view .a = small.1 ∧ t.view .b = small.2 := ⟨congrArg Prod.fst hplaces, congrArg Prod.snd hplaces⟩
  have hslot (y : PortId) : t.slot y = .live ↔ s.slot y = .live := (hgrade.2 y).1
  cases hover : s.overdrawn with
  | true =>
    have hv : v = s.noted .a (s.noted .b t) := s.capacityRule_overdrawn hover
    have hberth (y : PortId) : v.berth y = t.berth y ∧ v.port y = t.port y := by
      have hb := Part.recordIf_berth t (s.goes t .b) .capacityHold (sourceOf .b) (s.holdDetails .b) y
      have ha := Part.recordIf_berth (s.noted .b t) (s.goes t .a) .capacityHold (sourceOf .a) (s.holdDetails .a) y
      exact ⟨(congrArg (·.berth y) hv).trans (ha.1.trans hb.1), (congrArg (·.port y) hv).trans (ha.2.trans hb.2)⟩
    have hview (y : PortId) : v.view y = t.view y := by rw [Part.view_eq, Part.view_eq, (hberth y).1]
    have hbig : big = small := grownPlaces_same (shrunkPlaces_noFit (s.overdrawn_iff.1 hover))
    have hcomes (y : PortId) : t.comes v y = false := by simp [Part.comes, hview]
    refine ⟨hsmall, by rw [hbig, hview, hview]; exact hsmall, ?_, fun y => ⟨?_, hslot y⟩, fun y => ?_⟩
    · rw [hv, Part.noted, Part.noted, Part.recordIf_setting, Part.recordIf_setting]
      exact Part.setting_of_backdrop hgrade.1
    · rw [(hberth y).1]
      exact hgrade.2 y
    · have hhold : v.hold y = t.hold y := congrArg (fun z : Berth => z.2.2) (hberth y).1
      have hp := hports y
      rw [hcomes y, if_neg Bool.false_ne_true, (hberth y).2, hhold]
      split
      · rename_i hg
        rw [if_pos hg] at hp
        exact ⟨hp.1, hp.2, rfl⟩
      · rename_i hg
        rwa [if_neg hg] at hp
  | false =>
    have ht : t = s := s.shrink_of_fits hover
    have hv : v = s.growth := s.capacityRule_fits hover
    obtain ⟨kplaces, kgrade, kports, -⟩ := s.growth_spec
    rw [← hv] at kplaces kgrade kports
    have hsame : small = (s.view .a, s.view .b) :=
      shrunkPlaces_same fun h => Bool.false_ne_true (hover.symm.trans (s.overdrawn_iff.2 h))
    have hgoes (y : PortId) : s.goes t y = false := by simp [Part.goes, ht]
    refine ⟨hsmall, ?_, Part.setting_of_backdrop kgrade.1, fun y => ⟨kgrade.2 y, hslot y⟩, fun y => ?_⟩
    · show v.view .a = (grownPlaces s.capC small.1 small.2).1 ∧ v.view .b = (grownPlaces s.capC small.1 small.2).2
      rw [hsame]
      exact ⟨congrArg Prod.fst kplaces, congrArg Prod.snd kplaces⟩
    · rw [hgoes y, if_neg Bool.false_ne_true, ht]
      exact kports y

end

end Sys2Proof.Machine
end

section
/-! SUPPORT. What the capacity rule tells: its SIGNALs, its records and its notices (R139, R140, R148). -/

namespace Sys2Proof.Machine

/-- Two messages offered to a queue with room for both are in it. -/
theorem offerIf_two {c d : Bool} {m k : Msg} {l : Service × Log} (h : l.1.outQ.length < 14) :
    (c = true → m ∈ (offerIf c m (offerIf d k l)).1.outQ) ∧ (d = true → k ∈ (offerIf c m (offerIf d k l)).1.outQ) := by
  obtain ⟨hfirst, -, -, hk⟩ := offerIf_room (c := d) (m := k) (l := l) (by omega)
  obtain ⟨-, -, hkept, hm⟩ := offerIf_room (c := c) (m := m) (l := offerIf d k l) (by omega)
  exact ⟨hm, fun hd => hkept k (hk hd)⟩

section
variable (s : Part)

/-- The ports that the rule holds and that it connects again, each told where the queue has room. -/
theorem Part.capacityRule_signals (hroom : s.svc.outQ.length < 14) (y : PortId) :
    (s.goes s.shrink y = true → Msg.signal y .capacityHold ∈ s.capacityRule.svc.outQ) ∧
      (s.shrink.comes s.capacityRule y = true → Msg.signal y .capacityResume ∈ s.capacityRule.svc.outQ) := by
  cases hover : s.overdrawn with
  | true =>
    obtain ⟨-, -, -, hmail, -⟩ := s.shrink_spec
    have hsvc : s.shrink.svc.outQ = (offerIf (s.goes s.shrink .a) (.signal .a .capacityHold)
      (offerIf (s.goes s.shrink .b) (.signal .b .capacityHold) s.mail)).1.outQ :=
      congrArg (fun l : Service × Log => l.1.outQ) hmail
    obtain ⟨hA, hB⟩ := offerIf_two (c := s.goes s.shrink .a) (d := s.goes s.shrink .b) (m := .signal .a .capacityHold)
      (k := .signal .b .capacityHold) (l := s.mail) hroom
    rw [← hsvc] at hA hB
    have hkept {m : Msg} (h : m ∈ s.shrink.svc.outQ) : m ∈ s.capacityRule.svc.outQ := by
      rw [s.capacityRule_overdrawn hover]
      exact Part.recordIf_mem _ _ _ _ _ (Part.recordIf_mem _ _ _ _ _ h)
    have hviews : s.shrink.view y = s.capacityRule.view y := by
      rw [s.capacityRule_overdrawn hover, Part.noted, Part.noted, Part.view_eq, Part.view_eq,
        (Part.recordIf_berth _ _ _ _ _ y).1, (Part.recordIf_berth _ _ _ _ _ y).1]
    refine ⟨fun hg => hkept ?_, fun hc => absurd ((Part.comes_iff.1 hc).1.1) ?_⟩
    · cases y
      · exact hA hg
      · exact hB hg
    · rw [hviews]
      exact (Part.comes_iff.1 hc).1.2
  | false =>
    obtain ⟨-, -, -, hmail, -⟩ := s.growth_spec
    have hsvc : s.growth.svc.outQ = (offerIf (s.comes s.growth .b) (.signal .b .capacityResume)
      (offerIf (s.comes s.growth .a) (.signal .a .capacityResume) s.mail)).1.outQ :=
      congrArg (fun l : Service × Log => l.1.outQ) hmail
    obtain ⟨hB, hA⟩ := offerIf_two (c := s.comes s.growth .b) (d := s.comes s.growth .a) (m := .signal .b .capacityResume)
      (k := .signal .a .capacityResume) (l := s.mail) hroom
    rw [← hsvc] at hA hB
    rw [s.capacityRule_fits hover, s.shrink_of_fits hover]
    refine ⟨fun hg => absurd (Part.goes_iff.1 hg).1.2 (Part.goes_iff.1 hg).1.1, fun hc => ?_⟩
    cases y
    · exact hA hc
    · exact hB hc

/-- The rule tells nothing of ports that it neither holds nor connects again. -/
theorem Part.capacityRule_silent (h : ∀ y, s.goes s.shrink y = false ∧ s.shrink.comes s.capacityRule y = false) :
    s.capacityRule.mail = s.mail ∧ s.posts 0 s.capacityRule := by
  cases hover : s.overdrawn with
  | true =>
    obtain ⟨-, -, -, hmail, hposts⟩ := s.shrink_spec
    rw [(h .a).1, (h .b).1] at hmail hposts
    have hv : s.capacityRule = s.shrink := by
      rw [s.capacityRule_overdrawn hover, Part.noted, Part.noted, (h .a).1, (h .b).1]
      rfl
    rw [hv]
    exact ⟨hmail, hposts⟩
  | false =>
    obtain ⟨-, -, -, hmail, hposts⟩ := s.growth_spec
    rw [s.capacityRule_fits hover, s.shrink_of_fits hover] at h
    rw [(h .a).2, (h .b).2] at hmail hposts
    rw [s.capacityRule_fits hover]
    exact ⟨hmail, hposts⟩

/-- A change of the rule's is told in at most six notices, none of them a RATE_CHANGE (R115, R139). -/
theorem Part.capacityRule_posts : s.posts 6 s.capacityRule := by
  have hfew (b : Bool) : noticesOf b ≤ 2 := by cases b <;> decide
  cases hover : s.overdrawn with
  | true =>
    obtain ⟨-, -, -, -, hposts⟩ := s.shrink_spec
    rw [s.capacityRule_overdrawn hover]
    have ha := hfew (s.goes s.shrink .a)
    have hb := hfew (s.goes s.shrink .b)
    exact ((hposts.trans (Part.recordIf_posts _ _ _ _ _)).trans (Part.recordIf_posts _ _ _ _ _)).le
      (by omega)
  | false =>
    obtain ⟨-, -, -, -, hposts⟩ := s.growth_spec
    rw [s.capacityRule_fits hover]
    have ha := hfew (s.comes s.growth .a)
    have hb := hfew (s.comes s.growth .b)
    exact hposts.le (by omega)

/-- The records that the rule makes: port B's first, each where the port goes to HELD (R139, R149). -/
theorem Part.capacityRule_log :
    let v := s.capacityRule
    v.log.next = s.log.next + (if s.goes s.shrink .b then 1 else 0) + (if s.goes s.shrink .a then 1 else 0) ∧
      ∀ y, s.goes s.shrink y = true →
        s.recorded v (if y = .a ∧ s.goes s.shrink .b = true then 1 else 0) 3 .capacityHold .minor (sourceOf y)
          s.line.state (s.holdDetails y) := by
  intro v
  cases hover : s.overdrawn with
  | false =>
    have hsame (y : PortId) : s.goes s.shrink y = false := by
      rw [s.shrink_of_fits hover]
      simp [Part.goes]
    obtain ⟨-, hgrade, -⟩ := s.growth_spec
    refine ⟨?_, fun y hg => absurd (hg.symm.trans (hsame y)) (by decide)⟩
    rw [show v = s.growth from s.capacityRule_fits hover, Part.logNext_of_ground hgrade.ground, hsame, hsame]
    simp
  | true =>
    obtain ⟨-, hgrade, -⟩ := s.shrink_spec
    have hv : v = s.noted .a (s.noted .b s.shrink) := s.capacityRule_overdrawn hover
    generalize ht : s.shrink = t at hv hgrade
    have htnext : t.log.next = s.log.next := Part.logNext_of_ground hgrade.ground
    have htsaid : t.log.said = s.log.said := Part.said_of_ground hgrade.ground
    have htlen : t.log.records.length = s.log.records.length := by
      rw [← Log.said_length, htsaid, Log.said_length]
    have httime : t.time = s.time := Part.time_of_ground hgrade.ground
    generalize hu : s.noted .b t = u at hv
    have hufields := Part.recordIf_fields (s.goes s.shrink .b) .capacityHold (sourceOf .b) (s.holdDetails .b) t
    have husaid (h : t.log.records.length < 32) := Part.recordIf_said t (s.goes s.shrink .b) .capacityHold (sourceOf .b)
      (s.holdDetails .b) h
    have hutime : u.time = t.time := by
      rw [← hu]
      exact congrArg (fun z : Part × (Port × Port) × Bool × List ChanSwitch => z.1.time)
        (Part.recordIf_setting t (s.goes s.shrink .b) .capacityHold (sourceOf .b) (s.holdDetails .b))
    have hvfields := Part.recordIf_fields (s.goes s.shrink .a) .capacityHold (sourceOf .a) (s.holdDetails .a) u
    have hvsaid (h : u.log.records.length < 32) := Part.recordIf_said u (s.goes s.shrink .a) .capacityHold (sourceOf .a)
      (s.holdDetails .a) h
    rw [show t.recordIf (s.goes s.shrink .b) .capacityHold (sourceOf .b) (s.holdDetails .b) = u from hu] at hufields husaid
    rw [show u.recordIf (s.goes s.shrink .a) .capacityHold (sourceOf .a) (s.holdDetails .a) = v from hv.symm]
      at hvfields hvsaid
    rw [ht] at hufields husaid hvfields hvsaid
    obtain ⟨huline, -, -, -, -, -, -, hunext⟩ := hufields
    obtain ⟨-, -, -, -, -, -, -, hvnext⟩ := hvfields
    have hulen (h : s.log.records.length + 3 ≤ 32) : u.log.records.length < 32 := by
      rw [← Log.said_length, husaid (by omega), List.length_append, Log.said_length]
      cases s.goes t .b <;> simp <;> omega
    have hstate : t.line.state = s.line.state := congrArg Line.state hgrade.line
    refine ⟨by rw [hvnext, hunext, htnext], fun y hg => ?_⟩
    cases y with
    | b =>
      refine Part.recorded_of_said (r := t.newRecord .capacityHold (sourceOf .b) t.line.state (s.holdDetails .b))
        (fun hroom => ?_) (by simp [Part.newRecord, htnext]) httime rfl rfl rfl hstate rfl
      rw [hvsaid (hulen hroom), husaid (by omega), hg]
      simp
    | a =>
      refine Part.recorded_of_said (r := u.newRecord .capacityHold (sourceOf .a) u.line.state (s.holdDetails .a))
        (fun hroom => ?_) ?_ (hutime.trans httime) rfl rfl rfl (by rw [← hstate, ← huline]; rfl) rfl
      · rw [hvsaid (hulen hroom), hg]
        simp
      · show u.log.next = _
        rw [hunext, htnext]
        cases s.goes t .b <;> rfl

end

end Sys2Proof.Machine
end

section
/-! SUPPORT. The capacity rule as its statement has it: from the part before the symbol to the part behind all that follows the
rule (R136, R139, R140, R142). -/

namespace Sys2Proof.Machine

/-- The part before the switch symbol and the one that the rule starts from, alike but for the slots and the tables. -/
def Part.leadsTo (p s : Part) : Prop :=
  (∀ y, s.chan y = p.chan y ∧ (s.port y).state = (p.port y).state ∧ s.hold y = p.hold y) ∧ s.svc = p.svc ∧ s.log = p.log ∧
    s.time = p.time

/-- What follows the rule keeps the arrangement, the telephones' states, every SIGNAL and every record. -/
def Part.carriesOn (v q : Part) : Prop :=
  (q.capU = v.capU ∧ q.capP = v.capP) ∧ (∀ y, q.berth y = v.berth y ∧ (q.port y).state = (v.port y).state) ∧
    (∀ y k, Msg.signal y k ∈ v.svc.outQ → Msg.signal y k ∈ q.svc.outQ) ∧ ∀ r ∈ v.log.said, r ∈ q.log.said

theorem Part.carriesOn_refl (v : Part) : v.carriesOn v :=
  ⟨⟨rfl, rfl⟩, fun _ => ⟨rfl, rfl⟩, fun _ _ h => h, fun _ h => h⟩

theorem Part.carriesOn.trans {v w q : Part} (h : v.carriesOn w) (k : w.carriesOn q) : v.carriesOn q :=
  ⟨⟨k.1.1.trans h.1.1, k.1.2.trans h.1.2⟩, fun y => ⟨(k.2.1 y).1.trans (h.2.1 y).1, (k.2.1 y).2.trans (h.2.1 y).2⟩,
    fun y x hx => k.2.2.1 y x (h.2.2.1 y x hx), fun r hr => k.2.2.2 r (h.2.2.2 r hr)⟩

/-- A record seen in a log that says no less (R149). -/
theorem Part.recorded.of_said {p s v q : Part} {i n : Nat} {k : FaultKind} {v' : Severity} {src : FaultSource}
    {l : LineState} {ds : List Int} (h : s.recorded v i n k v' src l ds) (hlog : s.log = p.log) (htime : s.time = p.time)
    (hsaid : ∀ r ∈ v.log.said, r ∈ q.log.said) : p.recorded q i n k v' src l ds := by
  intro hroom
  unfold Part.recorded at h
  rw [hlog, htime] at h
  obtain ⟨r, hr, hseq, ht, hk, hsev, hsrc, hl, hds⟩ := h hroom
  exact Part.recorded_of_said (r := r) (fun _ => hsaid _ (List.mem_map_of_mem hr)) hseq ht hk hsev hsrc hl hds hroom

/-- The rule, from the part before the symbol to the part behind it (R136, R139, R140). -/
theorem Part.capacityApplied_of {p s q : Part} (hp : p.leadsTo s) (hq : s.capacityRule.carriesOn q) :
    p.capacityApplied q s.line.state s.view := by
  obtain ⟨hsame, hsvc, hlog, htime⟩ := hp
  obtain ⟨⟨hU, hP⟩, hkeeps, hsignals, hsaid⟩ := hq
  obtain ⟨⟨hta, htb⟩, ⟨hva, hvb⟩, hsetting, hgrade, hports⟩ := s.capacityRule_spec
  obtain ⟨-, hrecorded⟩ := s.capacityRule_log
  generalize ht : s.shrink = t at hta htb hgrade hports hrecorded
  generalize hv : s.capacityRule = v at hkeeps hsignals hsaid hva hvb hsetting hgrade hports hrecorded hU hP
  have hline : v.line = s.line :=
    congrArg (fun z : Part × (Port × Port) × Bool × List ChanSwitch => z.1.line) hsetting
  have hcU : q.capU = s.capU := hU.trans (by rw [Part.capU, hline]; rfl)
  have hcP : q.capP = s.capP := hP.trans (by rw [Part.capP, hline]; rfl)
  have hcC : q.capC = s.capC := by rw [Part.capC, hcU, hcP]; rfl
  have hslot (y : PortId) : q.slot y = .live ↔ s.slot y = .live := by
    rw [show q.slot y = v.slot y from congrArg (fun z : Berth => z.1) (hkeeps y).1]
    exact (hgrade y).1.1
  have hview (y : PortId) : q.view y = v.view y := by rw [Part.view_eq, Part.view_eq, (hkeeps y).1]
  unfold Part.capacityApplied
  intro small big old new toHeld toConnected number x
  have hsmall : small = shrunkPlaces s.capC (s.view .a) (s.view .b) := by
    show shrunkPlaces q.capC _ _ = _
    rw [hcC]
  have hbig : big = grownPlaces s.capC small.1 small.2 := by
    show grownPlaces q.capC _ _ = _
    rw [hcC]
  rw [← hsmall] at hta htb hva hvb
  rw [← hbig] at hva hvb
  have hold (y : PortId) : t.view y = old y := by
    cases y
    · exact hta
    · exact htb
  have hnew (y : PortId) : q.view y = new y := by
    rw [hview]
    cases y
    · exact hva
    · exact hvb
  have htoHeld (y : PortId) : toHeld y ↔ s.goes t y = true := by
    rw [Part.goes_iff, hold, ← hslot]
    exact and_assoc.symm
  have htoConnected (y : PortId) : toConnected y ↔ t.comes v y = true := by
    rw [Part.comes_iff, hold, (hgrade y).2, ← hslot, ← hview, hnew]
    exact and_assoc.symm
  have hstate : (q.port x).state = (v.port x).state := (hkeeps x).2
  have hhold : q.hold x = v.hold x := congrArg (fun z : Berth => z.2.2) (hkeeps x).1
  have hporting := hports x
  refine ⟨hnew x, ?_, fun hheld => ?_, fun hconnected => ?_, fun hno hnone => ?_⟩
  · have hchan := (hgrade x).1.chan
    have hlive : v.slot x = q.slot x := congrArg (fun z : Berth => z.1) (hkeeps x).1.symm
    rw [← Part.view_eq, ← hview, hnew] at hchan
    rw [show q.chan x = v.chan x from congrArg (fun z : Berth => z.2.1) (hkeeps x).1, ← (hsame x).1, ← hlive]
    exact hchan
  · have hg := (htoHeld x).1 hheld
    rw [if_pos hg] at hporting
    refine ⟨hstate.trans hporting.1, hhold.trans hporting.2.1, fun hroom => hsignals x _ ?_, ?_⟩
    · have hsig := (s.capacityRule_signals (by rw [hsvc]; exact hroom) x).1
      rw [ht, hv] at hsig
      exact hsig hg
    · have hrec := (hrecorded x hg).of_said hlog htime hsaid
      have hnumber : (if x = .a ∧ s.goes t .b = true then 1 else 0) = number x :=
        if_congr (and_congr_right fun _ => (htoHeld .b).symm) rfl rfl
      rw [hnumber] at hrec
      have hdetails : s.holdDetails x = [((q.capU.getD 0 : Nat) : Int), ((q.capP.getD 0 : Nat) : Int),
          ((Place.bytes small.1 + Place.bytes small.2 : Nat) : Int), ((Place.bytes (s.view x) : Nat) : Int)] := by
        rw [Part.holdDetails, ht, hta, htb, hcU, hcP]
      rw [hdetails] at hrec
      exact hrec
  · have hc := (htoConnected x).1 hconnected
    have hng : ¬ s.goes t x = true := by
      intro hg
      rw [if_pos hg] at hporting
      rw [hporting.2.2] at hc
      exact Bool.false_ne_true hc
    rw [if_neg hng, if_pos hc] at hporting
    refine ⟨hstate.trans hporting.1, hhold.trans hporting.2, fun hroom => hsignals x _ ?_⟩
    have hsig := (s.capacityRule_signals (by rw [hsvc]; exact hroom) x).2
    rw [ht, hv] at hsig
    exact hsig hc
  · rw [if_neg fun hg => hno ((htoHeld x).2 hg), if_neg fun hc => hnone ((htoConnected x).2 hc)] at hporting
    exact ⟨hstate.trans (hporting.1.trans (hsame x).2.1), hhold.trans (hporting.2.trans (hsame x).2.2)⟩

end Sys2Proof.Machine
end

section
/-! SUPPORT. The channel switch symbol (R138): the arrangement it leads to, and the rule for a port alone in it (R136, R139,
R140). -/

namespace Sys2Proof.Machine

/-! ### The places of a port alone in the arrangement -/

/-- The places after the shrink, by port (R139). -/
def shrunkAt (c : Nat) (v : PortId → Place) : PortId → Place
  | .a => (shrunkPlaces c (v .a) (v .b)).1
  | .b => (shrunkPlaces c (v .a) (v .b)).2

/-- The places after the growth, by port (R140). -/
def grownAt (c : Nat) (v : PortId → Place) : PortId → Place
  | .a => (grownPlaces c (v .a) (v .b)).1
  | .b => (grownPlaces c (v .a) (v .b)).2

section
variable {c : Nat} {v : PortId → Place} {x : PortId}

theorem shrunkAt_fits (h : Place.bytes (v .a) + Place.bytes (v .b) + 1 ≤ c) : shrunkAt c v = v := by
  funext y
  unfold shrunkAt
  rw [shrunkPlaces_same (Nat.not_lt.2 h)]
  cases y <;> rfl

theorem bytes_alone (ho : v (other x) = none) : Place.bytes (v .a) + Place.bytes (v .b) = Place.bytes (v x) := by
  cases x
  · rw [show v .b = none from ho]
    rfl
  · rw [show v .a = none from ho]
    exact Nat.zero_add _

/-- A port alone with two bytes where C - 1 holds one: it goes to HALF (R139). -/
theorem shrunkAt_half (ho : v (other x) = none) (hv : v x = some (.full, true)) :
    shrunkAt 2 v x = some (.half, true) ∧ shrunkAt 2 v (other x) = none := by
  cases x
  · unfold shrunkAt
    rw [show v .b = none from ho, hv]
    decide
  · unfold shrunkAt
    rw [show v .a = none from ho, hv]
    decide

/-- A port alone where C - 1 holds no byte: it goes to HELD (R139). -/
theorem shrunkAt_held (ho : v (other x) = none) (hv : v x = some (.full, true)) :
    shrunkAt 1 v x = some (.half, false) ∧ shrunkAt 1 v (other x) = none := by
  cases x
  · unfold shrunkAt
    rw [show v .b = none from ho, hv]
    decide
  · unfold shrunkAt
    rw [show v .a = none from ho, hv]
    decide

theorem grownAt_full (h : c < Place.bytes (v .a) + Place.bytes (v .b) + 2) : grownAt c v = v := by
  funext y
  unfold grownAt
  rw [grownPlaces_same h]
  cases y <;> rfl

/-- A port alone in FULL has nothing to grow by (R140). -/
theorem grownAt_top (ho : v (other x) = none) (hv : v x = some (.full, true)) : grownAt c v = v := by
  funext y
  unfold grownAt
  cases x
  · rw [show v .b = none from ho, hv]
    cases y
    · simp [grownPlaces, hv]
    · simp [grownPlaces, show v .b = none from ho]
  · rw [show v .a = none from ho, hv]
    cases y
    · simp [grownPlaces, show v .a = none from ho]
    · simp [grownPlaces, hv]

/-- A HALF port alone grows to FULL where a byte more fits (R140). -/
theorem grownAt_half (ho : v (other x) = none) (hv : v x = some (.half, true)) (h : 3 ≤ c) :
    grownAt c v x = some (.full, true) ∧ grownAt c v (other x) = none := by
  cases x
  · unfold grownAt
    rw [show v .b = none from ho, hv]
    simp [grownPlaces, Place.bytes, other, h]
  · unfold grownAt
    rw [show v .a = none from ho, hv]
    simp [grownPlaces, Place.bytes, other, h]

/-- A HELD port alone comes back, in FULL where that fits too (R140). -/
theorem grownAt_held {m : Mode} (ho : v (other x) = none) (hv : v x = some (m, false)) (h : 2 ≤ c) :
    grownAt c v x = some (if 3 ≤ c then .full else .half, true) ∧ grownAt c v (other x) = none := by
  cases x
  · unfold grownAt
    rw [show v .b = none from ho, hv]
    by_cases h3 : 3 ≤ c <;> cases m <;> simp [grownPlaces, Place.bytes, other, h, h3]
  · unfold grownAt
    rw [show v .a = none from ho, hv]
    by_cases h3 : 3 ≤ c <;> cases m <;> simp [grownPlaces, Place.bytes, other, h, h3]

end

section
variable (s : Part)

theorem Part.shrink_view (y : PortId) : s.shrink.view y = shrunkAt s.capC s.view y := by
  obtain ⟨⟨ha, hb⟩, -⟩ := s.capacityRule_spec
  cases y
  · exact ha
  · exact hb

theorem Part.capacityRule_view (y : PortId) :
    s.capacityRule.view y = grownAt s.capC (shrunkAt s.capC s.view) y := by
  obtain ⟨-, ⟨ha, hb⟩, -⟩ := s.capacityRule_spec
  cases y
  · exact ha
  · exact hb

/-! ### One port told -/

/-- The rule that holds one port alone: its SIGNAL, and its record behind it (R139). -/
theorem Part.capacityRule_holdsOne {x : PortId} (hg : s.goes s.shrink x = true) (ho : s.goes s.shrink (other x) = false) :
    s.shrink.mail = offer (.signal x .capacityHold) s.mail ∧
      s.capacityRule = s.shrink.makeRecord .capacityHold (sourceOf x) (s.holdDetails x) := by
  have hover : s.overdrawn = true := by
    by_contra h
    rw [s.shrink_of_fits (Bool.eq_false_iff.2 h)] at hg
    exact (Part.goes_iff.1 hg).1.1 (Part.goes_iff.1 hg).1.2
  obtain ⟨-, -, -, hmail, -⟩ := s.shrink_spec
  have hrule := s.capacityRule_overdrawn hover
  have hnoted (u : Part) : s.noted x u = u.makeRecord .capacityHold (sourceOf x) (s.holdDetails x) := by
    unfold Part.noted Part.recordIf
    rw [hg, if_pos rfl]
  have hpassed (u : Part) : s.noted (other x) u = u := by
    unfold Part.noted Part.recordIf
    rw [ho, if_neg Bool.false_ne_true]
  cases x
  · rw [other_a] at ho hpassed
    rw [hg, ho] at hmail
    rw [hpassed, hnoted] at hrule
    exact ⟨hmail, hrule⟩
  · rw [other_b] at ho hpassed
    rw [hg, ho] at hmail
    rw [hpassed, hnoted] at hrule
    exact ⟨hmail, hrule⟩

/-- The rule that connects one port again: its SIGNAL (R140). -/
theorem Part.capacityRule_connectsOne {x : PortId} (hfits : s.overdrawn = false) (hc : s.comes s.capacityRule x = true)
    (ho : s.comes s.capacityRule (other x) = false) : s.capacityRule.mail = offer (.signal x .capacityResume) s.mail := by
  obtain ⟨-, -, -, hmail, -⟩ := s.growth_spec
  rw [s.capacityRule_fits hfits] at hc ho ⊢
  cases x
  · rw [other_a] at ho
    rw [hc, ho] at hmail
    exact hmail
  · rw [other_b] at ho
    rw [hc, ho] at hmail
    exact hmail

/-! ### The rule with its RATE_CHANGE -/

theorem rateOf_eq (n : Nat) : rateOf n = 32 * n := Nat.mul_comm n 32

/-- The rates and modes in force, as RATE_CHANGE has them (R142). -/
def Part.rateNotice : Notice :=
  .rateChange (32 * s.capP.getD 0) (32 * s.capU.getD 0) (s.mode .a) (s.mode .b)

theorem Part.postRates_eq : s.postRates = s.post s.rateNotice := by
  unfold Part.postRates Part.rateNotice
  rw [rateOf_eq, rateOf_eq]

theorem Part.postRates_carriesOn : s.carriesOn s.postRates :=
  ⟨⟨rfl, rfl⟩, fun y => ⟨rfl, by cases y <;> rfl⟩, fun _ _ h => h, fun _ h => h⟩

theorem Part.capacityRuleQuiet_eq :
    s.capacityRuleQuiet =
      if s.capacityRule.mode .a = s.mode .a ∧ s.capacityRule.mode .b = s.mode .b then s.capacityRule
      else s.capacityRule.postRates := rfl

theorem Part.capacityRuleQuiet_carriesOn : s.capacityRule.carriesOn s.capacityRuleQuiet := by
  rw [Part.capacityRuleQuiet_eq]
  split
  · exact Part.carriesOn_refl _
  · exact Part.postRates_carriesOn _

theorem Part.refreshHeard_carriesOn : s.carriesOn s.refreshHeard :=
  ⟨⟨rfl, rfl⟩, fun y => ⟨Part.berth_of_wiring s.refreshHeard_wiring y, by rw [Part.refreshHeard_port]⟩,
    fun _ _ h => by rwa [Part.refreshHeard_svc], fun _ h => by rwa [Part.refreshHeard_log]⟩

theorem Part.capacityRuleQuiet_rest :
    s.capacityRuleQuiet.setting = s.setting ∧ s.capacityRuleQuiet.mail = s.capacityRule.mail := by
  obtain ⟨-, -, hsetting, -⟩ := s.capacityRule_spec
  have hposted : s.capacityRule.postRates.setting = s.capacityRule.setting := by
    rw [Part.setting, Part.backdrop, Part.postRates_ground]
    rfl
  rw [Part.capacityRuleQuiet_eq]
  split
  · exact ⟨hsetting, rfl⟩
  · exact ⟨hposted.trans hsetting, rfl⟩

/-- A change of mode is told in a RATE_CHANGE, where the queue has room behind the rule's own notices (R142). -/
theorem Part.capacityRuleQuiet_told {n : Nat} (hposts : s.posts n s.capacityRule) (hroom : s.link.notices.length + n < 16)
    (hmode : s.capacityRule.mode .a ≠ s.mode .a ∨ s.capacityRule.mode .b ≠ s.mode .b) :
    s.capacityRule.rateNotice ∈ s.capacityRuleQuiet.link.notices := by
  have hchanged : ¬ (s.capacityRule.mode .a = s.mode .a ∧ s.capacityRule.mode .b = s.mode .b) := by tauto
  have hlen := hposts.1
  rw [Part.capacityRuleQuiet_eq, if_neg hchanged, Part.postRates_eq]
  exact Link.mem_post _ (by omega)

end

end Sys2Proof.Machine
end

section
/-! SUPPORT and PROOF. The channel switch symbol and the hold that runs out (O43). -/

namespace Sys2Proof.Machine

/-! ### The part that the rule starts from -/

/-- The part once a channel switch symbol has acted, the later ones still to come (R138). -/
def Part.acted (p : Part) (z : ChanSwitch) (ws : List ChanSwitch) : Part :=
  z.apply { p with sched := { p.sched with switches := ws } }

/-- The slot that a switch gives its port (R138). -/
def SwitchEvent.slot : SwitchEvent → Slot
  | .begin => .live
  | .beginEnded m b => .ended m b
  | .finish => .empty

/-- The place that a switch gives its port, `c` being the port's channel (R138). -/
def SwitchEvent.place (w : SwitchEvent) (c : Option Channel) : Place :=
  match w with
  | .begin => c.map fun c => (c.mode, c.active)
  | .beginEnded m b => some (m, b)
  | .finish => none

section
variable (p : Part) (z : ChanSwitch) (ws : List ChanSwitch)

theorem Part.acted_eq :
    p.acted z ws = ({ p with sched := { p.sched with switches := ws } } : Part).setSlot z.port z.what.slot := by
  obtain ⟨x, a, w⟩ := z
  cases w <;> rfl

theorem Part.acted_rest : p.leadsTo (p.acted z ws) ∧ (p.acted z ws).line = p.line ∧ (p.acted z ws).link = p.link ∧
    (p.acted z ws).sched.switches = ws := by
  rw [Part.acted_eq]
  cases z.port <;> exact ⟨⟨fun y => by cases y <;> exact ⟨rfl, rfl, rfl⟩, rfl, rfl, rfl⟩, rfl, rfl, rfl⟩

theorem Part.acted_slot (y : PortId) :
    (p.acted z ws).slot y = if y = z.port then z.what.slot else p.slot y := by
  rw [Part.acted_eq]
  cases z.port <;> cases y <;> rfl

theorem Part.acted_view (y : PortId) :
    (p.acted z ws).view y = if y = z.port then z.what.place (p.chan y) else p.view y := by
  obtain ⟨⟨hsame, -⟩, -⟩ := p.acted_rest z ws
  unfold Part.view
  rw [Part.acted_slot, (hsame y).1]
  by_cases hy : y = z.port
  · rw [if_pos hy, if_pos hy]
    cases z.what <;> rfl
  · rw [if_neg hy, if_neg hy]

/-- The earliest symbol acts alone where no other switch has its symbol. -/
theorem dueSwitches_single {z : ChanSwitch} {ws : List ChanSwitch} (h : ∀ y ∈ ws, y.at_ ≠ z.at_) :
    dueSwitches (z :: ws) = ([z], ws) := by
  unfold dueSwitches
  cases ws with
  | nil => rfl
  | cons y ys =>
    have hne : ¬ (y.at_ == z.at_) = true := by
      rw [beq_iff_eq]
      exact h y List.mem_cons_self
    dsimp only
    rw [List.takeWhile_cons_of_neg (p := fun k : ChanSwitch => k.at_ == z.at_) hne,
      List.dropWhile_cons_of_neg (p := fun k : ChanSwitch => k.at_ == z.at_) hne]

/-- The part behind a channel switch symbol. -/
def Part.arrived : Part := (p.acted z ws).capacityRuleQuiet.refreshHeard

variable {z ws} in
theorem channelSwitch_completes {s : State} (hrun : s.part.running = true) (hserv : s.part.inService = true)
    (hsw : s.part.sched.switches = z :: ws) (hlater : ∀ y ∈ ws, y.at_ ≠ z.at_) :
    Completes .channelSwitch s (s.part.arrived z ws) := by
  refine completes_of (o := execChannelSwitch s) rfl rfl hrun ?_
  rw [hserv, hsw]
  show s.part.channelSwitch.refreshHeard = _
  unfold Part.channelSwitch
  rw [hsw, dueSwitches_single hlater]
  rfl

/-- What every channel switch symbol leaves, and what it hands on from the rule (R138). -/
theorem Part.arrived_rest :
    let q := p.arrived z ws
    q.sched.switches = ws ∧ q.line = p.line ∧ q.mail = (p.acted z ws).capacityRule.mail ∧
      (p.acted z ws).capacityRule.carriesOn q := by
  obtain ⟨-, hline, -, hswitches⟩ := p.acted_rest z ws
  obtain ⟨hsetting, hmail⟩ := (p.acted z ws).capacityRuleQuiet_rest
  refine ⟨?_, ?_, ?_, (Part.capacityRuleQuiet_carriesOn _).trans (Part.refreshHeard_carriesOn _)⟩
  · have hsw := congrArg (fun k : Part × (Port × Port) × Bool × List ChanSwitch => k.2.2.2) hsetting
    rw [Part.arrived, Part.refreshHeard_sched]
    exact Eq.trans hsw hswitches
  · have hl := congrArg (fun k : Part × (Port × Port) × Bool × List ChanSwitch => k.1.line) hsetting
    rw [Part.arrived, Part.refreshHeard_line]
    exact Eq.trans hl hline
  · rw [Part.arrived, Part.refreshHeard_mail, hmail]

/-- A change of mode at a channel switch symbol is told (R142). -/
theorem Part.arrived_told {n : Nat} (hposts : (p.acted z ws).posts n (p.acted z ws).capacityRule)
    (hroom : p.link.notices.length + n < 16)
    (hmode : (p.arrived z ws).mode .a ≠ p.mode .a ∨ (p.arrived z ws).mode .b ≠ p.mode .b) :
    Notice.rateChange (32 * p.capP.getD 0) (32 * p.capU.getD 0) ((p.arrived z ws).mode .a) ((p.arrived z ws).mode .b) ∈
      (p.arrived z ws).link.notices := by
  obtain ⟨⟨hsame, -⟩, hline, hlink, -⟩ := p.acted_rest z ws
  obtain ⟨-, hqline, -, ⟨hU, hP⟩, hkeeps, -⟩ := p.arrived_rest z ws
  have hqmode (y : PortId) : (p.arrived z ws).mode y = (p.acted z ws).capacityRule.mode y :=
    congrArg (fun k : Berth => k.2.1.map Channel.mode) (hkeeps y).1
  have hpmode (y : PortId) : (p.acted z ws).mode y = p.mode y := congrArg (Option.map Channel.mode) (hsame y).1
  have hqU : (p.arrived z ws).capU = p.capU := by rw [Part.capU, hqline]; rfl
  have hqP : (p.arrived z ws).capP = p.capP := by rw [Part.capP, hqline]; rfl
  have htold := (p.acted z ws).capacityRuleQuiet_told hposts (by rw [hlink]; exact hroom)
    (by rwa [← hqmode, ← hqmode, hpmode, hpmode])
  have hlinks : (p.arrived z ws).link = (p.acted z ws).capacityRuleQuiet.link := Part.refreshHeard_link _
  rw [hlinks, ← hqU, ← hqP, hU, hP, hqmode, hqmode]
  exact htold

end

/-! ### A port alone in the arrangement -/

section
variable {p : Part} {z : ChanSwitch} {ws : List ChanSwitch} {x : PortId} {ch : Channel} {n : Mode × Bool}

/-- Neither held nor connected again, by the places. -/
theorem Part.untold_of_places {u : Part} (h : ∀ y, (Place.bytes (u.view y) ≠ 0 → Place.bytes (shrunkAt u.capC u.view y) ≠ 0) ∧
      (Place.bytes (shrunkAt u.capC u.view y) = 0 → Place.bytes (grownAt u.capC (shrunkAt u.capC u.view) y) = 0)) (y : PortId) :
    u.goes u.shrink y = false ∧ u.shrink.comes u.capacityRule y = false := by
  refine ⟨Bool.eq_false_iff.2 fun hg => ?_, Bool.eq_false_iff.2 fun hc => ?_⟩
  · obtain ⟨⟨hbefore, hafter⟩, -⟩ := Part.goes_iff.1 hg
    rw [Part.shrink_view] at hafter
    exact (h y).1 hbefore hafter
  · obtain ⟨⟨hbefore, hafter⟩, -⟩ := Part.comes_iff.1 hc
    rw [Part.shrink_view] at hbefore
    rw [Part.capacityRule_view] at hafter
    exact hafter ((h y).2 hbefore)

/-- A port alone in the arrangement, once the rule has come to the place `n` for it. -/
theorem Part.arrived_alone (hx : (p.acted z ws).slot x = .live) (ho : (p.acted z ws).slot (other x) = .empty)
    (hch : p.chan x = some ch) (hn : (p.acted z ws).capacityRule.view x = some n)
    (hnone : (p.acted z ws).capacityRule.view (other x) = none) :
    let q := p.arrived z ws
    q.slot x = .live ∧ q.slot (other x) = .empty ∧ q.chan x = some { ch with mode := n.1, active := n.2 } ∧
      q.alloc x = Place.bytes (some n) ∧ q.demand = Place.bytes (some n) := by
  intro q
  obtain ⟨⟨hsame, -⟩, -⟩ := p.acted_rest z ws
  obtain ⟨-, -, -, -, hkeeps, -⟩ := p.arrived_rest z ws
  obtain ⟨-, -, -, hgrade, -⟩ := (p.acted z ws).capacityRule_spec
  have hview (y : PortId) : q.view y = (p.acted z ws).capacityRule.view y := by rw [Part.view_eq, Part.view_eq, (hkeeps y).1]
  have hslot (y : PortId) : q.slot y = (p.acted z ws).capacityRule.slot y := congrArg (fun k : Berth => k.1) (hkeeps y).1
  have hlive : q.slot x = .live := by
    rw [hslot]
    exact (hgrade x).1.1.2 hx
  have hempty : q.slot (other x) = .empty := by
    have hne : q.slot (other x) ≠ .live := fun h => by
      rw [hslot] at h
      have := (hgrade (other x)).1.1.1 h
      rw [show ((p.acted z ws).berth (other x)).1 = (p.acted z ws).slot (other x) from rfl, ho] at this
      cases this
    have hq : q.view (other x) = none := (hview _).trans hnone
    unfold Part.view at hq
    cases hs : q.slot (other x) with
    | empty => rfl
    | live => exact absurd hs hne
    | ended m b => simp [hs] at hq
  have hqx : q.view x = some n := (hview x).trans hn
  have halloc : q.alloc x = Place.bytes (some n) := by rw [Part.alloc, demandOf_eq, hqx]
  refine ⟨hlive, hempty, ?_, halloc, ?_⟩
  · have hchan := (hgrade x).1.chan
    rw [← Part.view_eq, hn, show ((p.acted z ws).capacityRule.berth x).1 = .live from (hslot x).symm.trans hlive, if_pos rfl,
      show ((p.acted z ws).berth x).2.1 = some ch from (hsame x).1.trans hch] at hchan
    have hq : q.chan x = ((p.acted z ws).capacityRule.berth x).2.1 := congrArg (fun k : Berth => k.2.1) (hkeeps x).1
    exact hq.trans hchan
  · have hother : q.alloc (other x) = 0 := by
      rw [Part.alloc, demandOf_eq, hview, hnone]
      rfl
    have hsum : q.demand = q.alloc x + q.alloc (other x) := by
      cases x
      · rfl
      · exact Nat.add_comm _ _
    rw [hsum, halloc, hother, Nat.add_zero]

end

end Sys2Proof.Machine
end

section
/-! PROOF. Channel switch symbols, the hold that runs out, and what they come to (O43). -/

namespace Sys2Proof.Machine

/-! ### The channel that enters alone -/

section
variable {s : State} {x : PortId} {a : Symbol} {ch : Channel} (hrun : s.part.running = true)
  (hserv : s.part.inService = true) (hsw : s.part.sched.switches = [⟨x, a, .begin⟩]) (hch : s.part.chan x = some ch)
  (hactive : ch.active = true) (hmode : ch.mode = .full) (ho : s.part.slot (other x) = .empty)

include ho in
/-- The arrangement as a channel enters it alone. -/
theorem entering_slots :
    (s.part.acted ⟨x, a, .begin⟩ []).slot x = .live ∧ (s.part.acted ⟨x, a, .begin⟩ []).slot (other x) = .empty ∧
      (s.part.acted ⟨x, a, .begin⟩ []).view (other x) = none := by
  have hother : (s.part.acted ⟨x, a, .begin⟩ []).slot (other x) = .empty :=
    (Part.acted_slot _ _ _ _).trans ((if_neg (other_ne x)).trans ho)
  refine ⟨(Part.acted_slot _ _ _ _).trans (if_pos rfl), hother, ?_⟩
  unfold Part.view
  rw [hother]

include hch hactive hmode in
theorem entering_view : (s.part.acted ⟨x, a, .begin⟩ []).view x = some (.full, true) := by
  rw [Part.acted_view, if_pos rfl, hch, ← hmode, ← hactive]
  rfl

theorem acted_capC (p : Part) (z : ChanSwitch) (ws : List ChanSwitch) : (p.acted z ws).capC = p.capC :=
  Part.capC_of_line (p.acted_rest z ws).2.1

include hrun hserv hsw hch hactive hmode ho

/-- With three bytes it enters in FULL. -/
theorem channelEnters_full (hc : 3 ≤ s.part.capC) :
    ∃ q : Part, Completes .channelSwitch s q ∧ q.slot x = .live ∧ q.slot (other x) = .empty ∧ q.sched.switches = [] ∧
      q.alloc x = 2 ∧ q.demand = 2 ∧ q.line = s.part.line ∧ q.chan x = some ch ∧ q.log = s.part.log := by
  obtain ⟨hx, hother, hnone⟩ := entering_slots (a := a) ho
  have hview := entering_view (a := a) hch hactive hmode
  have hcapC := acted_capC s.part ⟨x, a, .begin⟩ []
  generalize hu : s.part.acted ⟨x, a, .begin⟩ [] = u at hx hother hnone hview hcapC
  have hshrunk : shrunkAt u.capC u.view = u.view := shrunkAt_fits (by rw [bytes_alone hnone, hview, hcapC]; exact hc)
  have hgrown : grownAt u.capC u.view = u.view := grownAt_top hnone hview
  have huntold := Part.untold_of_places (u := u) fun y => by
    rw [hshrunk, hgrown]
    exact ⟨id, id⟩
  have hrule (y : PortId) : u.capacityRule.view y = u.view y := by rw [Part.capacityRule_view, hshrunk, hgrown]
  obtain ⟨hmail, -⟩ := u.capacityRule_silent huntold
  obtain ⟨hsws, hline, hqmail, -⟩ := s.part.arrived_rest ⟨x, a, .begin⟩ []
  obtain ⟨⟨-, -, hulog, -⟩, -⟩ := s.part.acted_rest ⟨x, a, .begin⟩ []
  rw [hu] at hqmail hulog
  obtain ⟨hlive, hempty, hchan, halloc, hdemand⟩ := Part.arrived_alone (p := s.part) (z := ⟨x, a, .begin⟩) (ws := [])
    (x := x) (ch := ch) (n := (.full, true)) (by rw [hu]; exact hx) (by rw [hu]; exact hother) hch
    (by rw [hu, hrule]; exact hview) (by rw [hu, hrule]; exact hnone)
  refine ⟨s.part.arrived ⟨x, a, .begin⟩ [], channelSwitch_completes hrun hserv hsw nofun, hlive, hempty, hsws, halloc,
    hdemand, hline, ?_, ?_⟩
  · rw [hchan, ← hmode, ← hactive]
  · exact (Part.log_of_mail (hqmail.trans hmail)).trans hulog

/-- With two bytes it shrinks to HALF. -/
theorem channelEnters_half (hc : s.part.capC = 2) :
    ∃ q : Part, Completes .channelSwitch s q ∧ q.slot x = .live ∧ q.chan x = some { ch with mode := .half } ∧
      q.demand = 1 ∧ q.line = s.part.line ∧ q.log = s.part.log ∧ q.svc = s.part.svc ∧
      (s.part.link.notices.length < 16 →
        Notice.rateChange (32 * s.part.capP.getD 0) (32 * s.part.capU.getD 0) (q.mode .a) (q.mode .b) ∈ q.link.notices) := by
  obtain ⟨hx, hother, hnone⟩ := entering_slots (a := a) ho
  have hview := entering_view (a := a) hch hactive hmode
  have hcapC := (acted_capC s.part ⟨x, a, .begin⟩ []).trans hc
  generalize hu : s.part.acted ⟨x, a, .begin⟩ [] = u at hx hother hnone hview hcapC
  obtain ⟨hhalf, hsnone⟩ := shrunkAt_half hnone hview
  rw [← hcapC] at hhalf hsnone
  have hgrown : grownAt u.capC (shrunkAt u.capC u.view) = shrunkAt u.capC u.view :=
    grownAt_full (by rw [bytes_alone hsnone, hhalf, hcapC]; decide)
  have huntold := Part.untold_of_places (u := u) fun y => by
    rw [hgrown]
    refine ⟨fun hy => ?_, id⟩
    rcases eq_or_other x y with rfl | rfl
    · rw [hhalf]
      decide
    · rw [hnone] at hy
      exact absurd rfl hy
  obtain ⟨hmail, hposts⟩ := u.capacityRule_silent huntold
  obtain ⟨-, hline, hqmail, -⟩ := s.part.arrived_rest ⟨x, a, .begin⟩ []
  obtain ⟨⟨-, husvc, hulog, -⟩, -⟩ := s.part.acted_rest ⟨x, a, .begin⟩ []
  have htold := s.part.arrived_told ⟨x, a, .begin⟩ [] (n := 0)
  rw [hu] at hqmail hulog husvc htold
  obtain ⟨hlive, -, hchan, -, hdemand⟩ := Part.arrived_alone (p := s.part) (z := ⟨x, a, .begin⟩) (ws := [])
    (x := x) (ch := ch) (n := (.half, true)) (by rw [hu]; exact hx) (by rw [hu]; exact hother) hch
    (by rw [hu, Part.capacityRule_view, hgrown]; exact hhalf) (by rw [hu, Part.capacityRule_view, hgrown]; exact hsnone)
  refine ⟨s.part.arrived ⟨x, a, .begin⟩ [], channelSwitch_completes hrun hserv hsw nofun, hlive, ?_, hdemand, hline,
    (Part.log_of_mail (hqmail.trans hmail)).trans hulog, (Part.svc_of_mail (hqmail.trans hmail)).trans husvc,
    fun hroom => htold hposts hroom ?_⟩
  · rw [hchan, ← hactive]
  · have hchanged : (s.part.arrived ⟨x, a, .begin⟩ []).mode x ≠ s.part.mode x := by
      unfold Part.mode
      rw [hchan, hch]
      intro h
      rw [Option.map_some, Option.map_some, hmode] at h
      cases h
    cases x
    · exact .inl hchanged
    · exact .inr hchanged

/-- With one byte its port is HELD. -/
theorem channelEnters_held (hc : s.part.capC = 1) :
    ∃ q : Part, Completes .channelSwitch s q ∧ (q.port x).state = .held ∧ q.hold x = some 30000 ∧
      q.chan x = some { ch with mode := .half, active := false } ∧ q.demand = 0 ∧ q.line = s.part.line ∧
      q.log.next = s.part.log.next + 1 ∧
      (s.part.svc.outQ.length < 16 → Msg.signal x .capacityHold ∈ q.svc.outQ) ∧
      (s.part.log.records.length < 32 → ∃ r ∈ q.log.records, r.seq = s.part.log.next ∧ r.kind = .capacityHold ∧
        r.details = [((s.part.capU.getD 0 : Nat) : Int), ((s.part.capP.getD 0 : Nat) : Int), 0, 2]) := by
  obtain ⟨hx, hother, hnone⟩ := entering_slots (a := a) ho
  have hview := entering_view (a := a) hch hactive hmode
  have hcapC := (acted_capC s.part ⟨x, a, .begin⟩ []).trans hc
  obtain ⟨⟨hsame, husvc, hulog, -⟩, huline, -⟩ := s.part.acted_rest ⟨x, a, .begin⟩ []
  obtain ⟨-, hline, hqmail, -, hkeeps, -⟩ := s.part.arrived_rest ⟨x, a, .begin⟩ []
  have halone := Part.arrived_alone (p := s.part) (z := ⟨x, a, .begin⟩) (ws := []) (x := x) (ch := ch) (n := (.half, false))
  generalize s.part.acted ⟨x, a, .begin⟩ [] = u at *
  generalize hq : s.part.arrived ⟨x, a, .begin⟩ [] = q at *
  obtain ⟨hheld, hsnone⟩ := shrunkAt_held hnone hview
  rw [← hcapC] at hheld hsnone
  have hgrown : grownAt u.capC (shrunkAt u.capC u.view) = shrunkAt u.capC u.view :=
    grownAt_full (by rw [bytes_alone hsnone, hheld, hcapC]; decide)
  have hgoes : u.goes u.shrink x = true := by
    rw [Part.goes_iff, Part.shrink_view, hview, hheld]
    exact ⟨⟨by decide, by decide⟩, hx⟩
  have hstays : u.goes u.shrink (other x) = false := by simp [Part.goes, hnone, Place.bytes]
  obtain ⟨hmail, hrule⟩ := u.capacityRule_holdsOne hgoes hstays
  obtain ⟨-, hgrade, -⟩ := u.shrink_spec
  have hlog : q.log = (u.shrink.makeRecord .capacityHold (sourceOf x) (u.holdDetails x)).log := by
    rw [Part.log_of_mail hqmail, hrule]
  have hsvc : q.svc = (u.shrink.makeRecord .capacityHold (sourceOf x) (u.holdDetails x)).svc := by
    rw [Part.svc_of_mail hqmail, hrule]
  have hports := u.capacityRule_spec.2.2.2.2 x
  rw [if_pos hgoes] at hports
  obtain ⟨hnext, hrecorded⟩ := Part.recorded_after (q := q) hgrade.ground .capacityHold (sourceOf x) (u.holdDetails x)
    (by rw [hlog]) (by rw [hlog])
  obtain ⟨-, -, hchan, -, hdemand⟩ := halone hx hother hch (by rw [Part.capacityRule_view, hgrown]; exact hheld)
    (by rw [Part.capacityRule_view, hgrown]; exact hsnone)
  have hholdq : q.hold x = u.capacityRule.hold x := congrArg (fun k : Berth => k.2.2) (hkeeps x).1
  refine ⟨q, hq ▸ channelSwitch_completes hrun hserv hsw nofun, (hkeeps x).2.trans hports.1, hholdq.trans hports.2.1,
    hchan, hdemand, hline, hnext.trans (by rw [hulog]), fun hroom => ?_, fun hroom => ?_⟩
  · have hmem : Msg.signal x .capacityHold ∈ u.shrink.svc.outQ := by
      rw [show u.shrink.svc = (offer (.signal x .capacityHold) u.mail).1 from congrArg Prod.fst hmail]
      exact ((offer_room_length (by show u.svc.outQ.length < 16; rw [husvc]; exact hroom)).2.2 _).2 (.inl rfl)
    rw [hsvc]
    exact Part.makeRecord_mem _ _ _ _ hmem
  · obtain ⟨r, hr, hseq, -, hkind, -, -, -, hds⟩ := hrecorded (by rw [hulog]; omega)
    refine ⟨r, hr, ?_, hkind, ?_⟩
    · rw [hseq, hulog]
      exact BitVec.add_zero _
    · have hsum : Place.bytes (u.shrink.view .a) + Place.bytes (u.shrink.view .b) = 0 := by
        rw [bytes_alone (x := x) ((Part.shrink_view _ _).trans hsnone), Part.shrink_view, hheld]
        rfl
      have hU : u.capU = s.part.capU := by rw [Part.capU, huline]; rfl
      have hP : u.capP = s.part.capP := by rw [Part.capP, huline]; rfl
      rw [hds, Part.holdDetails, hsum, hview, hU, hP]
      rfl

end

/-! ### The other port's slots given up -/

section
variable {s : State} {x : PortId} {a : Symbol} {ch : Channel} (hrun : s.part.running = true)
  (hserv : s.part.inService = true) (hsw : s.part.sched.switches = [⟨other x, a, .finish⟩])
  (hx : s.part.slot x = .live) (hch : s.part.chan x = some ch)

include hx hch in
/-- The arrangement as the other port leaves it. -/
theorem leaving_slots :
    (s.part.acted ⟨other x, a, .finish⟩ []).slot x = .live ∧
      (s.part.acted ⟨other x, a, .finish⟩ []).slot (other x) = .empty ∧
      (s.part.acted ⟨other x, a, .finish⟩ []).view (other x) = none ∧
      (s.part.acted ⟨other x, a, .finish⟩ []).view x = some (ch.mode, ch.active) := by
  have hne : x ≠ other x := (other_ne x).symm
  refine ⟨(Part.acted_slot _ _ _ _).trans ((if_neg hne).trans hx), (Part.acted_slot _ _ _ _).trans (if_pos rfl),
    (Part.acted_view _ _ _ _).trans (if_pos rfl), (Part.acted_view _ _ _ _).trans ((if_neg hne).trans ?_)⟩
  unfold Part.view
  rw [hx, hch]
  rfl

include hrun hserv hsw hx hch

/-- A HALF channel grows to FULL. -/
theorem otherLeaves_half (hactive : ch.active = true) (hmode : ch.mode = .half) (hc : 3 ≤ s.part.capC) :
    ∃ q : Part, Completes .channelSwitch s q ∧ q.slot (other x) = .empty ∧ q.demand = 2 ∧
      q.chan x = some { ch with mode := .full } ∧ q.line = s.part.line ∧ q.log = s.part.log ∧ q.svc = s.part.svc := by
  obtain ⟨hux, hother, hnone, hview⟩ := leaving_slots (a := a) hx hch
  rw [hactive, hmode] at hview
  have hcapC := acted_capC s.part ⟨other x, a, .finish⟩ []
  obtain ⟨⟨-, husvc, hulog, -⟩, -⟩ := s.part.acted_rest ⟨other x, a, .finish⟩ []
  obtain ⟨-, hline, hqmail, -⟩ := s.part.arrived_rest ⟨other x, a, .finish⟩ []
  have halone := Part.arrived_alone (p := s.part) (z := ⟨other x, a, .finish⟩) (ws := []) (x := x) (ch := ch)
    (n := (.full, true))
  generalize s.part.acted ⟨other x, a, .finish⟩ [] = u at *
  generalize hq : s.part.arrived ⟨other x, a, .finish⟩ [] = q at *
  have hshrunk : shrunkAt u.capC u.view = u.view :=
    shrunkAt_fits (by rw [bytes_alone hnone, hview]; exact (by decide : 2 ≤ 3).trans (hcapC ▸ hc))
  obtain ⟨hfull, hgnone⟩ := grownAt_half hnone hview (hcapC ▸ hc)
  have huntold := Part.untold_of_places (u := u) fun y => by
    rw [hshrunk]
    refine ⟨id, fun hy => ?_⟩
    rcases eq_or_other x y with rfl | rfl
    · rw [hview] at hy
      cases hy
    · rw [hgnone]
      rfl
  obtain ⟨hmail, -⟩ := u.capacityRule_silent huntold
  obtain ⟨-, hempty, hchan, -, hdemand⟩ := halone hux hother hch (by rw [Part.capacityRule_view, hshrunk]; exact hfull)
    (by rw [Part.capacityRule_view, hshrunk]; exact hgnone)
  refine ⟨q, hq ▸ channelSwitch_completes hrun hserv hsw nofun, hempty, hdemand, ?_, hline,
    (Part.log_of_mail (hqmail.trans hmail)).trans hulog, (Part.svc_of_mail (hqmail.trans hmail)).trans husvc⟩
  rw [hchan, ← hactive]

/-- A HELD port is CONNECTED again. -/
theorem otherLeaves_held (hactive : ch.active = false) (hc : 2 ≤ s.part.capC) :
    ∃ q : Part, Completes .channelSwitch s q ∧ (q.port x).state = .connected ∧ q.hold x = none ∧
      q.chan x = some { ch with mode := if 3 ≤ s.part.capC then .full else .half, active := true } ∧
      q.slot (other x) = .empty ∧ q.line = s.part.line ∧ q.log.next = s.part.log.next ∧
      (s.part.svc.outQ = [] → q.svc.outQ = [.signal x .capacityResume]) := by
  obtain ⟨hux, hother, hnone, hview⟩ := leaving_slots (a := a) hx hch
  rw [hactive] at hview
  have hcapC := acted_capC s.part ⟨other x, a, .finish⟩ []
  obtain ⟨⟨-, husvc, hulog, -⟩, -⟩ := s.part.acted_rest ⟨other x, a, .finish⟩ []
  obtain ⟨-, hline, hqmail, -, hkeeps, -⟩ := s.part.arrived_rest ⟨other x, a, .finish⟩ []
  have halone := Part.arrived_alone (p := s.part) (z := ⟨other x, a, .finish⟩) (ws := []) (x := x) (ch := ch)
    (n := (if 3 ≤ s.part.capC then .full else .half, true))
  generalize s.part.acted ⟨other x, a, .finish⟩ [] = u at *
  generalize hq : s.part.arrived ⟨other x, a, .finish⟩ [] = q at *
  have hzero : Place.bytes (u.view x) = 0 := by rw [hview]; cases ch.mode <;> rfl
  have hsum : Place.bytes (u.view .a) + Place.bytes (u.view .b) + 1 ≤ u.capC := by
    rw [bytes_alone hnone, hzero, hcapC]
    omega
  have hshrunk : shrunkAt u.capC u.view = u.view := shrunkAt_fits hsum
  obtain ⟨hback, hgnone⟩ := grownAt_held hnone hview (hcapC ▸ hc)
  have hruled (y : PortId) : u.capacityRule.view y = grownAt u.capC u.view y := by rw [Part.capacityRule_view, hshrunk]
  have hfits : u.overdrawn = false := Bool.eq_false_iff.2 fun h => absurd (u.overdrawn_iff.1 h) (Nat.not_lt.2 hsum)
  have hcomes : u.comes u.capacityRule x = true := by
    rw [Part.comes_iff, hruled, hback]
    refine ⟨⟨hzero, ?_⟩, hux⟩
    split <;> decide
  have hstays : u.comes u.capacityRule (other x) = false := by simp [Part.comes, hruled, hgnone, Place.bytes]
  have hmail := u.capacityRule_connectsOne hfits hcomes hstays
  have hsame : u.shrink = u := u.shrink_of_fits hfits
  have hgoes (y : PortId) : u.goes u.shrink y = false := by simp [Part.goes, hsame]
  have hports := u.capacityRule_spec.2.2.2.2 x
  rw [hgoes, if_neg Bool.false_ne_true, hsame, if_pos hcomes] at hports
  have hnext := u.capacityRule_log.1
  rw [hgoes, hgoes] at hnext
  obtain ⟨-, hempty, hchan, -, -⟩ := halone hux hother hch (by rw [hruled, hback, hcapC]) ((hruled _).trans hgnone)
  have hholdq : q.hold x = u.capacityRule.hold x := congrArg (fun k : Berth => k.2.2) (hkeeps x).1
  refine ⟨q, hq ▸ channelSwitch_completes hrun hserv hsw nofun, (hkeeps x).2.trans hports.1, hholdq.trans hports.2,
    hchan, hempty, hline, ?_, fun hidle => ?_⟩
  · rw [Part.log_of_mail hqmail, hnext, hulog]
    simp
  · have hsvc : q.svc = (offer (.signal x .capacityResume) u.mail).1 := congrArg Prod.fst (hqmail.trans hmail)
    rw [hsvc]
    exact offer_empty (by show u.svc.outQ = []; rw [husvc]; exact hidle)

end

/-! ### The earliest symbol, and the hold -/

section
variable {s : State} {x : PortId} {a : Symbol} {w : SwitchEvent} {ws : List ChanSwitch} (hrun : s.part.running = true)
include hrun

/-- The earliest switch symbol acts, and the rule as its tables have it follows (R138 to R140, R142). -/
theorem channelSwitch_applies (hserv : s.part.inService = true) (hsw : s.part.sched.switches = ⟨x, a, w⟩ :: ws)
    (hlater : ∀ z ∈ ws, z.at_ ≠ a) :
    ∃ q : Part, Completes .channelSwitch s q ∧ q.sched.switches = ws ∧ q.line = s.part.line ∧
      s.part.capacityApplied q s.part.line.state (s.part.acted ⟨x, a, w⟩ ws).view ∧
      ((q.mode .a ≠ s.part.mode .a ∨ q.mode .b ≠ s.part.mode .b) → s.part.link.notices.length < 8 →
        Notice.rateChange (32 * s.part.capP.getD 0) (32 * s.part.capU.getD 0) (q.mode .a) (q.mode .b) ∈ q.link.notices) := by
  obtain ⟨hsws, hline, -, hcarries⟩ := s.part.arrived_rest ⟨x, a, w⟩ ws
  obtain ⟨hleads, huline, -⟩ := s.part.acted_rest ⟨x, a, w⟩ ws
  have happlied := Part.capacityApplied_of hleads hcarries
  rw [huline] at happlied
  exact ⟨_, channelSwitch_completes hrun hserv hsw hlater, hsws, hline, happlied, fun hmode hroom =>
    s.part.arrived_told ⟨x, a, w⟩ ws (Part.capacityRule_posts _) (by omega) hmode⟩

/-- A hold that runs out is a release, with the SIGNAL ON_HOOK ahead of it (R141). -/
theorem holdExpires_releases (hserv : s.part.inService = true) (hheld : (s.part.port x).state = .held)
    (htimer : (s.part.hold x).isSome = true) :
    ∃ q : Part, Completes (.holdTimeout x) s q ∧ (q.port x).state = .parked ∧ q.chan x = none ∧ q.hold x = none ∧
      (q.port x).announced = false ∧ (q.port x).howler = some 60000 ∧ q.line = s.part.line ∧ q.load = s.part.load ∧
      q.band = s.part.band ∧ q.log.next = s.part.log.next := by
  have hus : (s.part.sayOnHook x).inService = true := by
    rw [Part.inService_of_ground (s.part.sayOnHook_ground x)]
    exact hserv
  have hport : ((s.part.sayOnHook x).port x) = { s.part.port x with announced := false } := Part.sayOnHook_port _ _
  have hst : ((s.part.sayOnHook x).port x).state = .held := by rw [hport]; exact hheld
  have hrelease : s.part.holdExpires x = (s.part.sayOnHook x).release x := (Part.release_eq hus (.inr (.inl hst))).symm
  have hparked := Part.released_port hus (.inr (.inl hst))
  obtain ⟨hchan, hsched, hground, -⟩ := Part.released_rest hus (.inr (.inl hst))
  have hhold : ((s.part.sayOnHook x).release x).hold x = none :=
    (Part.hold_of_sched hsched x).trans (Part.endChannel_hold _ x)
  have hgroundq : (s.part.holdExpires x).refreshHeard.ground = s.part.ground := by
    rw [Part.refreshHeard_ground, hrelease, hground, Part.sayOnHook_ground]
  have hqport : ((s.part.holdExpires x).refreshHeard.port x) =
      { (s.part.sayOnHook x).port x |>.parked with heard := (s.part.holdExpires x).heardOf x } := by
    rw [Part.refreshHeard_port, hrelease, hparked]
  refine ⟨(s.part.holdExpires x).refreshHeard,
    completes_of (o := execHoldTimeout x s) rfl rfl hrun (if_pos ⟨hheld, htimer⟩), by rw [hqport]; rfl, ?_, ?_,
    by rw [hqport, hport]; rfl, by rw [hqport]; rfl, Part.line_of_ground hgroundq, Part.load_of_ground hgroundq,
    Part.band_of_ground hgroundq, Part.logNext_of_ground hgroundq⟩
  · rw [Part.refreshHeard_chan, hrelease]
    exact hchan
  · rw [Part.refreshHeard_hold, hrelease]
    exact hhold

end

/-- Settles O43: a channel switch symbol gives its port its slot and hands the part to the capacity rule, whose places are
those of the tables; a port alone has its own row of them, and a hold that runs out is a release. -/
theorem channelSwitchesAndHoldsAct : Obligations.ChannelSwitchesAndHoldsAct := by
  unfold Obligations.ChannelSwitchesAndHoldsAct
  intro s x hrun hserv p
  refine ⟨fun a ch hsw hch hactive hmode ho => ⟨fun hc => ?_, fun hc => ?_, fun hc _ _ => ?_⟩,
    fun a m b ch hsw _ hx hch => ⟨fun hactive hmode hc => ?_, fun hactive _ hc => ?_⟩,
    fun a w ws hsw hlater => ?_, fun hheld htimer => ?_⟩
  · exact channelEnters_full hrun hserv hsw hch hactive hmode ho hc
  · exact channelEnters_half hrun hserv hsw hch hactive hmode ho hc
  · exact channelEnters_held hrun hserv hsw hch hactive hmode ho hc
  · exact otherLeaves_half hrun hserv hsw hx hch hactive hmode hc
  · exact otherLeaves_held hrun hserv hsw hx hch hactive hc
  · intro place
    have hplace : (p.acted ⟨x, a, w⟩ ws).view = place := by
      funext y
      rw [Part.acted_view]
      show (if y = x then w.place (p.chan y) else p.view y) = if y = x then _ else p.view y
      by_cases hy : y = x
      · rw [if_pos hy, if_pos hy, hy]
        cases w <;> rfl
      · rw [if_neg hy, if_neg hy]
    rw [← hplace]
    exact channelSwitch_applies hrun hserv hsw hlater
  · exact holdExpires_releases hrun hserv hheld htimer

end Sys2Proof.Machine
end

section
/-! SUPPORT. What a tone move says: its entries in a table, the body that fits, the switch symbol in range (R58, R68, R71). -/

namespace Sys2Proof.Machine

/-! ### The table with a move's entries -/

theorem applyMove_cons (t : List LoadEntry) (e : MoveEntry) (es : List MoveEntry) :
    applyMove t (e :: es) = applyMove (t.set e.tone e.entry) es := rfl

theorem applyMove_length (t : List LoadEntry) (es : List MoveEntry) : (applyMove t es).length = t.length := by
  induction es generalizing t with
  | nil => rfl
  | cons e es ih => rw [applyMove_cons, ih, List.length_set]

/-- A tone that no entry names keeps its own. -/
theorem applyMove_other (t : List LoadEntry) (es : List MoveEntry) (k : Nat) (h : ∀ e ∈ es, e.tone ≠ k) :
    (applyMove t es)[k]? = t[k]? := by
  induction es generalizing t with
  | nil => rfl
  | cons e es ih =>
    rw [applyMove_cons, ih _ fun x hx => h x (List.mem_cons_of_mem e hx), List.getElem?_set_ne (h e List.mem_cons_self)]

/-- A tone named once takes the entry that names it. -/
theorem applyMove_named (t : List LoadEntry) (es : List MoveEntry) (hes : (es.map (·.tone)).Nodup) {e : MoveEntry}
    (he : e ∈ es) (hlt : e.tone < t.length) : (applyMove t es)[e.tone]? = some e.entry := by
  induction es generalizing t with
  | nil => cases he
  | cons k ks ih =>
    rw [List.map_cons, List.nodup_cons] at hes
    obtain ⟨hnew, hks⟩ := hes
    rw [applyMove_cons]
    rcases List.mem_cons.1 he with rfl | hin
    · rw [applyMove_other _ _ _ fun x hx hk => hnew (List.mem_map.2 ⟨x, hx, hk⟩), List.getElem?_set_self hlt]
    · exact ih _ hks hin (by rwa [List.length_set])

theorem validateMove_duplicate {map : List Role} {maxBits : Nat} {t : List LoadEntry} {es : List MoveEntry}
    (h : ¬ (es.map (·.tone)).Nodup) : validateMove map maxBits t es = some (.duplicate, 0) := by
  unfold validateMove hasDuplicate
  rw [decide_eq_false h]
  rfl

theorem validateMove_nodup {map : List Role} {maxBits : Nat} {t : List LoadEntry} {es : List MoveEntry}
    (h : (es.map (·.tone)).Nodup) : validateMove map maxBits t es = validateTable map maxBits (applyMove t es) := by
  unfold validateMove hasDuplicate
  rw [decide_eq_true h]
  rfl

/-! ### The body and the switch symbol -/

theorem moveFits_iff (m : MoveMsg) : moveFits m = true ↔
    m.dir = .up ∧ 1 ≤ m.entries.length ∧ m.entries.length ≤ 3 ∧ ∀ e ∈ m.entries, e.tone < 448 := by
  unfold moveFits
  rw [Bool.and_eq_true, Bool.and_eq_true, Bool.and_eq_true, beq_iff_eq, decide_eq_true_iff, decide_eq_true_iff,
    List.all_eq_true, and_assoc, and_assoc]
  simp only [decide_eq_true_eq, numTones]

theorem inMoveRange_iff (a now : Symbol) : inMoveRange a now = true ↔ 40 ≤ (a - now).toNat ∧ (a - now).toNat ≤ 8000 := by
  unfold inMoveRange ahead
  by_cases hlater : later a now = true
  · rw [if_pos hlater, Bool.and_eq_true, decide_eq_true_iff, decide_eq_true_iff]
  · rw [if_neg hlater]
    refine ⟨fun h => absurd h Bool.false_ne_true, fun ⟨hlow, hhigh⟩ => absurd ?_ hlater⟩
    unfold later
    rw [Bool.and_eq_true, decide_eq_true_iff, decide_eq_true_iff]
    omega

end Sys2Proof.Machine
end

section
/-! SUPPORT. What a tone move's end leads to: the reshape that waited for it or that MOVE_FAILED starts (R69, R70, R73, R75,
R76), and what settles behind it. -/

namespace Sys2Proof.Machine

/-! ### Messages that are no SIGNALs -/

section
variable {m k : Msg} {l : Service × Log} (hm : m.isSignal = false)
include hm

/-- A message that is no SIGNAL displaces nothing (R21). -/
theorem offer_plain_mem (h : k ∈ l.1.outQ) : k ∈ (offer m l).1.outQ := by
  unfold offer
  split
  · exact mem_insertMsg.2 (.inr h)
  · cases m with
    | signal => cases hm
    | _ => exact h

/-- It joins a queue with room at its end (R21). -/
theorem offer_plain_room (h : l.1.outQ.length < 16) : (offer m l).1.outQ = l.1.outQ ++ [m] := by
  rw [offer_room h]
  show insertMsg m l.1.outQ = _
  unfold insertMsg
  rw [if_neg (by rw [hm]; decide)]

end

/-! ### The reshape that starts -/

section
variable {y : Part} {set : List Reason} (h : payload y.reshapeTableOf ≠ 0)
include h

/-- The messages of a reshape of the part's own, in their order (R23, R75, R76). -/
theorem Part.startReshape_mail :
    (y.startReshape true set).mail =
      offer (.downTable y.line.nextTable 1 (((y.reshapeTableOf.map entryToByte).drop 224).take 224))
        (offer (.downTable y.line.nextTable 0 ((y.reshapeTableOf.map entryToByte).take 224))
          (offer (.reshapeOffer set y.supply.cutback) y.mail)) := by
  have hframe := Part.offered_frame true set y
  have hmail : (y.offered true set).mail = offer (.reshapeOffer set y.supply.cutback) y.mail :=
    (y.reshapeStarted set).enqueue_mail (.reshapeOffer set y.supply.cutback)
  rw [Part.startReshape_eq]
  generalize hx : y.offered true set = x at hframe hmail
  have htable : x.reshapeTableOf = y.reshapeTableOf := by rw [hframe]; rfl
  have hnumber : (x.onOffer y.reshapeTableOf).line.nextTable = y.line.nextTable := by rw [hframe]; rfl
  have hoffer : (x.onOffer y.reshapeTableOf).mail = offer (.reshapeOffer set y.supply.cutback) y.mail := hmail
  rw [Part.computeReshape_offers (by rw [htable]; exact h), htable]
  generalize x.onOffer y.reshapeTableOf = z at hnumber hoffer
  unfold Part.sendTable
  dsimp only
  rw [Part.enqueue_mail, Part.enqueue_mail, ← hnumber, ← hoffer]
  rfl

/-- What the queue holds as the reshape starts. -/
theorem Part.startReshape_outQ :
    (∀ k ∈ y.svc.outQ, k ∈ (y.startReshape true set).svc.outQ) ∧
      (y.svc.outQ.length < 16 → .reshapeOffer set y.supply.cutback ∈ (y.startReshape true set).svc.outQ) ∧
      (y.svc.outQ.length < 14 → (y.startReshape true set).svc.outQ = y.svc.outQ ++
        [.reshapeOffer set y.supply.cutback, .downTable y.line.nextTable 0 ((y.reshapeTableOf.map entryToByte).take 224),
         .downTable y.line.nextTable 1 (((y.reshapeTableOf.map entryToByte).drop 224).take 224)]) := by
  have hsvc := congrArg (fun l : Service × Log => l.1.outQ) (Part.startReshape_mail (set := set) h)
  rw [show (y.startReshape true set).svc.outQ = _ from hsvc]
  refine ⟨fun k hk => ?_, fun hroom => ?_, fun hroom => ?_⟩
  · exact offer_plain_mem rfl (offer_plain_mem rfl (offer_plain_mem rfl hk))
  · refine offer_plain_mem rfl (offer_plain_mem rfl ?_)
    rw [offer_plain_room rfl hroom]
    exact List.mem_append_right _ (List.mem_singleton_self _)
  · have hone := offer_plain_room (m := .reshapeOffer set y.supply.cutback) (l := y.mail) rfl
      (show y.svc.outQ.length < 16 by omega)
    have hlen : y.mail.1.outQ.length < 14 := hroom
    rw [offer_plain_room rfl, offer_plain_room rfl, hone]
    · simp [Part.mail]
    · rw [hone]
      simp only [List.length_append, List.length_singleton]
      omega
    · rw [offer_plain_room rfl, hone]
      · simp only [List.length_append, List.length_singleton]
        omega
      · rw [hone]
        simp only [List.length_append, List.length_singleton]
        omega

/-- The line as the reshape starts, and what else it touches (R73, R75, R76). -/
theorem Part.startReshape_done :
    let z := y.startReshape true set
    z.line = { y.line with
        state := .reshape, reasons := [], reshape := some ⟨set, y.line.symbol + 8000, false⟩, segs := none
        upValid := false, switch := none, downOffered := some y.reshapeTableOf, nextTable := y.line.nextTable + 1 } ∧
      z.band = { y.band with offeredMap := some y.band.configured } ∧
      z.load = { y.load with offeredProfile := some y.load.setProfile } ∧ z.monitor = y.monitor ∧ z.supply = y.supply ∧
      z.link = y.link.post (.lineState .reshape .carrying y.line.attempts none set) ∧
      (∀ x, z.berth x = y.berth x ∧ z.port x = y.port x) ∧ z.log = y.log ∧ z.diag = y.diag := by
  intro z
  have hz := Part.startReshape_offers true set h
  refine ⟨?_, ?_, ?_, ?_, ?_, ?_, fun x => ⟨?_, ?_⟩, ?_, ?_⟩
  · have he := congrArg Part.line hz
    exact he
  · have he := congrArg Part.band hz
    exact he
  · have he := congrArg Part.load hz
    exact he
  · have he := congrArg Part.monitor hz
    exact he
  · have he := congrArg Part.supply hz
    exact he
  · have he := congrArg Part.link hz
    exact he
  · have he := congrArg (fun u : Part => u.berth x) hz
    exact he
  · have he := congrArg (fun u : Part => u.port x) hz
    cases x <;> exact he
  · have he := congrArg Part.log hz
    exact he
  · have he := congrArg Part.diag hz
    exact he

end

/-! ### Pending reasons -/

theorem Part.startPending_idle {y : Part} (h : y.line.reasons = [] ∨ y.supply.state = .cutoff) : y.startPending = y := by
  unfold Part.startPending
  refine if_neg fun hc => ?_
  rw [Bool.and_eq_true, Part.canReshape_iff] at hc
  obtain ⟨⟨-, -, hcut⟩, hne⟩ := hc
  rcases h with h | h
  · rw [h] at hne
    cases hne
  · exact hcut h

theorem Part.startPending_starts {y : Part} (hcan : y.canReshape = true) (hne : y.line.reasons ≠ []) :
    y.startPending = y.startReshape true y.line.reasons := by
  unfold Part.startPending
  refine if_pos ?_
  rw [hcan, Bool.true_and, Bool.not_eq_true']
  exact List.isEmpty_eq_false_iff.2 hne

/-! ### The move resolved -/

/-- What the end of a move leaves of the part, its tables and its telephones aside. -/
def Part.resolved (p y : Part) : Prop :=
  y.line = { p.line with
      move := none, downInForce := y.line.downInForce, upInForce := y.line.upInForce, lateMove := y.line.lateMove } ∧
    (y.band = p.band ∧ y.load = p.load) ∧ (y.supply = p.supply ∧ y.portA.hook = p.portA.hook ∧ y.loopTesting = p.loopTesting) ∧
    (p.svc.outQ.length < 8 → y.svc.outQ.length < 16) ∧ y.link.notices.length ≤ p.link.notices.length + 7

/-- The reshape that waited for the move has started, with the pending reasons (R69, R73, R75, R76). -/
def Part.reshapesFrom (p q : Part) (offered : List LoadEntry) : Prop :=
  q.line.state = .reshape ∧ q.line.move = none ∧ q.line.reasons = [] ∧
    q.line.reshape = some ⟨p.line.reasons, p.line.symbol + 8000, false⟩ ∧ q.line.downOffered = some offered ∧
    q.line.nextTable = p.line.nextTable + 1 ∧
    q.band.offeredMap = some (perTone (resolve p.band.overlay p.band.windows)) ∧
    q.band.mapInForce = p.band.mapInForce ∧ q.load.offeredProfile = some p.load.setProfile ∧
    (p.svc.outQ.length < 8 → .reshapeOffer p.line.reasons p.supply.cutback ∈ q.svc.outQ) ∧
    (p.link.notices.length < 8 → .lineState .reshape .carrying p.line.attempts none p.line.reasons ∈ q.link.notices)

/-- The table that a reshape offers (R76). -/
def Part.tableFor (p : Part) (down : Option (List LoadEntry)) : List LoadEntry :=
  computeDown (perTone (resolve p.band.overlay p.band.windows)) p.load.setProfile p.load.averages (down.getD [])

/-- What follows keeps the notices but for STATS, and adds no RATE_CHANGE. -/
def Part.followedBy (y q : Part) : Prop :=
  y.carriesOn q ∧ y.Notices q ∧ (∀ n : Notice, n.isRate = true → n ∈ q.link.notices → n ∈ y.link.notices) ∧
    q.monitor = y.monitor ∧ q.line.downInForce = y.line.downInForce ∧ q.line.upInForce = y.line.upInForce ∧
    q.line.lateMove = y.line.lateMove

section
variable {p y : Part} (hres : p.resolved y)
include hres

theorem Part.resolved.fields : y.line.state = p.line.state ∧ y.line.move = none ∧ y.line.reasons = p.line.reasons ∧
    y.line.symbol = p.line.symbol ∧ y.line.nextTable = p.line.nextTable ∧ y.line.attempts = p.line.attempts ∧
    y.line.request = p.line.request := by
  obtain ⟨hline, -⟩ := hres
  rw [hline]
  exact ⟨rfl, rfl, rfl, rfl, rfl, rfl, rfl⟩

theorem Part.resolved.table : y.reshapeTableOf = p.tableFor y.line.downInForce := by
  obtain ⟨-, ⟨hband, hload⟩, -⟩ := hres
  unfold Part.reshapeTableOf Part.tableFor
  rw [hband, hload]
  rfl

/-- Behind a move in service nothing settles but what the ports hear. -/
theorem Part.resolved.settle {z : Part} (hrelay : p.relayTarget = p.supply.relay)
    (hline : z.line.request = y.line.request) (hserv : z.line.state = .carrying ∨ z.line.state = .reshape)
    (hrest : z.supply = y.supply ∧ z.portA.hook = y.portA.hook ∧ z.loopTesting = y.loopTesting) :
    z.settle = z.refreshHeard := by
  obtain ⟨-, -, -, -, -, -, hrequest⟩ := hres.fields
  obtain ⟨-, -, ⟨hsupply, hhook, hloop⟩, -⟩ := hres
  obtain ⟨zsupply, zhook, zloop⟩ := hrest
  have hmay : z.mayStart = false := Part.mayStart_inService (by unfold Part.inService; rcases hserv with h | h <;> rw [h] <;> rfl)
  rw [Part.settle_waiting hmay, Part.settleRelay_same]
  unfold Part.relayTarget at hrelay ⊢
  rw [zsupply, zhook, zloop, hline, hsupply, hhook, hloop, hrequest]
  exact hrelay

/-- Nothing waits, or the supply is in CUTOFF: the line goes on. -/
theorem Part.resolved.idles (h : p.line.reasons = [] ∨ p.supply.state = .cutoff) : y.startPending = y := by
  obtain ⟨-, -, hreasons, -⟩ := hres.fields
  refine Part.startPending_idle ?_
  rw [hreasons, hres.2.2.1.1]
  exact h

end

theorem Part.followedBy_refresh (y : Part) : y.followedBy y.refreshHeard :=
  ⟨y.refreshHeard_carriesOn, (Part.Notices_refl y).refreshHeard, fun n _ hn => by rwa [Part.refreshHeard_link] at hn,
    by rw [Part.refreshHeard_monitor], by rw [Part.refreshHeard_line], by rw [Part.refreshHeard_line],
    by rw [Part.refreshHeard_line]⟩

theorem Part.followedBy.trans {y z q : Part} (h : y.followedBy z) (k : z.followedBy q) : y.followedBy q := by
  obtain ⟨hc, hn, hr, hm, hd, hu, hl⟩ := h
  obtain ⟨kc, kn, kr, km, kd, ku, kl⟩ := k
  exact ⟨hc.trans kc, hn.trans kn, fun n hx hq => hr n hx (kr n hx hq), km.trans hm, kd.trans hd, ku.trans hu, kl.trans hl⟩

/-- The start of a reshape leaves the voice arrangement, the notices and the tables in force. -/
theorem Part.followedBy_startReshape {y : Part} {set : List Reason} (h : payload y.reshapeTableOf ≠ 0) :
    y.followedBy (y.startReshape true set) := by
  obtain ⟨hline, -, -, hmonitor, -, hlink, hberth, hlog, -⟩ := Part.startReshape_done (set := set) h
  obtain ⟨hmem, -⟩ := Part.startReshape_outQ (set := set) h
  refine ⟨⟨⟨?_, ?_⟩, fun x => ⟨(hberth x).1, by rw [(hberth x).2]⟩, fun x k hk => hmem _ hk, fun r hr => by rwa [hlog]⟩,
    fun n hn hy => ?_, fun n hn hq => ?_, hmonitor, by rw [hline], by rw [hline], by rw [hline]⟩
  · rw [Part.capU, hline]
    rfl
  · rw [Part.capP, hline]
    rfl
  · rw [hlink]
    exact Link.mem_post_of_mem hy hn
  · rw [hlink] at hq
    exact Link.rate_of_post rfl hn hq

/-- The reshape that waited starts as the move resolves (R69, R73). -/
theorem Part.resolved.restarts {p y : Part} (hres : p.resolved y) (hstate : p.line.state = .carrying)
    (hcut : p.supply.state ≠ .cutoff) (hne : p.line.reasons ≠ []) (hpay : payload (p.tableFor y.line.downInForce) ≠ 0)
    (hrelay : p.relayTarget = p.supply.relay) :
    let q := y.startPending.settle
    p.reshapesFrom q (p.tableFor y.line.downInForce) ∧ y.followedBy q ∧
      (p.svc.outQ = y.svc.outQ → p.svc.outQ.length < 14 → q.svc.outQ = p.svc.outQ ++
        [.reshapeOffer p.line.reasons p.supply.cutback,
         .downTable p.line.nextTable 0 (((p.tableFor y.line.downInForce).map entryToByte).take 224),
         .downTable p.line.nextTable 1 ((((p.tableFor y.line.downInForce).map entryToByte).drop 224).take 224)]) := by
  obtain ⟨hystate, hmove, hreasons, hsymbol, hnext, hattempts, -⟩ := hres.fields
  have htable := hres.table
  obtain ⟨-, ⟨hband, hload⟩, ⟨hsupply, hhook, hloop⟩, hroom, hnotices⟩ := id hres
  have hcan : y.canReshape = true := y.canReshape_iff.2 ⟨hystate.trans hstate, hmove, by rw [hsupply]; exact hcut⟩
  have hypay : payload y.reshapeTableOf ≠ 0 := by rw [htable]; exact hpay
  have hstarts : y.startPending = y.startReshape true p.line.reasons := by
    rw [Part.startPending_starts hcan (by rw [hreasons]; exact hne), hreasons]
  obtain ⟨zline, zband, zload, -, zsupply, zlink, zberth, -, zdiag⟩ := Part.startReshape_done (set := p.line.reasons) hypay
  obtain ⟨-, hoffer, hqueue⟩ := Part.startReshape_outQ (set := p.line.reasons) hypay
  have hfollows := Part.followedBy_startReshape (set := p.line.reasons) hypay
  intro q
  have hq : q = (y.startReshape true p.line.reasons).refreshHeard := by
    show y.startPending.settle = _
    rw [hstarts]
    refine hres.settle hrelay (by rw [zline]) (.inr (by rw [zline])) ⟨zsupply, ?_, ?_⟩
    · have hA := congrArg Port.hook (zberth .a).2
      exact hA
    · unfold Part.loopTesting
      rw [zdiag]
  rw [hq]
  refine ⟨⟨?_, ?_, ?_, ?_, ?_, ?_, ?_, ?_, ?_, fun hfew => ?_, fun hfew => ?_⟩, hfollows.trans (Part.followedBy_refresh _),
    fun hsame hfew => ?_⟩
  · rw [Part.refreshHeard_line, zline]
  · rw [Part.refreshHeard_line, zline]
    exact hmove
  · rw [Part.refreshHeard_line, zline]
  · rw [Part.refreshHeard_line, zline, hsymbol]
  · rw [Part.refreshHeard_line, zline, htable]
  · rw [Part.refreshHeard_line, zline, hnext]
  · rw [Part.refreshHeard_band, zband, hband]
    rfl
  · rw [Part.refreshHeard_band, zband, hband]
  · rw [Part.refreshHeard_load, zload, hload]
  · rw [Part.refreshHeard_svc, ← hsupply]
    exact hoffer (hroom hfew)
  · rw [Part.refreshHeard_link, zlink, hattempts]
    exact Link.mem_post _ (by omega)
  · rw [Part.refreshHeard_svc, hqueue (by rw [← hsame]; exact hfew), htable, hnext, hsupply, hsame]

end Sys2Proof.Machine
end

section
/-! SUPPORT. The switch symbol of a tone move: the capacity rule, its RATE_CHANGE, and the reshape that waited (R69, R71, R139,
R140, R142). -/

namespace Sys2Proof.Machine

/-! ### The queue behind the rule -/

section
variable (s : Part)

theorem Part.enqueue_length {m : Msg} (h : s.svc.outQ.length < 16) :
    (s.enqueue m).svc.outQ.length = s.svc.outQ.length + 1 := by
  rw [show (s.enqueue m).svc = (offer m s.mail).1 from congrArg Prod.fst (s.enqueue_mail m)]
  exact (offer_room_length h).1

theorem Part.tryOffer_length : s.tryOffer.svc.outQ.length ≤ s.svc.outQ.length + 1 := by
  unfold Part.tryOffer
  split
  · rename_i htry
    have hroom : s.svc.outQ.length < 16 := by simp only [Bool.and_eq_true, decide_eq_true_eq] at htry; exact htry.2
    split
    · exact Nat.le_succ _
    · exact Nat.le_of_eq (Part.enqueue_length _ hroom)
  · exact Nat.le_succ _

theorem Part.recordIf_length (c : Bool) (k : FaultKind) (src : FaultSource) (ds : List Int) :
    (s.recordIf c k src ds).svc.outQ.length ≤ s.svc.outQ.length + 1 := by
  cases c
  · exact Nat.le_succ _
  · unfold Part.recordIf Part.makeRecord Part.makeRecordAt
    rw [if_pos rfl]
    dsimp only
    split
    · exact Part.tryOffer_length _
    · exact Nat.le_succ _

/-- The rule joins at most two SIGNALs and two reports to the queue (R139, R140, R152). -/
theorem Part.capacityRule_length (h : s.svc.outQ.length < 12) : s.capacityRule.svc.outQ.length ≤ s.svc.outQ.length + 4 := by
  have htwo {c d : Bool} {m k : Msg} : (offerIf c m (offerIf d k s.mail)).1.outQ.length ≤ s.svc.outQ.length + 2 := by
    obtain ⟨hone, -⟩ := offerIf_room (c := d) (m := k) (l := s.mail) (show s.svc.outQ.length < 16 by omega)
    have hs : s.mail.1.outQ.length = s.svc.outQ.length := rfl
    obtain ⟨htwo, -⟩ := offerIf_room (c := c) (m := m) (l := offerIf d k s.mail) (by omega)
    omega
  cases hover : s.overdrawn with
  | true =>
    obtain ⟨-, -, -, hmail, -⟩ := s.shrink_spec
    have hshrink : s.shrink.svc.outQ.length ≤ s.svc.outQ.length + 2 := by
      rw [show s.shrink.svc.outQ = _ from congrArg (fun l : Service × Log => l.1.outQ) hmail]
      exact htwo
    have hb : (s.noted .b s.shrink).svc.outQ.length ≤ s.shrink.svc.outQ.length + 1 := Part.recordIf_length _ _ _ _ _
    have ha : (s.noted .a (s.noted .b s.shrink)).svc.outQ.length ≤ (s.noted .b s.shrink).svc.outQ.length + 1 :=
      Part.recordIf_length _ _ _ _ _
    rw [s.capacityRule_overdrawn hover]
    omega
  | false =>
    obtain ⟨-, -, -, hmail, -⟩ := s.growth_spec
    rw [s.capacityRule_fits hover, show s.growth.svc.outQ = _ from congrArg (fun l : Service × Log => l.1.outQ) hmail]
    exact htwo.trans (by omega)

/-! ### The rule at a move's switch symbol -/

/-- The rule with its RATE_CHANGE: wherever U changes, and else where a mode does (R69, R71, R142). -/
def Part.ruled (c : Bool) : Part := if c then s.capacityRule.postRates else s.capacityRuleQuiet

theorem Part.ruled_rest (c : Bool) :
    (s.ruled c).setting = s.setting ∧ s.capacityRule.carriesOn (s.ruled c) ∧
      (s.svc.outQ.length < 12 → (s.ruled c).svc.outQ.length ≤ s.svc.outQ.length + 4) ∧
      (s.ruled c).link.notices.length ≤ s.link.notices.length + 7 := by
  obtain ⟨-, -, hsetting, -⟩ := s.capacityRule_spec
  have hfew := s.capacityRule_posts.1
  have hposted := s.capacityRule.post_notices_length s.capacityRule.rateNotice
  rw [← Part.postRates_eq] at hposted
  have hloud : s.capacityRule.postRates.setting = s.setting := by
    rw [Part.setting, Part.backdrop, Part.postRates_ground]
    exact hsetting
  have hquiet := s.capacityRuleQuiet_rest
  unfold Part.ruled
  cases c with
  | true => exact ⟨hloud, Part.postRates_carriesOn _, s.capacityRule_length, by rw [if_pos rfl]; omega⟩
  | false =>
    rw [if_neg Bool.false_ne_true]
    refine ⟨hquiet.1, s.capacityRuleQuiet_carriesOn, ?_, ?_⟩
    · rw [Part.svc_of_mail hquiet.2]
      exact s.capacityRule_length
    · rw [Part.capacityRuleQuiet_eq]
      split <;> omega

end

/-- RATE_CHANGE as a move's end has it: posted where U or a mode changes, and not else (R69, R71, R142). -/
def Part.tellsRates (p q : Part) (changed : Bool) : Prop :=
  (changed = true ∨ q.mode .a ≠ p.mode .a ∨ q.mode .b ≠ p.mode .b → p.link.notices.length < 8 →
    .rateChange (32 * q.capP.getD 0) (32 * q.capU.getD 0) (q.mode .a) (q.mode .b) ∈ q.link.notices) ∧
  (changed = false → q.mode .a = p.mode .a → q.mode .b = p.mode .b → ∀ d u a b,
    .rateChange d u a b ∈ q.link.notices → .rateChange d u a b ∈ p.link.notices)

section
variable {p s q : Part} {c : Bool}

theorem Part.ruled_tells (hleads : p.leadsTo s) (hlink : s.link = p.link) (hq : (s.ruled c).followedBy q) :
    p.tellsRates q c := by
  obtain ⟨-, hruled, -⟩ := s.ruled_rest c
  obtain ⟨hcarries, hnotices, hrates, -⟩ := hq
  obtain ⟨⟨hU, hP⟩, hkeeps, -⟩ := hruled.trans hcarries
  have hpmode (y : PortId) : s.mode y = p.mode y := congrArg (Option.map Channel.mode) (hleads.1 y).1
  have hqmode (y : PortId) : q.mode y = s.capacityRule.mode y := congrArg (fun k : Berth => k.2.1.map Channel.mode) (hkeeps y).1
  have hposts := s.capacityRule_posts
  have hnotice : s.capacityRule.rateNotice =
      .rateChange (32 * q.capP.getD 0) (32 * q.capU.getD 0) (q.mode .a) (q.mode .b) := by
    rw [Part.rateNotice, hU, hP, hqmode, hqmode]
  refine ⟨fun hchange hroom => ?_, fun hno hA hB d u a b hmem => ?_⟩
  · rw [← hnotice]
    refine hnotices _ rfl ?_
    cases c with
    | true =>
      have hlen := hposts.1
      rw [hlink] at hlen
      unfold Part.ruled
      rw [if_pos rfl, Part.postRates_eq]
      exact Link.mem_post _ (by omega)
    | false =>
      refine s.capacityRuleQuiet_told hposts (by rw [hlink]; omega) ?_
      rw [hqmode, hqmode, ← hpmode, ← hpmode] at hchange
      exact hchange.resolve_left Bool.false_ne_true
  · have hsame : s.ruled c = s.capacityRule := by
      unfold Part.ruled
      rw [hno, if_neg Bool.false_ne_true, Part.capacityRuleQuiet_eq, if_pos]
      rw [← hqmode, ← hqmode, hpmode, hpmode]
      exact ⟨hA, hB⟩
    rw [← hlink]
    rw [hsame] at hrates
    exact hposts.2 _ rfl (hrates _ rfl hmem)

/-- The part behind the rule is one with its move resolved. -/
theorem Part.resolved.rules (hres : p.resolved s) (hsvc : s.svc = p.svc) (hlink : s.link = p.link) :
    p.resolved (s.ruled c) ∧ (s.ruled c).line = s.line ∧ (s.ruled c).band = s.band ∧ (s.ruled c).load = s.load ∧
      (s.ruled c).monitor = s.monitor := by
  obtain ⟨hset, -, hlength, hfew⟩ := s.ruled_rest c
  obtain ⟨hline, ⟨hband, hload⟩, ⟨hsupply, hhook, hloop⟩, -, -⟩ := hres
  have hback {α : Type} (f : Part × (Port × Port) × Bool × List ChanSwitch → α) : f (s.ruled c).setting = f s.setting :=
    congrArg f hset
  have rline : (s.ruled c).line = s.line := hback fun z => z.1.line
  have rband : (s.ruled c).band = s.band := hback fun z => z.1.band
  have rload : (s.ruled c).load = s.load := hback fun z => z.1.load
  have rsupply : (s.ruled c).supply = s.supply := hback fun z => z.1.supply
  have rhook : (s.ruled c).portA.hook = s.portA.hook := hback fun z => z.2.1.1.hook
  have rloop : (s.ruled c).loopTesting = s.loopTesting := hback fun z => z.2.2.1
  refine ⟨⟨?_, ⟨rband.trans hband, rload.trans hload⟩, ⟨rsupply.trans hsupply, rhook.trans hhook, rloop.trans hloop⟩,
    fun h => ?_, by rw [← hlink]; exact hfew⟩, rline, rband, rload, hback fun z => z.1.monitor⟩
  · rw [rline]
    exact hline
  · rw [hsvc] at hlength
    have := hlength (by omega)
    omega

/-- The switch symbol of a move, with nothing waiting for it (R69, R71). -/
theorem Part.resolved.switches (hres : p.resolved s) (hleads : p.leadsTo s) (hlink : s.link = p.link)
    (hview : s.view = p.view) (hstate : p.line.state = .carrying) (hrelay : p.relayTarget = p.supply.relay)
    (h : p.line.reasons = [] ∨ p.supply.state = .cutoff) :
    let q := (s.ruled c).startPending.settle
    q.line = s.line ∧ q.band = p.band ∧ q.load = p.load ∧ q.monitor = s.monitor ∧ p.tellsRates q c ∧
      p.capacityApplied q .carrying p.view := by
  intro q
  obtain ⟨hrules, rline, rband, rload, rmonitor⟩ := hres.rules (c := c) hleads.2.1 hlink
  have hsline : s.line.state = .carrying := hres.fields.1.trans hstate
  have hq : q = (s.ruled c).refreshHeard := by
    show (s.ruled c).startPending.settle = _
    rw [hrules.idles h]
    exact hrules.settle hrelay rfl (.inl (by rw [rline]; exact hsline)) ⟨rfl, rfl, rfl⟩
  have hfollows := Part.followedBy_refresh (s.ruled c)
  have happlied := Part.capacityApplied_of hleads ((s.ruled_rest c).2.1.trans hfollows.1)
  rw [hview, hsline] at happlied
  rw [hq]
  exact ⟨(Part.refreshHeard_line _).trans rline, (Part.refreshHeard_band _).trans (rband.trans hres.2.1.1),
    (Part.refreshHeard_load _).trans (rload.trans hres.2.1.2), (Part.refreshHeard_monitor _).trans rmonitor,
    Part.ruled_tells hleads hlink hfollows, happlied⟩

/-- The switch symbol of a move, with a reshape waiting for it (R69, R71, R73). -/
theorem Part.resolved.switchesOn (hres : p.resolved s) (hleads : p.leadsTo s) (hlink : s.link = p.link)
    (hview : s.view = p.view) (hstate : p.line.state = .carrying) (hrelay : p.relayTarget = p.supply.relay)
    (hne : p.line.reasons ≠ []) (hcut : p.supply.state ≠ .cutoff) (hpay : payload (p.tableFor s.line.downInForce) ≠ 0) :
    let q := (s.ruled c).startPending.settle
    p.reshapesFrom q (p.tableFor s.line.downInForce) ∧ q.line.downInForce = s.line.downInForce ∧
      q.line.upInForce = s.line.upInForce ∧ q.monitor = s.monitor ∧ p.tellsRates q c ∧
      p.capacityApplied q .carrying p.view := by
  intro q
  obtain ⟨hrules, rline, -, -, rmonitor⟩ := hres.rules (c := c) hleads.2.1 hlink
  obtain ⟨hreshapes, hfollows, -⟩ := hrules.restarts hstate hcut hne (by rw [rline]; exact hpay) hrelay
  have happlied := Part.capacityApplied_of hleads ((s.ruled_rest c).2.1.trans hfollows.1)
  rw [hview, hres.fields.1.trans hstate] at happlied
  obtain ⟨-, -, -, hmonitor, hdown, hup, -⟩ := id hfollows
  rw [rline] at hreshapes hdown hup
  exact ⟨hreshapes, hdown, hup, hmonitor.trans rmonitor, Part.ruled_tells hleads hlink hfollows, happlied⟩

end

end Sys2Proof.Machine
end

section
/-! SUPPORT and PROOF. The answers to tone moves and their switch symbols (O41). -/

namespace Sys2Proof.Machine

/-! ### A move given up -/

/-- The part with its move given up, the number kept for a late answer and the failures counted (R68, R70). -/
def Part.givenUp (p : Part) (late : Option Byte) (k : Nat) : Part :=
  { p with
    line := { p.line with move := none, lateMove := late }
    monitor := { p.monitor with moveFailures := k } }

section
variable {p y : Part} {n : Byte} {es : List MoveEntry} {dl : Symbol}

theorem Part.givenUp_resolved (late : Option Byte) (k : Nat) : p.resolved (p.givenUp late k) :=
  ⟨rfl, ⟨rfl, rfl⟩, ⟨rfl, rfl, rfl⟩, fun h => Nat.lt_trans h (by decide), Nat.le_add_right _ _⟩

/-- A failure below the third gives the move up (R70). -/
theorem Part.moveFails_few (h : p.monitor.moveFailures < 2) :
    p.moveFails false = (p.givenUp p.line.lateMove (p.monitor.moveFailures + 1)).startPending := by
  unfold Part.moveFails
  dsimp only
  rw [decide_eq_false (by omega)]
  rfl

/-- The third failure, and every one where the ends disagree, raises MOVE_FAILED (R70). -/
theorem Part.moveFails_raises {b : Bool} (h : 2 ≤ p.monitor.moveFailures ∨ b = true) :
    p.moveFails b = (p.givenUp p.line.lateMove
      (if 2 ≤ p.monitor.moveFailures then 0 else p.monitor.moveFailures + 1)).raise .moveFailed := by
  unfold Part.moveFails
  dsimp only
  have hraise : (decide (3 ≤ p.monitor.moveFailures + 1) || b) = true := by
    rw [Bool.or_eq_true, decide_eq_true_iff]
    exact h.imp (by omega) id
  rw [if_pos hraise]
  by_cases hthird : 2 ≤ p.monitor.moveFailures
  · rw [decide_eq_true (by omega), if_pos hthird]
    rfl
  · rw [decide_eq_false (by omega), if_neg hthird]
    rfl

theorem Part.moveRefuse_own (hmove : p.line.move = some (.own n es dl none)) : p.moveRefuse n = p.moveFails false := by
  unfold Part.moveRefuse
  rw [hmove]
  exact if_pos rfl

/-- The timer's expiry fails the move as a refusal does, and keeps its number (R68, R70). -/
theorem Part.moveTimeout_own (hmove : p.line.move = some (.own n es dl none)) :
    (p.monitor.moveFailures < 2 →
      p.moveTimeout = (p.givenUp (some n) (p.monitor.moveFailures + 1)).startPending) ∧
      (2 ≤ p.monitor.moveFailures → p.moveTimeout = (p.givenUp (some n) 0).raise .moveFailed) := by
  have hfails : p.moveTimeout = Part.moveFails false { p with line := { p.line with lateMove := some n } } := by
    unfold Part.moveTimeout
    rw [hmove]
  rw [hfails]
  refine ⟨fun h => Part.moveFails_few (p := { p with line := { p.line with lateMove := some n } }) h, fun h => ?_⟩
  have hraises := Part.moveFails_raises (p := { p with line := { p.line with lateMove := some n } }) (b := false) (.inl h)
  rw [if_pos h] at hraises
  exact hraises

/-! ### MOVE_FAILED raised -/

/-- MOVE_FAILED raised as the part's move ends (R70, R72, R73). -/
def Part.raisesFailed (p q : Part) : Prop :=
  q.line.move = none ∧ q.line.downInForce = p.line.downInForce ∧ q.line.upInForce = p.line.upInForce ∧
    (p.supply.state = .cutoff → q.line.state = .carrying ∧ q.svc = p.svc ∧
      ∀ r, r ∈ q.line.reasons ↔ r ∈ p.line.reasons ∨ r = .moveFailed) ∧
    (p.supply.state ≠ .cutoff → q.line.state = .reshape ∧ q.line.reasons = [] ∧
      ∃ x, q.line.reshape = some x ∧ x.deadline = p.line.symbol + 8000 ∧ x.upTaken = false ∧
        ∀ r, r ∈ x.reasons ↔ r ∈ p.line.reasons ∨ r = .moveFailed)

theorem Part.resolved.raises (hres : p.resolved y) (hsvc : y.svc = p.svc)
    (hdown : y.line.downInForce = p.line.downInForce) (hup : y.line.upInForce = p.line.upInForce)
    (hstate : p.line.state = .carrying) (hrelay : p.relayTarget = p.supply.relay)
    (hpay : p.supply.state = .cutoff ∨ payload (p.tableFor p.line.downInForce) ≠ 0) :
    let q := (y.raise .moveFailed).settle
    q.monitor = y.monitor ∧ q.line.lateMove = y.line.lateMove ∧ p.raisesFailed q := by
  obtain ⟨hystate, hmove, hreasons, hsymbol, -⟩ := hres.fields
  have hysupply : y.supply = p.supply := hres.2.2.1.1
  have hycarrying : y.line.state = .carrying := hystate.trans hstate
  intro q
  by_cases hcut : p.supply.state = .cutoff
  · have hraise := Part.raise_pending (s := y) .moveFailed (by rw [Part.inService, hycarrying]; rfl)
      (Part.canReshape_held (.inr (.inr (by rw [hysupply]; exact hcut))))
    have hq : q = (y.raise .moveFailed).refreshHeard := by
      show (y.raise .moveFailed).settle = _
      rw [hraise]
      exact hres.settle hrelay rfl (.inl hycarrying) ⟨rfl, rfl, rfl⟩
    rw [hq, hraise]
    exact ⟨rfl, rfl, hmove, hdown, hup, fun _ => ⟨hycarrying, hsvc, fun r => by rw [← hreasons]; exact mem_addReason⟩,
      fun h => absurd hcut h⟩
  · have hraise := Part.raise_starts (s := y) .moveFailed
      (y.canReshape_iff.2 ⟨hycarrying, hmove, by rw [hysupply]; exact hcut⟩)
    have htable : payload y.reshapeTableOf ≠ 0 := by
      rw [hres.table, hdown]
      exact hpay.resolve_left hcut
    obtain ⟨zline, -, -, zmonitor, zsupply, -, zberth, -, zdiag⟩ :=
      Part.startReshape_done (set := addReason .moveFailed y.line.reasons) htable
    have hq : q = (y.startReshape true (addReason .moveFailed y.line.reasons)).refreshHeard := by
      show (y.raise .moveFailed).settle = _
      rw [hraise]
      refine hres.settle hrelay (by rw [zline]) (.inr (by rw [zline])) ⟨zsupply, ?_, ?_⟩
      · have hA := congrArg Port.hook (zberth .a).2
        exact hA
      · unfold Part.loopTesting
        rw [zdiag]
    have hline := (Part.refreshHeard_line (y.startReshape true (addReason .moveFailed y.line.reasons))).trans zline
    rw [← hq] at hline
    refine ⟨by rw [hq, Part.refreshHeard_monitor, zmonitor], by rw [hline], by rw [hline]; exact hmove,
      by rw [hline]; exact hdown, by rw [hline]; exact hup, fun h => absurd h hcut, fun _ => ?_⟩
    rw [hline]
    refine ⟨rfl, rfl, _, rfl, by rw [hsymbol], rfl, fun r => ?_⟩
    rw [← hreasons]
    exact mem_addReason

end

/-! ### The part's own move -/

section
variable {s : State} {n : Byte} {es : List MoveEntry} {dl a : Symbol} (hrun : s.part.running = true)
  (hstate : s.part.line.state = .carrying) (hrelay : s.part.relayTarget = s.part.supply.relay)

include hstate in
theorem carrying_inService : s.part.inService = true := by
  rw [Part.inService, hstate]
  rfl

include hrun hstate in
/-- An answer, an expiry or a switch symbol of a move, in CARRYING, settles what it does. -/
theorem moveEvent_completes {i : Instr} {f : Part → Part} {q : Part}
    (hexec : exec i s = s.act fun p => if p.inService then (f p).settle else p) (hq : (f s.part).settle = q) :
    Completes i s q :=
  completes_of hexec rfl hrun ((if_pos (carrying_inService hstate)).trans hq)

include hstate hrelay in
/-- With the telephones settled and nothing to start, what touches the line and the monitor alone settles as it is. -/
theorem move_settles (hheard : s.part.refreshHeard = s.part) {l : Line} {m : Monitor} (hl : l.state = .carrying)
    (hreq : l.request = s.part.line.request) :
    Part.settle { s.part with line := l, monitor := m } = { s.part with line := l, monitor := m } := by
  have hservice : LineState.inService l.state = s.part.inService := by rw [hl, carrying_inService hstate]; rfl
  refine Part.settle_idle (Part.mayStart_inService ?_) ?_ (Part.refreshHeard_same hheard rfl rfl rfl hservice)
  · exact hservice.trans (carrying_inService hstate)
  · exact (Part.relayTarget_congr (p := s.part) (x := { s.part with line := l, monitor := m }) rfl rfl hreq rfl).trans
      hrelay

include hrun hstate hrelay

/-- A MOVE_ACK in range names the switch symbol (R68). -/
theorem moveAck_names (hheard : s.part.refreshHeard = s.part) (hmove : s.part.line.move = some (.own n es dl none))
    (hrange : inMoveRange a s.part.line.symbol = true) :
    Completes (.moveAck n a) s
      { s.part with line := { s.part.line with move := some (.own n es dl (some a)) } } := by
  refine moveEvent_completes (f := (·.moveAck n a)) hrun hstate rfl ?_
  have hack : s.part.moveAck n a = { s.part with line := { s.part.line with move := some (.own n es dl (some a)) } } := by
    unfold Part.moveAck
    rw [hmove]
    dsimp only
    rw [if_pos rfl, if_pos hrange]
  rw [hack]
  exact move_settles (m := s.part.monitor) hstate hrelay hheard hstate rfl

/-- A refusal or an expiry below the third failure, nothing waiting, gives the move up (R68, R70). -/
theorem move_givenUp (hheard : s.part.refreshHeard = s.part) (hmove : s.part.line.move = some (.own n es dl none))
    (hfew : s.part.monitor.moveFailures < 2) (hidle : s.part.line.reasons = [] ∨ s.part.supply.state = .cutoff) :
    Completes (.moveRefuse n) s (s.part.givenUp s.part.line.lateMove (s.part.monitor.moveFailures + 1)) ∧
      Completes .moveAnswerTimeout s (s.part.givenUp (some n) (s.part.monitor.moveFailures + 1)) := by
  have hsettled (late : Option Byte) :
      (s.part.givenUp late (s.part.monitor.moveFailures + 1)).startPending.settle =
        s.part.givenUp late (s.part.monitor.moveFailures + 1) := by
    rw [(Part.givenUp_resolved _ _).idles hidle]
    exact move_settles hstate hrelay hheard hstate rfl
  refine ⟨moveEvent_completes (f := (·.moveRefuse n)) hrun hstate rfl ?_,
    moveEvent_completes (f := (·.moveTimeout)) hrun hstate rfl ?_⟩
  · rw [Part.moveRefuse_own hmove, Part.moveFails_few hfew]
    exact hsettled _
  · rw [(Part.moveTimeout_own hmove).1 hfew]
    exact hsettled (some n)

/-- A refusal or an expiry below the third failure with a reshape waiting starts it (R69, R73). -/
theorem move_givenUp_reshapes (hmove : s.part.line.move = some (.own n es dl none))
    (hfew : s.part.monitor.moveFailures < 2) (hne : s.part.line.reasons ≠ []) (hcut : s.part.supply.state ≠ .cutoff)
    (hpay : payload (s.part.tableFor s.part.line.downInForce) ≠ 0) {i : Instr}
    (hi : i = .moveRefuse n ∨ i = .moveAnswerTimeout) :
    ∃ q : Part, Completes i s q ∧ s.part.reshapesFrom q (s.part.tableFor s.part.line.downInForce) ∧
      q.line.downInForce = s.part.line.downInForce ∧ q.line.upInForce = s.part.line.upInForce ∧
      q.monitor = { s.part.monitor with moveFailures := s.part.monitor.moveFailures + 1 } ∧
      q.line.lateMove = (if i = .moveAnswerTimeout then some n else s.part.line.lateMove) ∧
      (s.part.svc.outQ.length < 14 → q.svc.outQ = s.part.svc.outQ ++
        [.reshapeOffer s.part.line.reasons s.part.supply.cutback,
         .downTable s.part.line.nextTable 0 (((s.part.tableFor s.part.line.downInForce).map entryToByte).take 224),
         .downTable s.part.line.nextTable 1
           ((((s.part.tableFor s.part.line.downInForce).map entryToByte).drop 224).take 224)]) := by
  have hdone (late : Option Byte) := (Part.givenUp_resolved (p := s.part) late (s.part.monitor.moveFailures + 1)).restarts
    hstate hcut hne hpay hrelay
  rcases hi with rfl | rfl
  · obtain ⟨hreshapes, ⟨-, -, -, hmonitor, hdown, hup, hlate⟩, hqueue⟩ := hdone s.part.line.lateMove
    refine ⟨_, moveEvent_completes (f := (·.moveRefuse n)) hrun hstate rfl
      (by rw [Part.moveRefuse_own hmove, Part.moveFails_few hfew]), hreshapes, hdown, hup, hmonitor, ?_, hqueue rfl⟩
    rw [if_neg nofun]
    exact hlate
  · obtain ⟨hreshapes, ⟨-, -, -, hmonitor, hdown, hup, hlate⟩, hqueue⟩ := hdone (some n)
    refine ⟨_, moveEvent_completes (f := (·.moveTimeout)) hrun hstate rfl
      (by rw [(Part.moveTimeout_own hmove).1 hfew]), hreshapes, hdown, hup, hmonitor, ?_, hqueue rfl⟩
    rw [if_pos rfl]
    exact hlate

/-- The part's move, as its switch symbol puts its entries into the table (R69). -/
def Part.ownEntered (p : Part) (es : List MoveEntry) : Part :=
  { p with
    line := { p.line with move := none, downInForce := p.line.downInForce.map fun t => applyMove t es }
    monitor := { p.monitor with moveFailures := 0 } }

omit hrun hstate hrelay in
theorem Part.ownEntered_resolved (p : Part) (es : List MoveEntry) :
    p.resolved (p.ownEntered es) ∧ p.leadsTo (p.ownEntered es) :=
  ⟨⟨rfl, ⟨rfl, rfl⟩, ⟨rfl, rfl, rfl⟩, fun h => Nat.lt_trans h (by decide), Nat.le_add_right _ _⟩,
    fun y => by cases y <;> exact ⟨rfl, rfl, rfl⟩, rfl, rfl, rfl⟩

omit hrelay in
theorem moveSwitch_completes (hmove : s.part.line.move = some (.own n es dl (some a))) :
    Completes .moveSwitch s ((s.part.ownEntered es).ruled false).startPending.settle := by
  refine moveEvent_completes (f := (·.moveSwitch)) hrun hstate rfl ?_
  have hswitch : s.part.moveSwitch = ((s.part.ownEntered es).ruled false).startPending := by
    unfold Part.moveSwitch
    rw [hmove]
    rfl
  rw [hswitch]

/-- An answer that raises MOVE_FAILED (R70). -/
theorem move_raises {i : Instr} {f : Part → Part}
    (hexec : exec i s = s.act fun p => if p.inService then (f p).settle else p) {y : Part}
    (hf : f s.part = y.raise .moveFailed) (hres : s.part.resolved y) (hsvc : y.svc = s.part.svc)
    (hdown : y.line.downInForce = s.part.line.downInForce) (hup : y.line.upInForce = s.part.line.upInForce)
    (hpay : s.part.supply.state = .cutoff ∨ payload (s.part.tableFor s.part.line.downInForce) ≠ 0) :
    ∃ q : Part, Completes i s q ∧ q.monitor = y.monitor ∧ q.line.lateMove = y.line.lateMove ∧ s.part.raisesFailed q := by
  obtain ⟨hmonitor, hlate, hraises⟩ := hres.raises hsvc hdown hup hstate hrelay hpay
  exact ⟨_, moveEvent_completes hrun hstate hexec (by rw [hf]), hmonitor, hlate, hraises⟩

end

/-! ### The exchange unit's move -/

/-- The exchange unit's move, as its switch symbol puts its entries into the upstream table (R59, R71). -/
def Part.farEntered (p : Part) (es : List MoveEntry) : Part :=
  { p with line := { p.line with move := none, upInForce := p.line.upInForce.map fun t => applyMove t es } }

theorem Part.farEntered_resolved (p : Part) (es : List MoveEntry) :
    p.resolved (p.farEntered es) ∧ p.leadsTo (p.farEntered es) :=
  ⟨⟨rfl, ⟨rfl, rfl⟩, ⟨rfl, rfl, rfl⟩, fun h => Nat.lt_trans h (by decide), Nat.le_add_right _ _⟩,
    fun y => by cases y <;> exact ⟨rfl, rfl, rfl⟩, rfl, rfl, rfl⟩

/-- U changes by the move (R59, R132). -/
def Part.upChanges (p : Part) (es : List MoveEntry) : Bool :=
  decide ((p.line.upInForce.map (applyMove · es)).map payload ≠ p.capU)

section
variable {s : State} {m : MoveMsg} (hrun : s.part.running = true) (hstate : s.part.line.state = .carrying)
include hrun hstate

theorem upstreamMoveSwitch_completes {n : Byte} {es : List MoveEntry} {a : Symbol}
    (hmove : s.part.line.move = some (.far n es a)) :
    Completes .upstreamMoveSwitch s ((s.part.farEntered es).ruled (s.part.upChanges es)).startPending.settle := by
  refine moveEvent_completes (f := (·.upstreamMoveSwitch)) hrun hstate rfl ?_
  have hswitch : s.part.upstreamMoveSwitch = ((s.part.farEntered es).ruled (s.part.upChanges es)).startPending := by
    unfold Part.upstreamMoveSwitch Part.ruled Part.upChanges
    rw [hmove]
    show (if (s.part.farEntered es).capU = s.part.capU then (s.part.farEntered es).capacityRuleQuiet
      else (s.part.farEntered es).capacityRule.postRates).startPending = _
    by_cases hU : (s.part.farEntered es).capU = s.part.capU
    · rw [if_pos hU, decide_eq_false (fun hne => hne hU), if_neg Bool.false_ne_true]
    · rw [if_neg hU]
      exact congrArg Part.startPending (if_pos (decide_eq_true hU)).symm
  rw [hswitch]

/-- A MOVE that fits its kind is judged (R58, R71). -/
theorem move_completes {q : Part} (hfits : moveFits m = true) (hq : s.part.takeMove m = q) : Completes (.move m) s q := by
  refine completes_of (o := execMove m s) rfl rfl hrun ?_
  rw [hfits, Bool.not_true, if_neg Bool.false_ne_true, if_pos hstate]
  exact hq

/-- A good MOVE is answered and held (R71). -/
theorem move_held (hroom : s.part.svc.outQ.length < 16) (hfits : moveFits m = true) (hnone : s.part.line.move = none)
    (hrange : inMoveRange m.switchAt s.part.line.symbol = true)
    (hvalid : validateMove (s.part.band.mapInForce.getD []) s.part.load.profileInForce.maxBits
      (s.part.line.upInForce.getD []) m.entries = none) :
    Completes (.move m) s
      { s.part with
        line := { s.part.line with move := some (.far m.number m.entries m.switchAt) }
        svc := { s.part.svc with outQ := s.part.svc.outQ ++ [.moveAck m.number m.switchAt] } } := by
  refine move_completes hrun hstate hfits ?_
  unfold Part.takeMove
  rw [hnone, hrange, hvalid]
  exact Part.enqueue_room (.moveAck m.number m.switchAt)
    { s.part with line := { s.part.line with move := some (.far m.number m.entries m.switchAt) } } hroom

/-- Any other MOVE that fits is refused (R71). -/
theorem move_refused (hroom : s.part.svc.outQ.length < 16) (hfits : moveFits m = true)
    (hbad : s.part.line.move.isSome = true ∨ inMoveRange m.switchAt s.part.line.symbol = false ∨
      ∃ c, validateMove (s.part.band.mapInForce.getD []) s.part.load.profileInForce.maxBits
        (s.part.line.upInForce.getD []) m.entries = some c) :
    Completes (.move m) s
      { s.part with svc := { s.part.svc with outQ := s.part.svc.outQ ++ [.moveRefuse m.number] } } := by
  refine move_completes hrun hstate hfits ?_
  have hrefused : (s.part.line.move.isSome || !inMoveRange m.switchAt s.part.line.symbol ||
      (validateMove (s.part.band.mapInForce.getD []) s.part.load.profileInForce.maxBits (s.part.line.upInForce.getD [])
        m.entries).isSome) = true := by
    rcases hbad with h | h | ⟨c, h⟩ <;> simp [h]
  unfold Part.takeMove
  rw [if_pos hrefused]
  exact Part.enqueue_room (.moveRefuse m.number) _ hroom

/-- A MOVE that does not fit is a receive error (R22, R58). -/
theorem move_unfit (hfits : moveFits m = false) :
    Completes (.move m) s
      { s.part with svc := { s.part.svc with rxErrors := min 65535 (s.part.svc.rxErrors + 1) } } := by
  refine completes_of (o := execMove m s) rfl rfl hrun ?_
  rw [hfits, Bool.not_false, if_pos rfl]
  unfold Part.receiveError
  rw [hstate]
  rfl

end

/-- A MOVE_ACK after the timer, with the line in RESHAPE, leaves MOVE_FAILED pending (R70, R72). -/
theorem moveAck_late_reshape {s : State} {n : Byte} {a : Symbol} (hrun : s.part.running = true)
    (hstate : s.part.line.state = .reshape) (hmove : s.part.line.move = none) (hlate : s.part.line.lateMove = some n) :
    ∃ q : Part, Completes (.moveAck n a) s q ∧ q.line = { s.part.line with reasons := q.line.reasons } ∧
      q.band = s.part.band ∧ q.load = s.part.load ∧ q.monitor = s.part.monitor ∧
      ∀ r, r ∈ q.line.reasons ↔ r ∈ s.part.line.reasons ∨ r = .moveFailed := by
  have hserv : s.part.inService = true := by rw [Part.inService, hstate]; rfl
  have hraise := Part.raise_pending (s := s.part) .moveFailed hserv (Part.canReshape_held (.inl hstate))
  have hack : s.part.moveAck n a = s.part.raise .moveFailed := by
    unfold Part.moveAck
    rw [hmove]
    exact if_pos hlate
  have hground := Part.settle_ground_waiting (s := s.part.raise .moveFailed)
    (Part.mayStart_inService (by rw [hraise]; exact hserv))
  have hline : (s.part.raise .moveFailed).settle.line =
      { s.part.line with reasons := addReason .moveFailed s.part.line.reasons } := by
    have he := congrArg Part.line hground
    exact Eq.trans he (congrArg Part.line hraise)
  have hband : (s.part.raise .moveFailed).settle.band = s.part.band := by
    have he := congrArg Part.band hground
    exact Eq.trans he (show (s.part.raise .moveFailed).band = s.part.band by rw [hraise])
  have hload : (s.part.raise .moveFailed).settle.load = s.part.load := by
    have he := congrArg Part.load hground
    exact Eq.trans he (show (s.part.raise .moveFailed).load = s.part.load by rw [hraise])
  have hmonitor : (s.part.raise .moveFailed).settle.monitor = s.part.monitor := by
    have he := congrArg Part.monitor hground
    exact Eq.trans he (show (s.part.raise .moveFailed).monitor = s.part.monitor by rw [hraise])
  refine ⟨(s.part.raise .moveFailed).settle, completes_of (o := execMoveAck n a s) rfl rfl hrun
    ((if_pos hserv).trans (by rw [hack])), by rw [hline], hband, hload, hmonitor, fun r => ?_⟩
  rw [hline]
  exact mem_addReason

/-- Settles O41: the answers and the expiry resolve the part's move with or without MOVE_FAILED, the switch symbols hand the
part to the capacity rule, and the reshape that waited starts behind either. -/
theorem movesAreAnsweredAndResolve : Obligations.MovesAreAnsweredAndResolve := by
  unfold Obligations.MovesAreAnsweredAndResolve
  intro restarts computed told
  refine ⟨fun s n es dl a hrun hstate hheard hrelay _ => ?_, fun s n a hrun hstate hmove hlate =>
      moveAck_late_reshape hrun hstate hmove hlate, fun s m hrun hstate hroom => ?_,
    fun map maxBits table es => ⟨validateMove_duplicate, fun hes => ⟨validateMove_nodup hes, applyMove_length table es,
      fun e he hlt => applyMove_named table es hes he hlt, fun t ht => applyMove_other table es t ht⟩⟩,
    moveFits_iff, fun a now => ⟨inMoveRange_iff a now, ?_⟩⟩
  · intro p
    refine ⟨fun hmove hrange => moveAck_names hrun hstate hrelay hheard hmove hrange,
      fun hmove hfew hidle => move_givenUp hrun hstate hrelay hheard hmove hfew hidle,
      fun hmove hfew hne hcut hpay i hi => move_givenUp_reshapes hrun hstate hrelay hmove hfew hne hcut hpay hi,
      fun hmove => ⟨fun hidle => ?_, fun hne hcut hpay => ?_⟩, ?_⟩
    · obtain ⟨hres, hleads⟩ := p.ownEntered_resolved es
      obtain ⟨hline, hband, hload, hmonitor, htells, happlied⟩ :=
        hres.switches (c := false) hleads rfl rfl hstate hrelay hidle
      refine ⟨_, moveSwitch_completes hrun hstate hmove, ?_, ?_, ?_, ?_, ?_, ?_, hband, hload, htells, happlied⟩
      · rw [hline]; rfl
      · rw [hmonitor]; rfl
      · rw [hline]; rfl
      · rw [hline]; rfl
      · rw [hline]; exact hstate
      · rw [hline]; rfl
    · obtain ⟨hres, hleads⟩ := p.ownEntered_resolved es
      obtain ⟨hreshapes, hdown, hup, hmonitor, htells, happlied⟩ :=
        hres.switchesOn (c := false) hleads rfl rfl hstate hrelay hne hcut hpay
      exact ⟨_, moveSwitch_completes hrun hstate hmove, by rw [hmonitor]; rfl, hdown, hup, hreshapes, htells, happlied⟩
    · intro raised hpay
      refine ⟨fun hmove hthird => ⟨?_, ?_⟩, fun hmove hrange => ?_, fun hmove hlate => ?_⟩
      · have hrefuse := (Part.moveRefuse_own hmove).trans (Part.moveFails_raises (b := false) (.inl hthird))
        rw [if_pos hthird] at hrefuse
        obtain ⟨q, hq, hmonitor, -, hraises⟩ := move_raises (i := .moveRefuse n) (f := (·.moveRefuse n)) hrun hstate
          hrelay rfl hrefuse (Part.givenUp_resolved _ _) rfl rfl rfl hpay
        exact ⟨q, hq, by rw [hmonitor]; rfl, hraises⟩
      · obtain ⟨q, hq, hmonitor, hlate, hraises⟩ := move_raises (i := .moveAnswerTimeout) (f := (·.moveTimeout)) hrun
          hstate hrelay rfl ((Part.moveTimeout_own hmove).2 hthird) (Part.givenUp_resolved _ _) rfl rfl rfl hpay
        exact ⟨q, hq, by rw [hmonitor]; rfl, hlate, hraises⟩
      · have hack : p.moveAck n a = p.moveFails true := by
          unfold Part.moveAck
          rw [hmove]
          dsimp only
          rw [if_pos rfl, if_neg (by rw [hrange]; decide)]
        obtain ⟨q, hq, hmonitor, -, hraises⟩ := move_raises (i := .moveAck n a) (f := (·.moveAck n a)) hrun hstate
          hrelay rfl (hack.trans (Part.moveFails_raises (.inr rfl))) (Part.givenUp_resolved _ _) rfl rfl rfl hpay
        exact ⟨q, hq, hraises, by rw [hmonitor]; rfl⟩
      · have hack : p.moveAck n a = p.raise .moveFailed := by
          unfold Part.moveAck
          rw [hmove]
          exact if_pos hlate
        have hres : p.resolved p := by
          refine ⟨?_, ⟨rfl, rfl⟩, ⟨rfl, rfl, rfl⟩, fun h => Nat.lt_trans h (by decide), Nat.le_add_right _ _⟩
          rw [← hmove]
        obtain ⟨q, hq, hmonitor, -, hraises⟩ := move_raises (i := .moveAck n a) (f := (·.moveAck n a)) hrun hstate
          hrelay rfl hack hres rfl rfl rfl hpay
        exact ⟨q, hq, hraises, hmonitor⟩
  · intro p
    refine ⟨fun hfits hnone hrange hvalid => move_held hrun hstate hroom hfits hnone hrange hvalid,
      fun hfits hbad => move_refused hrun hstate hroom hfits hbad, fun hfits => move_unfit hrun hstate hfits,
      fun hmove hrelay => ?_⟩
    intro up changed
    obtain ⟨hres, hleads⟩ := p.farEntered_resolved m.entries
    refine ⟨fun hidle => ?_, fun hne hcut hpay => ?_⟩
    · obtain ⟨hline, hband, hload, -, htells, happlied⟩ :=
        hres.switches (c := p.upChanges m.entries) hleads rfl rfl hstate hrelay hidle
      refine ⟨_, upstreamMoveSwitch_completes hrun hstate hmove, ?_, ?_, ?_, ?_, ?_, hband, hload, htells, happlied⟩
      · rw [hline]; rfl
      · rw [hline]; rfl
      · rw [hline]; rfl
      · rw [hline]; exact hstate
      · rw [hline]; rfl
    · obtain ⟨hreshapes, hdown, hup, -, htells, happlied⟩ :=
        hres.switchesOn (c := p.upChanges m.entries) hleads rfl rfl hstate hrelay hne hcut hpay
      exact ⟨_, upstreamMoveSwitch_completes hrun hstate hmove, hup, hdown, hreshapes, htells, happlied⟩
  · have hdiff (k : Symbol) : now + k - now = k := by rw [BitVec.add_comm, BitVec.add_sub_cancel]
    have hoff (k : Symbol) (h : ¬ (40 ≤ k.toNat ∧ k.toNat ≤ 8000)) : inMoveRange (now + k) now = false :=
      Bool.eq_false_iff.2 fun hin => h (by rw [inMoveRange_iff, hdiff] at hin; exact hin)
    have hon (k : Symbol) (h : 40 ≤ k.toNat ∧ k.toNat ≤ 8000) : inMoveRange (now + k) now = true := by
      rw [inMoveRange_iff, hdiff]
      exact h
    exact ⟨hoff 39 (by decide), hon 40 (by decide), hon 8000 (by decide), hoff 8001 (by decide)⟩

end Sys2Proof.Machine
end
